-- ==== Sys2Proof/Word.lean ====
section
/-! DEFINITION. The plainest types of the model: bytes, and tables of a fixed number of records. -/

namespace Sys2Proof

/-- One byte of a deck-line frame or of a table image (R189, R193). -/
abbrev Byte := BitVec 8

/-- A table of `n` records, indexed `0 .. n - 1`. -/
abbrev Tbl (α : Type) (n : Nat) := Vector α n

/-- The record at index `i`. -/
def Tbl.row {α : Type} {n : Nat} (t : Tbl α n) (i : Fin n) : α := t[i]

/-- The table with the record at index `i` replaced. -/
def Tbl.put {α : Type} {n : Nat} (t : Tbl α n) (i : Fin n) (x : α) : Tbl α n := t.set i x

/-- A table whose records are all `x`. -/
def Tbl.all {α : Type} (n : Nat) (x : α) : Tbl α n := Vector.replicate n x

@[simp] theorem Tbl.row_put_self {α : Type} {n : Nat} (t : Tbl α n) (i : Fin n) (x : α) :
    (t.put i x).row i = x := by
  simp [Tbl.row, Tbl.put]

theorem Tbl.row_put_ne {α : Type} {n : Nat} (t : Tbl α n) {i j : Fin n} (x : α) (h : i ≠ j) :
    (t.put i x).row j = t.row j := by
  have h' : i.val ≠ j.val := fun e => h (Fin.ext e)
  simp [Tbl.row, Tbl.put, h']

theorem Tbl.row_put {α : Type} {n : Nat} (t : Tbl α n) (i j : Fin n) (x : α) :
    (t.put i x).row j = if i = j then x else t.row j := by
  by_cases h : i = j
  · subst h; simp
  · simp [h, Tbl.row_put_ne t x h]

@[simp] theorem Tbl.row_all {α : Type} {n : Nat} (i : Fin n) (x : α) :
    (Tbl.all n x).row i = x := by
  simp [Tbl.row, Tbl.all]

@[simp] theorem Tbl.put_row {α : Type} {n : Nat} (t : Tbl α n) (i : Fin n) :
    t.put i (t.row i) = t := by
  simp [Tbl.row, Tbl.put]

/-- A count that stops at `cap` (00_scope.md, COUNTS). -/
def satAdd (cap n k : Nat) : Nat := min (n + k) cap

end Sys2Proof
end

