-- ==== Sys2Proof/Syntax.lean ====
section
/-! DEFINITION. The commands of the part: one constructor of `Instr` for each row of
spec/opcode_table.json, with the operands the row's rule gives it. -/

namespace Sys2Proof

/-- A deck-line port (R1). -/
inductive Port where
  | up | dn
  deriving DecidableEq, Repr

/-- A hard-wired fault line (R39). -/
inductive FaultLine where
  | a | b
  deriving DecidableEq, Repr

/-- A rate generator of SCAN (R56). -/
inductive Gen where
  | a | b
  deriving DecidableEq, Repr

/-- A REPLY result code, in the order of R190. -/
inductive Code where
  | done | refusedMode | busy | badTable | badIndex | badCheck | badValue | forbiddenJump
  | locked | notOwner | termFalse | full
  deriving DecidableEq, Repr

/-- The owner of an output channel (R77). -/
inductive Owner where
  | free
  | ramp (r : Fin 4)
  | door (d : Fin 24)
  | lamp (z : Fin 16)
  deriving DecidableEq, Repr

/-- A user to whom COND hands a CONDITION CHANGE (R47). OUT and PLAN take a change for each channel
gate, channel forcing and ramp that names it; DOOR takes it once (R147). -/
inductive CondUser where
  | gate (ch : Fin 16)
  | forcing (ch : Fin 16)
  | ramp (r : Fin 4)
  | doors
  deriving DecidableEq, Repr

/-- Who sent a REQUEST: the source and the tag that its one REPLY answers (R177). -/
structure Requester where
  node : Byte
  tag  : Byte
  deriving DecidableEq, Repr

/-- The block a CALL_QUEUE came from, to which its result goes back (R164). -/
inductive CallOrigin where
  | request (rq : Requester)
  | warning (d : Fin 24)
  | stage (r : Fin 4) (ask : BitVec 16)
  deriving DecidableEq, Repr

/-- The block a CALL_CANCEL came from (R172). -/
inductive CancelOrigin where
  | request (rq : Requester)
  | release
  deriving DecidableEq, Repr

/-- The form in which SCAN_NOW arrived (R58): a REQUEST, or the action of a match entry. -/
inductive ScanOrigin where
  | request (rq : Requester)
  | action (e : Fin 64)
  deriving DecidableEq, Repr

/-- The commands of the part, one for each row of the table of operations and events.

Operands that reach the part inside a request or a match entry are bytes, since the rules judge their
ranges; operands that name a record of the part are bounded indices. -/
inductive Instr where
  | reception (p : Port) (bytes : List Byte)
  | transmitCompletion (p : Port)
  | bridgeSilenceExpiry
  | powerOnReset
  | faultLineChange (l : FaultLine) (low : Bool)
  | conditionChange (c : Fin 64) (v : Bool) (u : CondUser)
  | ageIntervalExpiry
  | holdExpiry (c : Fin 64)
  | setCond (e : Fin 64) (c : Byte) (hold : Nat)
  | clearCond (e : Fin 64) (c : Byte)
  | startPlan (e : Fin 64) (r : Byte) (p : Byte)
  | closeGroup (e : Fin 64) (groups : Byte) (immediate : Byte)
  | releaseGroup (e : Fin 64) (groups : Byte)
  | queueCall (e : Fin 64) (t : Byte) (override : Option (BitVec 16))
  | rateGeneratorOutput (g : Gen)
  | dwellEnd
  | sample (raw : Fin 4096)
  | doorDerivation
  | positionSample (r : Fin 4) (p : Nat)
  | trialStepCompletion (readings : Vector (Fin 4096) 8)
  | trimCompletion (readings : Vector (Fin 4096) 8)
  | timerStep
  | overCurrentOnset (ch : Fin 16) (mA : Nat)
  | currentRecovery (ch : Fin 16) (mA : Nat)
  | cutOffDelayExpiry (ch : Fin 16)
  | restartDelayExpiry (ch : Fin 16)
  | forcedEvent (o : Owner) (ch : Fin 16)
  | cutoffEvent (o : Owner) (ch : Fin 16)
  | stageTimeoutExpiry (r : Fin 4)
  | staleWatchExpiry (r : Fin 4)
  | dwellTimerExpiry (r : Fin 4)
  | retryIntervalExpiry (r : Fin 4)
  | callStageResult (r : Fin 4) (ask : BitVec 16) (result : Code)
  | doorStateTimerExpiry (d : Fin 24)
  | warningCallResult (d : Fin 24) (result : Code)
  | callDoneReception (src dst tag : Byte) (payload : List Byte)
  | callDoneLimitExpiry (k : Fin 16)
  | intervalExpiry (k : Fin 16)
  | lampStepExpiry (k : Fin 16)
  | malformedRequest (rq : Requester) (payload : List Byte)
  | planStart (rq : Requester) (r p : Byte)
  | planAbort (rq : Requester) (r : Byte)
  | planResume (rq : Requester) (r : Byte)
  | groupClose (rq : Requester) (groups immediate : Byte)
  | groupRelease (rq : Requester) (groups : Byte)
  | callQueue (o : CallOrigin) (t : Byte) (override : Option (BitVec 16))
  | callCancel (o : CancelOrigin) (form index : Byte)
  | channelSet (rq : Requester) (ch level : Byte)
  | channelRestore (rq : Requester) (ch : Byte)
  | forceClear (rq : Requester) (ch : Byte)
  | triggerClear (rq : Requester) (ch : Byte)
  | condSet (rq : Requester) (c : Byte) (hold : Nat)
  | condClear (rq : Requester) (c : Byte)
  | scanNow (o : ScanOrigin)
  | trimStart (rq : Requester)
  | bufferRead (rq : Requester)
  | bufferClear (rq : Requester)
  | tableRead (rq : Requester) (table first count : Byte)
  | tableWrite (rq : Requester) (table index : Byte) (image : List Byte) (check : Byte)
  | blockWrite (rq : Requester) (table first count : Byte) (body : List Byte) (blockCheck : Byte)
  | statusRead (rq : Requester)
  | flagsClear (rq : Requester) (counts notices : BitVec 16)
  | modeSet (rq : Requester) (mode : Byte)
  | identityWrite (rq : Requester) (tag : Vector Byte 8) (check : Byte)
  | noticeSet (rq : Requester) (node : Byte) (enabled : BitVec 16) (disable : Byte)
  | opsReset (rq : Requester)
  | powerOnResetCompletion (straps : Fin 128)
  deriving DecidableEq, Repr

end Sys2Proof
end

