-- ==== Sys2Proof/Decode.lean ====
section
/-! DEFINITION. Reading commands from bytes. The table of operations and events gives no row any bits, so no
word spells a command. The bytes that do spell commands are the payloads of REQUEST frames (R177, R191):
their reading, and the writing of the payload of each request. -/

namespace Sys2Proof

/-- The command that a word spells by the table's bits: the table gives none. -/
def decodeTableWord (_nbits _w : Nat) : Option Instr := none

/-! ## Arguments of a fixed length (R191) -/

/-- No argument byte. -/
def args0 (a : List Byte) (i : Instr) : Option Instr :=
  match a with
  | [] => some i
  | _ => none

/-- One argument byte. -/
def args1 (a : List Byte) (f : Byte → Instr) : Option Instr :=
  match a with
  | [x] => some (f x)
  | _ => none

/-- Two argument bytes. -/
def args2 (a : List Byte) (f : Byte → Byte → Instr) : Option Instr :=
  match a with
  | [x, y] => some (f x y)
  | _ => none

/-- Three argument bytes. -/
def args3 (a : List Byte) (f : Byte → Byte → Byte → Instr) : Option Instr :=
  match a with
  | [x, y, z] => some (f x y z)
  | _ => none

/-- Four argument bytes. -/
def args4 (a : List Byte) (f : Byte → Byte → Byte → Byte → Instr) : Option Instr :=
  match a with
  | [x, y, z, w] => some (f x y z w)
  | _ => none

/-- CALL_QUEUE: a template, and optionally an override zone set of two bytes. -/
def argsQueue (rq : Requester) (a : List Byte) : Option Instr :=
  match a with
  | [t] => some (.callQueue (.request rq) t none)
  | [t, hi, lo] => some (.callQueue (.request rq) t (some (hi ++ lo)))
  | _ => none

/-- TABLE_WRITE: a table, an index, an image of any length, and its check byte. The length is judged
against the table (R191). -/
def argsWrite (rq : Requester) (a : List Byte) : Option Instr :=
  match a with
  | t :: i :: b :: rest =>
    some (.tableWrite rq t i (b :: rest).dropLast ((b :: rest).getLast (by simp)))
  | _ => none

/-- BLOCK_WRITE: a table, a first index, a count, the entries and the block check. The length is judged
against the table and the count (R183, R191). -/
def argsBlock (rq : Requester) (a : List Byte) : Option Instr :=
  match a with
  | t :: i :: n :: b :: rest =>
    some (.blockWrite rq t i n (b :: rest).dropLast ((b :: rest).getLast (by simp)))
  | _ => none

/-- IDENTITY_WRITE: eight tag bytes and a check byte. -/
def argsIdentity (rq : Requester) (a : List Byte) : Option Instr :=
  if h : a.length = 9 then
    some (.identityWrite rq (Vector.ofFn (fun i : Fin 8 => a[i.val]'(by omega))) (a[8]'(by omega)))
  else none

/-- The request of an operation code with its argument bytes; none where the code is unknown or the
length is not the form's (R177, R191). -/
def requestOf (rq : Requester) (op : Byte) (a : List Byte) : Option Instr :=
  match op.toNat with
  | 0x01 => args2 a (.planStart rq)
  | 0x02 => args1 a (.planAbort rq)
  | 0x03 => args1 a (.planResume rq)
  | 0x04 => args2 a (.groupClose rq)
  | 0x05 => args1 a (.groupRelease rq)
  | 0x06 => argsQueue rq a
  | 0x07 => args2 a (.callCancel (.request rq))
  | 0x08 => args2 a (.channelSet rq)
  | 0x09 => args1 a (.channelRestore rq)
  | 0x0A => args1 a (.forceClear rq)
  | 0x0B => args1 a (.triggerClear rq)
  | 0x0C => args3 a (fun c hi lo => .condSet rq c (hi ++ lo).toNat)
  | 0x0D => args1 a (.condClear rq)
  | 0x0E => args0 a (.scanNow (.request rq))
  | 0x0F => args0 a (.trimStart rq)
  | 0x10 => args0 a (.bufferRead rq)
  | 0x11 => args0 a (.bufferClear rq)
  | 0x12 => args3 a (.tableRead rq)
  | 0x13 => argsWrite rq a
  | 0x14 => argsBlock rq a
  | 0x15 => args0 a (.statusRead rq)
  | 0x16 => args4 a (fun a b c d => .flagsClear rq (a ++ b) (c ++ d))
  | 0x17 => args1 a (.modeSet rq)
  | 0x18 => argsIdentity rq a
  | 0x19 => args4 a (fun n hi lo d => .noticeSet rq n (hi ++ lo) d)
  | 0x1A => args0 a (.opsReset rq)
  | _ => none

/-- The request that a REQUEST's payload spells (R177, R191). -/
def parseRequest (rq : Requester) (payload : List Byte) : Instr :=
  match payload with
  | [] => .malformedRequest rq payload
  | op :: a => (requestOf rq op a).getD (.malformedRequest rq payload)

/-! ## Writing a request's payload (R191) -/

/-- The two bytes of a word, most significant first. -/
def wordBytes (w : BitVec 16) : List Byte := [w.extractLsb' 8 8, w.extractLsb' 0 8]

/-- The sender and the payload of a request; none for a command that is no request, and for a malformed
one. -/
def requestBytes : Instr → Option (Requester × List Byte)
  | .planStart rq r p => some (rq, [0x01, r, p])
  | .planAbort rq r => some (rq, [0x02, r])
  | .planResume rq r => some (rq, [0x03, r])
  | .groupClose rq g imm => some (rq, [0x04, g, imm])
  | .groupRelease rq g => some (rq, [0x05, g])
  | .callQueue (.request rq) t none => some (rq, [0x06, t])
  | .callQueue (.request rq) t (some z) => some (rq, 0x06 :: t :: wordBytes z)
  | .callCancel (.request rq) form i => some (rq, [0x07, form, i])
  | .channelSet rq ch level => some (rq, [0x08, ch, level])
  | .channelRestore rq ch => some (rq, [0x09, ch])
  | .forceClear rq ch => some (rq, [0x0A, ch])
  | .triggerClear rq ch => some (rq, [0x0B, ch])
  | .condSet rq c hold => some (rq, 0x0C :: c :: wordBytes (BitVec.ofNat 16 hold))
  | .condClear rq c => some (rq, [0x0D, c])
  | .scanNow (.request rq) => some (rq, [0x0E])
  | .trimStart rq => some (rq, [0x0F])
  | .bufferRead rq => some (rq, [0x10])
  | .bufferClear rq => some (rq, [0x11])
  | .tableRead rq t i n => some (rq, [0x12, t, i, n])
  | .tableWrite rq t i img chk => some (rq, 0x13 :: t :: i :: (img ++ [chk]))
  | .blockWrite rq t i n body chk => some (rq, 0x14 :: t :: i :: n :: (body ++ [chk]))
  | .statusRead rq => some (rq, [0x15])
  | .flagsClear rq counts notices => some (rq, 0x16 :: (wordBytes counts ++ wordBytes notices))
  | .modeSet rq m => some (rq, [0x17, m])
  | .identityWrite rq tag chk => some (rq, 0x18 :: (tag.toList ++ [chk]))
  | .noticeSet rq n e d => some (rq, 0x19 :: n :: (wordBytes e ++ [d]))
  | .opsReset rq => some (rq, [0x1A])
  | _ => none

end Sys2Proof
end

