-- ==== Sys2Proof/Machine/State.lean ====
section
/-! DEFINITION. The state of the part: every table, record, count, mode and pin level that spec/ gives it,
as plain data, and the state right after power-on reset. Times are in microseconds of the timer clock. -/

namespace Sys2Proof.Machine

/-- The part has no fault that stops it: every deck fault is a state of a record, and every refusal is
a REPLY or a count. No constructor, so no command ends in a fault. -/
inductive Fault where
  deriving DecidableEq, Repr

/-- Why a command has no meaning. -/
inductive Refusal where
  /-- Raised by `exec` alone, in the arm of a command whose meaning is not written yet. Safe: the run
  stops. No arm raises it now. -/
  | notModelled (mnemonic : String)
  deriving DecidableEq, Repr

/-! ## LINE -/

/-- The side by which a node is reached (R5). -/
inductive Side where
  | up | dn | unknown
  deriving DecidableEq, Repr

/-- A side-map entry (R5). -/
structure SideEntry where
  side   : Side
  pinned : Bool
  deriving DecidableEq, Repr

/-- A whole frame (R189). The length field is the payload's length, as FRAME CHECK requires (R3). -/
structure Frame where
  dst     : Byte
  src     : Byte
  kind    : Byte
  tag     : Byte
  payload : List Byte
  crc     : BitVec 16
  deriving DecidableEq, Repr

/-- A port's transmit queue, transmitter and counts (R10, R13, R18). The frame being sent stays in its
slot: it stands in `sending`, and the frames not being sent stand in `waiting`, oldest first. -/
structure PortState where
  waiting     : List Frame
  sending     : Option Frame
  crcCount    : Nat
  normalDrops : Nat
  safetyDrops : Nat
  deriving DecidableEq, Repr

/-- The state of LINE (01_deck_line_traffic.md). Index `i` of `sides` is node `i + 1`. -/
structure Line where
  strap      : Fin 128
  up         : PortState
  dn         : PortState
  sides      : Tbl SideEntry 126
  silence    : Option Nat
  silenceMs  : Nat
  clashCount : Nat
  deriving DecidableEq, Repr

/-! ## MATCH -/

/-- The port field of a match entry (R19). -/
inductive PortMatch where
  | up | dn | either
  deriving DecidableEq, Repr

/-- The action of a match entry, with its operands (R19, section 2.4). -/
inductive Action where
  | setCond (c : Fin 64) (hold : Nat)
  | clearCond (c : Fin 64)
  | startPlan (r : Fin 4) (p : Fin 8)
  | closeGroup (groups : BitVec 8) (immediate : Bool)
  | releaseGroup (groups : BitVec 8)
  | queueCall (t : Fin 32) (override : Option (BitVec 16))
  | scanNow
  | holdForward (t : Fin 32)
  deriving DecidableEq, Repr

/-- A match entry (R19). A source of `none` is ANY; a mask of zero is an absent payload test. -/
structure MatchEntry where
  valid    : Bool
  source   : Option Byte
  kind     : Byte
  tagLow   : Byte
  tagHigh  : Byte
  port     : PortMatch
  position : Byte
  mask     : Byte
  value    : Byte
  action   : Action
  stop     : Bool
  hits     : Nat
  refusals : Nat
  deriving DecidableEq, Repr

/-! ## COND -/

/-- The source kind and reference of a condition (R38, R40). `fixed` is the built-in source of 0..15. -/
inductive Source where
  | fixed
  | none
  | threshold (k : Fin 48)
  | groupClosed (g : Fin 8)
  | groupOpen (g : Fin 8)
  | rampAt (r : Fin 4) (p : Fin 8)
  | channelCut (ch : Fin 16)
  | frame
  deriving DecidableEq, Repr

/-- A condition record (R37). `hold` is the expiry of a RUNNING hold. -/
structure CondRecord where
  value    : Bool
  source   : Source
  holdTime : Nat
  hold     : Option Nat
  age      : Nat
  deriving DecidableEq, Repr

/-- A term: its 0..4 literals, each a condition and the value required of it (R48). -/
structure Term where
  literals : List (Fin 64 × Bool)
  deriving DecidableEq, Repr

/-- The state of COND (03_conditions_and_terms.md). `ageDue` is the next expiry of the age interval. -/
structure Board where
  conds  : Tbl CondRecord 64
  terms  : Tbl Term 32
  ageDue : Nat
  deriving DecidableEq, Repr

/-! ## SCAN -/

/-- The kind of a sensor channel (R53). -/
inductive SensorKind where
  | contact | loop | voltage
  deriving DecidableEq, Repr

/-- A sensor-channel record (R53). -/
structure Sensor where
  kind    : SensorKind
  zero    : Nat
  gain    : Nat
  wetting : Bool
  logged  : Bool
  last    : Nat
  samples : Nat
  deriving DecidableEq, Repr

/-- How a channel's input is presented to the converter: its kind, and whether a CONTACT channel receives
wetting current (R53, R54). -/
structure FrontEnd where
  kind    : SensorKind
  wetting : Bool
  deriving DecidableEq, Repr

/-- The trigger source (R57). -/
inductive TriggerSource where
  | rateA | rateB | frame
  deriving DecidableEq, Repr

/-- What generator B counts (R56). -/
inductive BInput where
  | reference | a
  deriving DecidableEq, Repr

/-- The scan settings record (R54, R56, R57, R67). -/
structure ScanSettings where
  trigger         : TriggerSource
  nA              : Nat
  nB              : Nat
  bInput          : BInput
  wettingTest     : Bool
  bufferThreshold : Nat
  deriving DecidableEq, Repr

/-- A rate generator: its running count, and the divisor and input it counts on, which the written
settings replace at its next output (R56). Generator A always counts the reference. -/
structure RateGen where
  count   : Nat
  divisor : Nat
  input   : BInput
  deriving DecidableEq, Repr

/-- A scan in progress (R59, R60): the list it took, the slot it stands in, its slot interval and its
SCAN START, whether the slot's conversion has begun, and whether the slot's channel has wetting
current in the slot. -/
structure ScanRun where
  list       : List (Fin 24)
  slot       : Nat
  interval   : Nat
  start      : Nat
  converting : Bool
  wetted     : Bool
  deriving DecidableEq, Repr

/-- A zero trim in progress (R71, R72): the trim code kept aside, and the trial steps not yet completed;
the bit tried is `stepsLeft - 1`, and 0 is the FINAL CHECK. -/
structure TrimRun where
  kept      : Nat
  stepsLeft : Nat
  deriving DecidableEq, Repr

/-- The scanner state (R57). -/
inductive Scanner where
  | stopped
  | idle
  | scanning (run : ScanRun)
  | trimming (run : TrimRun)
  deriving DecidableEq, Repr

/-- The direction of a threshold record (R64). -/
inductive Direction where
  | high | low
  deriving DecidableEq, Repr

/-- A threshold record (R64). -/
structure Threshold where
  channel    : Fin 24
  direction  : Direction
  level      : Nat
  hysteresis : Nat
  debounce   : Nat
  tripped    : Bool
  agreement  : Nat
  deriving DecidableEq, Repr

/-- A record of the sample buffer (R66). -/
structure Sampled where
  channel : Fin 24
  value   : Nat
  scan    : Byte
  deriving DecidableEq, Repr

/-- The state of SCAN (04_sensor_scanning.md). The buffer is oldest first. `frontEnds` holds of each channel
the kind and wetting that took effect at its last slot (R53; log 52). -/
structure Scan where
  sensors     : Tbl Sensor 24
  frontEnds   : Tbl FrontEnd 24
  list        : List (Fin 24)
  settings    : ScanSettings
  genA        : RateGen
  genB        : RateGen
  scanner     : Scanner
  scanNumber  : Byte
  thresholds  : Tbl Threshold 48
  buffer      : List Sampled
  overflowing : Bool
  above       : Bool
  stored      : Nat
  read        : Nat
  cleared     : Nat
  discarded   : Nat
  overflow    : Nat
  overrun     : Nat
  trimCode    : Nat
  deriving DecidableEq, Repr

/-! ## OUT -/

/-- The configuration of a channel (R79). -/
inductive Configuration where
  | off | float | sink | source | pushPull
  deriving DecidableEq, Repr

/-- A channel's forcing source (R87). -/
inductive Forcing where
  | none | faultA | faultB
  | termFalse (t : Fin 32)
  deriving DecidableEq, Repr

/-- An effective level, and the forced state (R77, R81). -/
inductive Level where
  | off | on | float
  deriving DecidableEq, Repr

/-- The current limit class (R77). -/
inductive LimitClass where
  | a025 | a050 | a100 | a200
  deriving DecidableEq, Repr

/-- The cut-off delay (R77). -/
inductive CutDelay where
  | us100 | us500 | ms2 | ms10
  deriving DecidableEq, Repr

/-- The restart delay (R77). -/
inductive RestartDelay where
  | manual | ms20 | ms100 | ms500 | ms2000
  deriving DecidableEq, Repr

/-- The tick of a channel timer (R98). -/
inductive Tick where
  | us1 | us10 | us100 | ms1
  deriving DecidableEq, Repr

/-- The mode of a channel timer (R98). -/
inductive TimerMode where
  | steady | setAtA | clearAtA | toggleAtA | pulseOnce | pulseRepeat | pwm
  deriving DecidableEq, Repr

/-- The sync of a channel timer (R98). -/
inductive Sync where
  | free
  | sync (c : Fin 16)
  | trigger (c : Fin 16)
  deriving DecidableEq, Repr

/-- The pulse phase of a channel timer (R102). -/
inductive PulsePhase where
  | waitA | waitB | finished
  deriving DecidableEq, Repr

/-- The forcing status of a channel (R87). -/
inductive ForceStatus where
  | clear | engaged | awaitingWrap
  deriving DecidableEq, Repr

/-- The restart field of a channel (R77, R93); `running` holds the expiry of the restart delay. -/
inductive Restart where
  | none
  | waitingManual
  | running (due : Nat)
  deriving DecidableEq, Repr

/-- How a pin stands (R79). -/
inductive PinDrive where
  | passiveLow | highImpedance | lowSideOn | highSideOn | bothOff
  deriving DecidableEq, Repr

/-- The fields of a channel entry that a table write stores (R77, R98). -/
structure ChannelSettings where
  config       : Configuration
  invert       : Bool
  owner        : Owner
  gate         : Option (Fin 64)
  forcing      : Forcing
  forced       : Level
  latched      : Bool
  limit        : LimitClass
  cutDelay     : CutDelay
  restartDelay : RestartDelay
  tick         : Tick
  period       : Nat
  cmpA         : Nat
  cmpB         : Nat
  mode         : TimerMode
  sync         : Sync
  stopAtB      : Bool
  joined       : Bool
  deriving DecidableEq, Repr

/-- An output-channel record: the settings, and what OUT keeps (R77, chapter 6). A channel is cut off
while `restart` is not NONE. `supervision` is the expiry of a running cut-off delay. `current` is the
current in the conducting switch in mA (log 17). `running` is the trigger state RUNNING. -/
structure Channel where
  set         : ChannelSettings
  requested   : Bool
  status      : ForceStatus
  supervision : Option Nat
  restart     : Restart
  conducting  : Bool
  pin         : PinDrive
  current     : Nat
  cutOffs     : Nat
  count       : Nat
  timerOut    : Bool
  aInForce    : Nat
  phase       : PulsePhase
  running     : Bool
  deriving DecidableEq, Repr

/-- The state of a channel as TABLE_READ gives it (R77, R87). -/
inductive ChannelState where
  | normal | cutOff | forced
  deriving DecidableEq, Repr

/-! ## PLAN -/

/-- The ramp states (R118). -/
inductive RampState where
  | idle | running | paused | held | faulted
  deriving DecidableEq, Repr

/-- The stage phase (R120). -/
inductive Phase where
  | pending | entered
  deriving DecidableEq, Repr

/-- The travel direction (R125). -/
inductive Travel where
  | extend | retract | none
  deriving DecidableEq, Repr

/-- The fault reasons (R114). -/
inductive FaultReason where
  | timeout | positionLost | overrun | cutoff | callFull
  deriving DecidableEq, Repr

/-- The last result of a ramp (R114). Its plan is the ramp's plan field. -/
inductive LastResult where
  | none
  | complete
  | aborted (reason : Option FaultReason)
  | fault (reason : FaultReason)
  deriving DecidableEq, Repr

/-- The call wait of a ramp (R124). -/
inductive CallWait where
  | none | asked | refused
  deriving DecidableEq, Repr

/-- An elapsed time: what had passed when it last stopped, and since when it runs. -/
structure Stopwatch where
  acc   : Nat
  since : Option Nat
  deriving DecidableEq, Repr

/-- A timer that can be held with its time left (R123). -/
inductive Countdown where
  | stopped
  | running (due : Nat)
  | held (left : Nat)
  deriving DecidableEq, Repr

/-- A ramp record (R114), with the ramp's timers and its ask number (R124). -/
structure Ramp where
  position   : Option (Fin 24)
  extend     : Option (Fin 16)
  retract    : Option (Fin 16)
  staleLimit : Nat
  state      : RampState
  plan       : Option (Fin 8)
  stage      : Option (Fin 64)
  phase      : Phase
  stageTimer : Stopwatch
  sPrev      : Nat
  travel     : Travel
  lastPos    : Nat
  result     : LastResult
  overshoot  : Nat
  callWait   : CallWait
  dwell      : Countdown
  stale      : Option Nat
  retry      : Option Nat
  ask        : BitVec 16
  deriving DecidableEq, Repr

/-- A plan record (R115). -/
structure PlanRecord where
  ramp  : Fin 4
  first : Fin 64
  count : Nat
  deriving DecidableEq, Repr

/-- A role of a SET stage (R116). -/
inductive Role where
  | none | extend | retract
  deriving DecidableEq, Repr

/-- The fields of a DRIVE stage (R116). -/
structure Drive where
  target   : Nat
  vMin     : Nat
  vMax     : Nat
  slowdown : Nat
  deadBand : Nat
  allow    : Nat
  rise     : Nat
  fall     : Nat
  deriving DecidableEq, Repr

/-- The kind of a stage, with the fields of its kind (R116). -/
inductive StageKind where
  | drive (d : Drive)
  | set (role1 : Role) (level1 : Bool) (role2 : Role) (level2 : Bool)
  | wait (t : Fin 32)
  | dwell (time : Nat)
  | call (template : Fin 32)
  deriving DecidableEq, Repr

/-- A stage record (R116). -/
structure Stage where
  kind        : StageKind
  permit      : Fin 32
  lanes       : BitVec 8
  needsBridge : Bool
  timeout     : Nat
  deriving DecidableEq, Repr

/-- The state of PLAN (07_ramp_motion_plans.md). -/
structure Plan where
  ramps  : Tbl Ramp 4
  plans  : Tbl PlanRecord 8
  stages : Tbl Stage 64
  deriving DecidableEq, Repr

/-! ## DOOR -/

/-- The door states (R139). -/
inductive DoorState where
  | unset | opened | warning | closing | closed | backoff | opening | jammed
  deriving DecidableEq, Repr

/-- The fields of a door record that a table write stores (R139). -/
structure DoorSettings where
  group        : Option (Fin 8)
  lane         : Option (Fin 8)
  closeCh      : Option (Fin 16)
  openCh       : Option (Fin 16)
  closedCond   : Option (Fin 64)
  openCond     : Option (Fin 64)
  zones        : BitVec 16
  warning      : Nat
  rewarning    : Nat
  closeTimeout : Nat
  openTimeout  : Nat
  backoff      : Nat
  retryLimit   : Nat
  deriving DecidableEq, Repr

/-- A door record (R139). `due` is the expiry of the state timer. -/
structure Door where
  set      : DoorSettings
  state    : DoorState
  attempts : Nat
  timer    : Stopwatch
  due      : Option Nat
  deriving DecidableEq, Repr

/-- A group record (R141). -/
structure Group where
  trigger  : Option (Fin 32)
  release  : Option (Fin 32)
  template : Option (Fin 32)
  deriving DecidableEq, Repr

/-- The state of DOOR (08_fire_door_groups.md). -/
structure DoorBlock where
  doors        : Tbl Door 24
  groups       : Tbl Group 8
  warnCallLost : Nat
  deriving DecidableEq, Repr

/-! ## CALL -/

/-- A call template (R160). -/
structure Template where
  message  : Nat
  zones    : BitVec 16
  priority : Nat
  repeats  : Nat
  interval : Nat
  pattern  : BitVec 16
  allow    : Option (Fin 32)
  deriving DecidableEq, Repr

/-- A zone record (R161). -/
structure Zone where
  lamp   : Option (Fin 16)
  holder : Option (Fin 16)
  deriving DecidableEq, Repr

/-- The states of an occupied slot (R163). -/
inductive SlotState where
  | waiting | speaking | interval
  deriving DecidableEq, Repr

/-- How a repetition ended (R163). -/
inductive Answer where
  | none | played | refused | limit
  deriving DecidableEq, Repr

/-- An occupied call slot (R163, R173). The timers are their expiries. -/
structure Slot where
  template   : Fin 32
  zones      : BitVec 16
  priority   : Nat
  left       : Nat
  arrival    : Nat
  state      : SlotState
  token      : Option Byte
  limit      : Option Nat
  interval   : Option Nat
  lampStep   : Fin 16
  lampDue    : Option Nat
  lastAnswer : Answer
  deriving DecidableEq, Repr

/-- The state of CALL (09_passenger_calls.md). A slot of `none` is FREE. -/
structure Call where
  templates : Tbl Template 32
  zones     : Tbl Zone 16
  paNode    : Byte
  paLimit   : Nat
  slots     : Tbl (Option Slot) 16
  token     : Byte
  arrival   : Nat
  paRun     : Nat
  paLate    : Nat
  deriving DecidableEq, Repr

/-! ## REQ -/

/-- The operating mode (R178). -/
inductive Mode where
  | setup | service
  deriving DecidableEq, Repr

/-- The state of REQ (10_requests_tables_and_notices.md). Bit `k - 1` of a set stands for kind `k`. -/
structure Req where
  mode       : Mode
  tag        : Vector Byte 8
  tagWritten : Bool
  node       : Byte
  enabled    : BitVec 16
  disable    : Bool
  marks      : BitVec 16
  deriving DecidableEq, Repr

/-! ## The part -/

/-- The whole part. `clock` is the number of the last TIMER STEP (R99); `handed` the events handed from
block to block and not yet taken, oldest first (log 2); `pending` the commands waiting, first in first
out (log 1). -/
structure State where
  line    : Line
  table   : Tbl MatchEntry 64
  board   : Board
  scan    : Scan
  chans   : Tbl Channel 16
  plan    : Plan
  door    : DoorBlock
  call    : Call
  req     : Req
  faultA  : Bool
  faultB  : Bool
  inReset : Bool
  clock   : Nat
  handed  : List Instr
  pending : List Instr
  deriving DecidableEq, Repr

/-! ## Values at power-on reset -/

/-- A port after power-on reset (R14, R18). -/
def PortState.reset : PortState :=
  { waiting := [], sending := none, crcCount := 0, normalDrops := 0, safetyDrops := 0 }

/-- LINE after power-on reset, with the strap value read (R2, R5, R14, R16, R18). -/
def Line.reset (strap : Fin 128) : Line :=
  { strap := strap, up := PortState.reset, dn := PortState.reset,
    sides := Tbl.all 126 { side := .unknown, pinned := false },
    silence := none, silenceMs := 500, clashCount := 0 }

/-- The match entry of power-on reset (R21). That the absent payload test reads back with position 0 and
value 0 is the model's choice (log 53). -/
def MatchEntry.reset : MatchEntry :=
  { valid := false, source := none, kind := 0, tagLow := 0, tagHigh := 255, port := .either,
    position := 0, mask := 0, value := 0, action := .holdForward 0, stop := false,
    hits := 0, refusals := 0 }

/-- Condition `c` after power-on reset, with the levels of the fault lines (R38, R39, R51). -/
def CondRecord.reset (faultA faultB : Bool) (c : Fin 64) : CondRecord :=
  { value := (c.val == 3 && faultA) || (c.val == 4 && faultB) || (8 ≤ c.val && c.val ≤ 15),
    source := if c.val < 16 then .fixed else .none,
    holdTime := 0, hold := none, age := 0 }

/-- COND after power-on reset (R51). The age interval starts at the completion of the reset. -/
def Board.reset (faultA faultB : Bool) : Board :=
  { conds := Vector.ofFn (CondRecord.reset faultA faultB),
    terms := Tbl.all 32 { literals := [] }, ageDue := 10000 }

/-- SCAN after power-on reset (R75, and R53, R54, R56, R57, R64, R67). -/
def Scan.reset : Scan :=
  { sensors := Tbl.all 24 { kind := .voltage, zero := 0, gain := 256, wetting := false,
                            logged := false, last := 0, samples := 0 },
    frontEnds := Tbl.all 24 { kind := .voltage, wetting := false }, list := [],
    settings := { trigger := .rateB, nA := 1000, nB := 100, bInput := .a, wettingTest := false,
                  bufferThreshold := 256 },
    genA := { count := 0, divisor := 1000, input := .reference },
    genB := { count := 0, divisor := 100, input := .a },
    scanner := .stopped, scanNumber := 0,
    thresholds := Tbl.all 48 { channel := 0, direction := .high, level := 32767, hysteresis := 0,
                               debounce := 1, tripped := false, agreement := 0 },
    buffer := [], overflowing := false, above := false,
    stored := 0, read := 0, cleared := 0, discarded := 0, overflow := 0, overrun := 0,
    trimCode := 512 }

/-- The settings of a channel after power-on reset (R96, R113). -/
def ChannelSettings.reset : ChannelSettings :=
  { config := .off, invert := false, owner := .free, gate := none, forcing := .none, forced := .off,
    latched := false, limit := .a025, cutDelay := .us100, restartDelay := .manual,
    tick := .us1, period := 0, cmpA := 0, cmpB := 0, mode := .steady, sync := .free,
    stopAtB := false, joined := false }

/-- A channel after power-on reset (R96, R113). -/
def Channel.reset : Channel :=
  { set := ChannelSettings.reset, requested := false, status := .clear, supervision := none,
    restart := .none, conducting := false, pin := .passiveLow, current := 0, cutOffs := 0,
    count := 0, timerOut := false, aInForce := 0, phase := .waitA, running := false }

/-- A stopwatch at zero, stopped. -/
def Stopwatch.zero : Stopwatch := { acc := 0, since := none }

/-- A ramp after power-on reset (R137). -/
def Ramp.reset : Ramp :=
  { position := none, extend := none, retract := none, staleLimit := 200, state := .idle,
    plan := none, stage := none, phase := .pending, stageTimer := Stopwatch.zero, sPrev := 0,
    travel := .none, lastPos := 0, result := .none, overshoot := 0, callWait := .none,
    dwell := .stopped, stale := none, retry := none, ask := 0 }

/-- PLAN after power-on reset (R137). -/
def Plan.reset : Plan :=
  { ramps := Tbl.all 4 Ramp.reset,
    plans := Tbl.all 8 { ramp := 0, first := 0, count := 1 },
    stages := Tbl.all 64 { kind := .dwell 0, permit := 0, lanes := 0, needsBridge := false,
                           timeout := 0 } }

/-- The settings of a door after power-on reset (R158). -/
def DoorSettings.reset : DoorSettings :=
  { group := none, lane := none, closeCh := none, openCh := none, closedCond := none,
    openCond := none, zones := 0, warning := 0, rewarning := 0, closeTimeout := 0,
    openTimeout := 0, backoff := 0, retryLimit := 0 }

/-- A door after power-on reset (R158). -/
def Door.reset : Door :=
  { set := DoorSettings.reset, state := .unset, attempts := 0, timer := Stopwatch.zero, due := none }

/-- DOOR after power-on reset (R158). -/
def DoorBlock.reset : DoorBlock :=
  { doors := Tbl.all 24 Door.reset,
    groups := Tbl.all 8 { trigger := none, release := none, template := none }, warnCallLost := 0 }

/-- The CLEARED image of a call template (R160). -/
def Template.reset : Template :=
  { message := 1, zones := 0, priority := 0, repeats := 1, interval := 1, pattern := 0,
    allow := none }

/-- CALL after power-on reset (R175). -/
def Call.reset : Call :=
  { templates := Tbl.all 32 Template.reset, zones := Tbl.all 16 { lamp := none, holder := none },
    paNode := 0, paLimit := 30, slots := Tbl.all 16 none, token := 0, arrival := 0, paRun := 0,
    paLate := 0 }

/-- REQ after power-on reset: the READY mark (kind 12) is set and no other (R178, R184, R186, R188). -/
def Req.reset : Req :=
  { mode := .setup, tag := Vector.replicate 8 0, tagWritten := false, node := 0, enabled := 0,
    disable := false, marks := 0x0800 }

/-- The part at the completion of power-on reset, by the strap value and by whether each fault line
is low. The timer clock stands at step 0 (R113). -/
def State.powerOn (strap : Fin 128) (faultA faultB : Bool) : State :=
  { line := Line.reset strap, table := Tbl.all 64 MatchEntry.reset,
    board := Board.reset faultA faultB, scan := Scan.reset, chans := Tbl.all 16 Channel.reset,
    plan := Plan.reset, door := DoorBlock.reset, call := Call.reset, req := Req.reset,
    faultA := faultA, faultB := faultB, inReset := false, clock := 0, handed := [], pending := [] }

/-- The machine right after reset. The straps and the fault lines are pins, whose levels the spec does
not give: DESIGN CHOICE straps 9, the address of the part of the data book's worked sequences (log 6),
and both fault lines high, not asserted (log 7). -/
def State.reset : State := State.powerOn 9 false false

end Sys2Proof.Machine
end

