-- ==== Sys2Proof/Machine/Frames.lean ====
section
/-! DEFINITION. Frames: kinds, CRC, byte layout, FRAME CHECK and the transmit queue of one port
(R3, R9 to R13, R189). -/

namespace Sys2Proof.Machine

/-! ## Kinds and classes (R189, R9) -/

/-- The kind value of CALL. -/
def kindCall : Byte := 4
/-- The kind value of CALL_DONE. -/
def kindCallDone : Byte := 5
/-- The kind value of REQUEST. -/
def kindRequest : Byte := 6
/-- The kind value of REPLY. -/
def kindReply : Byte := 7
/-- The kind value of NOTICE. -/
def kindNotice : Byte := 8
/-- The kind value of HOLD_NOTE. -/
def kindHoldNote : Byte := 9
/-- The kind value of ALARM. -/
def kindAlarm : Byte := 3

/-- ALARM, CALL, CALL_DONE and HOLD_NOTE frames are SAFETY (R9). -/
def Frame.safety (f : Frame) : Bool :=
  f.kind == kindAlarm || f.kind == kindCall || f.kind == kindCallDone || f.kind == kindHoldNote

/-- Every other kind value is NORMAL (R9). -/
def Frame.normal (f : Frame) : Bool := !f.safety

/-! ## CRC and layout (R189) -/

/-- One bit of the CRC register: polynomial 1021h, most significant bit first. -/
def crcBit (r : BitVec 16) : BitVec 16 :=
  if r.msb then (r <<< 1) ^^^ 0x1021 else r <<< 1

/-- One byte into the CRC register. -/
def crcByte (r : BitVec 16) (b : Byte) : BitVec 16 :=
  crcBit (crcBit (crcBit (crcBit (crcBit (crcBit (crcBit (crcBit
    (r ^^^ (b.setWidth 16 <<< 8)))))))))

/-- The CRC of a run of bytes: the register starts at FFFFh and has no final inversion. -/
def crc16 (bytes : List Byte) : BitVec 16 := bytes.foldl crcByte 0xFFFF

/-- The five header bytes and the payload, in sending order. -/
def headerAndPayload (dst src kind tag : Byte) (payload : List Byte) : List Byte :=
  dst :: src :: kind :: tag :: BitVec.ofNat 8 payload.length :: payload

/-- The bytes of a number sent most significant byte first (R190). -/
def bytesOf16 (w : BitVec 16) : List Byte := [w.extractLsb' 8 8, w.extractLsb' 0 8]

/-- The byte sequence of a frame on the line (R189). -/
def Frame.toBytes (f : Frame) : List Byte :=
  headerAndPayload f.dst f.src f.kind f.tag f.payload ++ bytesOf16 f.crc

/-- FRAME CHECK: the frame a run of received bytes holds, or none where a check fails (R3). -/
def frameCheck (bytes : List Byte) : Option Frame :=
  match bytes with
  | dst :: src :: kind :: tag :: len :: rest =>
    let n := len.toNat
    if rest.length = n + 2 ∧ n ≤ 48 ∧ 1 ≤ src.toNat ∧ src.toNat ≤ 126 then
      let payload := rest.take n
      let crc := (rest.getD n 0) ++ (rest.getD (n + 1) 0)
      if crc16 (headerAndPayload dst src kind tag payload) = crc then
        some { dst := dst, src := src, kind := kind, tag := tag, payload := payload, crc := crc }
      else none
    else none
  | _ => none

/-- A frame the part builds: the CRC is computed by the part (R7, R189). -/
def buildFrame (dst src kind tag : Byte) (payload : List Byte) : Frame :=
  { dst := dst, src := src, kind := kind, tag := tag, payload := payload,
    crc := crc16 (headerAndPayload dst src kind tag payload) }

/-! ## The transmit queue of one port (R10 to R13) -/

/-- The frames a queue holds: the one being sent keeps its slot (R10). -/
def PortState.frames (q : PortState) : List Frame := q.sending.toList ++ q.waiting

/-- The number of frames in the queue. -/
def PortState.total (q : PortState) : Nat := q.frames.length

/-- The number of NORMAL frames in the queue. -/
def PortState.normals (q : PortState) : Nat := q.frames.countP Frame.normal

/-- ADMISSION OF A NORMAL FRAME (R11). -/
def PortState.admitNormal (q : PortState) (f : Frame) : PortState :=
  if 8 ≤ q.normals ∨ 12 ≤ q.total then
    { q with normalDrops := satAdd 65535 q.normalDrops 1 }
  else { q with waiting := q.waiting ++ [f] }

/-- ADMISSION OF A SAFETY FRAME (R12). -/
def PortState.admitSafety (q : PortState) (f : Frame) : PortState :=
  if q.total < 12 then { q with waiting := q.waiting ++ [f] }
  else if q.waiting.any Frame.normal then
    { q with waiting := q.waiting.eraseP Frame.normal ++ [f],
             normalDrops := satAdd 65535 q.normalDrops 1 }
  else { q with safetyDrops := satAdd 65535 q.safetyDrops 1 }

/-- TRANSMIT begins when the transmitter is IDLE and the queue is not empty: the oldest SAFETY frame,
or else the oldest NORMAL frame (R13). -/
def PortState.start (q : PortState) : PortState :=
  match q.sending with
  | some _ => q
  | none =>
    match q.waiting.find? Frame.safety with
    | some f => { q with sending := some f, waiting := q.waiting.eraseP Frame.safety }
    | none =>
      match q.waiting with
      | [] => q
      | f :: rest => { q with sending := some f, waiting := rest }

/-- A frame is offered to a transmit queue: admission by its class, then TRANSMIT (R11, R12, R13). -/
def PortState.offer (q : PortState) (f : Frame) : PortState :=
  PortState.start (if f.safety then q.admitSafety f else q.admitNormal f)

/-- The completion of TRANSMIT frees the frame's slot, and the next TRANSMIT begins (R13). -/
def PortState.complete (q : PortState) : PortState :=
  match q.sending with
  | none => q
  | some _ => PortState.start { q with sending := none }

end Sys2Proof.Machine
end

