-- ==== Sys2Proof/Machine/Ops.lean ====
section
/-! DEFINITION. The operations every block shares: named updates of the state, the taking of an event,
handing an event on, offering a frame, REPLY and notice events. -/

namespace Sys2Proof.Machine

/-! ## Named updates -/

/-- The state with one port's queue, transmitter and counts replaced. -/
def State.setPort (s : State) (p : Port) (q : PortState) : State :=
  match p with
  | .up => { s with line := { s.line with up := q } }
  | .dn => { s with line := { s.line with dn := q } }

/-- A port's queue, transmitter and counts. -/
def State.port (s : State) (p : Port) : PortState :=
  match p with
  | .up => s.line.up
  | .dn => s.line.dn

/-- The state with a match entry replaced. -/
def State.setEntry (s : State) (e : Fin 64) (m : MatchEntry) : State :=
  { s with table := s.table.put e m }

/-- The state with a condition record replaced, handing nothing on. -/
def State.setRecord (s : State) (c : Fin 64) (r : CondRecord) : State :=
  { s with board := { s.board with conds := s.board.conds.put c r } }

/-- The state with SCAN replaced. -/
def State.setScan (s : State) (x : Scan) : State := { s with scan := x }

/-- The state with an output-channel record replaced. -/
def State.setChan (s : State) (ch : Fin 16) (c : Channel) : State :=
  { s with chans := s.chans.put ch c }

/-- The state with the output-channel table replaced. -/
def State.setChans (s : State) (cs : Tbl Channel 16) : State := { s with chans := cs }

/-- The state with a ramp record replaced. -/
def State.setRamp (s : State) (r : Fin 4) (x : Ramp) : State :=
  { s with plan := { s.plan with ramps := s.plan.ramps.put r x } }

/-- The state with a door record replaced. -/
def State.setDoor (s : State) (d : Fin 24) (x : Door) : State :=
  { s with door := { s.door with doors := s.door.doors.put d x } }

/-- The state with CALL replaced. -/
def State.setCall (s : State) (x : Call) : State := { s with call := x }

/-- The state with a call slot replaced. -/
def State.setSlot (s : State) (k : Fin 16) (x : Option Slot) : State :=
  { s with call := { s.call with slots := s.call.slots.put k x } }

/-- The state with a zone's holder replaced. -/
def State.setHolder (s : State) (z : Fin 16) (h : Option (Fin 16)) : State :=
  { s with call := { s.call with
      zones := s.call.zones.put z { s.call.zones.row z with holder := h } } }

/-- The state with REQ replaced. -/
def State.setReq (s : State) (x : Req) : State := { s with req := x }

/-- An event is handed on to the block that takes it (log 2). -/
def State.hand (s : State) (c : Instr) : State := { s with handed := s.handed ++ [c] }

/-- Events are handed on in the order given. -/
def State.handAll (s : State) (cs : List Instr) : State := { s with handed := s.handed ++ cs }

/-- An event that was handed on is taken: its oldest occurrence leaves the list. -/
def State.take (s : State) (c : Instr) : State := { s with handed := s.handed.erase c }

/-! ## Taking an event -/

/-- The outcome of taking event `c` with effect `f`. While the RESET pin is held nothing is taken
(R1, R39, R51; log 9), and no event need have been handed for it to be taken (log 12). -/
def event (c : Instr) (f : State → State) (s : State) : Host.Outcome State Fault Refusal :=
  .next (if s.inReset then s else f (s.take c))

/-- The part has an own address (R2, R17). -/
def State.addressed (s : State) : Bool := s.line.strap.val ≠ 0 && s.line.strap.val ≠ 127

/-- The own address, in an addressed part (R2). -/
def State.own (s : State) : Option Byte :=
  if s.addressed then some (BitVec.ofNat 8 s.line.strap.val) else none

/-- The effect of a REQUEST's operation: an UNADDRESSED part takes no REQUEST (R17, R177; log 10). -/
def asRequest (f : State → State) (s : State) : State := if s.addressed then f s else s

/-! ## Bytes -/

/-- The low eight bits of a number, as a byte. -/
def u8 (n : Nat) : Byte := BitVec.ofNat 8 n

/-- A number as two bytes, most significant first (R190). -/
def u16 (n : Nat) : List Byte := bytesOf16 (BitVec.ofNat 16 n)

/-- A two-valued flag as a byte (R190). -/
def flagByte (b : Bool) : Byte := if b then 1 else 0

/-- The value of a flag byte: 0 no, 1 yes, any other value is refused (R190). -/
def flag? (b : Byte) : Option Bool :=
  if b = 0 then some false else if b = 1 then some true else none

/-- The record that a byte names, when it is in range. -/
def fin? (n : Nat) (b : Byte) : Option (Fin n) :=
  if h : b.toNat < n then some ⟨b.toNat, h⟩ else none

/-- The code of a result, in the order of R190. -/
def Code.byte : Code → Byte
  | .done => 0 | .refusedMode => 1 | .busy => 2 | .badTable => 3 | .badIndex => 4
  | .badCheck => 5 | .badValue => 6 | .forbiddenJump => 7 | .locked => 8 | .notOwner => 9
  | .termFalse => 10 | .full => 11

/-! ## Offering frames -/

/-- A frame is offered to a port's transmit queue (R10 to R13). -/
def State.offer (s : State) (p : Port) (f : Frame) : State := s.setPort p ((s.port p).offer f)

/-- The side-map entry of an individual address 1..126 (R5). -/
def State.sideOf (s : State) (node : Byte) : Option Side :=
  if h : 1 ≤ node.toNat ∧ node.toNat ≤ 126 then
    some (s.line.sides.row ⟨node.toNat - 1, by omega⟩).side
  else none

/-- The ports by which a frame of the part goes out to a destination (R7). -/
def State.portsTo (s : State) (own dst : Byte) : List Port :=
  if dst = own then []
  else if dst = 127 then [.up, .dn]
  else
    match s.sideOf dst with
    | none => []
    | some .up => [.up]
    | some .dn => [.dn]
    | some .unknown => [.up, .dn]

/-- PORT CHOICE FOR OWN FRAMES: the part builds a frame and offers it by its destination; an
UNADDRESSED part builds none (R7, R17; log 46). -/
def State.emit (s : State) (dst kind tag : Byte) (payload : List Byte) : State :=
  match s.own with
  | none => s
  | some own =>
    (s.portsTo own dst).foldl (fun s p => s.offer p (buildFrame dst own kind tag payload)) s

/-- The one REPLY to a request: operation code, result code and the data of the result (R177, R191). -/
def State.reply (s : State) (rq : Requester) (op : Byte) (c : Code) (data : List Byte) : State :=
  s.emit rq.node kindReply rq.tag (op :: Code.byte c :: data)

/-! ## Notice events (R187) -/

/-- A notice event of kind `k` with a subject index is taken by REQ under its pending mark. -/
def State.notice (s : State) (k : Fin 13) (subject : Nat) : State :=
  let bit := k.val - 1
  if s.req.marks.getLsbD bit then s
  else
    let marks := s.req.marks ||| BitVec.ofNat 16 (2 ^ bit)
    let s := s.setReq { s.req with marks := marks }
    if s.req.enabled.getLsbD bit && !s.req.disable then
      s.emit s.req.node kindNotice (u8 k.val) ([u8 k.val, u8 subject] ++ bytesOf16 marks)
    else s

/-! ## Timers -/

/-- Microseconds in a number of milliseconds. -/
def ms (n : Nat) : Nat := n * 1000

/-- The time a stopwatch shows. -/
def Stopwatch.elapsed (w : Stopwatch) (now : Nat) : Nat :=
  w.acc + (match w.since with | none => 0 | some t => now - t)

/-- A stopwatch at 0 and running. -/
def Stopwatch.start (now : Nat) : Stopwatch := { acc := 0, since := some now }

/-- The stopwatch stopped, with the time it had. -/
def Stopwatch.stop (w : Stopwatch) (now : Nat) : Stopwatch := { acc := w.elapsed now, since := none }

/-- The stopwatch running on from the time it had. -/
def Stopwatch.resume (w : Stopwatch) (now : Nat) : Stopwatch :=
  { acc := w.elapsed now, since := some now }

end Sys2Proof.Machine
end

