-- ==== Sys2Proof/Machine/Flags.lean ====
section
/-! DEFINITION. The condition board: reading conditions and terms, the waiting users of a condition,
changing a value, and following a source (R37 to R50). -/

namespace Sys2Proof.Machine

/-- The value of a condition. -/
def State.cond (s : State) (c : Fin 64) : Bool := (s.board.conds.row c).value

/-- TERM EVALUATION: every literal holds; the empty term is TRUE (R49). -/
def State.term (s : State) (t : Fin 32) : Bool :=
  (s.board.terms.row t).literals.all (fun l => s.cond l.1 == l.2)

/-- A term names a condition (R48). -/
def State.termNames (s : State) (t : Fin 32) (c : Fin 64) : Bool :=
  (s.board.terms.row t).literals.any (fun l => l.1 == c)

/-! The fixed conditions (R38). -/

/-- BRIDGE_LINK. -/
def condBridge : Fin 64 := 0
/-- SCAN_VALID. -/
def condScanValid : Fin 64 := 1
/-- TRIM_OK. -/
def condTrimOk : Fin 64 := 2
/-- FAULT_A. -/
def condFaultA : Fin 64 := 3
/-- FAULT_B. -/
def condFaultB : Fin 64 := 4
/-- PA_FAULT. -/
def condPaFault : Fin 64 := 5
/-- SERVICE_MODE. -/
def condService : Fin 64 := 6
/-- ANY_RAMP_MOVING. -/
def condMoving : Fin 64 := 7
/-- LANE_CLEAR_n. -/
def condLane (n : Fin 8) : Fin 64 := ⟨8 + n.val, by omega⟩

/-! ## Waiting users (R47) -/

/-- A channel's forcing source names a condition (R87). -/
def State.forcingNames (s : State) (f : Forcing) (c : Fin 64) : Bool :=
  match f with
  | .none => false
  | .faultA => c == condFaultA
  | .faultB => c == condFaultB
  | .termFalse t => s.termNames t c

/-- The entry and running conditions of a DRIVE stage name a condition (R120, R126). -/
def State.driveNames (s : State) (st : Stage) (c : Fin 64) : Bool :=
  s.termNames st.permit c || c == condScanValid
    || (List.finRange 8).any (fun n => st.lanes.getLsbD n.val && c == condLane n)
    || (st.needsBridge && c == condBridge)

/-- A ramp waits on a condition: at a PENDING stage on its entry conditions, at an ENTERED DRIVE stage
on its running conditions, at an ENTERED WAIT stage on its wait term (R47, R120, R122, R126). -/
def State.rampWaits (s : State) (r : Fin 4) (c : Fin 64) : Bool :=
  let x := s.plan.ramps.row r
  match x.stage with
  | none => false
  | some k =>
    let st := s.plan.stages.row k
    match x.state, x.phase, st.kind with
    | .running, _, .drive _ => s.driveNames st c
    | .running, .pending, _ => s.termNames st.permit c
    | .running, .entered, .wait t => s.termNames t c
    | .paused, _, .drive _ => s.driveNames st c
    | _, _, _ => false

/-- DOOR waits on a condition: a fitted door's limit switch or a group's trigger term names it. -/
def State.doorsWait (s : State) (c : Fin 64) : Bool :=
  (List.finRange 24).any (fun d =>
    let x := (s.door.doors.row d).set
    x.group.isSome && (x.closedCond == some c || x.openCond == some c))
  || (List.finRange 8).any (fun g =>
    match (s.door.groups.row g).trigger with
    | none => false
    | some t => s.termNames t c)

/-- The users to whom a change of a condition is handed. -/
def State.users (s : State) (c : Fin 64) : List CondUser :=
  ((List.finRange 16).filter (fun ch => (s.chans.row ch).set.gate == some c)).map CondUser.gate
  ++ ((List.finRange 16).filter
        (fun ch => s.forcingNames (s.chans.row ch).set.forcing c)).map CondUser.forcing
  ++ ((List.finRange 4).filter (fun r => s.rampWaits r c)).map CondUser.ramp
  ++ (if s.doorsWait c then [.doors] else [])

/-- The source sets a condition's value. A value already held changes nothing; a change restarts the
age and is handed to every waiting user (R41, R46, R47). -/
def State.setCond (s : State) (c : Fin 64) (v : Bool) : State :=
  let r := s.board.conds.row c
  if r.value = v then s
  else
    let s := s.setRecord c { r with value := v, age := 0 }
    s.handAll ((s.users c).map (fun u => .conditionChange c v u))

/-! ## Following a source (R38, R40, R41) -/

/-- LANE_CLEAR_n: every door whose lane is n is OPEN (R38). -/
def State.laneClear (s : State) (n : Fin 8) : Bool :=
  (List.finRange 24).all (fun d =>
    let x := s.door.doors.row d
    x.set.lane != some n || x.state == .opened)

/-- A group has at least one door, and every door of it stands in a state (R40). -/
def State.groupAll (s : State) (g : Fin 8) (st : DoorState) : Bool :=
  (List.finRange 24).any (fun d => (s.door.doors.row d).set.group == some g)
  && (List.finRange 24).all (fun d =>
    let x := s.door.doors.row d
    x.set.group != some g || x.state == st)

/-- A ramp is RUNNING at an ENTERED DRIVE stage with command above 0 (R118). -/
def State.rampMoving (s : State) (r : Fin 4) : Bool :=
  let x := s.plan.ramps.row r
  x.state == .running && x.phase == .entered && decide (0 < x.sPrev)
    && (match x.stage with
        | none => false
        | some k => match (s.plan.stages.row k).kind with
          | .drive _ => true
          | _ => false)

/-- ANY_RAMP_MOVING (R38, R118). -/
def State.anyMoving (s : State) : Bool := (List.finRange 4).any s.rampMoving

/-- A channel is cut off (R92, R93). -/
def Channel.cutOff (c : Channel) : Bool := c.restart != .none

/-- The value of an assignable source as its object stands (R40); a FRAME source keeps the value held. -/
def State.sourceValue (s : State) (src : Source) (held : Bool) : Bool :=
  match src with
  | .fixed => held
  | .none => false
  | .threshold k => (s.scan.thresholds.row k).tripped
  | .groupClosed g => s.groupAll g .closed
  | .groupOpen g => s.groupAll g .opened
  | .rampAt r p =>
    let x := s.plan.ramps.row r
    x.state == .idle && x.result == .complete && x.plan == some p
  | .channelCut ch => (s.chans.row ch).cutOff
  | .frame => held

/-- Condition `c` is recomputed from its source. -/
def State.recompute (s : State) (c : Fin 64) : State :=
  let r := s.board.conds.row c
  s.setCond c (s.sourceValue r.source r.value)

/-- SOURCE FOLLOWING: every condition whose source is chosen is recomputed, in ascending id (R41; log 67). -/
def State.follow (s : State) (chosen : Source → Bool) : State :=
  (List.finRange 64).foldl
    (fun s c => if chosen (s.board.conds.row c).source then s.recompute c else s) s

/-- The conditions that follow a ramp: ANY_RAMP_MOVING and every RAMP_AT naming it (R118), in that order
(log 67). -/
def State.followRamp (s : State) (r : Fin 4) : State :=
  (s.setCond condMoving s.anyMoving).follow
    (fun src => match src with | .rampAt r' _ => r' == r | _ => false)

/-- The conditions that follow a threshold record (R65). -/
def State.followThreshold (s : State) (k : Fin 48) : State := s.follow (fun src => src == .threshold k)

/-- The conditions that follow a channel's cut-off (R92, R93). -/
def State.followCut (s : State) (ch : Fin 16) : State := s.follow (fun src => src == .channelCut ch)

/-- LANE_CLEAR of a lane is recomputed (R38, R143). -/
def State.followLane (s : State) (lane : Option (Fin 8)) : State :=
  match lane with
  | none => s
  | some n => s.setCond (condLane n) (s.laneClear n)

/-- GROUP_CLOSED and GROUP_OPEN conditions of a group are recomputed (R143). -/
def State.followGroup (s : State) (group : Option (Fin 8)) : State :=
  match group with
  | none => s
  | some g => s.follow (fun src => src == .groupClosed g || src == .groupOpen g)

/-- A condition's value is changed together with its hold fields (R43, R44, R45). -/
def State.setFrameCond (s : State) (c : Fin 64) (v : Bool) (holdTime : Nat) (hold : Option Nat) : State :=
  (s.setRecord c { s.board.conds.row c with holdTime := holdTime, hold := hold }).setCond c v

end Sys2Proof.Machine
end

