-- ==== Sys2Proof/Machine/Matching.lean ====
section
/-! DEFINITION. MATCH: the test of a frame, its verdict, the actions handed on, and the HOLD_NOTE (R22 to
R35). -/

namespace Sys2Proof.Machine

/-- The entry's port accepts the arrival port (R23). -/
def PortMatch.accepts (m : PortMatch) (p : Port) : Bool :=
  match m, p with
  | .either, _ => true
  | .up, .up => true
  | .dn, .dn => true
  | _, _ => false

/-- PAYLOAD TEST: absent when the mask is zero (R24). -/
def MatchEntry.payloadTest (m : MatchEntry) (payload : List Byte) : Bool :=
  m.mask == 0 ||
  match payload[m.position.toNat]? with
  | none => false
  | some b => b &&& m.mask == m.value &&& m.mask

/-- A valid entry matches a frame that arrived on a port (R23). -/
def MatchEntry.accepts (m : MatchEntry) (f : Frame) (p : Port) : Bool :=
  m.valid
  && (match m.source with
      | none => true
      | some n => n == f.src)
  && m.kind == f.kind && decide (m.tagLow ≤ f.tag) && decide (f.tag ≤ m.tagHigh)
  && m.port.accepts p && m.payloadTest f.payload

/-- The test of a frame in progress: the part, the entries matched in index order, the holding entry
with its term, and whether a stop flag has ended the test. -/
structure Test where
  s       : State
  matched : List (Fin 64)
  held    : Option (Fin 64 × Fin 32)
  stopped : Bool

/-- The term of a HOLD_FORWARD entry that fails: it reads FALSE (R26). -/
def State.failingHold (s : State) (a : Action) : Option (Fin 32) :=
  match a with
  | .holdForward t => if s.term t then none else some t
  | _ => none

/-- The counts of a matched entry: its hit, and its refusal when it holds (R25, R26). -/
def MatchEntry.hit (m : MatchEntry) (held : Bool) : MatchEntry :=
  { m with hits := satAdd 65535 m.hits 1,
           refusals := if held then satAdd 255 m.refusals 1 else m.refusals }

/-- One entry is tested (R25, R26). -/
def Test.entry (f : Frame) (p : Port) (x : Test) (e : Fin 64) : Test :=
  let m := x.s.table.row e
  if x.stopped || !m.accepts f p then x
  else
    let hold := x.s.failingHold m.action
    { s := x.s.setEntry e (m.hit hold.isSome), matched := x.matched ++ [e],
      held := match x.held with
        | some h => some h
        | none => hold.map (fun t => (e, t)),
      stopped := m.stop }

/-- The test of a frame: the valid entries in index order (R25). -/
def State.testFrame (s : State) (f : Frame) (p : Port) : Test :=
  (List.finRange 64).foldl (Test.entry f p)
    { s := s, matched := [], held := none, stopped := false }

/-- The action of an entry as its owner takes it; HOLD_FORWARD acts at the test alone (R28). -/
def Action.handed (e : Fin 64) : Action → Option Instr
  | .setCond c h => some (.setCond e (u8 c.val) h)
  | .clearCond c => some (.clearCond e (u8 c.val))
  | .startPlan r p => some (.startPlan e (u8 r.val) (u8 p.val))
  | .closeGroup g imm => some (.closeGroup e g (flagByte imm))
  | .releaseGroup g => some (.releaseGroup e g)
  | .queueCall t z => some (.queueCall e (u8 t.val) z)
  | .scanNow => some (.scanNow (.action e))
  | .holdForward _ => none

/-- The opposite port (R9). -/
def otherPort : Port → Port
  | .up => .dn
  | .dn => .up

/-- The HOLD_NOTE of a held frame is offered to the arrival port (R35). -/
def State.holdNote (s : State) (p : Port) (f : Frame) (e : Fin 64) (t : Fin 32) : State :=
  match s.own with
  | none => s
  | some own =>
    s.offer p (buildFrame f.src own kindHoldNote (u8 e.val) [u8 t.val, f.dst, f.kind, f.tag])

/-- MATCH tests a frame once, LINE forwards or discards it on the verdict, and the actions are handed to
their owners in index order (R9, R22, R25 to R28). -/
def State.matchFrame (s : State) (p : Port) (f : Frame) : State :=
  let x := s.testFrame f p
  let s :=
    match x.held with
    | none => x.s.offer (otherPort p) f
    | some h => x.s.holdNote p f h.1 h.2
  s.handAll (x.matched.filterMap (fun e => (s.table.row e).action.handed e))

end Sys2Proof.Machine
end

