-- ==== Sys2Proof/Config.lean ====
section
/-! DEFINITION. The values the data book leaves open. Each is a constant without a body: no proof can
see what it is, so a statement holds whatever it is. Each is named in the assumption log. -/

namespace Sys2Proof.Config

/-- What a two-byte field of an image reads when the elapsed time it reports is above 65535 of its
units. The data book gives such times the range 0..65535 (00_scope.md, TIME UNITS) and states no
reading beyond it. Argument: the elapsed time in those units. Log 13. -/
opaque overlongTime : Nat → BitVec 16

/-- The table byte in the REPLY to a TABLE_WRITE or BLOCK_WRITE request that is too short to name a
table. R191 puts the table and the index into every refusal and states no value for this case.
Argument: the request's payload. Log 14. -/
opaque missingTable : List Byte → Byte

/-- The index byte in the REPLY to a TABLE_WRITE or BLOCK_WRITE request that is too short to name an
index. Argument: the request's payload. Log 14. -/
opaque missingIndex : List Byte → Byte

/-- What a fitted door's limit-switch condition of NONE reads as. Only SETUP admits such a door
(R140, R157), and R144 states no reading for it. Argument: the door. Log 15. -/
opaque unnamedSwitch : Fin 24 → Bool

end Sys2Proof.Config
end

