-- ==== Sys2Proof/Machine/Cond.lean ====
section
/-! DEFINITION. COND's commands: the fault lines, ageing, holds, COND_SET and COND_CLEAR in both forms
(R39, R43 to R46), and the counting of a refused match action (R28). -/

namespace Sys2Proof.Machine

/-! ## Match actions (R28) -/

/-- A refusal is counted up to 255, and never past the hit count: the refusal of an action whose hit a
write or a reset has since zeroed is not counted (R28, R36; log 16). -/
def MatchEntry.refused (m : MatchEntry) : MatchEntry :=
  if m.refusals < m.hits then { m with refusals := satAdd 255 m.refusals 1 } else m

/-- Any result of a match action other than DONE counts a refusal on its entry (R28). -/
def State.countRefusal (s : State) (e : Fin 64) (c : Code) : State :=
  if c = .done then s else s.setEntry e (s.table.row e).refused

/-- A match action of entry `e`, given its result and effect: no REPLY is sent (R28). -/
def asAction (e : Fin 64) (f : State → Code × State) (s : State) : State :=
  let r := f s
  r.2.countRefusal e r.1

/-- A request of operation code `op`, given its result and effect: one REPLY without data, offered after the
frames of the event (R177; log 44). -/
def answered (rq : Requester) (op : Byte) (f : State → Code × State) (s : State) : State :=
  let r := f s
  r.2.reply rq op r.1 []

/-! ## FRAME conditions (R43 to R45) -/

/-- The condition that a COND_SET or COND_CLEAR names: an id 16..63 whose source is FRAME (R43, R44). -/
def State.frameCond (s : State) (c : Byte) : Option (Fin 64) :=
  match fin? 64 c with
  | none => none
  | some c => if 16 ≤ c.val ∧ (s.board.conds.row c).source = .frame then some c else none

/-- COND_SET, in either form (R43). -/
def condSet (c : Byte) (hold : Nat) (s : State) : Code × State :=
  match s.frameCond c with
  | none => (.badValue, s)
  | some c =>
    let h := min hold 65535
    (.done, s.setFrameCond c true h (if h = 0 then none else some (s.clock + h * 10000)))

/-- COND_CLEAR, in either form (R44). -/
def condClear (c : Byte) (s : State) : Code × State :=
  match s.frameCond c with
  | none => (.badValue, s)
  | some c => if s.cond c then (.done, s.setFrameCond c false 0 none) else (.done, s)

/-! ## Meanings -/

/-- The level of a fault pin changes: condition 3 or 4 follows it (R39). -/
def State.faultLine (s : State) (l : FaultLine) (low : Bool) : State :=
  match l with
  | .a => ({ s with faultA := low }).setCond condFaultA low
  | .b => ({ s with faultB := low }).setCond condFaultB low

/-- A fault pin's level while no change is taken (R39). -/
def State.faultPin (s : State) (l : FaultLine) (low : Bool) : State :=
  match l with
  | .a => { s with faultA := low }
  | .b => { s with faultB := low }

/-- FAULT_LINE_CHANGE. During power-on reset the pin moves and no change is taken (R39). -/
def execFaultLineChange (l : FaultLine) (low : Bool) (s : State) : Host.Outcome State Fault Refusal :=
  .next (if s.inReset then s.faultPin l low
         else (s.take (.faultLineChange l low)).faultLine l low)

/-- The age of every record below 65535 rises by 1, and the interval repeats (R46). -/
def Board.ageAll (b : Board) : Board :=
  { b with conds := b.conds.map (fun r => { r with age := satAdd 65535 r.age 1 }),
           ageDue := b.ageDue + 10000 }

/-- AGE_INTERVAL_EXPIRY (R46). -/
def execAgeIntervalExpiry (s : State) : Host.Outcome State Fault Refusal :=
  event .ageIntervalExpiry (fun s => { s with board := s.board.ageAll }) s

/-- HOLD_EXPIRY: acts on a RUNNING hold (R45). -/
def execHoldExpiry (c : Fin 64) (s : State) : Host.Outcome State Fault Refusal :=
  event (.holdExpiry c)
    (fun s => if (s.board.conds.row c).hold.isSome then s.setFrameCond c false 0 none else s) s

/-- COND_SET (R43). -/
def execCondSet (rq : Requester) (c : Byte) (hold : Nat) (s : State) :
    Host.Outcome State Fault Refusal :=
  event (.condSet rq c hold) (asRequest (answered rq 0x0C (condSet c hold))) s

/-- COND_CLEAR (R44). -/
def execCondClear (rq : Requester) (c : Byte) (s : State) : Host.Outcome State Fault Refusal :=
  event (.condClear rq c) (asRequest (answered rq 0x0D (condClear c))) s

/-- The match action SET_COND (R29). -/
def execSetCond (e : Fin 64) (c : Byte) (hold : Nat) (s : State) : Host.Outcome State Fault Refusal :=
  event (.setCond e c hold) (asAction e (condSet c hold)) s

/-- The match action CLEAR_COND (R29). -/
def execClearCond (e : Fin 64) (c : Byte) (s : State) : Host.Outcome State Fault Refusal :=
  event (.clearCond e c) (asAction e (condClear c)) s

/-! ## Operations reset (R52) -/

/-- One record after operations reset: a FRAME condition is FALSE without a hold; every other one is
recomputed. The fixed sources are recomputed by `resetFixed` (R52). -/
def State.resetCond (s : State) (c : Fin 64) : State :=
  match (s.board.conds.row c).source with
  | .frame => s.setFrameCond c false 0 none
  | _ => s.recompute c

/-- The fixed conditions that an operations reset moves follow the blocks' resets: SCAN_VALID and
PA_FAULT FALSE, ANY_RAMP_MOVING and the lanes as their blocks leave them; the fault lines as their pins
stand (R38, R39, R52). -/
def State.resetFixed (s : State) : State :=
  let s := s.setCond condScanValid false
  let s := s.setCond condFaultA s.faultA
  let s := s.setCond condFaultB s.faultB
  let s := s.setCond condPaFault false
  let s := s.setCond condMoving s.anyMoving
  (List.finRange 8).foldl (fun s n => s.setCond (condLane n) (s.laneClear n)) s

/-- OPERATIONS RESET OF COND: the fixed conditions first, then all by ascending id (R52; log 67). -/
def State.resetBoard (s : State) : State :=
  (List.finRange 64).foldl State.resetCond s.resetFixed

end Sys2Proof.Machine
end

