-- ==== Sys2Proof/Machine/Timers.lean ====
section
/-! DEFINITION. The channel timers, over the table of output channels: counting, wraps, returns and
starts, compare events, the modes, and what a write of the settings does (R98 to R113). A timer is
named by its HEAD: the channel itself, or the even channel of a joined pair (R111). -/

namespace Sys2Proof.Machine

/-- The output-channel table. -/
abbrev Chans := Tbl Channel 16

/-- A channel is the odd one of its pair (R110). -/
def isOdd (ch : Fin 16) : Bool := ch.val % 2 == 1

/-- The even channel of a channel's pair. -/
def evenOf (ch : Fin 16) : Fin 16 := ⟨ch.val - ch.val % 2, by omega⟩

/-- The other channel of the pair. -/
def partner (ch : Fin 16) : Fin 16 :=
  if h : ch.val % 2 = 1 then ⟨ch.val - 1, by omega⟩ else ⟨ch.val + 1, by omega⟩

/-- The timer a channel belongs to (R111). -/
def head (cs : Chans) (ch : Fin 16) : Fin 16 :=
  if isOdd ch && (cs.row (evenOf ch)).set.joined then evenOf ch else ch

/-- The timer is a joined pair (R110). -/
def paired (cs : Chans) (h : Fin 16) : Bool := !isOdd h && (cs.row h).set.joined

/-- The channels of a timer: the high half first. -/
def members (cs : Chans) (h : Fin 16) : List (Fin 16) := if paired cs h then [h, partner h] else [h]

/-- The mode by which a channel acts (R112). -/
def actingMode (cs : Chans) (ch : Fin 16) : TimerMode := (cs.row (head cs ch)).set.mode

/-- Every channel of the timer changed by the same function. -/
def onMembers (cs : Chans) (h : Fin 16) (f : Channel → Channel) : Chans :=
  (members cs h).foldl (fun cs ch => cs.put ch (f (cs.row ch))) cs

/-- The timer's period is not 0; a pair needs both (R111). -/
def hasPeriod (cs : Chans) (h : Fin 16) : Bool :=
  (members cs h).all (fun ch => (cs.row ch).set.period != 0)

/-- The timer stands HELD under TRIGGER sync (R107). -/
def heldByTrigger (cs : Chans) (h : Fin 16) : Bool :=
  match (cs.row h).set.sync with
  | .trigger _ => !(cs.row h).running
  | _ => false

/-- A timer is counting (R99, R111). -/
def countingHead (cs : Chans) (h : Fin 16) : Bool :=
  (cs.row h).set.mode != .steady && hasPeriod cs h && !heldByTrigger cs h

/-- The timer of a channel is counting (R89, R99). -/
def counting (cs : Chans) (ch : Fin 16) : Bool := countingHead cs (head cs ch)

/-- The tick in microseconds (R98). -/
def Tick.micros : Tick → Nat
  | .us1 => 1 | .us10 => 10 | .us100 => 100 | .ms1 => 1000

/-- The timer's tick is due at a step number; a pair ticks by its odd channel (R99, R111). -/
def tickDue (cs : Chans) (h : Fin 16) (n : Nat) : Bool :=
  n % (cs.row (if paired cs h then partner h else h)).set.tick.micros == 0

/-- The count or counts of the timer are 0. -/
def zeroCount (cs : Chans) (h : Fin 16) : Chans := onMembers cs h (fun c => { c with count := 0 })

/-- One count advanced against its period, and whether it wrapped (R99). -/
def advanceCount (c : Channel) : Channel × Bool :=
  if c.set.period ≤ c.count + 1 then ({ c with count := 0 }, true)
  else ({ c with count := c.count + 1 }, false)

/-- A timer advanced by one tick, and whether it wrapped. At each wrap of a pair's low half its high half
advances, and the high half's wrap is the wrap of the pair (R99, R111). -/
def advanceTimer (cs : Chans) (h : Fin 16) : Chans × Bool :=
  if paired cs h then
    let low := advanceCount (cs.row (partner h))
    let cs := cs.put (partner h) low.1
    if low.2 then
      let high := advanceCount (cs.row h)
      (cs.put h high.1, high.2)
    else (cs, false)
  else
    let c := advanceCount (cs.row h)
    (cs.put h c.1, c.2)

/-- A TIMER STEP in progress: the table, and the timers that advanced, wrapped and started in it. -/
structure TimerStep where
  cs      : Chans
  moved   : List (Fin 16)
  wrapped : List (Fin 16)
  started : List (Fin 16)
  deriving DecidableEq, Repr

/-- Every counting timer whose tick is due advances (R99). -/
def advanceDue (n : Nat) (st : TimerStep) (h : Fin 16) : TimerStep :=
  if head st.cs h == h && countingHead st.cs h && tickDue st.cs h n then
    let r := advanceTimer st.cs h
    { st with cs := r.1, moved := st.moved ++ [h],
              wrapped := if r.2 then st.wrapped ++ [h] else st.wrapped }
  else st

/-- A timer that names a wrapping channel returns under SYNC or starts under TRIGGER; each timer wraps
at most once in a step (R106, R107, R109). A timer that is in STEADY mode or has period 0 does not
wrap (R99, log 20). -/
def followWrap (st : TimerStep) (h : Fin 16) : TimerStep :=
  if head st.cs h != h || st.wrapped.contains h then st
  else
    match (st.cs.row h).set.sync with
    | .free => st
    | .sync c =>
      if st.wrapped.contains (head st.cs c) && countingHead st.cs h then
        { st with cs := zeroCount st.cs h, wrapped := st.wrapped ++ [h] }
      else st
    | .trigger c =>
      if st.wrapped.contains (head st.cs c) && !(st.cs.row h).running then
        let cs := zeroCount (st.cs.put h { st.cs.row h with running := true }) h
        if countingHead cs h then
          { st with cs := cs, wrapped := st.wrapped ++ [h], started := st.started ++ [h] }
        else { st with cs := cs }
      else st

/-- The wraps of a step are followed through the sync references: sixteen rounds reach every timer
(R109). -/
def followWraps : Nat → TimerStep → TimerStep
  | 0, st => st
  | n + 1, st => followWraps n ((List.finRange 16).foldl followWrap st)

/-- At a wrap, PWM takes the compare last set as A in force (R104; log 24). -/
def takeA (cs : Chans) (h : Fin 16) : Chans :=
  if (cs.row h).set.mode == .pwm then onMembers cs h (fun c => { c with aInForce := c.set.cmpA })
  else cs

/-- The timer's position equals a compare value that lies within its periods (R100, R111). -/
def arrivedAt (cs : Chans) (h : Fin 16) (cmp : ChannelSettings → Nat) : Bool :=
  (members cs h).all (fun ch =>
    let c := cs.row ch
    c.count == cmp c.set && decide (cmp c.set < c.set.period))

/-- The output and pulse phase after the compare events of one step (R101, R102, R103). -/
def compareEvents (mode : TimerMode) (phase : PulsePhase) (out a b : Bool) : Bool × PulsePhase :=
  match mode with
  | .steady | .pwm => (out, phase)
  | .setAtA => (out || a, phase)
  | .clearAtA => (out && !a, phase)
  | .toggleAtA => (out != a, phase)
  | .pulseOnce =>
    match phase with
    | .waitA => if a then (true, .waitB) else (out, .waitA)
    | .waitB => if b then (false, .finished) else (out, .waitB)
    | .finished => (out, .finished)
  | .pulseRepeat =>
    match phase with
    | .waitB => if b then (if a then (true, .waitB) else (false, .waitA)) else (out, .waitB)
    | p => if a then (true, .waitB) else (out, p)

/-- The timer output is the output of every channel of the timer (R111). -/
def setOut (cs : Chans) (h : Fin 16) (out : Bool) : Chans :=
  onMembers cs h (fun c => { c with timerOut := out })

/-- The PWM output (R104, R111). -/
def pwmOut (cs : Chans) (h : Fin 16) : Bool :=
  if !hasPeriod cs h || heldByTrigger cs h then false
  else
    let c := cs.row h
    if paired cs h then
      let l := cs.row (partner h)
      if c.aInForce == 0 && l.aInForce == 0 then false
      else if c.set.period ≤ c.aInForce then true
      else decide (c.count < c.aInForce) || (c.count == c.aInForce && decide (l.count < l.aInForce))
    else if c.aInForce == 0 then false
    else if c.set.period ≤ c.aInForce then true
    else decide (c.count < c.aInForce)

/-- What a timer's state comes to by its settings: a timer that is not counting stands at 0 (R99);
STEADY follows the requested level (R101); PWM with period 0 takes a written A at once, and its
output is decided afresh (R104). The period judged is the one written: a write of PWM that takes the period from
0 to another value keeps the former A in force until the next wrap (log 68). -/
def settle (cs : Chans) (h : Fin 16) : Chans :=
  let cs := if countingHead cs h then cs else zeroCount cs h
  match (cs.row h).set.mode with
  | .steady => onMembers cs h (fun c => { c with timerOut := c.requested })
  | .pwm =>
    let cs := if hasPeriod cs h then cs else onMembers cs h (fun c => { c with aInForce := c.set.cmpA })
    setOut cs h (pwmOut cs h)
  | _ => cs

/-- The compare events of a timer that advanced, wrapped, returned or started in the step, and the return
to HELD of a TRIGGER timer that stops at B; a start is not such an arrival (R100, R107, R109). The pulse
phase of a pair is kept in the even channel's record alone; the odd one's stands as last entered
(log 57). -/
def compareTimer (st : TimerStep) (cs : Chans) (h : Fin 16) : Chans :=
  if st.moved.contains h || st.wrapped.contains h then
    let a := arrivedAt cs h ChannelSettings.cmpA
    let b := arrivedAt cs h ChannelSettings.cmpB
    let c := cs.row h
    let r := compareEvents c.set.mode c.phase c.timerOut a b
    let cs := setOut (cs.put h { c with phase := r.2 }) h r.1
    match c.set.sync with
    | .trigger _ =>
      if c.set.stopAtB && b && !st.started.contains h then
        zeroCount (cs.put h { cs.row h with running := false }) h
      else cs
    | _ => cs
  else cs

/-- One TIMER STEP of number `n` (R99 to R111): the table it leaves, and the timers that wrapped. Counting
timers advance, returns and starts follow, PWM takes its new A, the compare events act, and PWM
outputs are decided. -/
def stepTimers (n : Nat) (cs : Chans) : Chans × List (Fin 16) :=
  let st := (List.finRange 16).foldl (advanceDue n)
    { cs := cs, moved := [], wrapped := [], started := [] }
  let st := followWraps 16 st
  let cs := st.wrapped.foldl takeA st.cs
  let cs := (List.finRange 16).foldl (compareTimer st) cs
  let cs := (List.finRange 16).foldl
    (fun cs h => if head cs h == h && (cs.row h).set.mode == .pwm then settle cs h else cs) cs
  (cs, st.wrapped)

/-! ## Writes of the settings -/

/-- The output with which a mode is entered (R101, R102, R103); STEADY and PWM are settled after. -/
def entryOut (mode : TimerMode) (requested : Bool) : Bool :=
  match mode with
  | .steady => requested
  | .clearAtA => true
  | _ => false

/-- A channel enters the mode by which it now acts: entry output, pulse phase WAIT_A, and under PWM the
written A in force (R101 to R104). -/
def enterMode (cs : Chans) (ch : Fin 16) : Chans :=
  let m := actingMode cs ch
  let c := cs.row ch
  cs.put ch { c with timerOut := entryOut m c.requested,
                     phase := if m == .pulseOnce || m == .pulseRepeat then .waitA else c.phase,
                     aInForce := if m == .pwm then c.set.cmpA else c.aInForce }

/-- A change of the cascade field: both counts 0, entry outputs, WAIT_A, HELD (R110). A in force is taken
by a channel whose acting mode has become PWM (log 25). -/
def joinOrSplit (old cs : Chans) (e : Fin 16) : Chans :=
  [e, partner e].foldl (fun cs ch =>
    let m := actingMode cs ch
    let c := cs.row ch
    cs.put ch { c with count := 0, timerOut := entryOut m c.requested, phase := .waitA,
                       running := false,
                       aInForce := if m == .pwm && actingMode old ch != .pwm then c.set.cmpA
                                   else c.aInForce }) cs

/-- The sync written makes a TRIGGER timer HELD at 0 when it is a change into TRIGGER c (R107). -/
def syncWritten (old cs : Chans) (ch : Fin 16) : Chans :=
  match (cs.row ch).set.sync with
  | .trigger _ =>
    if (old.row ch).set.sync == (cs.row ch).set.sync then cs
    else zeroCount (cs.put ch { cs.row ch with running := false }) ch
  | _ => cs

/-- The mode written: a change enters the mode, and every write that carries PULSE_ONCE starts a new
pulse (R101, R102). -/
def modeWritten (old cs : Chans) (ch : Fin 16) : Chans :=
  if (old.row ch).set.mode == (cs.row ch).set.mode && (cs.row ch).set.mode != .pulseOnce then cs
  else (members cs ch).foldl enterMode cs

/-- What a taken write of a channel's entry does to its timer, after the settings are stored: `old` is
the table before the write (R98 to R111). The mode, sync and stop at B of the odd channel of a joined
pair are stored and unused (R111). -/
def timerWritten (old cs : Chans) (ch : Fin 16) : Chans :=
  let cs :=
    if (old.row ch).set.joined != (cs.row ch).set.joined && !isOdd ch then joinOrSplit old cs ch
    else if head cs ch == ch then modeWritten old (syncWritten old cs ch) ch
    else cs
  settle (settle cs (head cs ch)) (head cs (partner ch))

/-- A timer after OPS_RESET (R113): count 0 without a wrap, a TRIGGER timer HELD, A in force the entry's
A, the entry output of the mode, pulse phase WAIT_A. -/
def resetTimer (cs : Chans) (ch : Fin 16) : Chans :=
  let c := cs.row ch
  cs.put ch { c with count := 0,
                     running := match (cs.row (head cs ch)).set.sync with
                       | .trigger _ => false
                       | _ => c.running,
                     aInForce := c.set.cmpA, phase := .waitA,
                     timerOut := entryOut (actingMode cs ch) c.requested }

/-- Every timer after OPS_RESET, PWM outputs decided (R113). -/
def resetTimers (cs : Chans) : Chans :=
  let cs := (List.finRange 16).foldl resetTimer cs
  (List.finRange 16).foldl (fun cs ch => settle cs (head cs ch)) cs

end Sys2Proof.Machine
end

