-- ==== Sys2Proof/Machine/Out.lean ====
section
/-! DEFINITION. OUT: levels, conduction and the pin, forcing, current supervision and restart, the
channel entry write, and the meanings of OUT's commands (R77 to R113). -/

namespace Sys2Proof.Machine

/-! ## The pin state (R79, R81, R82) -/

/-- SINK, SOURCE and PUSH_PULL are the active configurations (R79). -/
def Configuration.active : Configuration → Bool
  | .off | .float => false
  | .sink | .source | .pushPull => true

/-- The state of a channel, from its cut-off and its forcing status (R87). -/
def Channel.state (c : Channel) : ChannelState :=
  if c.cutOff then .cutOff else if c.status = .clear then .normal else .forced

/-- The TIMED LEVEL (R81). -/
def timedLevel (cs : Chans) (ch : Fin 16) : Bool :=
  let c := cs.row ch
  c.requested && (actingMode cs ch == .steady || c.timerOut)

/-- The EFFECTIVE LEVEL before inversion: the forced state while the forcing status is not CLEAR, in CUT_OFF
too (R81; log 55). -/
def effectiveLevel (cs : Chans) (ch : Fin 16) : Level :=
  let c := cs.row ch
  if c.status = .clear then (if timedLevel cs ch then .on else .off) else c.set.forced

/-- Inversion: ON becomes OFF and OFF becomes ON; FLOAT stays FLOAT (R81). -/
def Level.invertIf (inv : Bool) : Level → Level
  | .float => .float
  | .on => if inv then .off else .on
  | .off => if inv then .on else .off

/-- The gate condition is TRUE, or is NONE (R86). -/
def State.gateOpen (s : State) (gate : Option (Fin 64)) : Bool :=
  match gate with
  | none => true
  | some c => s.cond c

/-- A channel conducts (R82). -/
def State.conducts (s : State) (ch : Fin 16) : Bool :=
  let c := s.chans.row ch
  c.set.config.active && !c.cutOff && s.gateOpen c.set.gate
    && ((effectiveLevel s.chans ch).invertIf c.set.invert == .on)

/-- The pin drive of a configuration (R79). A PUSH_PULL channel whose effective level is FLOAT has both
switches off, in CUT_OFF too (log 55). -/
def pinDrive (config : Configuration) (conducting : Bool) (level : Level) : PinDrive :=
  match config with
  | .off => .passiveLow
  | .float => .highImpedance
  | .sink => if conducting then .lowSideOn else .bothOff
  | .source => if conducting then .highSideOn else .bothOff
  | .pushPull =>
    if conducting then .highSideOn else if level = .float then .bothOff else .lowSideOn

/-- Conduction and the pin are recomputed. A channel that starts or stops conducting has supervision
QUIET (R82, R92). -/
def State.conduct (s : State) (ch : Fin 16) : State :=
  let c := s.chans.row ch
  let on := s.conducts ch
  let pin := pinDrive c.set.config on (effectiveLevel s.chans ch)
  if c.conducting = on then s.setChan ch { c with pin := pin }
  else s.setChan ch { c with conducting := on, pin := pin, supervision := none, current := 0 }

/-- Conduction is recomputed for channels in the order given. -/
def State.conductAll (s : State) (chs : List (Fin 16)) : State := chs.foldl State.conduct s

/-! ## Requested levels (R83) -/

/-- The requested level of a channel is set; in STEADY the timer output follows it (R81, R101). Conduction is
recomputed also where the level set is the one requested already (log 72). -/
def State.setLevel (s : State) (ch : Fin 16) (on : Bool) : State :=
  let c := s.chans.row ch
  (s.setChan ch { c with requested := on,
                         timerOut := if actingMode s.chans ch = .steady then on else c.timerOut }).conduct ch

/-- An owner sets the level of its channel. A block that is not the owner is not taken, and in SETUP an
ON from a ramp, door or lamp zone is not taken (R83). A level set again unchanged recomputes too (log 72). -/
def State.ownerLevel (s : State) (o : Owner) (ch : Option (Fin 16)) (on : Bool) : State :=
  match ch with
  | none => s
  | some ch =>
    if (s.chans.row ch).set.owner = o ∧ ¬ (on = true ∧ s.req.mode = .setup) then s.setLevel ch on else s

/-- COMPARE UPDATE by the owner: the compare A is set as a written A is under R104 (R105; log 23). Conduction is
recomputed also where no timer output moves (log 72). -/
def State.compareUpdate (s : State) (o : Owner) (ch : Option (Fin 16)) (a : Nat) : State :=
  match ch with
  | none => s
  | some ch =>
    let c := s.chans.row ch
    if c.set.owner = o then
      let cs := s.chans.put ch { c with set := { c.set with cmpA := a } }
      let s := s.setChans (settle cs (head cs ch))
      s.conductAll (members s.chans (head s.chans ch))
    else s

/-! ## Forcing (R87 to R91) -/

/-- The forcing source is ACTIVE (R87). -/
def State.forcingActive (s : State) (f : Forcing) : Bool :=
  match f with
  | .none => false
  | .faultA => s.cond condFaultA
  | .faultB => s.cond condFaultB
  | .termFalse t => !s.term t

/-- An event is handed to a channel's owner; a FREE channel has none (R88, R92). -/
def State.handOwner (s : State) (mk : Owner → Fin 16 → Instr) (ch : Fin 16) : State :=
  let o := (s.chans.row ch).set.owner
  if o = .free then s else s.hand (mk o ch)

/-- An AWAITING_WRAP status whose channel is not cut off and whose timer is not counting is released at
once (R89). -/
def State.releaseIfStill (s : State) (ch : Fin 16) : State :=
  let c := s.chans.row ch
  if c.status = .awaitingWrap ∧ c.cutOff = false ∧ counting s.chans ch = false then
    s.setChan ch { c with status := .clear }
  else s

/-- The forcing source of a channel is judged (R88, R89). A status that moves recomputes conduction, also where
the channel's state stands (log 72). -/
def State.judgeForcing (s : State) (ch : Fin 16) : State :=
  let c := s.chans.row ch
  if s.forcingActive c.set.forcing then
    match c.status with
    | .engaged => s
    | .awaitingWrap => (s.setChan ch { c with status := .engaged }).conduct ch
    | .clear =>
      let s := s.setChan ch { c with status := .engaged }
      (if c.cutOff then s else s.handOwner .forcedEvent ch).conduct ch
  else if c.status = .engaged ∧ c.set.latched = false then
    ((s.setChan ch { c with status := .awaitingWrap }).releaseIfStill ch).conduct ch
  else s

/-! ## Cut-off and restart (R92, R93) -/

/-- The limit of a class in mA. -/
def LimitClass.milliamps : LimitClass → Nat
  | .a025 => 250 | .a050 => 500 | .a100 => 1000 | .a200 => 2000

/-- The cut-off delay in microseconds. -/
def CutDelay.micros : CutDelay → Nat
  | .us100 => 100 | .us500 => 500 | .ms2 => 2000 | .ms10 => 10000

/-- The restart delay in milliseconds; none for MANUAL. -/
def RestartDelay.millis : RestartDelay → Option Nat
  | .manual => none | .ms20 => some 20 | .ms100 => some 100 | .ms500 => some 500
  | .ms2000 => some 2000

/-- The current of a conducting channel is compared with its limit class: an onset starts the cut-off
delay, a recovery ends it (R92, R95). -/
def State.supervise (s : State) (ch : Fin 16) : State :=
  let c := s.chans.row ch
  if c.conducting = false then s
  else
    match c.supervision with
    | none =>
      if c.set.limit.milliamps < c.current then
        s.setChan ch { c with supervision := some (s.clock + c.set.cutDelay.micros) }
      else s
    | some _ =>
      if c.current ≤ c.set.limit.milliamps then s.setChan ch { c with supervision := none } else s

/-- The current in the switch of a conducting channel is measured (R92); a switch that is off carries
none. -/
def State.measure (s : State) (ch : Fin 16) (mA : Nat) : State :=
  let c := s.chans.row ch
  if c.conducting then (s.setChan ch { c with current := mA }).supervise ch else s

/-- The channel is cut off in one event (R92). -/
def State.cutOffNow (s : State) (ch : Fin 16) : State :=
  let c := s.chans.row ch
  let restart : Restart :=
    match c.set.restartDelay.millis with
    | none => .waitingManual
    | some d => .running (s.clock + ms d)
  let s := s.setChan ch { c with restart := restart, supervision := none,
                                 cutOffs := satAdd 255 c.cutOffs 1 }
  let s := s.conduct ch
  let s := s.handOwner .cutoffEvent ch
  let s := s.followCut ch
  s.notice 6 ch.val

/-- The channel leaves CUT_OFF (R93). A FORCED event is handed when its forcing status is not CLEAR; an
AWAITING_WRAP status whose timer is not counting is then released at once (R89; log 22). -/
def State.leaveCutOff (s : State) (ch : Fin 16) : State :=
  let c := s.chans.row ch
  let s := s.setChan ch { c with restart := .none }
  let s := if c.status = .clear then s else s.handOwner .forcedEvent ch
  let s := s.releaseIfStill ch
  let s := s.followCut ch
  s.conduct ch

/-! ## The channel entry write (R78, R91, R95) -/

/-- What a taken channel entry write does after its settings are stored; `old` is the table before the
write. Conduction of the channel and of its pair partner is recomputed at every such write (log 72). -/
def State.channelWritten (old : Chans) (ch : Fin 16) (s : State) : State :=
  let o := (old.row ch).set
  let c := s.chans.row ch
  let n := c.set
  let s := if o.owner = n.owner then s else s.setChan ch { c with requested := false }
  let s := s.setChans (timerWritten old s.chans ch)
  let s :=
    if o.forcing = n.forcing ∧ o.forced = n.forced ∧ o.latched = n.latched then s
    else s.judgeForcing ch
  let s := s.conductAll [ch, partner ch]
  if o.limit = n.limit then s else s.supervise ch

/-! ## Resets (R97, R113) -/

/-- One channel's own reset: level OFF, out of CUT_OFF, supervision QUIET, forcing CLEAR, count of cut-offs
0 (R97). -/
def Channel.opsReset (c : Channel) : Channel :=
  { c with requested := false, restart := .none, supervision := none, status := .clear, cutOffs := 0 }

/-- OPERATIONS RESET OF OUT. Forcing is judged afresh, in channel order (log 67), and conduction recomputed
from the result; the CHANNEL_CUT conditions follow with COND's reset (R97, R52, R113; log 28). -/
def State.resetOut (s : State) : State :=
  let cs := (List.finRange 16).foldl (fun cs ch => cs.put ch (cs.row ch).opsReset) s.chans
  let s := s.setChans (resetTimers cs)
  let s := (List.finRange 16).foldl State.judgeForcing s
  s.conductAll (List.finRange 16)

/-! ## Meanings -/

/-- One microsecond of a rate generator that counts it: the count reaches the divisor in force, gives an
output, and the written settings take effect (R56). -/
def RateGen.tick (g : RateGen) (divisor : Nat) (input : BInput) : RateGen × Bool :=
  if g.divisor ≤ g.count + 1 then ({ count := 0, divisor := divisor, input := input }, true)
  else ({ g with count := g.count + 1 }, false)

/-- The rate generators count one microsecond of the reference, and hand their outputs to SCAN (R56;
log 5). -/
def State.tickGenerators (s : State) : State :=
  let x := s.scan
  let a := x.genA.tick x.settings.nA .reference
  let counts := match x.genB.input with | .reference => true | .a => a.2
  let b := if counts then x.genB.tick x.settings.nB x.settings.bInput else (x.genB, false)
  let s := s.setScan { x with genA := a.1, genB := b.1 }
  let s := if a.2 then s.hand (.rateGeneratorOutput .a) else s
  if b.2 then s.hand (.rateGeneratorOutput .b) else s

/-- An unlatched forcing that awaits the wrap of its timer is released by it (R89; log 21). -/
def State.releaseAtWrap (s : State) (ch : Fin 16) : State :=
  let c := s.chans.row ch
  if c.status = .awaitingWrap ∧ c.cutOff = false then
    (s.setChan ch { c with status := .clear }).conduct ch
  else s

/-- TIMER STEP (R99 to R111): the timers step, AWAITING_WRAP forcing is released at the wraps, and the
conduction of every channel whose timer output changed is recomputed (log 40). -/
def State.timerStep (s : State) : State :=
  let before := s.chans
  let s := { s with clock := s.clock + 1 }
  let r := stepTimers s.clock s.chans
  let s := s.setChans r.1
  let s := (List.finRange 16).foldl
    (fun s ch => if r.2.contains (head s.chans ch) then s.releaseAtWrap ch else s) s
  let s := s.conductAll ((List.finRange 16).filter
    (fun ch => (before.row ch).timerOut != (s.chans.row ch).timerOut))
  s.tickGenerators

/-- TIMER_STEP. -/
def execTimerStep (s : State) : Host.Outcome State Fault Refusal :=
  event .timerStep State.timerStep s

/-- OVER_CURRENT_ONSET: the current rises above the limit class (R92). -/
def execOverCurrentOnset (ch : Fin 16) (mA : Nat) (s : State) : Host.Outcome State Fault Refusal :=
  event (.overCurrentOnset ch mA) (fun s => s.measure ch mA) s

/-- CURRENT_RECOVERY: the current falls to or below the limit class (R92). -/
def execCurrentRecovery (ch : Fin 16) (mA : Nat) (s : State) : Host.Outcome State Fault Refusal :=
  event (.currentRecovery ch mA) (fun s => s.measure ch mA) s

/-- CUT_OFF_DELAY_EXPIRY: acts on a channel in TIMING (R92). -/
def execCutOffDelayExpiry (ch : Fin 16) (s : State) : Host.Outcome State Fault Refusal :=
  event (.cutOffDelayExpiry ch)
    (fun s => if (s.chans.row ch).supervision.isSome then s.cutOffNow ch else s) s

/-- RESTART_DELAY_EXPIRY: acts on a RUNNING restart (R93). -/
def execRestartDelayExpiry (ch : Fin 16) (s : State) : Host.Outcome State Fault Refusal :=
  event (.restartDelayExpiry ch)
    (fun s => match (s.chans.row ch).restart with
      | .running _ => s.leaveCutOff ch
      | _ => s) s

/-- A request that names a channel: outside 0..15 it is refused with BAD_VALUE; else `f` gives the result
and the effect, and the REPLY follows (R84, R90, R94, R108). -/
def State.onChannel (s : State) (rq : Requester) (op : Byte) (ch : Byte)
    (f : Fin 16 → State → Code × State) : State :=
  match fin? 16 ch with
  | none => s.reply rq op .badValue []
  | some ch =>
    let r := f ch s
    r.2.reply rq op r.1 []

/-- CHANNEL_SET on a channel 0..15. One that repeats the level already requested changes nothing (R84). -/
def channelSet (level : Byte) (ch : Fin 16) (s : State) : Code × State :=
  match flag? level with
  | none => (.badValue, s)
  | some on =>
    let c := s.chans.row ch
    if c.set.owner ≠ .free then (.notOwner, s)
    else (.done, if c.requested = on then s else s.setLevel ch on)

/-- CHANNEL_RESTORE on a channel 0..15 (R94). -/
def channelRestore (ch : Fin 16) (s : State) : Code × State :=
  if (s.chans.row ch).cutOff then (.done, s.leaveCutOff ch) else (.done, s)

/-- FORCE_CLEAR on a channel 0..15 (R90; log 72). On AWAITING_WRAP it is DONE without effect, also where the source
is ACTIVE again and OUT has not judged it yet (log 56). On ENGAGED with the source INACTIVE it releases an unlatched
channel as well as a latched one, where OUT has not judged the fall of the source yet (log 75). -/
def forceClear (ch : Fin 16) (s : State) : Code × State :=
  let c := s.chans.row ch
  if c.status = .engaged then
    if s.forcingActive c.set.forcing then (.busy, s)
    else (.done, ((s.setChan ch { c with status := .awaitingWrap }).releaseIfStill ch).conduct ch)
  else (.done, s)

/-- TRIGGER_CLEAR on a channel 0..15 (R108, R111; log 72). -/
def triggerClear (ch : Fin 16) (s : State) : Code × State :=
  let h := head s.chans ch
  if h ≠ ch then (.badValue, s)
  else
    match (s.chans.row ch).set.sync with
    | .trigger _ =>
      if (s.chans.row ch).running then
        let cs := s.chans.put ch { s.chans.row ch with running := false }
        let s := s.setChans (settle (zeroCount cs ch) ch)
        (.done, s.conductAll (members s.chans ch))
      else (.done, s)
    | _ => (.badValue, s)

/-- CHANNEL_SET (R84). -/
def execChannelSet (rq : Requester) (ch level : Byte) (s : State) : Host.Outcome State Fault Refusal :=
  event (.channelSet rq ch level)
    (asRequest (fun s => s.onChannel rq 0x08 ch (channelSet level))) s

/-- CHANNEL_RESTORE (R94). -/
def execChannelRestore (rq : Requester) (ch : Byte) (s : State) : Host.Outcome State Fault Refusal :=
  event (.channelRestore rq ch) (asRequest (fun s => s.onChannel rq 0x09 ch channelRestore)) s

/-- FORCE_CLEAR (R90). -/
def execForceClear (rq : Requester) (ch : Byte) (s : State) : Host.Outcome State Fault Refusal :=
  event (.forceClear rq ch) (asRequest (fun s => s.onChannel rq 0x0A ch forceClear)) s

/-- TRIGGER_CLEAR (R108). -/
def execTriggerClear (rq : Requester) (ch : Byte) (s : State) : Host.Outcome State Fault Refusal :=
  event (.triggerClear rq ch) (asRequest (fun s => s.onChannel rq 0x0B ch triggerClear)) s

end Sys2Proof.Machine
end

