-- ==== Sys2Proof/Machine/Call.lean ====
section
/-! DEFINITION. CALL: queueing, the zone arbiter, the exchange with the PA station, lamps, and the
meanings of CALL's commands (R160 to R176). -/

namespace Sys2Proof.Machine

/-- The notice kind PA_FAULT. -/
def noticePaFault : Fin 13 := 11

/-- Microseconds in a number of seconds. -/
def seconds (n : Nat) : Nat := n * 1000000

/-- The time of one lamp step, 62.5 ms (R173). -/
def lampStepTime : Nat := 62500

/-- The members of a zone set, in ascending order (R190). -/
def zonesOf (z : BitVec 16) : List (Fin 16) := (List.finRange 16).filter (fun i => z.getLsbD i.val)

/-! ## A CALL event in progress -/

/-- A CALL event in progress: the records, the cancel frames by slot, and the CALL frames of the slots
that won, in order (R166). A frame is its tag and its payload. -/
structure CallRun where
  call    : Call
  cancels : List (Fin 16 × Byte × List Byte)
  wins    : List (Byte × List Byte)
  deriving DecidableEq, Repr

/-- The payload of a CALL or cancel frame (R192). -/
def callPayload (message : Nat) (x : Slot) : List Byte :=
  u8 message :: (bytesOf16 x.zones ++ [u8 x.priority])

/-- Every zone that slot `k` holds has holder NONE. -/
def Call.giveUp (c : Call) (k : Fin 16) : Call :=
  { c with zones := c.zones.map (fun z => if z.holder = some k then { z with holder := none } else z) }

/-- The cancel frame of a SPEAKING slot is recorded (R166). -/
def CallRun.cancel (r : CallRun) (k : Fin 16) (x : Slot) : CallRun :=
  match x.state, x.token with
  | .speaking, some t => { r with cancels := r.cancels ++ [(k, t, callPayload 0 x)] }
  | _, _ => r

/-- A slot becomes FREE, with a cancel frame when it was SPEAKING (R172). -/
def CallRun.free (r : CallRun) (k : Fin 16) : CallRun :=
  match r.call.slots.row k with
  | none => r
  | some x =>
    let r := r.cancel k x
    { r with call := { r.call.giveUp k with slots := r.call.slots.put k none } }

/-- PREEMPTION of slot `k` (R166). -/
def CallRun.displace (r : CallRun) (k : Fin 16) : CallRun :=
  match r.call.slots.row k with
  | none => r
  | some x =>
    let r := r.cancel k x
    let x := { x with state := .waiting, token := none, limit := none, interval := none,
                      lampDue := none }
    { r with call := { r.call.giveUp k with slots := r.call.slots.put k (some x) } }

/-- A token is that of a SPEAKING slot. -/
def Call.tokenInPlay (c : Call) (t : Byte) : Bool :=
  (List.finRange 16).any (fun k =>
    match c.slots.row k with
    | none => false
    | some x => x.state == .speaking && x.token == some t)

/-- The token counter advances past the tokens in play; fifteen other slots hold at most fifteen
(R167). -/
def Call.freeToken (c : Call) : Nat → Byte → Byte
  | 0, t => t
  | n + 1, t => if c.tokenInPlay t then c.freeToken n (t + 1) else t

/-- ENTRY TO SPEAKING: the slot takes a token, its CALL frame is built and its limit timer starts
(R167). -/
def CallRun.speak (r : CallRun) (k : Fin 16) (x : Slot) (now : Nat) : CallRun :=
  let t := r.call.freeToken 16 r.call.token
  let x := { x with state := .speaking, token := some t,
                    limit := some (now + seconds r.call.paLimit), interval := none }
  { r with call := { r.call with slots := r.call.slots.put k (some x), token := t + 1 },
           wins := r.wins ++
             [(t, callPayload (r.call.templates.row x.template).message x)] }

/-! ## The zone arbiter (R165) -/

/-- A WAITING slot can win: no zone of it is held by a slot of equal or higher priority (R165). -/
def Call.canWin (c : Call) (x : Slot) : Bool :=
  (zonesOf x.zones).all (fun z =>
    match (c.zones.row z).holder with
    | none => true
    | some j =>
      match c.slots.row j with
      | none => true
      | some y => decide (y.priority < x.priority))

/-- Arbiter order: higher priority first, then the lower arrival number (R165). -/
def Slot.before (x y : Slot) : Bool :=
  decide (y.priority < x.priority) || (x.priority == y.priority && decide (x.arrival < y.arrival))

/-- The first WAITING slot in arbiter order that can win. -/
def Call.firstWinner (c : Call) : Option (Fin 16 × Slot) :=
  (List.finRange 16).foldl (fun best k =>
    match c.slots.row k with
    | none => best
    | some x =>
      if x.state == .waiting && c.canWin x then
        match best with
        | none => some (k, x)
        | some b => if x.before b.2 then some (k, x) else best
      else best) none

/-- A slot wins: it displaces the holders of its zones, takes the zones, starts its lamp pattern and
enters SPEAKING (R165, R166, R167, R173). -/
def CallRun.win (r : CallRun) (k : Fin 16) (x : Slot) (now : Nat) : CallRun :=
  let holders := (List.finRange 16).filter (fun j =>
    (zonesOf x.zones).any (fun z => (r.call.zones.row z).holder == some j))
  let r := holders.foldl CallRun.displace r
  let zones := (zonesOf x.zones).foldl
    (fun zs z => zs.put z { zs.row z with holder := some k }) r.call.zones
  let r := { r with call := { r.call with zones := zones } }
  r.speak k { x with lampStep := 0, lampDue := some (now + lampStepTime) } now

/-- A run of the arbiter: at most as many wins as there are slots (R165). -/
def CallRun.arbitrate (now : Nat) : Nat → CallRun → CallRun
  | 0, r => r
  | n + 1, r =>
    match r.call.firstWinner with
    | none => r
    | some w => CallRun.arbitrate now n (r.win w.1 w.2 now)

/-! ## The end of a CALL event -/

/-- The level a slot's pattern gives at its lamp step (R173). -/
def Call.lampLevel (c : Call) (holder : Option (Fin 16)) : Bool :=
  match holder with
  | none => false
  | some k =>
    match c.slots.row k with
    | none => false
    | some x => (c.templates.row x.template).pattern.getLsbD x.lampStep.val

/-- The lamp of a zone is set to its holder's level, or OFF with no holder (R173). -/
def State.setLamp (s : State) (z : Fin 16) : State :=
  let x := s.call.zones.row z
  s.ownerLevel (.lamp z) x.lamp (s.call.lampLevel x.holder)

/-- Frames to the PA node: every cancel frame in ascending slot order, then the CALL frames in the order
of the wins (R166). -/
def State.callFrames (s : State) (r : CallRun) : State :=
  let cancels := (List.finRange 16).flatMap
    (fun k => (r.cancels.filter (fun f => f.1 == k)).map Prod.snd)
  (cancels ++ r.wins).foldl (fun s f => s.emit s.call.paNode kindCall f.1 f.2) s

/-- A CALL event ends: the records are stored, the frames are offered, and the lamp of every zone whose
holder has changed is set (R166, R173). -/
def State.endCall (s : State) (r : CallRun) : State :=
  let old := s.call.zones
  let s := (s.setCall r.call).callFrames r
  ((List.finRange 16).filter (fun z => (old.row z).holder != (s.call.zones.row z).holder)).foldl
    State.setLamp s

/-- A CALL event that has freed slots or made one WAITING ends with a run of the arbiter (R165). -/
def State.arbiter (s : State) (r : CallRun) : State := s.endCall (r.arbitrate s.clock 16)

/-- No frame yet. -/
def Call.run (c : Call) : CallRun := { call := c, cancels := [], wins := [] }

/-! ## Queueing (R164) -/

/-- A slot holds the same call (R164). -/
def Call.sameCall (c : Call) (t : Fin 32) (zones : BitVec 16) : Option (Fin 16) :=
  (List.finRange 16).find? (fun k =>
    match c.slots.row k with
    | none => false
    | some x => x.template == t && x.zones == zones)

/-- The lowest-numbered free slot (R164). -/
def Call.freeSlot (c : Call) : Option (Fin 16) :=
  (List.finRange 16).find? (fun k => (c.slots.row k).isNone)

/-- The number of occupied slots. -/
def Call.occupied (c : Call) : Nat := (List.finRange 16).countP (fun k => (c.slots.row k).isSome)

/-- Slot `j` is older than slot `k` holding `x`. -/
def Call.older (c : Call) (k : Fin 16) (x : Slot) (j : Fin 16) : Bool :=
  match c.slots.row j with
  | none => false
  | some y => decide (y.arrival < x.arrival) || (y.arrival == x.arrival && decide (j.val < k.val))

/-- The arrival numbers become 0, 1, 2 and so on in their age order, and the counter continues from the
number of occupied slots (R164). -/
def Call.renumber (c : Call) : Call :=
  { c with slots := Vector.ofFn (fun k => (c.slots.row k).map (fun x =>
      { x with arrival := (List.finRange 16).countP (c.older k x) })),
           arrival := c.occupied }

/-- ACCEPTANCE into a free slot: WAITING (R164). -/
def Call.accept (c : Call) (k : Fin 16) (t : Fin 32) (zones : BitVec 16) : Call :=
  let c := if 65535 ≤ c.arrival then c.renumber else c
  let m := c.templates.row t
  { c with
    slots := c.slots.put k (some
      { template := t, zones := zones, priority := m.priority, left := m.repeats,
        arrival := c.arrival, state := .waiting, token := none, limit := none, interval := none,
        lampStep := 0, lampDue := none, lastAnswer := .none }),
    arrival := c.arrival + 1 }

/-- The template's allow term reads TRUE; NONE reads FALSE (R160). -/
def State.allows (s : State) (t : Fin 32) : Bool :=
  match (s.call.templates.row t).allow with
  | none => false
  | some a => s.term a

/-- CALL_QUEUE of a template 0..31, in SERVICE and allowed: MERGE, ACCEPTANCE or FULL (R164). -/
def queueAllowed (t : Fin 32) (zones : BitVec 16) (s : State) : Code × State :=
  match s.call.sameCall t zones with
  | some k =>
    match s.call.slots.row k with
    | none => (.done, s)
    | some x => (.done, s.setSlot k (some { x with left := (s.call.templates.row t).repeats }))
  | none =>
    match s.call.freeSlot with
    | some k => (.done, s.arbiter (s.call.accept k t zones).run)
    | none => (.full, s)

/-- CALL_QUEUE, whichever block sent it (R164). -/
def callQueue (t : Byte) (override : Option (BitVec 16)) (s : State) : Code × State :=
  match fin? 32 t with
  | none => (.badValue, s)
  | some t =>
    if override = some 0 then (.badValue, s)
    else if s.req.mode = .setup then (.refusedMode, s)
    else if s.allows t then
      queueAllowed t (override.getD (s.call.templates.row t).zones) s
    else (.termFalse, s)

/-! ## The end of a repetition (R169, R170) -/

/-- Repeats left is judged, and the slot enters INTERVAL or is freed (R169). -/
def State.endRepetition (s : State) (k : Fin 16) (x : Slot) (a : Answer) : State :=
  let x := { x with token := none, limit := none, lastAnswer := a }
  if x.left = 1 then
    let rested := s.setSlot k (some { x with left := 0, state := .interval })
    s.arbiter (rested.call.run.free k)
  else
    let due := s.clock + seconds (s.call.templates.row x.template).interval
    s.setSlot k (some { x with left := x.left - 1, state := .interval, interval := some due })

/-- An answer names a SPEAKING slot (R169). -/
def State.answeredSlot (s : State) (k : Fin 16) (x : Slot) (a : Answer) : State :=
  ((s.setCall { s.call with paRun := 0 }).setCond condPaFault false).endRepetition k x a

/-- The SPEAKING slot with a token. -/
def Call.speaker (c : Call) (t : Byte) : Option (Fin 16) :=
  (List.finRange 16).find? (fun k =>
    match c.slots.row k with
    | none => false
    | some x => x.state == .speaking && x.token == some t)

/-- The answer in a payload: 02h is REFUSED, and anything else PLAYED (R168, R192). -/
def answerOf (payload : List Byte) : Answer := if payload.head? = some 2 then .refused else .played

/-- A CALL_DONE is an ANSWER (R168; log 42). -/
def State.isAnswer (s : State) (src dst : Byte) : Bool :=
  src == s.call.paNode && s.call.paNode != 0 && (dst == 127 || some dst == s.own)

/-- CALL takes a CALL_DONE (R168). -/
def State.callDone (s : State) (src dst tag : Byte) (payload : List Byte) : State :=
  if s.isAnswer src dst then
    match s.call.speaker tag with
    | none => s.setCall { s.call with paLate := satAdd 65535 s.call.paLate 1 }
    | some k =>
      match s.call.slots.row k with
      | none => s
      | some x => s.answeredSlot k x (answerOf payload)
  else s

/-- The CALL_DONE limit of a SPEAKING slot expires (R170). The NOTICE of PA_FAULT is offered before the CALL
frames of the calls that win zones in the same event (log 61). -/
def State.limitExpired (s : State) (k : Fin 16) (x : Slot) : State :=
  let run := satAdd 255 s.call.paRun 1
  let s := s.setCall { s.call with paLate := satAdd 65535 s.call.paLate 1, paRun := run }
  let s :=
    if run = 2 then (s.setCond condPaFault true).notice noticePaFault s.call.paNode.toNat else s
  s.endRepetition k x .limit

/-! ## Cancel, mode and reset (R172, R174, R176) -/

/-- The slots that a CALL_CANCEL names: BY_SLOT 0, BY_TEMPLATE 1; none where it is refused (R172,
R191). -/
def Call.named (c : Call) (form index : Byte) : Option (List (Fin 16)) :=
  if form = 0 then (fin? 16 index).map (fun k => [k])
  else if form = 1 then
    (fin? 32 index).map (fun t => (List.finRange 16).filter (fun k =>
      match c.slots.row k with
      | none => false
      | some x => x.template == t))
  else none

/-- CALL_CANCEL, in either form (R172). -/
def callCancel (form index : Byte) (s : State) : Code × State :=
  match s.call.named form index with
  | none => (.badValue, s)
  | some ks => (.done, s.arbiter (ks.foldl CallRun.free s.call.run))

/-- Every lamp level is set by its zone's holder. -/
def State.setLamps (s : State) : State := (List.finRange 16).foldl State.setLamp s

/-- CALL ends every call: cancel frames in ascending slot order, slots FREE, holders NONE, lamps OFF
(R174, R176). -/
def State.endAllCalls (s : State) : State :=
  let r := (List.finRange 16).foldl CallRun.free s.call.run
  let zones := r.call.zones.map (fun z => { z with holder := none })
  let r := { r with call := { r.call with zones := zones } }
  ((s.setCall r.call).callFrames r).setLamps

/-- OPERATIONS RESET OF CALL; PA_FAULT falls with COND's reset (R176). -/
def State.resetCall (s : State) : State :=
  let s := s.endAllCalls
  s.setCall { s.call with paRun := 0 }

/-! ## Meanings -/

/-- The result of a queue request goes back to the block that sent it (R124, R148, R164). -/
def State.callResult (s : State) (o : CallOrigin) (c : Code) : State :=
  match o with
  | .request rq => s.reply rq 0x06 c []
  | .warning d => s.hand (.warningCallResult d c)
  | .stage r ask => s.hand (.callStageResult r ask c)

/-- CALL takes a CALL_QUEUE and returns its result. -/
def State.takeQueue (s : State) (o : CallOrigin) (t : Byte) (override : Option (BitVec 16)) : State :=
  let r := callQueue t override s
  r.2.callResult o r.1

/-- CALL_QUEUE, from REQ, DOOR or PLAN (R164). -/
def execCallQueue (o : CallOrigin) (t : Byte) (override : Option (BitVec 16)) (s : State) :
    Host.Outcome State Fault Refusal :=
  event (.callQueue o t override)
    (fun s => match o with
      | .request rq => asRequest (fun s => s.takeQueue (.request rq) t override) s
      | o => s.takeQueue o t override) s

/-- The match action QUEUE_CALL (R33). -/
def execQueueCall (e : Fin 64) (t : Byte) (override : Option (BitVec 16)) (s : State) :
    Host.Outcome State Fault Refusal :=
  event (.queueCall e t override) (asAction e (callQueue t override)) s

/-- CALL_CANCEL, from REQ or from DOOR at a release (R172). -/
def execCallCancel (o : CancelOrigin) (form index : Byte) (s : State) :
    Host.Outcome State Fault Refusal :=
  event (.callCancel o form index)
    (fun s => match o with
      | .request rq => asRequest (answered rq 0x07 (callCancel form index)) s
      | .release => (callCancel form index s).2) s

/-- CALL_DONE_RECEPTION (R168). -/
def execCallDoneReception (src dst tag : Byte) (payload : List Byte) (s : State) :
    Host.Outcome State Fault Refusal :=
  event (.callDoneReception src dst tag payload) (fun s => s.callDone src dst tag payload) s

/-- An event of an occupied slot. -/
def State.onSlot (s : State) (k : Fin 16) (f : Slot → State → State) : State :=
  match s.call.slots.row k with
  | none => s
  | some x => f x s

/-- CALL_DONE_LIMIT_EXPIRY: acts while the limit timer runs (R170). -/
def execCallDoneLimitExpiry (k : Fin 16) (s : State) : Host.Outcome State Fault Refusal :=
  event (.callDoneLimitExpiry k)
    (fun s => s.onSlot k (fun x s => if x.limit.isSome then s.limitExpired k x else s)) s

/-- INTERVAL_EXPIRY: acts while the interval timer runs (R171). -/
def execIntervalExpiry (k : Fin 16) (s : State) : Host.Outcome State Fault Refusal :=
  event (.intervalExpiry k)
    (fun s => s.onSlot k (fun x s =>
      if x.interval.isSome then s.endCall (s.call.run.speak k x s.clock) else s)) s

/-- The lamp step advances, and the lamps of the zones held follow (R173). -/
def State.stepLamp (s : State) (k : Fin 16) (x : Slot) (due : Nat) : State :=
  let s := s.setSlot k (some { x with lampStep := x.lampStep + 1, lampDue := some (due + lampStepTime) })
  ((List.finRange 16).filter (fun z => (s.call.zones.row z).holder == some k)).foldl State.setLamp s

/-- LAMP_STEP_EXPIRY: acts while the lamp step timer runs (R173). -/
def execLampStepExpiry (k : Fin 16) (s : State) : Host.Outcome State Fault Refusal :=
  event (.lampStepExpiry k)
    (fun s => s.onSlot k (fun x s =>
      match x.lampDue with
      | none => s
      | some due => s.stepLamp k x due)) s

end Sys2Proof.Machine
end

