-- ==== Sys2Proof/Machine/Door.lean ====
section
/-! DEFINITION. DOOR: the door states, the CLOSE SEQUENCE, the BACK-OFF CYCLE, release, limit switches,
and the meanings of DOOR's commands (R139 to R159). -/

namespace Sys2Proof.Machine

/-- The notice kind GROUP_CLOSED. -/
def noticeGroupClosed : Fin 13 := 9
/-- The notice kind DOOR_JAMMED. -/
def noticeJammed : Fin 13 := 10

/-- Microseconds in a time of 100 ms units. -/
def tenths (n : Nat) : Nat := n * 100000

/-- An expiry after a time of 100 ms units; a time of 0 sets none. -/
def State.expiry (s : State) (n : Nat) : Option Nat := if n = 0 then none else some (s.clock + tenths n)

/-- The close and open levels of a state (R142). -/
def DoorState.levels : DoorState → Bool × Bool
  | .closing => (true, false)
  | .backoff | .opening => (false, true)
  | .unset | .opened | .warning | .closed | .jammed => (false, false)

/-! ## A change of state (R142, R143) -/

/-- A group is all CLOSED; a door of no group has none (R143). -/
def State.allClosed (s : State) (g : Option (Fin 8)) : Bool :=
  match g with
  | none => false
  | some g => s.groupAll g .closed

/-- The state timer of a door that changes into a state: stopped at 0 in JAMMED (R152; log 35), and
otherwise restarted at 0 (R142). -/
def DoorState.timer (st : DoorState) (now : Nat) : Stopwatch :=
  match st with
  | .jammed => Stopwatch.zero
  | .unset | .opened | .warning | .closing | .closed | .backoff | .opening => Stopwatch.start now

/-- A door changes its state: the state timer restarts with its expiry, the lane and then the group conditions
are recomputed (log 67), and a group newly all CLOSED is a notice event. The levels are set at the end of the
event (R142, R143; log 47). -/
def State.doorTo (s : State) (d : Fin 24) (st : DoorState) (due : Option Nat) : State :=
  let x := s.door.doors.row d
  let was := s.allClosed x.set.group
  let s := s.setDoor d { x with state := st, timer := st.timer s.clock, due := due }
  let s := (s.followLane x.set.lane).followGroup x.set.group
  match x.set.group with
  | none => s
  | some g => if !was && s.groupAll g .closed then s.notice noticeGroupClosed g.val else s

/-- The attempt count of a door is set. -/
def State.setAttempts (s : State) (d : Fin 24) (n : Nat) : State :=
  s.setDoor d { s.door.doors.row d with attempts := n }

/-- A door's limit-switch condition as it stands; the reading of NONE is left open (log 15). -/
def State.switch (s : State) (d : Fin 24) (c : Option (Fin 64)) : Bool :=
  match c with
  | none => Config.unnamedSwitch d
  | some c => s.cond c

/-! ## The CLOSE SEQUENCE (R145 to R152) -/

/-- ENTRY TO CLOSING (R149). -/
def State.toClosing (s : State) (d : Fin 24) : State :=
  let x := (s.door.doors.row d).set
  if s.switch d x.closedCond then s.doorTo d .closed none
  else s.doorTo d .closing (s.expiry x.closeTimeout)

/-- The warning call of a door (R148). -/
def State.warningCall (s : State) (d : Fin 24) : State :=
  let x := (s.door.doors.row d).set
  match x.group with
  | none => s
  | some g =>
    match (s.door.groups.row g).template with
    | none => s
    | some t => s.hand (.callQueue (.warning d) (u8 t.val) (if x.zones = 0 then none else some x.zones))

/-- Entry into WARNING with its time, and the warning call; with a time of 0, or at once, the door
passes on to CLOSING (R142, R146, R148). -/
def State.toWarning (s : State) (d : Fin 24) (time : Nat) (atOnce : Bool) : State :=
  let s := (s.doorTo d .warning (s.expiry time)).warningCall d
  if time = 0 || atOnce then s.toClosing d else s

/-- A fresh CLOSE SEQUENCE: attempt count 1 and the warning time (R146). -/
def State.closeSequence (s : State) (d : Fin 24) (immediate : Bool) : State :=
  (s.setAttempts d 1).toWarning d (s.door.doors.row d).set.warning immediate

/-- CLOSE REQUEST of one door (R146). -/
def State.closeRequest (explicit immediate : Bool) (s : State) (d : Fin 24) : State :=
  match (s.door.doors.row d).state with
  | .opened | .opening => s.closeSequence d immediate
  | .warning => if immediate then s.toClosing d else s
  | .jammed => if explicit then s.closeSequence d immediate else s
  | .closing | .closed | .backoff | .unset => s

/-- The fitted doors of a group, in ascending door number: the order in which they take a close request, a trigger
request or a release in one event, for which R145, R147 and R153 give none (log 70). -/
def State.doorsOf (s : State) (g : Fin 8) : List (Fin 24) :=
  (List.finRange 24).filter (fun d => (s.door.doors.row d).set.group == some g)

/-- A door close-requested by a trigger: only one in OPEN or OPENING (R147). -/
def State.triggerRequest (s : State) (d : Fin 24) : State :=
  match (s.door.doors.row d).state with
  | .opened | .opening => s.closeRequest false false d
  | _ => s

/-- A group's trigger term reads TRUE; NONE is never TRUE (R141). -/
def State.triggered (s : State) (g : Fin 8) : Bool :=
  match (s.door.groups.row g).trigger with
  | none => false
  | some t => s.term t

/-- DOOR reads a group's trigger term, in SERVICE (R147; log 51). -/
def State.readTrigger (s : State) (g : Fin 8) : State :=
  if s.req.mode = .service ∧ s.triggered g then (s.doorsOf g).foldl State.triggerRequest s else s

/-- Entry into OPEN: the group's trigger term is read (R147, R154). -/
def State.toOpen (s : State) (d : Fin 24) : State :=
  let s := s.doorTo d .opened none
  match (s.door.doors.row d).set.group with
  | none => s
  | some g => s.readTrigger g

/-- ENTRY TO OPENING (R154). -/
def State.toOpening (s : State) (d : Fin 24) : State :=
  let x := (s.door.doors.row d).set
  if s.switch d x.openCond then s.toOpen d
  else s.doorTo d .opening (s.expiry x.openTimeout)

/-- Entry into JAMMED (R152). -/
def State.jam (s : State) (d : Fin 24) : State := (s.doorTo d .jammed none).notice noticeJammed d.val

/-- EXPIRY of the back-off time (R151). -/
def State.backoffExpiry (s : State) (d : Fin 24) : State :=
  let x := s.door.doors.row d
  if x.attempts < x.set.retryLimit + 1 then
    (s.setAttempts d (x.attempts + 1)).toWarning d x.set.rewarning false
  else s.jam d

/-- OBSTRUCTION: entry into BACKOFF; a back-off time of 0 expires at the entry (R142, R150). -/
def State.toBackoff (s : State) (d : Fin 24) : State :=
  let n := (s.door.doors.row d).set.backoff
  let s := s.doorTo d .backoff (s.expiry n)
  if n = 0 then s.backoffExpiry d else s

/-! ## Release (R153) -/

/-- A release acts on one door (R153). -/
def State.releaseDoor (s : State) (d : Fin 24) : State :=
  match (s.door.doors.row d).state with
  | .unset | .opened | .opening => s
  | .warning => (s.setAttempts d 0).toOpen d
  | .closing | .backoff | .closed | .jammed => (s.setAttempts d 0).toOpening d

/-- A group holds a fitted door in a state. -/
def State.groupHas (s : State) (g : Fin 8) (st : DoorState) : Bool :=
  (s.doorsOf g).any (fun d => (s.door.doors.row d).state == st)

/-- One group of a GROUP_CLOSE (R145). -/
def closeGroup (immediate : Bool) (g : Fin 8) (s : State) : Code × State :=
  if s.groupHas g .unset then (.busy, s)
  else (.done, (s.doorsOf g).foldl (State.closeRequest true immediate) s)

/-- A group's release term reads TRUE; NONE counts as TRUE (R141). -/
def State.releasable (s : State) (g : Fin 8) : Bool :=
  match (s.door.groups.row g).release with
  | none => true
  | some t => s.term t

/-- The warning calls of a group are cancelled by template (R153). -/
def State.cancelWarning (s : State) (g : Fin 8) : State :=
  match (s.door.groups.row g).template with
  | none => s
  | some t => s.hand (.callCancel .release 1 (u8 t.val))

/-- One group of a GROUP_RELEASE (R153). -/
def releaseGroup (g : Fin 8) (s : State) : Code × State :=
  if s.groupHas g .unset then (.busy, s)
  else if !s.releasable g || s.triggered g then (.termFalse, s)
  else
    let warned := s.groupHas g .warning
    let s := (s.doorsOf g).foldl State.releaseDoor s
    (.done, if warned then s.cancelWarning g else s)

/-- The groups of a set are taken in ascending order, each on its own; the result is that of the
lowest-numbered refused group (R145, R153). -/
def eachGroup (groups : Byte) (f : Fin 8 → State → Code × State) (s : State) : Code × State :=
  ((List.finRange 8).filter (fun g => groups.getLsbD g.val)).foldl
    (fun r g =>
      let r' := f g r.2
      (if r.1 = .done then r'.1 else r.1, r'.2)) (.done, s)

/-! ## The end of a DOOR event (R142, R148) -/

/-- The levels of a door's channels are set to those of its state (R142). -/
def State.doorLevels (s : State) (d : Fin 24) : State :=
  let x := s.door.doors.row d
  let l := x.state.levels
  (s.ownerLevel (.door d) x.set.closeCh l.1).ownerLevel (.door d) x.set.openCh l.2

/-- A handed warning call is that of a door. -/
def isWarning (c : Instr) (d : Fin 24) : Bool :=
  match c with
  | .callQueue (.warning d') _ _ => d' == d
  | _ => false

/-- Warning calls handed by one event stand last, in ascending door order (R148; log 38). -/
def warningsInOrder (cs : List Instr) : List Instr :=
  cs.filter (fun c => !(List.finRange 24).any (isWarning c))
  ++ (List.finRange 24).flatMap (fun d => cs.filter (fun c => isWarning c d))

/-- A DOOR event `f`: the doors it moves set the levels of the states they are left in, and the warning
calls are handed in door order (R142, R148). -/
def doorEvent (f : State → State) (s : State) : State :=
  let t := f s
  let t := ((List.finRange 24).filter (fun d => s.door.doors.row d != t.door.doors.row d)).foldl
    State.doorLevels t
  { t with handed := t.handed.take s.handed.length
                       ++ warningsInOrder (t.handed.drop s.handed.length) }

/-- A DOOR event with a result. -/
def doorResult (f : State → Code × State) (s : State) : Code × State :=
  ((f s).1, doorEvent (fun s => (f s).2) s)

/-- GROUP_CLOSE, in either form (R145; log 32). -/
def groupClose (groups immediate : Byte) (s : State) : Code × State :=
  if groups = 0 then (.badValue, s)
  else
    match flag? immediate with
    | none => (.badValue, s)
    | some now =>
      if s.req.mode = .setup then (.refusedMode, s)
      else doorResult (eachGroup groups (closeGroup now)) s

/-- GROUP_RELEASE, in either form (R153). -/
def groupRelease (groups : Byte) (s : State) : Code × State :=
  if groups = 0 then (.badValue, s)
  else if s.req.mode = .setup then (.refusedMode, s)
  else doorResult (eachGroup groups releaseGroup) s

/-! ## Limit switches, triggers and derivation (R144, R147, R149 to R155) -/

/-- A limit-switch condition of a fitted door changes to `v` (R149 to R155; log 41). In SETUP an OPEN door
stays OPEN at FALSE and a CLOSED door CLOSED at TRUE without a change of state: their state timers run on
(log 59). -/
def State.doorSwitch (c : Fin 64) (v : Bool) (s : State) (d : Fin 24) : State :=
  let x := s.door.doors.row d
  if x.set.group.isNone then s
  else
    let closed := x.set.closedCond == some c
    let setup := s.req.mode == .setup
    match x.state with
    | .unset | .warning => s
    | .closing | .backoff => if closed && v then s.doorTo d .closed none else s
    | .opening => if x.set.openCond == some c && v then s.toOpen d else s
    | .opened => if closed && v then s.doorTo d .closed none else s
    | .closed => if closed && !v && setup then s.toOpen d else s
    | .jammed =>
      if closed && v then s.doorTo d .closed none
      else if closed && !v && setup then s.toOpen d else s

/-- The trigger terms of the groups chosen are read in one event, in ascending group number, and each reading
acts before the next is made (R147; log 63). -/
def State.readTriggers (chosen : Group → Bool) (s : State) : State :=
  (List.finRange 8).foldl
    (fun s g => if chosen (s.door.groups.row g) then s.readTrigger g else s) s

/-- A group's trigger term names a condition. -/
def State.triggerNames (s : State) (c : Fin 64) (x : Group) : Bool :=
  match x.trigger with
  | none => false
  | some t => s.termNames t c

/-- DOOR takes a CONDITION CHANGE: the limit switches first, in ascending door number (log 64), then the
trigger terms that name it, in ascending group number (log 63) (R147). -/
def State.doorsChange (s : State) (c : Fin 64) (v : Bool) : State :=
  doorEvent (fun s =>
    let s := (List.finRange 24).foldl (State.doorSwitch c v) s
    s.readTriggers (s.triggerNames c)) s

/-- A fitted UNSET door is derived from its closed condition (R144). -/
def State.deriveDoor (s : State) (d : Fin 24) : State :=
  let x := s.door.doors.row d
  if x.set.group.isSome && x.state == .unset then
    if s.switch d x.set.closedCond then s.doorTo d .closed none else s.toOpen d
  else s

/-- DOOR takes a CUTOFF event (R149 to R154). -/
def State.doorCutoff (s : State) (d : Fin 24) (ch : Fin 16) : State :=
  doorEvent (fun s =>
    let x := s.door.doors.row d
    match x.state with
    | .closing => if x.set.closeCh = some ch then s.toBackoff d else s
    | .backoff | .opening => if x.set.openCh = some ch then s.jam d else s
    | _ => s) s

/-- The state timer of a door expires (R149 to R154). -/
def State.doorExpiry (s : State) (d : Fin 24) : State :=
  doorEvent (fun s =>
    match (s.door.doors.row d).state with
    | .warning => s.toClosing d
    | .closing => s.toBackoff d
    | .backoff => s.backoffExpiry d
    | .opening => s.jam d
    | _ => s) s

/-- OPERATIONS RESET OF DOOR: every door UNSET with both levels OFF; the lane and group conditions follow
with COND's reset (R159). -/
def State.resetDoors (s : State) : State :=
  let doors := s.door.doors.map
    (fun x => { x with state := .unset, attempts := 0, timer := Stopwatch.zero, due := none })
  (List.finRange 24).foldl State.doorLevels { s with door := { s.door with doors := doors } }

/-! ## Meanings -/

/-- DOOR_DERIVATION, at a SCAN COMPLETION, in ascending door number (R144). -/
def execDoorDerivation (s : State) : Host.Outcome State Fault Refusal :=
  event .doorDerivation (doorEvent (fun s => (List.finRange 24).foldl State.deriveDoor s)) s

/-- DOOR_STATE_TIMER_EXPIRY: acts while the timer has an expiry (R142). -/
def execDoorStateTimerExpiry (d : Fin 24) (s : State) : Host.Outcome State Fault Refusal :=
  event (.doorStateTimerExpiry d)
    (fun s => if (s.door.doors.row d).due.isSome then s.doorExpiry d else s) s

/-- WARNING_CALL_RESULT: any result other than DONE is counted (R148). -/
def execWarningCallResult (d : Fin 24) (result : Code) (s : State) :
    Host.Outcome State Fault Refusal :=
  event (.warningCallResult d result)
    (fun s => if result = .done then s
      else { s with door := { s.door with warnCallLost := satAdd 65535 s.door.warnCallLost 1 } }) s

/-- GROUP_CLOSE (R145). -/
def execGroupClose (rq : Requester) (groups immediate : Byte) (s : State) :
    Host.Outcome State Fault Refusal :=
  event (.groupClose rq groups immediate)
    (asRequest (answered rq 0x04 (groupClose groups immediate))) s

/-- GROUP_RELEASE (R153). -/
def execGroupRelease (rq : Requester) (groups : Byte) (s : State) :
    Host.Outcome State Fault Refusal :=
  event (.groupRelease rq groups) (asRequest (answered rq 0x05 (groupRelease groups))) s

/-- The match action CLOSE_GROUP (R31). -/
def execCloseGroup (e : Fin 64) (groups immediate : Byte) (s : State) :
    Host.Outcome State Fault Refusal :=
  event (.closeGroup e groups immediate) (asAction e (groupClose groups immediate)) s

/-- The match action RELEASE_GROUP (R32). -/
def execReleaseGroup (e : Fin 64) (groups : Byte) (s : State) : Host.Outcome State Fault Refusal :=
  event (.releaseGroup e groups) (asAction e (groupRelease groups)) s

end Sys2Proof.Machine
end

