-- ==== Sys2Proof/Machine/Scan.lean ====
section
/-! DEFINITION. SCAN: scaling, thresholds, the sample buffer, the scan, the zero trim, and the meanings
of SCAN's commands (R53 to R76). -/

namespace Sys2Proof.Machine

/-! ## Scaling and thresholds (R61, R65) -/

/-- SCALING (R61). -/
def Sensor.scale (x : Sensor) (raw : Nat) : Nat :=
  if raw ≤ x.zero then 0 else min ((raw - x.zero) * x.gain / 256) 32767

/-- A sample calls for a change of state (R65). -/
def Threshold.calls (t : Threshold) (v : Nat) : Bool :=
  match t.direction, t.tripped with
  | .high, false => decide (t.level ≤ v)
  | .high, true => decide (v + t.hysteresis < t.level)
  | .low, false => decide (v ≤ t.level)
  | .low, true => decide (t.level + t.hysteresis < v)

/-- THRESHOLD ADVANCE (R65). -/
def Threshold.advance (t : Threshold) (v : Nat) : Threshold :=
  if t.calls v then
    if t.debounce ≤ t.agreement + 1 then { t with tripped := !t.tripped, agreement := 0 }
    else { t with agreement := t.agreement + 1 }
  else { t with agreement := 0 }

/-- A threshold record takes a sample of its channel, and its conditions follow its state (R62, R65). -/
def State.advanceThreshold (s : State) (ch : Fin 24) (v : Nat) (k : Fin 48) : State :=
  let t := s.scan.thresholds.row k
  if t.channel = ch then
    let t' := t.advance v
    let s := s.setScan { s.scan with thresholds := s.scan.thresholds.put k t' }
    if t'.tripped = t.tripped then s else s.followThreshold k
  else s

/-! ## The sample buffer (R66 to R70) -/

/-- The notice kind BUFFER_ABOVE. -/
def noticeAbove : Fin 13 := 3
/-- The notice kind BUFFER_BELOW. -/
def noticeBelow : Fin 13 := 4
/-- The notice kind TRIM_DONE. -/
def noticeTrim : Fin 13 := 5

/-- The buffer state is recomputed from the fill; a change is a notice event (R67). -/
def State.judgeBuffer (s : State) : State :=
  let x := s.scan
  let above := decide (x.settings.bufferThreshold ≤ x.buffer.length)
  if x.above = above then s
  else (s.setScan { x with above := above }).notice (if above then noticeAbove else noticeBelow) 0

/-- BUFFER STORAGE (R66). -/
def Scan.store (x : Scan) (rec : Sampled) : Scan :=
  if x.buffer.length < 512 then
    { x with buffer := x.buffer ++ [rec], stored := satAdd 65535 x.stored 1 }
  else
    { x with discarded := satAdd 65535 x.discarded 1,
             overflow := if x.overflowing then x.overflow else satAdd 65535 x.overflow 1,
             overflowing := true }

/-- A logged sample handed to the buffer (R66, R67). -/
def State.store (s : State) (rec : Sampled) : State := (s.setScan (s.scan.store rec)).judgeBuffer

/-- The number of records a BUFFER_READ removes (R68). -/
def Scan.readable (x : Scan) : Nat := min 8 x.buffer.length

/-- BUFFER_READ removes the oldest records (R68). -/
def Scan.removeOldest (x : Scan) : Scan :=
  { x with buffer := x.buffer.drop x.readable, read := satAdd 65535 x.read x.readable,
           overflowing := x.overflowing && x.readable == 0 }

/-- BUFFER_CLEAR removes every record (R69). -/
def Scan.removeAll (x : Scan) : Scan :=
  { x with buffer := [], cleared := satAdd 65535 x.cleared x.buffer.length, overflowing := false }

/-- One record of the BUFFER_READ data (R191). -/
def Sampled.bytes (r : Sampled) : List Byte := u8 r.channel.val :: (u16 r.value ++ [r.scan])

/-! ## The scan (R54 to R60) -/

/-- The trigger period in microseconds (R56). -/
def ScanSettings.period (x : ScanSettings) : Nat :=
  match x.trigger, x.bInput with
  | .rateA, _ => x.nA
  | _, .reference => x.nB
  | _, .a => x.nA * x.nB

/-- The slot interval of a scan that starts now (R59; log 39). -/
def Scan.interval (x : Scan) : Nat :=
  match x.settings.trigger with
  | .frame => 200
  | _ => max 50 (x.settings.period / x.list.length)

/-- The front end that a channel's record asks for (R53). -/
def Sensor.frontEnd (x : Sensor) : FrontEnd := { kind := x.kind, wetting := x.wetting }

/-- A front end takes wetting current in its slots: a CONTACT channel with wetting on (R54). -/
def FrontEnd.wets (f : FrontEnd) : Bool := f.kind == .contact && f.wetting

/-- The channel of the slot in which a scan stands. -/
def ScanRun.channel (r : ScanRun) : Option (Fin 24) := r.list[r.slot]?

/-- A slot begins: its dwell begins, and the kind and wetting of its channel as they stand take effect
(R53, R54, R60). -/
def Scan.beginSlot (x : Scan) (r : ScanRun) : Scan :=
  match r.channel with
  | none => { x with scanner := .scanning { r with converting := false, wetted := false } }
  | some ch =>
    let f := (x.sensors.row ch).frontEnd
    { x with frontEnds := x.frontEnds.put ch f,
             scanner := .scanning { r with converting := false, wetted := f.wets } }

/-- A channel stands in a slot of the scan list, or of the list on which a scan runs. -/
def Scan.names (x : Scan) (ch : Fin 24) : Bool :=
  x.list.contains ch || (match x.scanner with
    | .scanning r => r.list.contains ch
    | _ => false)

/-- The kind and wetting in effect at a channel: a written kind or wetting waits for the channel's next slot,
and acts at the write on a channel that stands in no slot (R53, R54, R74; log 52). -/
def Scan.frontNow (x : Scan) (ch : Fin 24) : FrontEnd :=
  if x.names ch then x.frontEnds.row ch else (x.sensors.row ch).frontEnd

/-- The internal shunt of a LOOP channel is connected to its input, sampled or not, in every scanner state
(R54). -/
def Scan.shunt (x : Scan) (ch : Fin 24) : Bool := (x.frontNow ch).kind == .loop

/-- Wetting current is applied to a channel now (R54). -/
def Scan.wetting (x : Scan) (ch : Fin 24) : Bool :=
  (x.settings.wettingTest && (x.frontNow ch).wets)
  || (match x.scanner with
      | .scanning r => r.wetted && r.channel == some ch
      | _ => false)

/-- The sample count of every channel becomes 0 (R59, R76). -/
def Scan.zeroSamples (x : Scan) : Scan :=
  { x with sensors := x.sensors.map (fun c => { c with samples := 0 }) }

/-- SCAN START (R59). -/
def Scan.begin (x : Scan) (now : Nat) : Scan :=
  let r : ScanRun := { list := x.list, slot := 0, interval := x.interval, start := now,
                       converting := false, wetted := false }
  Scan.beginSlot { x.zeroSamples with scanNumber := x.scanNumber + 1 } r

/-- A scan trigger, by the scanner state (R57). -/
def State.trigger (s : State) : State :=
  match s.scan.scanner with
  | .stopped | .trimming _ => s
  | .idle => s.setScan (s.scan.begin s.clock)
  | .scanning _ => s.setScan { s.scan with overrun := satAdd 65535 s.scan.overrun 1 }

/-- The end of the slot's dwell in the scan's own time (R60). -/
def ScanRun.dwellEnd (r : ScanRun) : Nat :=
  r.start + r.slot * r.interval + r.interval
    - (if r.slot + 1 < r.list.length then 20 else 40)

/-- SCAN COMPLETION (R63). -/
def State.scanComplete (s : State) : State :=
  ((s.setScan { s.scan with scanner := .idle }).setCond condScanValid true).hand .doorDerivation

/-- SAMPLE HAND-ON (R61, R62). -/
def State.sampled (s : State) (ch : Fin 24) (raw : Nat) : State :=
  let r := s.scan.sensors.row ch
  let v := r.scale raw
  let s := s.setScan { s.scan with
    sensors := s.scan.sensors.put ch { r with last := v, samples := r.samples + 1 } }
  let s := (List.finRange 48).foldl (fun s k => s.advanceThreshold ch v k) s
  let s := if r.logged then s.store { channel := ch, value := v, scan := s.scan.scanNumber } else s
  s.handAll (((List.finRange 4).filter
    (fun m => (s.plan.ramps.row m).position == some ch)).map (fun m => .positionSample m v))

/-- After a slot's conversion: the next slot begins, or the scan is complete (R60, R63). -/
def State.nextSlot (s : State) (r : ScanRun) : State :=
  if r.slot + 1 < r.list.length then
    s.setScan (s.scan.beginSlot { r with slot := r.slot + 1 })
  else s.scanComplete

/-! ## The zero trim (R71 to R73) -/

/-- A ramp stands RUNNING, PAUSED or HELD (R71). -/
def RampState.busy : RampState → Bool
  | .idle | .faulted => false
  | .running | .paused | .held => true

/-- Any ramp is RUNNING, PAUSED or HELD (R71). -/
def State.anyRampBusy (s : State) : Bool :=
  (List.finRange 4).any (fun r => (s.plan.ramps.row r).state.busy)

/-- A trim begins: the first TRIAL STEP has bit 9 set (R71, R72; log 19). -/
def Scan.beginTrim (x : Scan) : Scan :=
  { x with scanner := .trimming { kept := x.trimCode, stepsLeft := 10 }, trimCode := 512,
           thresholds := x.thresholds.map (fun t => { t with agreement := 0 }) }

/-- The average of 8 conversions, truncated (R72). -/
def average (readings : Vector (Fin 4096) 8) : Nat :=
  (readings.toList.map Fin.val).sum / 8

/-- A trial step of bit `n` completes: the bit is cleared at an average of 2048 or more, and the next
lower bit is set for the next step (R72). -/
def trialStep (code n avg : Nat) : Nat :=
  (if 2048 ≤ avg then code - 2 ^ n else code) + (if n = 0 then 0 else 2 ^ (n - 1))

/-- The scanner rests IDLE with a non-empty list and STOPPED with an empty one (R55, R73, R76). -/
def Scan.rest (x : Scan) : Scanner := if x.list.isEmpty then .stopped else .idle

/-- TRIM_START (R71). -/
def trimStart (s : State) : Code × State :=
  match s.scan.scanner with
  | .trimming _ => (.busy, s)
  | _ =>
    if s.anyRampBusy then (.busy, s)
    else (.done, (s.setScan s.scan.beginTrim).setCond condScanValid false)

/-- SCAN_NOW, in either form (R58). In TRIMMING under a RATE source R58 gives BAD_VALUE and R74 BUSY: the
model answers BAD_VALUE (log 54). -/
def scanNow (s : State) : Code × State :=
  match s.scan.settings.trigger, s.scan.scanner with
  | .frame, .idle => (.done, s.trigger)
  | .frame, .scanning _ => (.busy, s.trigger)
  | .frame, .trimming _ => (.busy, s)
  | _, _ => (.badValue, s)

/-- A scan in progress is abandoned, and the scanner becomes IDLE (R69, R76). -/
def Scan.abandon (x : Scan) : Scan :=
  match x.scanner with
  | .scanning _ => { x with scanner := .idle }
  | _ => x

/-- OPERATIONS RESET OF SCAN; SCAN_VALID falls with COND's reset (R76). -/
def Scan.opsReset (x : Scan) : Scan :=
  let x := x.zeroSamples
  match x.scanner with
  | .scanning _ => { x with scanner := .idle }
  | .trimming t => { x with scanner := x.rest, trimCode := t.kept }
  | _ => x

/-! ## Writes of the list and of the settings (R54, R55, R67) -/

/-- The written scan list acts on the scanner by its state (R55). A channel keeps, in the slots it gains
or loses, the kind and wetting that were in effect (log 52). -/
def State.listWritten (old : Scan) (s : State) : State :=
  let s := s.setScan { s.scan with frontEnds := Vector.ofFn old.frontNow }
  let x := s.scan
  match x.scanner with
  | .trimming _ => s
  | .stopped => if x.list.isEmpty then s else s.setScan { x with scanner := .idle }
  | .idle | .scanning _ =>
    if x.list.isEmpty then (s.setScan { x with scanner := .stopped }).setCond condScanValid false
    else s

/-- The written settings act on the buffer state (R67). Wetting test and the trigger source apply from the
write, and the channel then in a slot keeps its current to the end of the slot (R54, R57); divisors and B
input wait for the next outputs (R56). -/
def State.settingsWritten (s : State) : State := s.judgeBuffer

/-! ## Meanings -/

/-- An output of the selected generator is a trigger (R57). -/
def ScanSettings.selects (x : ScanSettings) (g : Gen) : Bool :=
  match x.trigger, g with
  | .rateA, .a => true
  | .rateB, .b => true
  | _, _ => false

/-- RATE_GENERATOR_OUTPUT (R57). -/
def execRateGeneratorOutput (g : Gen) (s : State) : Host.Outcome State Fault Refusal :=
  event (.rateGeneratorOutput g) (fun s => if s.scan.settings.selects g then s.trigger else s) s

/-- DWELL_END: the converter takes the channel's input (R60). -/
def execDwellEnd (s : State) : Host.Outcome State Fault Refusal :=
  event .dwellEnd
    (fun s => match s.scan.scanner with
      | .scanning r => s.setScan { s.scan with scanner := .scanning { r with converting := true } }
      | _ => s) s

/-- SAMPLE: the completion of the slot's conversion (R60 to R63; log 18). -/
def execSample (raw : Fin 4096) (s : State) : Host.Outcome State Fault Refusal :=
  event (.sample raw)
    (fun s => match s.scan.scanner with
      | .scanning r =>
        if r.converting then
          match r.channel with
          | none => s
          | some ch => (s.sampled ch raw.val).nextSlot r
        else s
      | _ => s) s

/-- TRIAL_STEP_COMPLETION (R72; log 18). -/
def execTrialStepCompletion (readings : Vector (Fin 4096) 8) (s : State) :
    Host.Outcome State Fault Refusal :=
  event (.trialStepCompletion readings)
    (fun s => match s.scan.scanner with
      | .trimming t =>
        if t.stepsLeft = 0 then s
        else s.setScan { s.scan with
          trimCode := trialStep s.scan.trimCode (t.stepsLeft - 1) (average readings),
          scanner := .trimming { t with stepsLeft := t.stepsLeft - 1 } }
      | _ => s) s

/-- The zero trim completes with an average of the FINAL CHECK (R73). -/
def State.trimComplete (s : State) (avg : Nat) : State :=
  let ok := decide (2046 ≤ avg) && decide (avg ≤ 2050)
  let s := s.setScan { s.scan with scanner := s.scan.rest }
  (s.setCond condTrimOk ok).notice noticeTrim (if ok then 1 else 0)

/-- TRIM_COMPLETION (R73; log 18). -/
def execTrimCompletion (readings : Vector (Fin 4096) 8) (s : State) :
    Host.Outcome State Fault Refusal :=
  event (.trimCompletion readings)
    (fun s => match s.scan.scanner with
      | .trimming t => if t.stepsLeft = 0 then s.trimComplete (average readings) else s
      | _ => s) s

/-- SCAN_NOW, as a request or as the match action (R34, R58). -/
def execScanNow (o : ScanOrigin) (s : State) : Host.Outcome State Fault Refusal :=
  event (.scanNow o)
    (fun s => match o with
      | .request rq => asRequest (answered rq 0x0E scanNow) s
      | .action e => asAction e scanNow s) s

/-- TRIM_START (R71). -/
def execTrimStart (rq : Requester) (s : State) : Host.Outcome State Fault Refusal :=
  event (.trimStart rq) (asRequest (answered rq 0x0F trimStart)) s

/-- BUFFER_READ (R68, R191). The REPLY is built when the result is known, after the removal. -/
def execBufferRead (rq : Requester) (s : State) : Host.Outcome State Fault Refusal :=
  event (.bufferRead rq) (asRequest (fun s =>
    let out := s.scan.buffer.take s.scan.readable
    let s := (s.setScan s.scan.removeOldest).judgeBuffer
    s.reply rq 0x10 .done (u8 out.length :: out.flatMap Sampled.bytes))) s

/-- BUFFER_CLEAR (R69). -/
def execBufferClear (rq : Requester) (s : State) : Host.Outcome State Fault Refusal :=
  event (.bufferClear rq) (asRequest (fun s =>
    ((s.setScan s.scan.removeAll.abandon).judgeBuffer).reply rq 0x11 .done [])) s

end Sys2Proof.Machine
end

