-- ==== Sys2Proof/Machine/Plan.lean ====
section
/-! DEFINITION. PLAN: ramp states, arrival and entry, the five stage kinds, pause, hold and fault, the
approach law, and the meanings of PLAN's commands (R114 to R138). -/

namespace Sys2Proof.Machine

/-- The notice kind PLAN_COMPLETE. -/
def noticePlanComplete : Fin 13 := 7
/-- The notice kind PLAN_FAULT. -/
def noticePlanFault : Fin 13 := 8

/-- A ramp's record. -/
def State.ramp (s : State) (r : Fin 4) : Ramp := s.plan.ramps.row r

/-- A stage's record. -/
def State.stage (s : State) (k : Fin 64) : Stage := s.plan.stages.row k

/-! ## Ramp states (R118, R126, R127, R129, R130, R131) -/

/-- Both levels OFF and a COMPARE UPDATE of 0 to each channel (R118). -/
def State.stopValves (s : State) (r : Fin 4) : State :=
  let x := s.ramp r
  let s := (s.ownerLevel (.ramp r) x.extend false).compareUpdate (.ramp r) x.extend 0
  (s.ownerLevel (.ramp r) x.retract false).compareUpdate (.ramp r) x.retract 0

/-- A ramp stops: its record is stored with command 0, its valves stop, and the conditions that follow
it are recomputed (R118). -/
def State.restRamp (s : State) (r : Fin 4) (x : Ramp) : State :=
  ((s.setRamp r { x with sPrev := 0 }).stopValves r).followRamp r

/-- The dwell timer stops with the time left (R123). -/
def Countdown.hold (c : Countdown) (now : Nat) : Countdown :=
  match c with
  | .running due => .held (due - now)
  | c => c

/-- The dwell timer resumes with the time left (R123). -/
def Countdown.resume (c : Countdown) (now : Nat) : Countdown :=
  match c with
  | .held left => .running (now + left)
  | c => c

/-- A ramp becomes PAUSED (R126). -/
def State.pauseRamp (s : State) (r : Fin 4) : State :=
  let x := s.ramp r
  s.restRamp r { x with state := .paused, stageTimer := x.stageTimer.stop s.clock, stale := none }

/-- A ramp becomes HELD (R127). -/
def State.holdRamp (s : State) (r : Fin 4) : State :=
  let x := s.ramp r
  s.restRamp r { x with state := .held, stageTimer := x.stageTimer.stop s.clock, stale := none,
                        dwell := x.dwell.hold s.clock, retry := none }

/-- A ramp is FAULTED with a reason (R130). -/
def State.faultRamp (s : State) (r : Fin 4) (reason : FaultReason) : State :=
  let x := s.ramp r
  (s.restRamp r { x with state := .faulted, stageTimer := x.stageTimer.stop s.clock, stale := none,
                         dwell := .stopped, retry := none,
                         result := .fault reason }).notice noticePlanFault r.val

/-- A ramp becomes IDLE with a last result (R118, R129, R131). -/
def State.idleRamp (s : State) (r : Fin 4) (result : LastResult) : State :=
  s.restRamp r { s.ramp r with state := .idle, stage := none, phase := .pending,
                               stageTimer := Stopwatch.zero, stale := none, dwell := .stopped,
                               retry := none, result := result }

/-- A ramp becomes RUNNING again at its stage: the stage timer resumes with the time it had (R126,
R128). -/
def State.runRamp (s : State) (r : Fin 4) (stale : Option Nat) : State :=
  let x := s.ramp r
  (s.setRamp r { x with state := .running, stageTimer := x.stageTimer.resume s.clock,
                        stale := stale, dwell := x.dwell.resume s.clock }).followRamp r

/-- The expiry of a stale watch that starts now with the full stale limit (R125). -/
def State.staleDue (s : State) (r : Fin 4) : Option Nat := some (s.clock + ms (s.ramp r).staleLimit)

/-- The plan completes (R131). -/
def State.planComplete (s : State) (r : Fin 4) : State :=
  (s.idleRamp r .complete).notice noticePlanComplete r.val

/-! ## Entry (R120 to R125) -/

/-- Every lane of a lane set is clear. -/
def State.lanesClear (s : State) (lanes : BitVec 8) : Bool :=
  (List.finRange 8).all (fun n => !lanes.getLsbD n.val || s.cond (condLane n))

/-- The running conditions of a DRIVE stage: permit, lanes and SCAN_VALID (R126). -/
def State.driveHolds (s : State) (st : Stage) : Bool :=
  s.term st.permit && s.lanesClear st.lanes && s.cond condScanValid

/-- The entry conditions of a stage (R120). -/
def State.mayEnter (s : State) (st : Stage) : Bool :=
  match st.kind with
  | .drive _ => s.driveHolds st && (!st.needsBridge || s.cond condBridge)
  | _ => s.term st.permit

/-- The channel that a SET role names through a ramp (R116). -/
def Ramp.roleChannel (x : Ramp) : Role → Option (Fin 16)
  | .none => none
  | .extend => x.extend
  | .retract => x.retract

/-- One pair of a SET stage (R121). -/
def State.setPair (s : State) (r : Fin 4) (role : Role) (level : Bool) : State :=
  s.ownerLevel (.ramp r) ((s.ramp r).roleChannel role) level

/-- PLAN hands CALL a CALL_QUEUE of a CALL stage, with the ramp and its ask number advanced by 1
(R124). -/
def State.askCall (s : State) (r : Fin 4) (t : Fin 32) : State :=
  let x := s.ramp r
  let ask := x.ask + 1
  (s.setRamp r { x with callWait := .asked, ask := ask, retry := none }).hand
    (.callQueue (.stage r ask) (u8 t.val) none)

/-- The distance of two positions. -/
def distance (a b : Nat) : Nat := (a - b) + (b - a)

/-- DRIVE ENTRY, and whether the stage completes at once (R125). -/
def State.enterDrive (s : State) (r : Fin 4) (d : Drive) : State × Bool :=
  let s := (s.setRamp r { s.ramp r with sPrev := 0 }).stopValves r
  let x := s.ramp r
  if distance d.target x.lastPos ≤ d.deadBand then
    (s.setRamp r { x with travel := .none, overshoot := 0 }, true)
  else
    (s.setRamp r { x with travel := if x.lastPos < d.target then .extend else .retract,
                          stale := s.staleDue r }, false)

/-- The current stage is ENTERED, and whether it completes at its entry (R120 to R125). -/
def State.enterStage (s : State) (r : Fin 4) (k : Fin 64) : State × Bool :=
  let s := s.setRamp r { s.ramp r with phase := .entered }
  match (s.stage k).kind with
  | .set role1 level1 role2 level2 => ((s.setPair r role1 level1).setPair r role2 level2, true)
  | .wait t => (s, s.term t)
  | .dwell time =>
    if time = 0 then (s, true)
    else (s.setRamp r { s.ramp r with dwell := .running (s.clock + tenths time) }, false)
  | .call t => (s.askCall r t, false)
  | .drive d => s.enterDrive r d

/-- ARRIVAL at a stage, and whether the stage completes in the same event (R120). -/
def State.arriveAt (s : State) (r : Fin 4) (k : Fin 64) : State × Bool :=
  let s := s.setRamp r { s.ramp r with stage := some k, phase := .pending,
                                       stageTimer := Stopwatch.start s.clock, callWait := .none }
  if s.mayEnter (s.stage k) then s.enterStage r k else (s, false)

/-- ARRIVAL at stage `k`, with `n` stages of the plan after it: a run of stages that complete at their
entries passes in one event (R120, R131). -/
def State.arrive (r : Fin 4) : Nat → Fin 64 → State → State
  | 0, k, s =>
    let e := s.arriveAt r k
    if e.2 then e.1.planComplete r else e.1
  | n + 1, k, s =>
    let e := s.arriveAt r k
    if e.2 then State.arrive r n (k + 1) e.1 else e.1

/-- The stages of the ramp's plan after stage `k` (R115). -/
def State.stagesAfter (s : State) (r : Fin 4) (k : Fin 64) : Nat :=
  match (s.ramp r).plan with
  | none => 0
  | some p =>
    let m := s.plan.plans.row p
    m.first.val + m.count - 1 - k.val

/-- The stage completes: its timers stop, and the ramp arrives at the next stage or the plan completes
(R131). -/
def State.completeStage (s : State) (r : Fin 4) : State :=
  let s := s.setRamp r { s.ramp r with dwell := .stopped, retry := none, stale := none }
  match (s.ramp r).stage with
  | none => s
  | some k =>
    match s.stagesAfter r k with
    | 0 => s.planComplete r
    | n + 1 => State.arrive r n (k + 1) s

/-- A PENDING stage reads its entry conditions (R120). -/
def State.tryEnter (s : State) (r : Fin 4) (k : Fin 64) : State :=
  if s.mayEnter (s.stage k) then
    let e := s.enterStage r k
    if e.2 then e.1.completeStage r else e.1
  else s

/-! ## Waiting (R120, R122, R126, R127) -/

/-- PLAN reads again the conditions a ramp waits on; `bridgeFell` says that the event is the fall of
BRIDGE_LINK (R120, R122, R126, R127). -/
def State.rampTold (s : State) (r : Fin 4) (bridgeFell : Bool) : State :=
  let x := s.ramp r
  match x.stage with
  | none => s
  | some k =>
    let st := s.stage k
    match x.state, x.phase, st.kind with
    | .running, .pending, _ => s.tryEnter r k
    | .running, .entered, .drive _ =>
      if bridgeFell && st.needsBridge then s.holdRamp r
      else if s.driveHolds st then s else s.pauseRamp r
    | .running, .entered, .wait t => if s.term t then s.completeStage r else s
    | .paused, .entered, .drive _ =>
      if bridgeFell && st.needsBridge then s.holdRamp r
      else if s.driveHolds st then s.runRamp r (s.staleDue r) else s
    | _, _, _ => s

/-- PLAN takes a CONDITION CHANGE for a ramp (R47; log 27). -/
def State.rampChange (s : State) (r : Fin 4) (c : Fin 64) (v : Bool) : State :=
  if s.rampWaits r c then s.rampTold r (c == condBridge && !v) else s

/-- A ramp waits on a term: its permit term or its wait term (R47, R50). -/
def State.rampReads (s : State) (r : Fin 4) (t : Fin 32) : Bool :=
  let x := s.ramp r
  match x.stage with
  | none => false
  | some k =>
    let st := s.stage k
    match x.state, x.phase, st.kind with
    | .running, .pending, _ => st.permit == t
    | .running, .entered, .drive _ => st.permit == t
    | .running, .entered, .wait w => w == t
    | .paused, _, .drive _ => st.permit == t
    | _, _, _ => false

/-- A ramp drive channel of the ramp. -/
def Ramp.drives (x : Ramp) (ch : Fin 16) : Bool := x.extend == some ch || x.retract == some ch

/-- PLAN takes a FORCED event (R127). -/
def State.rampForced (s : State) (r : Fin 4) (ch : Fin 16) : State :=
  let x := s.ramp r
  if x.drives ch then
    match x.state with
    | .running | .paused => s.holdRamp r
    | _ => s
  else s

/-- PLAN takes a CUTOFF event (R130). -/
def State.rampCutoff (s : State) (r : Fin 4) (ch : Fin 16) : State :=
  let x := s.ramp r
  if x.drives ch && x.state.busy then s.faultRamp r .cutoff else s

/-! ## The approach law (R132 to R135) -/

/-- A position is BEYOND the target (R133). -/
def Travel.beyond (t : Travel) (target p : Nat) : Bool :=
  match t with
  | .extend => decide (target < p)
  | .retract => decide (p < target)
  | .none => false

/-- The SPEED at a distance, per-mille (R134). -/
def Drive.speed (d : Drive) (dist : Nat) : Nat :=
  let vMax := min d.vMax 1000
  let vMin := min d.vMin vMax
  let slow := max d.slowdown 1
  vMin + (vMax - vMin) * min dist slow / slow

/-- The COMMAND that follows a speed within the rate limits (R134). -/
def Drive.command (d : Drive) (sPrev dist : Nat) : Nat :=
  let v := d.speed dist
  if sPrev < v then min v (sPrev + d.rise) else max v (sPrev - d.fall)

/-- The travel channel and the counter channel (R125). -/
def Ramp.travelChannels (x : Ramp) : Option (Fin 16) × Option (Fin 16) :=
  match x.travel with
  | .extend => (x.extend, x.retract)
  | .retract => (x.retract, x.extend)
  | .none => (none, none)

/-- The period of a channel. -/
def State.periodOf (s : State) (ch : Option (Fin 16)) : Nat :=
  match ch with
  | none => 0
  | some ch => (s.chans.row ch).set.period

/-- The DRIVE stage ends at a sample: valve OFF, compare 0, command 0, and the stage completes (R133). -/
def State.driveDone (s : State) (r : Fin 4) (overshoot : Nat) : State :=
  let x := s.ramp r
  let ch := x.travelChannels.1
  let s := (s.ownerLevel (.ramp r) ch false).compareUpdate (.ramp r) ch 0
  ((s.setRamp r { x with sPrev := 0, overshoot := overshoot }).followRamp r).completeStage r

/-- DUTY: the command becomes the travel channel's compare and level (R135). -/
def State.drive (s : State) (r : Fin 4) (command : Nat) : State :=
  let x := s.ramp r
  let ch := x.travelChannels
  let s := s.compareUpdate (.ramp r) ch.1 (command * s.periodOf ch.1 / 1000)
  let s := s.ownerLevel (.ramp r) ch.1 (decide (0 < command))
  let s := s.ownerLevel (.ramp r) ch.2 false
  (s.setRamp r { x with sPrev := command }).followRamp r

/-- The approach law at a sample `p` of an ENTERED DRIVE stage (R133, R134). -/
def State.approach (s : State) (r : Fin 4) (d : Drive) (p : Nat) : State :=
  let x := s.ramp r
  let dist := distance d.target p
  let beyond := x.travel.beyond d.target p
  if dist ≤ d.deadBand then s.driveDone r (if beyond then dist else 0)
  else if beyond then
    if dist ≤ d.allow then s.driveDone r dist
    else (s.setRamp r { x with overshoot := dist }).faultRamp r .overrun
  else s.drive r (d.command x.sPrev dist)

/-- The DRIVE stage at which a ramp is RUNNING and ENTERED (R126, R132). -/
def State.driving (s : State) (r : Fin 4) : Option Drive :=
  let x := s.ramp r
  match x.stage with
  | none => none
  | some k =>
    match x.state, x.phase, (s.stage k).kind with
    | .running, .entered, .drive d => some d
    | _, _, _ => none

/-- PLAN takes a position sample (R132). -/
def State.position (s : State) (r : Fin 4) (p : Nat) : State :=
  match s.driving r with
  | none => s.setRamp r { s.ramp r with lastPos := p }
  | some d =>
    (s.setRamp r { s.ramp r with lastPos := p, stale := s.staleDue r }).approach r d p

/-! ## Requests (R119, R128, R129) -/

/-- PLAN_START on an IDLE ramp (R119). -/
def State.startPlan (s : State) (r : Fin 4) (p : Fin 8) : State :=
  let m := s.plan.plans.row p
  let s := (s.setRamp r { s.ramp r with state := .running, plan := some p, result := .none,
                                        overshoot := 0, travel := .none }).followRamp r
  State.arrive r (m.count - 1) m.first s

/-- PLAN_START, in either form (R119). -/
def planStart (r p : Byte) (s : State) : Code × State :=
  match fin? 4 r, fin? 8 p with
  | some r, some p =>
    if (s.plan.plans.row p).ramp ≠ r then (.badValue, s)
    else if s.req.mode = .setup then (.refusedMode, s)
    else if (s.ramp r).state = .idle then (.done, s.startPlan r p)
    else (.busy, s)
  | _, _ => (.badValue, s)

/-- A request that names a ramp: REFUSED_MODE in SETUP, BAD_VALUE outside 0..3 (R128, R129; log 45). -/
def onRamp (r : Byte) (f : Fin 4 → State → Code × State) (s : State) : Code × State :=
  if s.req.mode = .setup then (.refusedMode, s)
  else
    match fin? 4 r with
    | none => (.badValue, s)
    | some r => f r s

/-- The result of an abort: the reason of the fault it clears, or none (R129). -/
def Ramp.abortResult (x : Ramp) : LastResult :=
  match x.state, x.result with
  | .faulted, .fault reason => .aborted (some reason)
  | _, _ => .aborted none

/-- PLAN_ABORT of a ramp 0..3, in SERVICE (R129). -/
def planAbort (r : Fin 4) (s : State) : Code × State :=
  match (s.ramp r).state with
  | .idle => (.done, s)
  | _ => (.done, s.idleRamp r (s.ramp r).abortResult)

/-- A drive channel's state is FORCED (R128). -/
def State.channelForced (s : State) (ch : Option (Fin 16)) : Bool :=
  match ch with
  | none => false
  | some ch => (s.chans.row ch).state == .forced

/-- A ramp stands at an ENTERED DRIVE stage: the stage's record. -/
def State.atDrive (s : State) (r : Fin 4) : Option Stage :=
  let x := s.ramp r
  match x.stage with
  | none => none
  | some k =>
    match x.phase, (s.stage k).kind with
    | .entered, .drive _ => some (s.stage k)
    | _, _ => none

/-- A hold cause persists (R128). -/
def State.holdCause (s : State) (r : Fin 4) : Bool :=
  let x := s.ramp r
  s.channelForced x.extend || s.channelForced x.retract
  || (match s.atDrive r with
      | none => false
      | some st => st.needsBridge && !s.cond condBridge)

/-- A ramp that leaves HELD away from an ENTERED DRIVE stage acts at once as its stage does at a
CONDITION CHANGE (R124, R128). -/
def State.resumeStage (s : State) (r : Fin 4) : State :=
  let x := s.ramp r
  match x.stage with
  | none => s
  | some k =>
    match x.phase, (s.stage k).kind with
    | .pending, _ => s.tryEnter r k
    | .entered, .wait t => if s.term t then s.completeStage r else s
    | .entered, .call t =>
      match x.callWait with
      | .none => s.completeStage r
      | .refused => s.askCall r t
      | .asked => s
    | .entered, _ => s

/-- A ramp leaves HELD (R128). -/
def State.resumeRamp (s : State) (r : Fin 4) : State :=
  match s.atDrive r with
  | some st => if s.driveHolds st then s.runRamp r (s.staleDue r) else s.pauseRamp r
  | none => (s.runRamp r none).resumeStage r

/-- PLAN_RESUME of a ramp 0..3, in SERVICE (R128). -/
def planResume (r : Fin 4) (s : State) : Code × State :=
  match (s.ramp r).state with
  | .idle | .faulted => (.busy, s)
  | .running | .paused => (.done, s)
  | .held => if s.holdCause r then (.termFalse, s) else (.done, s.resumeRamp r)

/-! ## Expiries and the call result (R123, R124, R130) -/

/-- The current stage's kind at an ENTERED stage. -/
def State.enteredKind (s : State) (r : Fin 4) : Option StageKind :=
  let x := s.ramp r
  match x.stage, x.phase with
  | some k, .entered => some (s.stage k).kind
  | _, _ => none

/-- The reason of a stage timeout (R130). -/
def State.timeoutReason (s : State) (r : Fin 4) : FaultReason :=
  match s.enteredKind r, (s.ramp r).callWait with
  | some (.call _), .asked | some (.call _), .refused => .callFull
  | _, _ => .timeout

/-- The stage timeout in force: the ramp is RUNNING, and the timeout of its stage is not 0 (R130). -/
def State.timeoutRuns (s : State) (r : Fin 4) : Option Nat :=
  let x := s.ramp r
  match x.state, x.stage with
  | .running, some k => if (s.stage k).timeout = 0 then none else some (tenths (s.stage k).timeout)
  | _, _ => none

/-- PLAN takes CALL's result (R124; log 34, log 37). -/
def State.callStageResult (s : State) (r : Fin 4) (ask : BitVec 16) (result : Code) : State :=
  let x := s.ramp r
  match s.enteredKind r with
  | some (.call _) =>
    if x.callWait = .asked ∧ x.ask = ask ∧ (x.state = .running ∨ x.state = .held) then
      match result with
      | .done =>
        let s := s.setRamp r { x with callWait := .none }
        if x.state = .running then s.completeStage r else s
      | .full | .termFalse =>
        s.setRamp r { x with callWait := .refused,
                             retry := if x.state = .running then some (s.clock + ms 100) else none }
      | _ => s
    else s
  | _ => s

/-- OPERATIONS RESET OF PLAN for one ramp; the conditions follow with COND's reset (R138). -/
def State.resetRamp (s : State) (r : Fin 4) : State :=
  (s.setRamp r { s.ramp r with
    state := .idle, plan := none, stage := none, phase := .pending, stageTimer := Stopwatch.zero,
    sPrev := 0, travel := .none, result := .none, overshoot := 0, callWait := .none,
    dwell := .stopped, stale := none, retry := none }).stopValves r

/-- OPERATIONS RESET OF PLAN (R138). -/
def State.resetPlan (s : State) : State := (List.finRange 4).foldl State.resetRamp s

/-! ## Meanings -/

/-- POSITION_SAMPLE (R132). -/
def execPositionSample (r : Fin 4) (p : Nat) (s : State) : Host.Outcome State Fault Refusal :=
  event (.positionSample r p) (fun s => s.position r p) s

/-- STAGE_TIMEOUT_EXPIRY (R130). -/
def execStageTimeoutExpiry (r : Fin 4) (s : State) : Host.Outcome State Fault Refusal :=
  event (.stageTimeoutExpiry r)
    (fun s => if (s.timeoutRuns r).isSome then s.faultRamp r (s.timeoutReason r) else s) s

/-- STALE_WATCH_EXPIRY: RUNNING at an ENTERED DRIVE stage with the watch running (R130). -/
def execStaleWatchExpiry (r : Fin 4) (s : State) : Host.Outcome State Fault Refusal :=
  event (.staleWatchExpiry r)
    (fun s => if (s.driving r).isSome && (s.ramp r).stale.isSome then s.faultRamp r .positionLost
      else s) s

/-- The dwell timer runs. -/
def Countdown.isRunning : Countdown → Bool
  | .running _ => true
  | _ => false

/-- DWELL_TIMER_EXPIRY: RUNNING with the dwell timer running (R123). -/
def execDwellTimerExpiry (r : Fin 4) (s : State) : Host.Outcome State Fault Refusal :=
  event (.dwellTimerExpiry r)
    (fun s =>
      if (s.ramp r).state = .running ∧ (s.ramp r).dwell.isRunning = true then s.completeStage r
      else s) s

/-- The CALL stage whose retry interval runs (R124). -/
def State.retrying (s : State) (r : Fin 4) : Option (Fin 32) :=
  let x := s.ramp r
  match x.state, s.enteredKind r with
  | .running, some (.call t) => if x.retry.isSome then some t else none
  | _, _ => none

/-- RETRY_INTERVAL_EXPIRY: the CALL_QUEUE is handed again (R124). -/
def execRetryIntervalExpiry (r : Fin 4) (s : State) : Host.Outcome State Fault Refusal :=
  event (.retryIntervalExpiry r)
    (fun s => match s.retrying r with
      | none => s
      | some t => s.askCall r t) s

/-- CALL_STAGE_RESULT (R124). -/
def execCallStageResult (r : Fin 4) (ask : BitVec 16) (result : Code) (s : State) :
    Host.Outcome State Fault Refusal :=
  event (.callStageResult r ask result) (fun s => s.callStageResult r ask result) s

/-- PLAN_START (R119). -/
def execPlanStart (rq : Requester) (r p : Byte) (s : State) : Host.Outcome State Fault Refusal :=
  event (.planStart rq r p) (asRequest (answered rq 0x01 (planStart r p))) s

/-- PLAN_ABORT (R129). -/
def execPlanAbort (rq : Requester) (r : Byte) (s : State) : Host.Outcome State Fault Refusal :=
  event (.planAbort rq r) (asRequest (answered rq 0x02 (onRamp r planAbort))) s

/-- PLAN_RESUME (R128). -/
def execPlanResume (rq : Requester) (r : Byte) (s : State) : Host.Outcome State Fault Refusal :=
  event (.planResume rq r) (asRequest (answered rq 0x03 (onRamp r planResume))) s

/-- The match action START_PLAN (R30). -/
def execStartPlan (e : Fin 64) (r p : Byte) (s : State) : Host.Outcome State Fault Refusal :=
  event (.startPlan e r p) (asAction e (planStart r p)) s

/-! ## Events handed to an owner (R88, R92) and to a waiting user (R47) -/

/-- FORCED_EVENT: DOOR and CALL ignore it (R88). -/
def execForcedEvent (o : Owner) (ch : Fin 16) (s : State) : Host.Outcome State Fault Refusal :=
  event (.forcedEvent o ch)
    (fun s => match o with
      | .ramp r => s.rampForced r ch
      | .door _ | .lamp _ | .free => s) s

/-- CUTOFF_EVENT: CALL ignores it (R92). -/
def execCutoffEvent (o : Owner) (ch : Fin 16) (s : State) : Host.Outcome State Fault Refusal :=
  event (.cutoffEvent o ch)
    (fun s => match o with
      | .ramp r => s.rampCutoff r ch
      | .door d => s.doorCutoff d ch
      | .lamp _ | .free => s) s

/-- CONDITION_CHANGE: the waiting user acts on it with its own state as it stands (R47; log 26). -/
def execConditionChange (c : Fin 64) (v : Bool) (u : CondUser) (s : State) :
    Host.Outcome State Fault Refusal :=
  event (.conditionChange c v u)
    (fun s => match u with
      | .gate ch => s.conduct ch
      | .forcing ch =>
        if s.forcingNames (s.chans.row ch).set.forcing c then s.judgeForcing ch else s
      | .ramp r => s.rampChange r c v
      | .doors => s.doorsChange c v) s

end Sys2Proof.Machine
end

