-- ==== Sys2Proof/Machine/Operands.lean ====
section
/-! DEFINITION. The tables of the part, and the byte images of their entries: reading every field as it
stands, and reading a written image with its codes checked and its quantities clamped (R180, R190,
R193, and the field ranges of each owning rule). -/

namespace Sys2Proof.Machine

/-! ## Tables (R180, R193) -/

/-- The tables of the part, in the order of their ids (R180). -/
inductive TableId where
  | directory | line | sides | entries | conds | terms | sensors | list | settings | thresholds
  | channels | ramps | plans | stages | doors | groups | templates | zones | pa | slots | notices
  deriving DecidableEq, Repr

/-- The tables in the order of their ids. -/
def tableIds : List TableId :=
  [.directory, .line, .sides, .entries, .conds, .terms, .sensors, .list, .settings, .thresholds,
   .channels, .ramps, .plans, .stages, .doors, .groups, .templates, .zones, .pa, .slots, .notices]

/-- The table of an id; none where the id is unknown. -/
def tableOf (id : Byte) : Option TableId := tableIds[id.toNat]?

/-- The id of a table. -/
def TableId.id : TableId → Nat
  | .directory => 0 | .line => 1 | .sides => 2 | .entries => 3 | .conds => 4 | .terms => 5
  | .sensors => 6 | .list => 7 | .settings => 8 | .thresholds => 9 | .channels => 10 | .ramps => 11
  | .plans => 12 | .stages => 13 | .doors => 14 | .groups => 15 | .templates => 16 | .zones => 17
  | .pa => 18 | .slots => 19 | .notices => 20

/-- The entry size in bytes (R193). -/
def TableId.size : TableId → Nat
  | .directory => 14 | .line => 2 | .sides => 2 | .entries => 18 | .conds => 10 | .terms => 9
  | .sensors => 10 | .list => 33 | .settings => 11 | .thresholds => 9 | .channels => 42 | .ramps => 21
  | .plans => 3 | .stages => 22 | .doors => 23 | .groups => 3 | .templates => 9 | .zones => 2
  | .pa => 2 | .slots => 17 | .notices => 6

/-- The number of entries (R180). -/
def TableId.count : TableId → Nat
  | .directory => 22 | .line => 1 | .sides => 126 | .entries => 64 | .conds => 64 | .terms => 32
  | .sensors => 24 | .list => 1 | .settings => 1 | .thresholds => 48 | .channels => 16 | .ramps => 4
  | .plans => 8 | .stages => 64 | .doors => 24 | .groups => 8 | .templates => 32 | .zones => 16
  | .pa => 1 | .slots => 16 | .notices => 1

/-- The first index: 1 for the side map, and 0 for every other table (R180). -/
def TableId.first : TableId → Nat
  | .sides => 1
  | _ => 0

/-- The table is writable (R180). -/
def TableId.writable : TableId → Bool
  | .directory | .slots | .notices => false
  | _ => true

/-- An index lies in the table (R180). -/
def TableId.inRange (t : TableId) (i : Nat) : Bool := decide (t.first ≤ i) && decide (i < t.first + t.count)

/-- An index lies in the table's writable range: of the condition records, 16..63 (R38, R180, R182). -/
def TableId.inWritable (t : TableId) (i : Nat) : Bool :=
  t.inRange i && (t != .conds || decide (16 ≤ i))

/-- The check byte of a run of bytes (R182, R190). -/
def checkByte (bytes : List Byte) : Byte := ~~~ (bytes.foldl (· ^^^ ·) 0)

/-! ## Codes (R190) -/

/-- A reference that may be NONE: FFh for NONE (R190). -/
def refByte {n : Nat} (r : Option (Fin n)) : Byte :=
  match r with
  | none => 0xFF
  | some i => u8 i.val

/-- A reference that may be NONE, read from a byte; none where it is out of range. -/
def ref? (n : Nat) (b : Byte) : Option (Option (Fin n)) :=
  if b = 0xFF then some none else (fin? n b).map some

/-- A value of an enumerated field, by its code (R190). -/
def code? {α : Type} (values : List α) (b : Byte) : Option α := values[b.toNat]?

/-- A quantity written as a code: a code beyond the last is stored as the last (R78, R98). -/
def codeOrLast {α : Type} (values : List α) (last : α) (b : Byte) : α := values.getD b.toNat last

/-- A quantity clamped to a range (R182). -/
def clamp (low high n : Nat) : Nat := max low (min n high)

/-- Byte `i` of an image. -/
def imgByte (img : List Byte) (i : Nat) : Byte := img.getD i 0

/-- The two bytes at offset `i` of an image, as a word. -/
def imgWord (img : List Byte) (i : Nat) : BitVec 16 := imgByte img i ++ imgByte img (i + 1)

/-- The number at offset `i` of an image. -/
def imgNum (img : List Byte) (i : Nat) : Nat := (imgWord img i).toNat

/-- An elapsed time in 100 ms units, truncated; a free value beyond 65535 (log 13). -/
def elapsedBytes (us : Nat) : List Byte :=
  let n := us / 100000
  bytesOf16 (if n ≤ 65535 then BitVec.ofNat 16 n else Config.overlongTime n)

/-- A time left in a unit of microseconds, rounded up; 0 where nothing runs. R37 and R77 say 'rounded up'; that
the two times of a call slot are rounded up as well is the model's choice (log 62). -/
def timeLeft (due : Option Nat) (now unit : Nat) : List Byte :=
  match due with
  | none => u16 0
  | some t => u16 ((t - now + (unit - 1)) / unit)

/-- The value set of `true, false` flags and levels. -/
def levelByte (b : Bool) : Byte := flagByte b

/-! ## The written part of an entry -/

/-- The fields of a ramp record that a table write stores (R114). -/
structure RampSettings where
  position   : Option (Fin 24)
  extend     : Option (Fin 16)
  retract    : Option (Fin 16)
  staleLimit : Nat
  deriving DecidableEq, Repr

/-- The fields of a sensor-channel record that a table write stores (R53). -/
structure SensorSettings where
  kind    : SensorKind
  zero    : Nat
  gain    : Nat
  wetting : Bool
  logged  : Bool
  deriving DecidableEq, Repr

/-- What a written entry stores, its codes checked and its quantities clamped. -/
inductive Entry where
  | line (silenceMs : Nat)
  | side (x : SideEntry)
  | entry (m : MatchEntry)
  | cond (source : Source)
  | term (t : Term)
  | sensor (x : SensorSettings)
  | list (slots : List (Fin 24))
  | settings (x : ScanSettings)
  | threshold (t : Threshold)
  | channel (x : ChannelSettings)
  | ramp (x : RampSettings)
  | plan (m : PlanRecord)
  | stage (st : Stage)
  | door (x : DoorSettings)
  | group (x : Group)
  | template (x : Template)
  | zone (lamp : Option (Fin 16))
  | pa (node : Byte) (limit : Nat)
  deriving DecidableEq, Repr

/-! ## Line settings and side map (R6, R16) -/

/-- The line settings image. -/
def lineImage (ms : Nat) : List Byte := u16 ms

/-- A written line settings image. -/
def readLine (img : List Byte) : Option Entry := some (.line (clamp 50 5000 (imgNum img 0)))

/-- The code of a side. -/
def Side.byte : Side → Byte
  | .up => 0 | .dn => 1 | .unknown => 2

/-- A side-map entry's image. -/
def sideImage (x : SideEntry) : List Byte := [x.side.byte, flagByte x.pinned]

/-- A written side-map image (R6). -/
def readSide (img : List Byte) : Option Entry := do
  let side ← code? [Side.up, .dn, .unknown] (imgByte img 0)
  let pinned ← flag? (imgByte img 1)
  return .side { side := side, pinned := pinned }

/-! ## Match entries (R19, R20) -/

/-- The code of a match entry's port. -/
def PortMatch.byte : PortMatch → Byte
  | .up => 0 | .dn => 1 | .either => 2

/-- The action code and the operands A, B and C (R193). -/
def Action.bytes : Action → Byte × Byte × BitVec 16 × Byte
  | .setCond c h => (0, u8 c.val, BitVec.ofNat 16 h, 0)
  | .clearCond c => (1, u8 c.val, 0, 0)
  | .startPlan r p => (2, u8 r.val, 0, u8 p.val)
  | .closeGroup g imm => (3, g, 0, flagByte imm)
  | .releaseGroup g => (4, g, 0, 0)
  | .queueCall t none => (5, u8 t.val, 0, 0)
  | .queueCall t (some z) => (5, u8 t.val, z, 1)
  | .scanNow => (6, 0, 0, 0)
  | .holdForward t => (7, u8 t.val, 0, 0)

/-- A match entry's image (R193). -/
def entryImage (m : MatchEntry) : List Byte :=
  let a := m.action.bytes
  [flagByte m.valid, m.source.getD 0, m.kind, m.tagLow, m.tagHigh, m.port.byte, m.position, m.mask,
   m.value, a.1, a.2.1] ++ bytesOf16 a.2.2.1 ++ [a.2.2.2, flagByte m.stop] ++ u16 m.hits
   ++ [u8 m.refusals]

/-- A condition 16..63 named by a byte. -/
def assignable? (b : Byte) : Option (Fin 64) :=
  match fin? 64 b with
  | none => none
  | some c => if 16 ≤ c.val then some c else none

/-- A written action with its operands (R20). -/
def readAction (code a : Byte) (b : BitVec 16) (c : Byte) : Option Action :=
  match code.toNat with
  | 0 => (assignable? a).map (fun i => .setCond i b.toNat)
  | 1 => (assignable? a).map .clearCond
  | 2 => do
    let r ← fin? 4 a
    let p ← fin? 8 c
    return .startPlan r p
  | 3 => if a = 0 then none else (flag? c).map (.closeGroup a)
  | 4 => if a = 0 then none else some (.releaseGroup a)
  | 5 => do
    let t ← fin? 32 a
    let present ← flag? c
    if present then (if b = 0 then none else some (.queueCall t (some b)))
    else return .queueCall t none
  | 6 => some .scanNow
  | 7 => (fin? 32 a).map .holdForward
  | _ => none

/-- A match entry's source: ANY is 00h, and a node is 1..126 (R20, R190). -/
def readSource (b : Byte) : Option (Option Byte) :=
  if b = 0 then some none else if b.toNat ≤ 126 then some (some b) else none

/-- A written match entry; its counts are set to 0 (R20). -/
def readEntry (img : List Byte) : Option Entry := do
  let valid ← flag? (imgByte img 0)
  let source ← readSource (imgByte img 1)
  let port ← code? [PortMatch.up, .dn, .either] (imgByte img 5)
  let action ← readAction (imgByte img 9) (imgByte img 10) (imgWord img 11) (imgByte img 13)
  let stop ← flag? (imgByte img 14)
  if imgByte img 7 ≠ 0 ∧ 47 < (imgByte img 6).toNat then none
  else
    return .entry { valid := valid, source := source, kind := imgByte img 2,
                    tagLow := imgByte img 3, tagHigh := imgByte img 4, port := port,
                    position := imgByte img 6, mask := imgByte img 7, value := imgByte img 8,
                    action := action, stop := stop, hits := 0, refusals := 0 }

/-! ## Conditions and terms (R37, R42, R50) -/

/-- The source kind and the two references of a source (R190, R193). The reference 1 of a source without a
reference, NONE, FRAME or a fixed one, reads as 0 (log 66). -/
def Source.bytes : Source → Byte × Byte × Byte
  | .none => (0, 0, 0)
  | .threshold k => (1, u8 k.val, 0)
  | .groupClosed g => (2, u8 g.val, 0)
  | .groupOpen g => (3, u8 g.val, 0)
  | .rampAt r p => (4, u8 r.val, u8 p.val)
  | .channelCut ch => (5, u8 ch.val, 0)
  | .frame => (6, 0, 0)
  | .fixed => (7, 0, 0)

/-- A condition record's image; the time left of a hold in 10 ms units, rounded up (R37). -/
def condImage (r : CondRecord) (now : Nat) : List Byte :=
  let x := r.source.bytes
  [flagByte r.value, x.1, x.2.1, x.2.2] ++ u16 r.holdTime ++ timeLeft r.hold now 10000 ++ u16 r.age

/-- A written condition record: source kind and reference alone (R42). -/
def readCond (img : List Byte) : Option Entry :=
  let a := imgByte img 2
  match (imgByte img 1).toNat with
  | 0 => some (.cond .none)
  | 1 => (fin? 48 a).map (fun k => .cond (.threshold k))
  | 2 => (fin? 8 a).map (fun g => .cond (.groupClosed g))
  | 3 => (fin? 8 a).map (fun g => .cond (.groupOpen g))
  | 4 => do
    let r ← fin? 4 a
    let p ← fin? 8 (imgByte img 3)
    return .cond (.rampAt r p)
  | 5 => (fin? 16 a).map (fun ch => .cond (.channelCut ch))
  | 6 => some (.cond .frame)
  | _ => none

/-- A term's image: literal slots beyond the count read as zeros (R50). -/
def termImage (t : Term) : List Byte :=
  let lits := t.literals.flatMap (fun l => [u8 l.1.val, flagByte l.2])
  u8 t.literals.length :: (lits ++ List.replicate (8 - lits.length) 0)

/-- The literals of a written term, from offset 1 on. -/
def readLiterals (img : List Byte) : Nat → Nat → Option (List (Fin 64 × Bool))
  | 0, _ => some []
  | n + 1, at_ => do
    let c ← fin? 64 (imgByte img at_)
    let v ← flag? (imgByte img (at_ + 1))
    let rest ← readLiterals img n (at_ + 2)
    return (c, v) :: rest

/-- A written term: the literal count is clamped to 4 (R50). -/
def readTerm (img : List Byte) : Option Entry :=
  (readLiterals img (min (imgByte img 0).toNat 4) 1).map (fun l => .term { literals := l })

/-! ## Scanning (R53, R55 to R57, R64, R67) -/

/-- The code of a sensor kind. -/
def SensorKind.byte : SensorKind → Byte
  | .contact => 0 | .loop => 1 | .voltage => 2

/-- A sensor-channel image. -/
def sensorImage (x : Sensor) : List Byte :=
  [x.kind.byte] ++ u16 x.zero ++ u16 x.gain ++ [flagByte x.wetting, flagByte x.logged] ++ u16 x.last
  ++ [u8 x.samples]

/-- A written sensor-channel image (R53). -/
def readSensor (img : List Byte) : Option Entry := do
  let kind ← code? [SensorKind.contact, .loop, .voltage] (imgByte img 0)
  let wetting ← flag? (imgByte img 5)
  let logged ← flag? (imgByte img 6)
  return .sensor { kind := kind, zero := clamp 0 4095 (imgNum img 1),
                   gain := clamp 1 4096 (imgNum img 3), wetting := wetting, logged := logged }

/-- The scan-list image (R55). -/
def listImage (l : List (Fin 24)) : List Byte :=
  u8 l.length :: (l.map (fun c => u8 c.val) ++ List.replicate (32 - l.length) 0)

/-- A written scan list: the slot count is stored as at most 32 (R55). -/
def readList (img : List Byte) : Option Entry :=
  ((img.tail.take (min (imgByte img 0).toNat 32)).mapM (fin? 24)).map .list

/-- The code of a trigger source. -/
def TriggerSource.byte : TriggerSource → Byte
  | .rateA => 0 | .rateB => 1 | .frame => 2

/-- The code of a B input. -/
def BInput.byte : BInput → Byte
  | .reference => 0 | .a => 1

/-- The scan settings image, with the trim code as it stands (R72). -/
def settingsImage (x : ScanSettings) (trim : Nat) : List Byte :=
  [x.trigger.byte] ++ u16 x.nA ++ u16 x.nB ++ [x.bInput.byte, flagByte x.wettingTest]
  ++ u16 x.bufferThreshold ++ u16 trim

/-- Written scan settings (R54, R56, R57, R67). -/
def readSettings (img : List Byte) : Option Entry := do
  let trigger ← code? [TriggerSource.rateA, .rateB, .frame] (imgByte img 0)
  let bInput ← code? [BInput.reference, .a] (imgByte img 5)
  let test ← flag? (imgByte img 6)
  return .settings { trigger := trigger, nA := clamp 2 65535 (imgNum img 1),
                     nB := clamp 2 65535 (imgNum img 3), bInput := bInput, wettingTest := test,
                     bufferThreshold := clamp 1 511 (imgNum img 7) }

/-- The code of a direction. -/
def Direction.byte : Direction → Byte
  | .high => 0 | .low => 1

/-- A threshold image; TRIPPED is 0 and CLEAR 1, in the order of R64 (R190; log 49). -/
def thresholdImage (t : Threshold) : List Byte :=
  [u8 t.channel.val, t.direction.byte] ++ u16 t.level ++ u16 t.hysteresis
  ++ [u8 t.debounce, if t.tripped then 0 else 1, u8 t.agreement]

/-- A written threshold; the state is kept and the agreement count becomes 0 (R64). -/
def readThreshold (old : Threshold) (img : List Byte) : Option Entry := do
  let ch ← fin? 24 (imgByte img 0)
  let dir ← code? [Direction.high, .low] (imgByte img 1)
  return .threshold { channel := ch, direction := dir, level := clamp 0 32767 (imgNum img 2),
                      hysteresis := clamp 0 32767 (imgNum img 4),
                      debounce := clamp 1 15 (imgByte img 6).toNat, tripped := old.tripped,
                      agreement := 0 }

/-! ## Output channels (R77, R78, R98) -/

/-- The code of a configuration. -/
def Configuration.byte : Configuration → Byte
  | .off => 0 | .float => 1 | .sink => 2 | .source => 3 | .pushPull => 4

/-- The owner kind and number (R193). -/
def ownerBytes : Owner → Byte × Byte
  | .free => (0, 0)
  | .ramp r => (1, u8 r.val)
  | .door d => (2, u8 d.val)
  | .lamp z => (3, u8 z.val)

/-- A written owner (R78). -/
def readOwner (kind number : Byte) : Option Owner :=
  match kind.toNat with
  | 0 => some .free
  | 1 => (fin? 4 number).map .ramp
  | 2 => (fin? 24 number).map .door
  | 3 => (fin? 16 number).map .lamp
  | _ => none

/-- The forcing kind and term (R193; log 33). -/
def Forcing.bytes : Forcing → Byte × Byte
  | .none => (0, 0)
  | .faultA => (1, 0)
  | .faultB => (2, 0)
  | .termFalse t => (3, u8 t.val)

/-- A written forcing source: the term is read only under TERM (R78, R193). -/
def readForcing (kind term : Byte) : Option Forcing :=
  match kind.toNat with
  | 0 => some .none
  | 1 => some .faultA
  | 2 => some .faultB
  | 3 => (fin? 32 term).map .termFalse
  | _ => none

/-- The code of a level or forced state. -/
def Level.byte : Level → Byte
  | .off => 0 | .on => 1 | .float => 2

/-- The code of a limit class. -/
def LimitClass.byte : LimitClass → Byte
  | .a025 => 0 | .a050 => 1 | .a100 => 2 | .a200 => 3

/-- The code of a cut-off delay. -/
def CutDelay.byte : CutDelay → Byte
  | .us100 => 0 | .us500 => 1 | .ms2 => 2 | .ms10 => 3

/-- The code of a restart delay. -/
def RestartDelay.byte : RestartDelay → Byte
  | .manual => 0 | .ms20 => 1 | .ms100 => 2 | .ms500 => 3 | .ms2000 => 4

/-- The code of a tick. -/
def Tick.byte : Tick → Byte
  | .us1 => 0 | .us10 => 1 | .us100 => 2 | .ms1 => 3

/-- The timer modes in the order of R98. -/
def timerModes : List TimerMode :=
  [.steady, .setAtA, .clearAtA, .toggleAtA, .pulseOnce, .pulseRepeat, .pwm]

/-- The code of a timer mode. -/
def TimerMode.byte : TimerMode → Byte
  | .steady => 0 | .setAtA => 1 | .clearAtA => 2 | .toggleAtA => 3 | .pulseOnce => 4
  | .pulseRepeat => 5 | .pwm => 6

/-- The sync kind and channel (R193; log 33). -/
def Sync.bytes : Sync → Byte × Byte
  | .free => (0, 0)
  | .sync c => (1, u8 c.val)
  | .trigger c => (2, u8 c.val)

/-- A written sync (R98). -/
def readSync (kind ch : Byte) : Option Sync :=
  match kind.toNat with
  | 0 => some .free
  | 1 => (fin? 16 ch).map .sync
  | 2 => (fin? 16 ch).map .trigger
  | _ => none

/-- The settings part of an output-channel image. -/
def channelSettingsImage (x : ChannelSettings) : List Byte :=
  [x.config.byte, flagByte x.invert, (ownerBytes x.owner).1, (ownerBytes x.owner).2, refByte x.gate,
   x.forcing.bytes.1, x.forcing.bytes.2, x.forced.byte, flagByte x.latched, x.limit.byte,
   x.cutDelay.byte, x.restartDelay.byte, x.tick.byte] ++ u16 x.period ++ u16 x.cmpA ++ u16 x.cmpB
  ++ [x.mode.byte, x.sync.bytes.1, x.sync.bytes.2, flagByte x.stopAtB, flagByte x.joined]

/-- The code of a channel's state. -/
def ChannelState.byte : ChannelState → Byte
  | .normal => 0 | .cutOff => 1 | .forced => 2

/-- The code of a forcing status. -/
def ForceStatus.byte : ForceStatus → Byte
  | .clear => 0 | .engaged => 1 | .awaitingWrap => 2

/-- The code of a restart field. -/
def Restart.byte : Restart → Byte
  | .none => 0 | .waitingManual => 1 | .running _ => 2

/-- The expiry of a running restart delay. -/
def Restart.due : Restart → Option Nat
  | .running t => some t
  | .none | .waitingManual => Option.none

/-- The code of a pulse phase. -/
def PulsePhase.byte : PulsePhase → Byte
  | .waitA => 0 | .waitB => 1 | .finished => 2

/-- An output-channel image (R77, R98). -/
def channelImage (c : Channel) (now : Nat) : List Byte :=
  channelSettingsImage c.set
  ++ [c.state.byte, levelByte c.requested, c.status.byte, flagByte c.supervision.isSome,
      c.restart.byte, flagByte c.conducting, u8 c.cutOffs]
  ++ timeLeft c.supervision now 100 ++ timeLeft c.restart.due now 1000 ++ u16 c.count
  ++ [levelByte c.timerOut] ++ u16 c.aInForce ++ [c.phase.byte, flagByte c.running]

/-- The channel a sync names. -/
def Sync.channel : Sync → Option (Fin 16)
  | .free => none
  | .sync c | .trigger c => some c

/-- The sync and cascade a channel may hold: it names neither itself nor, on a JOINED even channel, its
odd partner, and an odd channel is not JOINED (R98). -/
def syncAllowed (ch : Fin 16) (sync : Sync) (joined : Bool) : Bool :=
  sync.channel != some ch && !(joined && sync.channel == some (partner ch)) && !(joined && isOdd ch)

/-- A written output channel (R78, R98). -/
def readChannel (ch : Fin 16) (img : List Byte) : Option Entry := do
  let config ← code? [Configuration.off, .float, .sink, .source, .pushPull] (imgByte img 0)
  let invert ← flag? (imgByte img 1)
  let owner ← readOwner (imgByte img 2) (imgByte img 3)
  let gate ← ref? 64 (imgByte img 4)
  let forcing ← readForcing (imgByte img 5) (imgByte img 6)
  let forced ← code? [Level.off, .on, .float] (imgByte img 7)
  let latched ← flag? (imgByte img 8)
  let mode ← code? timerModes (imgByte img 19)
  let sync ← readSync (imgByte img 20) (imgByte img 21)
  let stopAtB ← flag? (imgByte img 22)
  let joined ← flag? (imgByte img 23)
  if syncAllowed ch sync joined then
    return .channel
      { config := config, invert := invert, owner := owner, gate := gate, forcing := forcing,
        forced := forced, latched := latched,
        limit := codeOrLast [LimitClass.a025, .a050, .a100] .a200 (imgByte img 9),
        cutDelay := codeOrLast [CutDelay.us100, .us500, .ms2] .ms10 (imgByte img 10),
        restartDelay := codeOrLast [RestartDelay.manual, .ms20, .ms100, .ms500] .ms2000
                          (imgByte img 11),
        tick := codeOrLast [Tick.us1, .us10, .us100] .ms1 (imgByte img 12),
        period := imgNum img 13, cmpA := imgNum img 15, cmpB := imgNum img 17, mode := mode,
        sync := sync, stopAtB := stopAtB, joined := joined }
  else none

/-! ## Ramps, plans and stages (R114 to R116) -/

/-- The code of a ramp state. -/
def RampState.byte : RampState → Byte
  | .idle => 0 | .running => 1 | .paused => 2 | .held => 3 | .faulted => 4

/-- The code of a stage phase. -/
def Phase.byte : Phase → Byte
  | .pending => 0 | .entered => 1

/-- The code of a travel direction. -/
def Travel.byte : Travel → Byte
  | .extend => 0 | .retract => 1 | .none => 2

/-- The code of a fault reason. -/
def FaultReason.byte : FaultReason → Byte
  | .timeout => 0 | .positionLost => 1 | .overrun => 2 | .cutoff => 3 | .callFull => 4

/-- The codes of a last result and of its reason; FFh for none (R193). -/
def LastResult.bytes : LastResult → Byte × Byte
  | .none => (0, 0xFF)
  | .complete => (1, 0xFF)
  | .aborted Option.none => (2, 0xFF)
  | .aborted (some r) => (2, r.byte)
  | .fault r => (3, r.byte)

/-- The code of a call wait. -/
def CallWait.byte : CallWait → Byte
  | .none => 0 | .asked => 1 | .refused => 2

/-- A ramp image (R114). -/
def rampImage (x : Ramp) (now : Nat) : List Byte :=
  [refByte x.position, refByte x.extend, refByte x.retract] ++ u16 x.staleLimit
  ++ [x.state.byte, refByte x.plan, refByte x.stage, x.phase.byte]
  ++ elapsedBytes (x.stageTimer.elapsed now) ++ u16 x.sPrev ++ [x.travel.byte] ++ u16 x.lastPos
  ++ [x.result.bytes.1, x.result.bytes.2] ++ u16 x.overshoot ++ [x.callWait.byte]

/-- A written ramp (R114). -/
def readRamp (img : List Byte) : Option Entry := do
  let position ← ref? 24 (imgByte img 0)
  let extend ← ref? 16 (imgByte img 1)
  let retract ← ref? 16 (imgByte img 2)
  return .ramp { position := position, extend := extend, retract := retract,
                 staleLimit := clamp 10 2000 (imgNum img 3) }

/-- A plan image. -/
def planImage (m : PlanRecord) : List Byte := [u8 m.ramp.val, u8 m.first.val, u8 m.count]

/-- A written plan: the stage count is clamped to 1..16 and then limited to 64 less the first stage
(R115). -/
def readPlan (img : List Byte) : Option Entry := do
  let ramp ← fin? 4 (imgByte img 0)
  let first ← fin? 64 (imgByte img 1)
  return .plan { ramp := ramp, first := first,
                 count := min (clamp 1 16 (imgByte img 2).toNat) (64 - first.val) }

/-- The code of a role: NONE is the code 0, not the FFh of a reference (R116, R190; log 74). -/
def Role.byte : Role → Byte
  | .none => 0 | .extend => 1 | .retract => 2

/-- The code of a stage kind and its fields, without the zeros that follow them (R193). -/
def StageKind.bytes : StageKind → Byte × List Byte
  | .drive d => (0, u16 d.target ++ u16 d.vMin ++ u16 d.vMax ++ u16 d.slowdown ++ u16 d.deadBand
                    ++ u16 d.allow ++ u16 d.rise ++ u16 d.fall)
  | .set r1 l1 r2 l2 => (1, [r1.byte, flagByte l1, r2.byte, flagByte l2])
  | .wait t => (2, [u8 t.val])
  | .dwell n => (3, u16 n)
  | .call t => (4, [u8 t.val])

/-- A stage image: fields of another kind read as 0 (R116, R190). -/
def stageImage (st : Stage) : List Byte :=
  let k := st.kind.bytes
  [k.1, u8 st.permit.val, st.lanes, flagByte st.needsBridge] ++ u16 st.timeout ++ k.2
  ++ List.replicate (16 - k.2.length) 0

/-- A written role; FFh is no role (log 74). -/
def readRole (b : Byte) : Option Role := code? [Role.none, .extend, .retract] b

/-- A written stage kind with the fields of its kind, from offset 6 on (R116). -/
def readStageKind (img : List Byte) : Option StageKind :=
  match (imgByte img 0).toNat with
  | 0 => some (.drive
      { target := clamp 0 32767 (imgNum img 6), vMin := clamp 0 1000 (imgNum img 8),
        vMax := clamp 0 1000 (imgNum img 10), slowdown := clamp 0 32767 (imgNum img 12),
        deadBand := clamp 0 32767 (imgNum img 14), allow := clamp 0 32767 (imgNum img 16),
        rise := clamp 0 1000 (imgNum img 18), fall := clamp 0 1000 (imgNum img 20) })
  | 1 => do
    let r1 ← readRole (imgByte img 6)
    let l1 ← flag? (imgByte img 7)
    let r2 ← readRole (imgByte img 8)
    let l2 ← flag? (imgByte img 9)
    return .set r1 l1 r2 l2
  | 2 => (fin? 32 (imgByte img 6)).map .wait
  | 3 => some (.dwell (imgNum img 6))
  | 4 => (fin? 32 (imgByte img 6)).map .call
  | _ => none

/-- A written stage (R116). -/
def readStage (img : List Byte) : Option Entry := do
  let kind ← readStageKind img
  let permit ← fin? 32 (imgByte img 1)
  let bridge ← flag? (imgByte img 3)
  return .stage { kind := kind, permit := permit, lanes := imgByte img 2, needsBridge := bridge,
                  timeout := imgNum img 4 }

/-! ## Doors and groups (R139, R141) -/

/-- The code of a door state. -/
def DoorState.byte : DoorState → Byte
  | .unset => 0 | .opened => 1 | .warning => 2 | .closing => 3 | .closed => 4 | .backoff => 5
  | .opening => 6 | .jammed => 7

/-- A door image (R139). -/
def doorImage (x : Door) (now : Nat) : List Byte :=
  [refByte x.set.group, refByte x.set.lane, refByte x.set.closeCh, refByte x.set.openCh,
   refByte x.set.closedCond, refByte x.set.openCond] ++ bytesOf16 x.set.zones ++ u16 x.set.warning
  ++ u16 x.set.rewarning ++ u16 x.set.closeTimeout ++ u16 x.set.openTimeout ++ u16 x.set.backoff
  ++ [u8 x.set.retryLimit, x.state.byte, u8 x.attempts] ++ elapsedBytes (x.timer.elapsed now)

/-- A condition 16..63 or NONE (R139). -/
def readSwitch (b : Byte) : Option (Option (Fin 64)) :=
  if b = 0xFF then some none else (assignable? b).map some

/-- A written door (R139). -/
def readDoor (img : List Byte) : Option Entry := do
  let group ← ref? 8 (imgByte img 0)
  let lane ← ref? 8 (imgByte img 1)
  let closeCh ← ref? 16 (imgByte img 2)
  let openCh ← ref? 16 (imgByte img 3)
  let closedCond ← readSwitch (imgByte img 4)
  let openCond ← readSwitch (imgByte img 5)
  return .door { group := group, lane := lane, closeCh := closeCh, openCh := openCh,
                 closedCond := closedCond, openCond := openCond, zones := imgWord img 6,
                 warning := imgNum img 8, rewarning := imgNum img 10, closeTimeout := imgNum img 12,
                 openTimeout := imgNum img 14, backoff := imgNum img 16,
                 retryLimit := clamp 0 3 (imgByte img 18).toNat }

/-- A group image. -/
def groupImage (x : Group) : List Byte := [refByte x.trigger, refByte x.release, refByte x.template]

/-- A written group (R141). -/
def readGroup (img : List Byte) : Option Entry := do
  let trigger ← ref? 32 (imgByte img 0)
  let release ← ref? 32 (imgByte img 1)
  let template ← ref? 32 (imgByte img 2)
  return .group { trigger := trigger, release := release, template := template }

/-! ## Calls (R160 to R163) -/

/-- A call template image. -/
def templateImage (x : Template) : List Byte :=
  [u8 x.message] ++ bytesOf16 x.zones ++ [u8 x.priority, u8 x.repeats, u8 x.interval]
  ++ bytesOf16 x.pattern ++ [refByte x.allow]

/-- A written call template (R160). -/
def readTemplate (img : List Byte) : Option Entry := do
  let allow ← ref? 32 (imgByte img 8)
  if imgWord img 1 = 0 ∧ allow.isSome then none
  else
    return .template { message := clamp 1 255 (imgByte img 0).toNat, zones := imgWord img 1,
                       priority := clamp 0 7 (imgByte img 3).toNat,
                       repeats := clamp 0 15 (imgByte img 4).toNat,
                       interval := clamp 1 255 (imgByte img 5).toNat, pattern := imgWord img 6,
                       allow := allow }

/-- A zone image. -/
def zoneImage (x : Zone) : List Byte := [refByte x.lamp, refByte x.holder]

/-- A written zone (R161). -/
def readZone (img : List Byte) : Option Entry := (ref? 16 (imgByte img 0)).map .zone

/-- The PA settings image. -/
def paImage (node : Byte) (limit : Nat) : List Byte := [node, u8 limit]

/-- Written PA settings (R162). -/
def readPa (img : List Byte) : Option Entry :=
  if (imgByte img 0).toNat ≤ 126 then some (.pa (imgByte img 0) (clamp 5 120 (imgByte img 1).toNat))
  else none

/-- The code of a slot state. -/
def SlotState.byte : SlotState → Byte
  | .waiting => 0 | .speaking => 1 | .interval => 2

/-- The code of a last answer. -/
def Answer.byte : Answer → Byte
  | .none => 0 | .played => 1 | .refused => 2 | .limit => 3

/-- The token of a slot image: FFFFh for NONE (R193). -/
def tokenBytes (t : Option Byte) : List Byte :=
  match t with
  | none => [0xFF, 0xFF]
  | some t => [0, t]

/-- A call slot image (R163, R193). Its limit and interval time left are rounded up (log 62). -/
def slotImage (x : Option Slot) (now : Nat) : List Byte :=
  match x with
  | none => List.replicate 9 0 ++ tokenBytes none ++ List.replicate 6 0
  | some x =>
    [1, u8 x.template.val] ++ bytesOf16 x.zones ++ [u8 x.priority, u8 x.left] ++ u16 x.arrival
    ++ [x.state.byte] ++ tokenBytes x.token ++ timeLeft x.limit now 100000
    ++ timeLeft x.interval now 100000 ++ [u8 x.lampStep.val, x.lastAnswer.byte]

/-! ## Directory, identity and notice settings (R180, R184, R186) -/

/-- The vendor code, the part code and the revision (R193). -/
def identityCodes : List Byte := [0x0A, 0x3D, 0x0D, 0x24, 0x01]

/-- A directory image (R180). -/
def directoryImage (x : Req) (i : Nat) : List Byte :=
  match tableIds[i]? with
  | some t =>
    [u8 t.id, u8 t.size, u8 t.count, u8 t.first, flagByte t.writable,
     if t.id = 20 then 0 else u8 (t.id + 1)] ++ List.replicate 8 0
  | none => identityCodes ++ x.tag.toList ++ [flagByte x.tagWritten]

/-- The notice settings image (R186). -/
def noticeImage (x : Req) : List Byte :=
  x.node :: (bytesOf16 x.enabled ++ [flagByte x.disable] ++ bytesOf16 x.marks)

/-! ## Any table -/

/-- The image of entry `i` of a table, an index in its range; no bytes outside it. -/
def State.image (s : State) (t : TableId) (i : Nat) : List Byte :=
  let at_ {α : Type} {n : Nat} (tbl : Tbl α n) (f : α → List Byte) : List Byte :=
    if h : i < n then f (tbl.row ⟨i, h⟩) else []
  match t with
  | .directory => directoryImage s.req i
  | .line => lineImage s.line.silenceMs
  | .sides => if h : 1 ≤ i ∧ i ≤ 126 then sideImage (s.line.sides.row ⟨i - 1, by omega⟩) else []
  | .entries => at_ s.table entryImage
  | .conds => at_ s.board.conds (fun r => condImage r s.clock)
  | .terms => at_ s.board.terms termImage
  | .sensors => at_ s.scan.sensors sensorImage
  | .list => listImage s.scan.list
  | .settings => settingsImage s.scan.settings s.scan.trimCode
  | .thresholds => at_ s.scan.thresholds thresholdImage
  | .channels => at_ s.chans (fun c => channelImage c s.clock)
  | .ramps => at_ s.plan.ramps (fun x => rampImage x s.clock)
  | .plans => at_ s.plan.plans planImage
  | .stages => at_ s.plan.stages stageImage
  | .doors => at_ s.door.doors (fun x => doorImage x s.clock)
  | .groups => at_ s.door.groups groupImage
  | .templates => at_ s.call.templates templateImage
  | .zones => at_ s.call.zones zoneImage
  | .pa => paImage s.call.paNode s.call.paLimit
  | .slots => at_ s.call.slots (fun x => slotImage x s.clock)
  | .notices => noticeImage s.req

/-- A written image of entry `i` of a table: its codes known, its references in range and of the right
kind, its quantities clamped (step 4 of R182, but for the tests against other records). -/
def State.parseEntry (s : State) (t : TableId) (i : Nat) (img : List Byte) : Option Entry :=
  match t with
  | .line => readLine img
  | .sides => readSide img
  | .entries => readEntry img
  | .conds => readCond img
  | .terms => readTerm img
  | .sensors => readSensor img
  | .list => readList img
  | .settings => readSettings img
  | .thresholds => if h : i < 48 then readThreshold (s.scan.thresholds.row ⟨i, h⟩) img else none
  | .channels => if h : i < 16 then readChannel ⟨i, h⟩ img else none
  | .ramps => readRamp img
  | .plans => readPlan img
  | .stages => readStage img
  | .doors => readDoor img
  | .groups => readGroup img
  | .templates => readTemplate img
  | .zones => readZone img
  | .pa => readPa img
  | .directory | .slots | .notices => none

end Sys2Proof.Machine
end

