-- ==== Sys2Proof/Machine/Validate.lean ====
section
/-! DEFINITION. The validation of the passage to SERVICE, in its four passes (R85, R112, R136, R157,
R179). Within a pass the rows of the rule's table are sought in their order, and for each row the
records in ascending index of the table reported (log 30). -/

namespace Sys2Proof.Machine

/-- An inconsistency: the table and the index reported. -/
abbrev Finding := TableId × Nat

/-- The first index whose record shows the inconsistency. -/
def firstIn {n : Nat} (t : TableId) (bad : Fin n → Bool) : Option Finding :=
  ((List.finRange n).find? bad).map (fun i => (t, i.val))

/-- The first of several searches that finds anything. -/
def firstOf (fs : List (Option Finding)) : Option Finding := fs.findSome? id

/-! ## Channel ownership (R85) -/

/-- A record that names channels: where it stands, the owner it stands for, and the channels it
names. -/
structure Naming where
  found    : Finding
  owner    : Owner
  channels : List (Fin 16)
  deriving DecidableEq, Repr

/-- The naming records, in the order ramps, doors, zones, by index (R85). -/
def State.namings (s : State) : List Naming :=
  (List.finRange 4).map (fun r =>
    let x := s.plan.ramps.row r
    { found := (.ramps, r.val), owner := .ramp r, channels := x.extend.toList ++ x.retract.toList })
  ++ (List.finRange 24).map (fun d =>
    let x := (s.door.doors.row d).set
    { found := (.doors, d.val), owner := .door d,
      channels := x.closeCh.toList ++ x.openCh.toList })
  ++ (List.finRange 16).map (fun z =>
    { found := (.zones, z.val), owner := .lamp z, channels := (s.call.zones.row z).lamp.toList })

/-- The second record that names a channel, in the order of the list, given the channels named so
far. -/
def secondNaming : List (Fin 16) → List Naming → Option Finding
  | _, [] => none
  | seen, m :: rest =>
    if m.channels.any (fun ch => seen.contains ch) then some m.found
    else secondNaming (seen ++ m.channels) rest

/-- The channel is named by its owner's record. -/
def State.ownerNames (s : State) (ch : Fin 16) : Bool :=
  match (s.chans.row ch).set.owner with
  | .free => true
  | o => s.namings.any (fun m => m.owner == o && m.channels.contains ch)

/-- OWNERSHIP VALIDATION (R85). -/
def State.ownership (s : State) : Option Finding :=
  firstOf
    [ (s.namings.find? (fun m =>
        m.channels.any (fun ch => (s.chans.row ch).set.owner != m.owner))).map Naming.found,
      (s.namings.find? (fun m => !decide m.channels.Nodup)).map Naming.found,
      secondNaming [] s.namings,
      firstIn .channels (fun ch => !s.ownerNames ch) ]

/-! ## Timer use by owners (R112) -/

/-- A ramp channel's timer is PWM with FREE sync, SINGLE, and not the odd channel of a pair (R112). -/
def rampTimer (cs : Chans) (ch : Fin 16) : Bool :=
  let x := (cs.row ch).set
  x.mode == .pwm && x.sync == .free && !paired cs ch && head cs ch == ch

/-- TIMER USE BY OWNERS (R112). -/
def State.timerUse (s : State) : Option Finding :=
  firstOf
    [ firstIn .channels (fun ch =>
        match (s.chans.row ch).set.owner with
        | .ramp _ => !rampTimer s.chans ch
        | _ => false),
      firstIn .channels (fun ch =>
        match (s.chans.row ch).set.owner with
        | .door _ => actingMode s.chans ch != .steady
        | _ => false),
      firstIn .channels (fun ch =>
        match (s.chans.row ch).set.owner with
        | .lamp _ => actingMode s.chans ch != .steady
        | _ => false) ]

/-! ## Ramps, plans and lane agreement (R136) -/

/-- The stages of a plan, in index order (R115). -/
def State.stagesOf (s : State) (p : Fin 8) : List (Fin 64) :=
  let m := s.plan.plans.row p
  (List.finRange 64).filter
    (fun k => decide (m.first.val ≤ k.val) && decide (k.val < m.first.val + m.count))

/-- The plans of a ramp. -/
def State.plansOf (s : State) (r : Fin 4) : List (Fin 8) :=
  (List.finRange 8).filter (fun p => (s.plan.plans.row p).ramp == r)

/-- The stage is a DRIVE stage. -/
def Stage.isDrive (st : Stage) : Bool :=
  match st.kind with
  | .drive _ => true
  | _ => false

/-- The DRIVE stages of all plans of a ramp. -/
def State.drivesOf (s : State) (r : Fin 4) : List (Fin 64) :=
  (s.plansOf r).flatMap (fun p => (s.stagesOf p).filter (fun k => (s.stage k).isDrive))

/-- A role names a channel of NONE in a ramp (R136). -/
def roleMissing (x : Ramp) (role : Role) : Bool := role != .none && (x.roleChannel role).isNone

/-- A SET stage names a channel of NONE in a ramp (R136). -/
def setMissing (x : Ramp) (st : Stage) : Bool :=
  match st.kind with
  | .set r1 _ r2 _ => roleMissing x r1 || roleMissing x r2
  | _ => false

/-- The lane whose LANE_CLEAR a condition is. -/
def laneOf (c : Fin 64) : Option (Fin 8) := (List.finRange 8).find? (fun n => condLane n == c)

/-- LANE AGREEMENT of a ramp's gate (R136). -/
def State.gateAgrees (s : State) (r : Fin 4) (gate : Option (Fin 64)) : Bool :=
  let drives := s.drivesOf r
  if drives.all (fun k => (s.stage k).lanes == 0) then gate.isNone
  else
    match gate.bind laneOf with
    | none => false
    | some n => drives.all (fun k => (s.stage k).lanes.getLsbD n.val)

/-- PLAN VALIDATION (R136; log 31). -/
def State.planAgreement (s : State) : Option Finding :=
  firstOf
    [ firstIn .ramps (fun r =>
        let x := s.ramp r
        !(s.drivesOf r).isEmpty && (x.position.isNone || x.extend.isNone || x.retract.isNone)),
      firstIn .stages (fun k =>
        (List.finRange 8).any (fun p =>
          (s.stagesOf p).contains k && setMissing (s.ramp (s.plan.plans.row p).ramp) (s.stage k))),
      firstIn .channels (fun ch =>
        (List.finRange 4).any (fun r =>
          (s.ramp r).drives ch && !s.gateAgrees r (s.chans.row ch).set.gate)) ]

/-! ## Doors (R157) -/

/-- A limit-switch condition has source THRESHOLD. -/
def State.fromThreshold (s : State) (c : Option (Fin 64)) : Bool :=
  match c with
  | none => true
  | some c =>
    match (s.board.conds.row c).source with
    | .threshold _ => true
    | _ => false

/-- DOOR VALIDATION (R157). -/
def State.doorAgreement (s : State) : Option Finding :=
  firstOf
    [ firstIn .doors (fun d =>
        let x := (s.door.doors.row d).set
        x.group.isSome && (x.closedCond.isNone || x.openCond.isNone)),
      firstIn .doors (fun d =>
        let x := (s.door.doors.row d).set
        x.group.isSome && !(s.fromThreshold x.closedCond && s.fromThreshold x.openCond)),
      firstIn .doors (fun d =>
        let x := (s.door.doors.row d).set
        x.group.isNone && (x.lane.isSome || x.closeCh.isSome || x.openCh.isSome)) ]

/-- VALIDATION: the first inconsistency of the four passes (R179). -/
def State.validate (s : State) : Option Finding :=
  firstOf [s.ownership, s.timerUse, s.planAgreement, s.doorAgreement]

end Sys2Proof.Machine
end

