-- ==== Sys2Proof/Machine/Tables.lean ====
section
/-! DEFINITION. Table access: judging a written entry, storing it, what the owning block does with it, and
the operations TABLE_READ, TABLE_WRITE and BLOCK_WRITE (R180 to R183, and the write rule of each
table). -/

namespace Sys2Proof.Machine

/-! ## Storing (R182) -/

/-- A record of a table is replaced, at an index in its range. -/
def putAt {α : Type} {n : Nat} (t : Tbl α n) (i : Nat) (f : α → α) : Tbl α n :=
  if h : i < n then t.put ⟨i, h⟩ (f (t.row ⟨i, h⟩)) else t

/-- The attempt count after a door write: lowered to the retry limit plus 1 (R140). -/
def Door.store (x : Door) (n : DoorSettings) : Door :=
  { x with set := n, attempts := min x.attempts (n.retryLimit + 1) }

/-- A parsed entry is stored at its index; what the block keeps stands (R182). -/
def State.store1 (s : State) (i : Nat) (e : Entry) : State :=
  match e with
  | .line n => { s with line := { s.line with silenceMs := n } }
  | .side x => { s with line := { s.line with sides := putAt s.line.sides (i - 1) (fun _ => x) } }
  | .entry m => { s with table := putAt s.table i (fun _ => m) }
  | .cond src =>
    { s with board := { s.board with
        conds := putAt s.board.conds i (fun r => { r with source := src }) } }
  | .term t => { s with board := { s.board with terms := putAt s.board.terms i (fun _ => t) } }
  | .sensor x =>
    s.setScan { s.scan with sensors := putAt s.scan.sensors i (fun r =>
      { r with kind := x.kind, zero := x.zero, gain := x.gain, wetting := x.wetting,
               logged := x.logged }) }
  | .list l => s.setScan { s.scan with list := l }
  | .settings x => s.setScan { s.scan with settings := x }
  | .threshold t => s.setScan { s.scan with thresholds := putAt s.scan.thresholds i (fun _ => t) }
  | .channel x => s.setChans (putAt s.chans i (fun c => { c with set := x }))
  | .ramp x =>
    { s with plan := { s.plan with ramps := putAt s.plan.ramps i (fun r =>
      { r with position := x.position, extend := x.extend, retract := x.retract,
               staleLimit := x.staleLimit }) } }
  | .plan m => { s with plan := { s.plan with plans := putAt s.plan.plans i (fun _ => m) } }
  | .stage st => { s with plan := { s.plan with stages := putAt s.plan.stages i (fun _ => st) } }
  | .door x => { s with door := { s.door with doors := putAt s.door.doors i (fun d => d.store x) } }
  | .group x => { s with door := { s.door with groups := putAt s.door.groups i (fun _ => x) } }
  | .template x => s.setCall { s.call with templates := putAt s.call.templates i (fun _ => x) }
  | .zone lamp =>
    s.setCall { s.call with zones := putAt s.call.zones i (fun z => { z with lamp := lamp }) }
  | .pa node limit => s.setCall { s.call with paNode := node, paLimit := limit }

/-- One entry of a write: its index, its image and its check byte. -/
structure Written where
  index : Nat
  image : List Byte
  check : Byte
  deriving DecidableEq, Repr

/-- Every entry of a write whose image can be read is stored, also one that another check refuses; one that
cannot be read leaves the record as it stands. What the other entries of a block are judged against (R110, R117,
R183) follows from it (log 73). -/
def State.storeAll (s : State) (t : TableId) (ws : List Written) : State :=
  ws.foldl (fun n w =>
    match s.parseEntry t w.index w.image with
    | none => n
    | some e => n.store1 w.index e) s

/-! ## Judging (R182, R183) -/

/-- The owner is a ramp, door or lamp zone. -/
def owned (o : Owner) : Bool := o != .free

/-- The owner is a ramp or door. -/
def byRampOrDoor (o : Owner) : Bool :=
  match o with
  | .ramp _ | .door _ => true
  | .free | .lamp _ => false

/-- A cascaded odd channel is not owned by a ramp or door, as the write leaves the pair (R110). -/
def pairAllowed (after : Chans) (ch : Fin 16) (x : ChannelSettings) : Bool :=
  if isOdd ch then !(byRampOrDoor x.owner && (after.row (partner ch)).set.joined)
  else !(x.joined && byRampOrDoor (after.row (partner ch)).set.owner)

/-- A condition is the closed or open condition of a fitted door (R42). -/
def State.isSwitch (s : State) (c : Nat) : Bool :=
  (List.finRange 24).any (fun d =>
    let x := (s.door.doors.row d).set
    x.group.isSome && ((x.closedCond.map Fin.val) == some c || (x.openCond.map Fin.val) == some c))

/-- Door `i` is fitted (R139). -/
def State.fitted (s : State) (i : Nat) : Bool :=
  if h : i < 24 then (s.door.doors.row ⟨i, h⟩).set.group.isSome else false

/-- The tests of step 4 that read other records: `after` is the part as the write would leave its
tables (R42, R110, R114, R117, R140, R183). -/
def State.valueAllowed (s after : State) (i : Nat) (e : Entry) : Bool :=
  let service := s.req.mode == .service
  match e with
  | .channel x => if h : i < 16 then pairAllowed after.chans ⟨i, h⟩ x else false
  | .cond src =>
    !(service && s.isSwitch i && (match src with | .threshold _ => false | _ => true))
  | .ramp x =>
    if h : i < 4 then !(service && x.position.isNone && !(s.drivesOf ⟨i, h⟩).isEmpty) else false
  | .plan _ | .stage _ => !(service && after.planAgreement.isSome)
  | .door x =>
    !service || (s.fromThreshold x.closedCond && s.fromThreshold x.openCond
      && !(s.fitted i && (x.closedCond.isNone || x.openCond.isNone)))
  | _ => true

/-- A forbidden jump (R80). -/
def forbiddenJump (c n : Configuration) : Bool := c.active && n.active && c != n

/-- Step 5 of R182. -/
def State.jumps (s : State) (i : Nat) (e : Entry) : Bool :=
  match e with
  | .channel x => if h : i < 16 then forbiddenJump (s.chans.row ⟨i, h⟩).set.config x.config else false
  | _ => false

/-- The states in which a door is at rest (R78, R140). -/
def DoorState.resting : DoorState → Bool
  | .opened | .closed | .jammed => true
  | .unset | .warning | .closing | .backoff | .opening => false

/-- A channel entry write in SERVICE meets BUSY (R78). -/
def State.channelBusy (s : State) (ch : Fin 16) (n : ChannelSettings) : Bool :=
  let o := (s.chans.row ch).set
  let inUse :=
    match o.owner with
    | .ramp r => (s.ramp r).state != .idle
    | .door d => !(s.door.doors.row d).state.resting
    | .free | .lamp _ => false
  let rampGate :=
    match o.owner with
    | .ramp _ => o.gate != n.gate
    | _ => false
  let timer := o.mode != n.mode || o.sync != n.sync || o.joined != n.joined
  let partnerOwned := !isOdd ch && owned (s.chans.row (partner ch)).set.owner
  inUse || o.owner != n.owner || rampGate || (owned o.owner && timer)
    || (partnerOwned && (o.joined != n.joined || (o.joined && o.mode != n.mode)))

/-- A plan is the plan of a ramp not IDLE (R117). -/
def State.planInUse (s : State) (p : Fin 8) : Bool :=
  (List.finRange 4).any (fun r => (s.ramp r).state != .idle && (s.ramp r).plan == some p)

/-- An occupied slot names a template (R160). -/
def State.templateInUse (s : State) (i : Nat) : Bool :=
  (List.finRange 16).any (fun k =>
    match s.call.slots.row k with
    | none => false
    | some x => x.template.val == i)

/-- Step 6 of R182: in SERVICE, the entry is in use under its table's rule. -/
def State.entryBusy (s : State) (i : Nat) (e : Entry) : Bool :=
  s.req.mode == .service &&
  match e with
  | .channel x => if h : i < 16 then s.channelBusy ⟨i, h⟩ x else false
  | .ramp x =>
    if h : i < 4 then
      let o := s.ramp ⟨i, h⟩
      o.state != .idle || o.extend != x.extend || o.retract != x.retract
    else false
  | .plan _ => if h : i < 8 then s.planInUse ⟨i, h⟩ else false
  | .stage _ =>
    (List.finRange 8).any (fun p =>
      s.planInUse p && (s.stagesOf p).any (fun k => k.val == i))
  | .door x =>
    if h : i < 24 then
      let o := s.door.doors.row ⟨i, h⟩
      !o.state.resting || o.set.closeCh != x.closeCh || o.set.openCh != x.openCh
        || o.set.group.isSome != x.group.isSome
    else false
  | .template _ => s.templateInUse i
  | .zone lamp => if h : i < 16 then (s.call.zones.row ⟨i, h⟩).lamp != lamp else false
  | _ => false

/-- Steps 2 to 6 of R182 for one entry; none where it passes. -/
def State.judgeEntry (s after : State) (t : TableId) (w : Written) : Option Code :=
  if w.check ≠ checkByte w.image then some .badCheck
  else if t.inWritable w.index = false then some .badIndex
  else
    match s.parseEntry t w.index w.image with
    | none => some .badValue
    | some e =>
      if s.valueAllowed after w.index e = false then some .badValue
      else if s.jumps w.index e then some .forbiddenJump
      else if s.entryBusy w.index e then some .busy
      else none

/-- The first entry of a write that fails: its result and its index (R183; log 73). -/
def State.judgeAll (s : State) (t : TableId) (ws : List Written) : Option (Code × Nat) :=
  let after := s.storeAll t ws
  ws.findSome? (fun w => (s.judgeEntry after t w).map (fun c => (c, w.index)))

/-! ## Acting (R182) -/

/-- A condition whose source has changed is recomputed from the new one, its hold ended (R42). -/
def State.condWritten (old : State) (c : Fin 64) (s : State) : State :=
  let o := old.board.conds.row c
  let r := s.board.conds.row c
  if o.source = r.source then s else s.setFrameCond c (s.sourceValue r.source false) 0 none

/-- A written term is read again by every user that waits on it: channel forcings, then ramps, then group
triggers (R50; log 58). -/
def State.termWritten (t : Fin 32) (s : State) : State :=
  let s := (List.finRange 16).foldl (fun s ch =>
    if (s.chans.row ch).set.forcing = .termFalse t then s.judgeForcing ch else s) s
  let s := (List.finRange 4).foldl (fun s r =>
    if s.rampReads r t then s.rampTold r false else s) s
  s.readTriggers (fun g => g.trigger == some t)

/-- What a taken door write does: a door taken out of its group changes to UNSET (R140, R142; log 36), and a
door written into a group reads the group's trigger (R147). A door that the reading carries to CLOSED raises
the notice of R143 (log 60). -/
def State.doorWritten (old : State) (d : Fin 24) (s : State) : State :=
  let o := (old.door.doors.row d).set
  let x := s.door.doors.row d
  let s :=
    if o.group.isSome && x.set.group.isNone && x.state != .unset then
      s.setDoor d { x with state := .unset, timer := DoorState.unset.timer s.clock, due := none }
    else s
  let s := (s.followLane o.lane).followLane x.set.lane
  if o.group = x.set.group then s
  else
    let s := (s.followGroup o.group).followGroup x.set.group
    match x.set.group with
    | none => s
    | some g => s.readTrigger g

/-- What a taken group write does: a changed trigger term is read in SERVICE (R141, R147). -/
def State.groupWritten (old : State) (g : Fin 8) (s : State) : State :=
  if (old.door.groups.row g).trigger = (s.door.groups.row g).trigger then s
  else s.readTrigger g

/-- The owning block acts on a stored entry; `old` is the part before the write (R182). -/
def State.act1 (old : State) (s : State) (i : Nat) (e : Entry) : State :=
  match e with
  | .cond _ => if h : i < 64 then State.condWritten old ⟨i, h⟩ s else s
  | .term _ => if h : i < 32 then s.termWritten ⟨i, h⟩ else s
  | .list _ => s.listWritten old.scan
  | .settings _ => s.settingsWritten
  | .channel _ => if h : i < 16 then s.channelWritten old.chans ⟨i, h⟩ else s
  | .door _ => if h : i < 24 then State.doorWritten old ⟨i, h⟩ s else s
  | .group _ => if h : i < 8 then State.groupWritten old ⟨i, h⟩ s else s
  | .line _ | .side _ | .entry _ | .sensor _ | .threshold _ | .ramp _ | .plan _ | .stage _
  | .template _ | .zone _ | .pa _ _ => s

/-- The entries of a write act at the owning block in ascending index, after all are stored; R183 gives the
acting no order (log 65). -/
def State.actAll (old : State) (t : TableId) (ws : List Written) (s : State) : State :=
  ws.foldl (fun n w =>
    match old.parseEntry t w.index w.image with
    | none => n
    | some e => State.act1 old n w.index e) s

/-- A write that passes every check is taken: every entry is stored in one event, and then acts. What a whole
block moves at DOOR is one event: the levels and the warning calls come at its end (R142, R148, R182,
R183). -/
def State.takeWrite (s : State) (t : TableId) (ws : List Written) : State :=
  doorEvent (State.actAll s t ws) (s.storeAll t ws)

/-! ## The operations (R181 to R183) -/

/-- The number of entries a TABLE_READ returns (R181, R191). -/
def readCount (t : TableId) (first count : Nat) : Nat :=
  min count (min (t.first + t.count - first) (43 / t.size))

/-- TABLE_READ (R181). -/
def State.tableRead (s : State) (rq : Requester) (table first count : Byte) : State :=
  match tableOf table with
  | none => s.reply rq 0x12 .badTable [table, first]
  | some t =>
    if t.inRange first.toNat = false then s.reply rq 0x12 .badIndex [table, first]
    else
      let n := readCount t first.toNat count.toNat
      s.reply rq 0x12 .done
        ([table, first, u8 n] ++ (List.range n).flatMap (fun j => s.image t (first.toNat + j)))

/-- A writable table by its id (step 1 of R182). -/
def writableTable (id : Byte) : Option TableId :=
  match tableOf id with
  | none => none
  | some t => if t.writable then some t else none

/-- Entries judged as one write: the first failure gives the result and its index, and a write without
failure is taken (R182, R183). The index of DONE is not sent. -/
def State.write (s : State) (t : TableId) (ws : List Written) : (Code × Nat) × State :=
  match s.judgeAll t ws with
  | some f => (f, s)
  | none => ((.done, 0), s.takeWrite t ws)

/-- The REPLY to a write: a refusal carries the table and the index (R191). -/
def State.writeReply (s : State) (rq : Requester) (op table : Byte) (r : Code × Nat) : State :=
  s.reply rq op r.1 (if r.1 = .done then [] else [table, u8 r.2])

/-- TABLE_WRITE (R182, R191; log 50). -/
def State.tableWrite (s : State) (rq : Requester) (table index : Byte) (image : List Byte)
    (check : Byte) : State :=
  match writableTable table with
  | none => s.writeReply rq 0x13 table (.badTable, index.toNat)
  | some t =>
    if image.length ≠ t.size then s.writeReply rq 0x13 table (.badValue, index.toNat)
    else
      let r := s.write t [{ index := index.toNat, image := image, check := check }]
      r.2.writeReply rq 0x13 table r.1

/-- Entry `j` of a BLOCK_WRITE body (R183, R191). -/
def blockEntry (size first j : Nat) (body : List Byte) : Written :=
  let at_ := j * (size + 1)
  { index := first + j, image := (body.drop at_).take size, check := body.getD (at_ + size) 0 }

/-- The XOR of the check bytes of a block (R183). -/
def blockCheckOf (ws : List Written) : Byte := ws.foldl (fun x w => x ^^^ w.check) 0

/-- BLOCK_WRITE (R183, R191). The REPLY of one refused for a count of 0 or a wrong length, which has no failing
entry, carries the first index (log 71). -/
def State.blockWrite (s : State) (rq : Requester) (table first count : Byte) (body : List Byte)
    (blockCheck : Byte) : State :=
  match writableTable table with
  | none => s.writeReply rq 0x14 table (.badTable, first.toNat)
  | some t =>
    if count = 0 ∨ body.length ≠ count.toNat * (t.size + 1) then
      s.writeReply rq 0x14 table (.badValue, first.toNat)
    else
      let ws := (List.range count.toNat).map (fun j => blockEntry t.size first.toNat j body)
      if blockCheck ≠ blockCheckOf ws then s.writeReply rq 0x14 table (.badCheck, first.toNat)
      else
        let r := s.write t ws
        r.2.writeReply rq 0x14 table r.1

/-! ## Meanings -/

/-- TABLE_READ (R181). -/
def execTableRead (rq : Requester) (table first count : Byte) (s : State) :
    Host.Outcome State Fault Refusal :=
  event (.tableRead rq table first count) (asRequest (fun s => s.tableRead rq table first count)) s

/-- TABLE_WRITE (R182). -/
def execTableWrite (rq : Requester) (table index : Byte) (image : List Byte) (check : Byte)
    (s : State) : Host.Outcome State Fault Refusal :=
  event (.tableWrite rq table index image check)
    (asRequest (fun s => s.tableWrite rq table index image check)) s

/-- BLOCK_WRITE (R183). -/
def execBlockWrite (rq : Requester) (table first count : Byte) (body : List Byte) (blockCheck : Byte)
    (s : State) : Host.Outcome State Fault Refusal :=
  event (.blockWrite rq table first count body blockCheck)
    (asRequest (fun s => s.blockWrite rq table first count body blockCheck)) s

end Sys2Proof.Machine
end

