-- ==== Sys2Proof/Machine/Req.lean ====
section
/-! DEFINITION. REQ: modes, identity, status, notice settings, OPS_RESET, power-on reset, and the meanings
of REQ's own commands (R177 to R188). -/

namespace Sys2Proof.Machine

/-- The notice kind READY. -/
def noticeReady : Fin 13 := 12

/-! ## Operating modes (R178) -/

/-- A door is in WARNING, CLOSING, BACKOFF or OPENING (R178). -/
def DoorState.moving : DoorState → Bool
  | .warning | .closing | .backoff | .opening => true
  | .unset | .opened | .closed | .jammed => false

/-- The passage to SETUP is refused (R178). -/
def State.inMotion (s : State) : Bool :=
  (List.finRange 4).any (fun r => (s.ramp r).state != .idle)
  || (List.finRange 24).any (fun d => (s.door.doors.row d).state.moving)

/-- Every level owned by a ramp, door or lamp zone becomes OFF (R83). -/
def State.dropOwned (s : State) : State :=
  (List.finRange 16).foldl
    (fun s ch => if (s.chans.row ch).set.owner = .free then s else s.setLevel ch false) s

/-- The passage to SETUP (R178). -/
def State.toSetup (s : State) : State :=
  let s := (s.setReq { s.req with mode := .setup }).setCond condService false
  s.dropOwned.endAllCalls

/-- The passage to SERVICE: DOOR reads every group's trigger term (R156, R178), in ascending group number
(log 63). -/
def State.toService (s : State) : State :=
  let s := (s.setReq { s.req with mode := .service }).setCond condService true
  doorEvent (State.readTriggers (fun _ => true)) s

/-- MODE_SET: SETUP is 0 and SERVICE is 1 (R178, R191; log 29). -/
def State.modeSet (s : State) (rq : Requester) (mode : Byte) : State :=
  if mode = 0 then
    match s.req.mode with
    | .setup => s.reply rq 0x17 .done []
    | .service =>
      if s.inMotion then s.reply rq 0x17 .busy [] else s.toSetup.reply rq 0x17 .done []
  else if mode = 1 then
    match s.req.mode with
    | .service => s.reply rq 0x17 .done []
    | .setup =>
      match s.validate with
      | some f => s.reply rq 0x17 .badTable [u8 f.1.id, u8 f.2]
      | none => s.toService.reply rq 0x17 .done []
  else s.reply rq 0x17 .badValue []

/-! ## Identity, status and notices (R184 to R186) -/

/-- IDENTITY_WRITE (R184). -/
def State.identityWrite (s : State) (rq : Requester) (tag : Vector Byte 8) (check : Byte) : State :=
  if s.req.tagWritten then s.reply rq 0x18 .locked []
  else if check ≠ checkByte tag.toList then s.reply rq 0x18 .badCheck []
  else (s.setReq { s.req with tag := tag, tagWritten := true }).reply rq 0x18 .done []

/-- The three counts of a port, in the order of R191. -/
def PortState.counts (q : PortState) : List Byte :=
  u16 q.crcCount ++ u16 q.normalDrops ++ u16 q.safetyDrops

/-- The code of the operating mode. -/
def Mode.byte : Mode → Byte
  | .setup => 0 | .service => 1

/-- The status record (R185, R191). -/
def State.status (s : State) : List Byte :=
  [s.req.mode.byte, u8 s.line.strap.val] ++ s.line.up.counts ++ s.line.dn.counts
  ++ u16 s.line.clashCount ++ u16 s.scan.overrun ++ u16 s.scan.buffer.length ++ u16 s.scan.overflow
  ++ u16 s.scan.stored ++ u16 s.scan.read ++ u16 s.scan.cleared ++ u16 s.scan.discarded
  ++ u16 s.door.warnCallLost ++ u16 s.call.paLate ++ bytesOf16 s.req.marks

/-- A count is zeroed where its bit is set. -/
def zeroIf (b : Bool) (n : Nat) : Nat := if b then 0 else n

/-- The counts a mask names become 0 (R185, R191). -/
def State.clearCounts (s : State) (m : BitVec 16) : State :=
  let up := s.line.up
  let dn := s.line.dn
  { s with
    line := { s.line with
      up := { up with crcCount := zeroIf (m.getLsbD 0) up.crcCount,
                      normalDrops := zeroIf (m.getLsbD 2) up.normalDrops,
                      safetyDrops := zeroIf (m.getLsbD 4) up.safetyDrops },
      dn := { dn with crcCount := zeroIf (m.getLsbD 1) dn.crcCount,
                      normalDrops := zeroIf (m.getLsbD 3) dn.normalDrops,
                      safetyDrops := zeroIf (m.getLsbD 5) dn.safetyDrops },
      clashCount := zeroIf (m.getLsbD 6) s.line.clashCount },
    scan := { s.scan with overrun := zeroIf (m.getLsbD 7) s.scan.overrun },
    door := { s.door with warnCallLost := zeroIf (m.getLsbD 8) s.door.warnCallLost },
    call := { s.call with paLate := zeroIf (m.getLsbD 9) s.call.paLate } }

/-- FLAGS_CLEAR (R185). -/
def State.flagsClear (s : State) (rq : Requester) (counts notices : BitVec 16) : State :=
  let s := s.clearCounts counts
  (s.setReq { s.req with marks := s.req.marks &&& ~~~ notices }).reply rq 0x16 .done []

/-- NOTICE_SET: positions outside 1..12 of the enabled set are ignored (R186). -/
def State.noticeSet (s : State) (rq : Requester) (node : Byte) (enabled : BitVec 16)
    (disable : Byte) : State :=
  match flag? disable with
  | none => s.reply rq 0x19 .badValue []
  | some off =>
    if 127 < node.toNat then s.reply rq 0x19 .badValue []
    else
      (s.setReq { s.req with node := node, enabled := enabled &&& 0x0FFF,
                             disable := off }).reply rq 0x19 .done []

/-! ## Malformed requests (R177, R191) -/

/-- The result of a request that no form fits, with its data: a write that names an unknown or read-only
table is BAD_TABLE whatever its length, and every refusal of a write carries a table and an index (R191;
log 14). -/
def malformedResult (payload : List Byte) : Code × List Byte :=
  match payload with
  | [] => (.badValue, [])
  | op :: a =>
    if op = 0x13 ∨ op = 0x14 then
      match a with
      | [] => (.badValue, [Config.missingTable payload, Config.missingIndex payload])
      | t :: rest =>
        (if (writableTable t).isNone then .badTable else .badValue,
         [t, rest.head?.getD (Config.missingIndex payload)])
    else (.badValue, [])

/-- MALFORMED_REQUEST: an empty payload is answered with operation code 00h, and an unknown code is
echoed (R177, R191; log 48). -/
def State.malformed (s : State) (rq : Requester) (payload : List Byte) : State :=
  let r := malformedResult payload
  s.reply rq (payload.head?.getD 0) r.1 r.2

/-! ## Operations reset (R188) -/

/-- OPERATIONS RESET OF MATCH (R21). -/
def State.resetMatch (s : State) : State :=
  { s with table := s.table.map (fun m => { m with hits := 0, refusals := 0 }) }

/-- OPS_RESET: the REPLY of DONE is offered first; the blocks are reset; the conditions follow; READY of
subject 1 ends it (R188; log 28). OUT is reset before PLAN, so a ramp's PWM channel takes as A in force the
compare A that PLAN's reset then sets to 0 (log 69). -/
def State.opsReset (s : State) (rq : Requester) : State :=
  let s := s.reply rq 0x1A .done []
  let s := s.resetMatch
  let s := s.setScan s.scan.opsReset
  let s := s.resetOut.resetPlan.resetDoors.resetCall
  s.resetBoard.notice noticeReady 1

/-! ## Meanings -/

/-- MALFORMED_REQUEST (R177). -/
def execMalformedRequest (rq : Requester) (payload : List Byte) (s : State) :
    Host.Outcome State Fault Refusal :=
  event (.malformedRequest rq payload) (asRequest (fun s => s.malformed rq payload)) s

/-- STATUS_READ (R185). -/
def execStatusRead (rq : Requester) (s : State) : Host.Outcome State Fault Refusal :=
  event (.statusRead rq) (asRequest (fun s => s.reply rq 0x15 .done s.status)) s

/-- FLAGS_CLEAR (R185). -/
def execFlagsClear (rq : Requester) (counts notices : BitVec 16) (s : State) :
    Host.Outcome State Fault Refusal :=
  event (.flagsClear rq counts notices) (asRequest (fun s => s.flagsClear rq counts notices)) s

/-- MODE_SET (R178). -/
def execModeSet (rq : Requester) (mode : Byte) (s : State) : Host.Outcome State Fault Refusal :=
  event (.modeSet rq mode) (asRequest (fun s => s.modeSet rq mode)) s

/-- IDENTITY_WRITE (R184). -/
def execIdentityWrite (rq : Requester) (tag : Vector Byte 8) (check : Byte) (s : State) :
    Host.Outcome State Fault Refusal :=
  event (.identityWrite rq tag check) (asRequest (fun s => s.identityWrite rq tag check)) s

/-- NOTICE_SET (R186). -/
def execNoticeSet (rq : Requester) (node : Byte) (enabled : BitVec 16) (disable : Byte) (s : State) :
    Host.Outcome State Fault Refusal :=
  event (.noticeSet rq node enabled disable)
    (asRequest (fun s => s.noticeSet rq node enabled disable)) s

/-- OPS_RESET (R188). -/
def execOpsReset (rq : Requester) (s : State) : Host.Outcome State Fault Refusal :=
  event (.opsReset rq) (asRequest (fun s => s.opsReset rq)) s

/-- POWER_ON_RESET begins: every table and state is brought to its initial value, and until the
completion nothing is received, transmitted or taken. The straps are read at the completion (R1, R2,
R14, R96; log 8). -/
def State.beginReset (s : State) : State :=
  let t := State.powerOn s.line.strap s.faultA s.faultB
  { t with inReset := true, pending := s.pending, req := { t.req with marks := 0 } }

/-- POWER_ON_RESET (R1, R2; log 8). -/
def execPowerOnReset (s : State) : Host.Outcome State Fault Refusal := .next s.beginReset

/-- Power-on reset completes: the straps and the fault pins are read, and every table and state has its
initial value (R1, R2, R39, R51, R99; log 8). -/
def State.completeReset (s : State) (straps : Fin 128) : State :=
  { State.powerOn straps s.faultA s.faultB with pending := s.pending }

/-- POWER_ON_RESET_COMPLETION (R1; log 8). -/
def execPowerOnResetCompletion (straps : Fin 128) (s : State) : Host.Outcome State Fault Refusal :=
  .next (s.completeReset straps)

end Sys2Proof.Machine
end

