-- ==== Sys2Proof/Machine/Line.lean ====
section
/-! DEFINITION. LINE: reception, the destination decision, transmission and bridge silence (R1 to R18). -/

namespace Sys2Proof.Machine

/-- The notice kind ADDRESS_CLASH. -/
def noticeClash : Fin 13 := 1
/-- The notice kind BRIDGE_SILENT. -/
def noticeSilent : Fin 13 := 2

/-- A frame that fails FRAME CHECK counts on its port (R3, R18). -/
def State.crcFailure (s : State) (p : Port) : State :=
  let q := s.port p
  s.setPort p { q with crcCount := satAdd 65535 q.crcCount 1 }

/-- ADDRESS CLASH (R4). -/
def State.clash (s : State) (p : Port) : State :=
  let s := { s with line := { s.line with clashCount := satAdd 65535 s.line.clashCount 1 } }
  s.notice noticeClash (match p with | .up => 0 | .dn => 1)

/-- The side of a port. -/
def portSide : Port → Side
  | .up => .up
  | .dn => .dn

/-- SIDE-MAP LEARNING: an entry not pinned takes the arrival port (R5). -/
def State.learn (s : State) (node : Byte) (p : Port) : State :=
  if h : 1 ≤ node.toNat ∧ node.toNat ≤ 126 then
    let i : Fin 126 := ⟨node.toNat - 1, by omega⟩
    let x := s.line.sides.row i
    if x.pinned then s
    else { s with line := { s.line with sides := s.line.sides.put i { x with side := portSide p } } }
  else s

/-- A checked frame on UP starts or restarts the bridge-silence timer, and BRIDGE_LINK is TRUE (R15). -/
def State.bridgeHeard (s : State) (p : Port) : State :=
  match p with
  | .dn => s
  | .up =>
    ({ s with line := { s.line with silence := some (s.clock + ms s.line.silenceMs) } }).setCond
      condBridge true

/-- The operations that REQ performs itself, in the event of the reception; every other one is handed to
the block that owns it (R177; log 11). -/
def ownOperation : Instr → Option (State → State)
  | .malformedRequest rq payload => some (fun s => s.malformed rq payload)
  | .tableRead rq t i n => some (fun s => s.tableRead rq t i n)
  | .tableWrite rq t i img chk => some (fun s => s.tableWrite rq t i img chk)
  | .blockWrite rq t i n body chk => some (fun s => s.blockWrite rq t i n body chk)
  | .statusRead rq => some (fun s => s.reply rq 0x15 .done s.status)
  | .flagsClear rq counts notices => some (fun s => s.flagsClear rq counts notices)
  | .modeSet rq m => some (fun s => s.modeSet rq m)
  | .identityWrite rq tag chk => some (fun s => s.identityWrite rq tag chk)
  | .noticeSet rq n e d => some (fun s => s.noticeSet rq n e d)
  | .opsReset rq => some (fun s => s.opsReset rq)
  | _ => none

/-- REQUEST TAKING (R177). -/
def State.takeRequest (s : State) (f : Frame) : State :=
  let i := parseRequest { node := f.src, tag := f.tag } f.payload
  match ownOperation i with
  | some act => act s
  | none => s.hand i

/-- CALL is handed a CALL_DONE with its destination (R8). -/
def State.handCallDone (s : State) (f : Frame) : State :=
  s.hand (.callDoneReception f.src f.dst f.tag f.payload)

/-- DESTINATION DECISION (R8). -/
def State.route (s : State) (p : Port) (f : Frame) : State :=
  if s.own = some f.dst then
    if f.kind = kindRequest then s.takeRequest f
    else if f.kind = kindCallDone then s.handCallDone f
    else s
  else
    let s := if f.kind = kindCallDone then s.handCallDone f else s
    s.matchFrame p f

/-- The RECEPTION of a checked frame: clash test, learning, bridge restart, destination decision
(R1, R4). -/
def State.checkedFrame (s : State) (p : Port) (f : Frame) : State :=
  if s.own = some f.src then (s.clash p).bridgeHeard p
  else ((s.learn f.src p).bridgeHeard p).route p f

/-- The RECEPTION of a run of bytes (R1, R3). -/
def State.receive (s : State) (p : Port) (bytes : List Byte) : State :=
  match frameCheck bytes with
  | none => s.crcFailure p
  | some f => s.checkedFrame p f

/-- RECEPTION (R1). -/
def execReception (p : Port) (bytes : List Byte) (s : State) : Host.Outcome State Fault Refusal :=
  event (.reception p bytes) (fun s => s.receive p bytes) s

/-- TRANSMIT_COMPLETION (R13). -/
def execTransmitCompletion (p : Port) (s : State) : Host.Outcome State Fault Refusal :=
  event (.transmitCompletion p) (fun s => s.setPort p (s.port p).complete) s

/-- The bridge-silence timer expires (R15). -/
def State.bridgeSilent (s : State) : State :=
  (({ s with line := { s.line with silence := none } }).setCond condBridge false).notice noticeSilent 0

/-- BRIDGE_SILENCE_EXPIRY: acts while the timer is RUNNING (R15). -/
def execBridgeSilenceExpiry (s : State) : Host.Outcome State Fault Refusal :=
  event .bridgeSilenceExpiry (fun s => if s.line.silence.isSome then s.bridgeSilent else s) s

end Sys2Proof.Machine
end

