-- ==== Sys2Proof/Machine/Clock.lean ====
section
/-! DEFINITION. The deadlines of the part's running timers and intervals, and the expiry that is due
(log 3, log 4). -/

namespace Sys2Proof.Machine

/-- A deadline: its time, and the expiry event it stands for. -/
abbrev Deadline := Nat × Instr

/-- A timer that may run gives its deadline. -/
def deadline (due : Option Nat) (c : Instr) : List Deadline :=
  match due with
  | none => []
  | some t => [(t, c)]

/-- The age interval and the holds (R45, R46). -/
def State.boardDeadlines (s : State) : List Deadline :=
  (s.board.ageDue, .ageIntervalExpiry)
  :: (List.finRange 64).flatMap (fun c => deadline (s.board.conds.row c).hold (.holdExpiry c))

/-- The dwell of the slot in which a scan stands (R60). -/
def State.scanDeadlines (s : State) : List Deadline :=
  match s.scan.scanner with
  | .scanning r => if r.converting then [] else [(r.dwellEnd, .dwellEnd)]
  | _ => []

/-- The cut-off delay and the restart delay of a channel (R92, R93). -/
def State.channelDeadlines (s : State) (ch : Fin 16) : List Deadline :=
  let c := s.chans.row ch
  deadline c.supervision (.cutOffDelayExpiry ch)
  ++ (match c.restart with
      | .running t => [(t, .restartDelayExpiry ch)]
      | _ => [])

/-- When a running stopwatch reaches a time. -/
def Stopwatch.reaches (w : Stopwatch) (time : Nat) : Option Nat := w.since.map (fun t => t + (time - w.acc))

/-- The four timers of a ramp (R123, R124, R125, R130). -/
def State.rampDeadlines (s : State) (r : Fin 4) : List Deadline :=
  let x := s.ramp r
  deadline ((s.timeoutRuns r).bind x.stageTimer.reaches) (.stageTimeoutExpiry r)
  ++ (if (s.driving r).isSome then deadline x.stale (.staleWatchExpiry r) else [])
  ++ (match x.state, x.dwell with
      | .running, .running t => [(t, .dwellTimerExpiry r)]
      | _, _ => [])
  ++ (if (s.retrying r).isSome then deadline x.retry (.retryIntervalExpiry r) else [])

/-- The state timer of a door that stands in a timed state (R142). -/
def State.doorDeadlines (s : State) (d : Fin 24) : List Deadline :=
  let x := s.door.doors.row d
  if x.state.moving then deadline x.due (.doorStateTimerExpiry d) else []

/-- The three timers of a call slot (R170, R171, R173). -/
def State.slotDeadlines (s : State) (k : Fin 16) : List Deadline :=
  match s.call.slots.row k with
  | none => []
  | some x =>
    deadline x.limit (.callDoneLimitExpiry k) ++ deadline x.interval (.intervalExpiry k)
    ++ deadline x.lampDue (.lampStepExpiry k)

/-- Every deadline of the part. -/
def State.deadlines (s : State) : List Deadline :=
  deadline s.line.silence .bridgeSilenceExpiry ++ s.boardDeadlines ++ s.scanDeadlines
  ++ (List.finRange 16).flatMap s.channelDeadlines ++ (List.finRange 4).flatMap s.rampDeadlines
  ++ (List.finRange 24).flatMap s.doorDeadlines ++ (List.finRange 16).flatMap s.slotDeadlines

/-- The earlier of two deadlines; the first of two at one time. -/
def earlier (best : Option Deadline) (x : Deadline) : Option Deadline :=
  match best with
  | none => some x
  | some b => if x.1 < b.1 then some x else best

/-- The expiry that is due: the one of the earliest deadline that the clock has reached (log 3). -/
def State.dueEvent (s : State) : Option Instr :=
  ((s.deadlines.filter (fun x => decide (x.1 ≤ s.clock))).foldl earlier none).map Prod.snd

end Sys2Proof.Machine
end

