-- ==== Sys2Proof/Machine/Dispatch.lean ====
section
/-! DEFINITION. The meaning of every command: one arm for each constructor of `Instr`. -/

namespace Sys2Proof.Machine

def exec (i : Instr) (s : State) : Host.Outcome State Fault Refusal :=
  match i with
  | .reception p bytes => Sys2Proof.Machine.execReception p bytes s
  | .transmitCompletion p => Sys2Proof.Machine.execTransmitCompletion p s
  | .bridgeSilenceExpiry => Sys2Proof.Machine.execBridgeSilenceExpiry s
  | .powerOnReset => Sys2Proof.Machine.execPowerOnReset s
  | .faultLineChange l low => Sys2Proof.Machine.execFaultLineChange l low s
  | .conditionChange c v u => Sys2Proof.Machine.execConditionChange c v u s
  | .ageIntervalExpiry => Sys2Proof.Machine.execAgeIntervalExpiry s
  | .holdExpiry c => Sys2Proof.Machine.execHoldExpiry c s
  | .setCond e c hold => Sys2Proof.Machine.execSetCond e c hold s
  | .clearCond e c => Sys2Proof.Machine.execClearCond e c s
  | .startPlan e r p => Sys2Proof.Machine.execStartPlan e r p s
  | .closeGroup e groups immediate => Sys2Proof.Machine.execCloseGroup e groups immediate s
  | .releaseGroup e groups => Sys2Proof.Machine.execReleaseGroup e groups s
  | .queueCall e t override => Sys2Proof.Machine.execQueueCall e t override s
  | .rateGeneratorOutput g => Sys2Proof.Machine.execRateGeneratorOutput g s
  | .dwellEnd => Sys2Proof.Machine.execDwellEnd s
  | .sample raw => Sys2Proof.Machine.execSample raw s
  | .doorDerivation => Sys2Proof.Machine.execDoorDerivation s
  | .positionSample r p => Sys2Proof.Machine.execPositionSample r p s
  | .trialStepCompletion readings => Sys2Proof.Machine.execTrialStepCompletion readings s
  | .trimCompletion readings => Sys2Proof.Machine.execTrimCompletion readings s
  | .timerStep => Sys2Proof.Machine.execTimerStep s
  | .overCurrentOnset ch mA => Sys2Proof.Machine.execOverCurrentOnset ch mA s
  | .currentRecovery ch mA => Sys2Proof.Machine.execCurrentRecovery ch mA s
  | .cutOffDelayExpiry ch => Sys2Proof.Machine.execCutOffDelayExpiry ch s
  | .restartDelayExpiry ch => Sys2Proof.Machine.execRestartDelayExpiry ch s
  | .forcedEvent o ch => Sys2Proof.Machine.execForcedEvent o ch s
  | .cutoffEvent o ch => Sys2Proof.Machine.execCutoffEvent o ch s
  | .stageTimeoutExpiry r => Sys2Proof.Machine.execStageTimeoutExpiry r s
  | .staleWatchExpiry r => Sys2Proof.Machine.execStaleWatchExpiry r s
  | .dwellTimerExpiry r => Sys2Proof.Machine.execDwellTimerExpiry r s
  | .retryIntervalExpiry r => Sys2Proof.Machine.execRetryIntervalExpiry r s
  | .callStageResult r ask result => Sys2Proof.Machine.execCallStageResult r ask result s
  | .doorStateTimerExpiry d => Sys2Proof.Machine.execDoorStateTimerExpiry d s
  | .warningCallResult d result => Sys2Proof.Machine.execWarningCallResult d result s
  | .callDoneReception src dst tag payload => Sys2Proof.Machine.execCallDoneReception src dst tag payload s
  | .callDoneLimitExpiry k => Sys2Proof.Machine.execCallDoneLimitExpiry k s
  | .intervalExpiry k => Sys2Proof.Machine.execIntervalExpiry k s
  | .lampStepExpiry k => Sys2Proof.Machine.execLampStepExpiry k s
  | .malformedRequest rq payload => Sys2Proof.Machine.execMalformedRequest rq payload s
  | .planStart rq r p => Sys2Proof.Machine.execPlanStart rq r p s
  | .planAbort rq r => Sys2Proof.Machine.execPlanAbort rq r s
  | .planResume rq r => Sys2Proof.Machine.execPlanResume rq r s
  | .groupClose rq groups immediate => Sys2Proof.Machine.execGroupClose rq groups immediate s
  | .groupRelease rq groups => Sys2Proof.Machine.execGroupRelease rq groups s
  | .callQueue o t override => Sys2Proof.Machine.execCallQueue o t override s
  | .callCancel o form index => Sys2Proof.Machine.execCallCancel o form index s
  | .channelSet rq ch level => Sys2Proof.Machine.execChannelSet rq ch level s
  | .channelRestore rq ch => Sys2Proof.Machine.execChannelRestore rq ch s
  | .forceClear rq ch => Sys2Proof.Machine.execForceClear rq ch s
  | .triggerClear rq ch => Sys2Proof.Machine.execTriggerClear rq ch s
  | .condSet rq c hold => Sys2Proof.Machine.execCondSet rq c hold s
  | .condClear rq c => Sys2Proof.Machine.execCondClear rq c s
  | .scanNow o => Sys2Proof.Machine.execScanNow o s
  | .trimStart rq => Sys2Proof.Machine.execTrimStart rq s
  | .bufferRead rq => Sys2Proof.Machine.execBufferRead rq s
  | .bufferClear rq => Sys2Proof.Machine.execBufferClear rq s
  | .tableRead rq table first count => Sys2Proof.Machine.execTableRead rq table first count s
  | .tableWrite rq table index image check => Sys2Proof.Machine.execTableWrite rq table index image check s
  | .blockWrite rq table first count body blockCheck => Sys2Proof.Machine.execBlockWrite rq table first count body blockCheck s
  | .statusRead rq => Sys2Proof.Machine.execStatusRead rq s
  | .flagsClear rq counts notices => Sys2Proof.Machine.execFlagsClear rq counts notices s
  | .modeSet rq mode => Sys2Proof.Machine.execModeSet rq mode s
  | .identityWrite rq tag check => Sys2Proof.Machine.execIdentityWrite rq tag check s
  | .noticeSet rq node enabled disable => Sys2Proof.Machine.execNoticeSet rq node enabled disable s
  | .opsReset rq => Sys2Proof.Machine.execOpsReset rq s
  | .powerOnResetCompletion straps => Sys2Proof.Machine.execPowerOnResetCompletion straps s

end Sys2Proof.Machine
end

