-- ==== Sys2Proof/Machine/Step.lean ====
section
/-! DEFINITION. The step: the command at the front of the queue; on an empty queue the oldest event handed
from block to block, then the expiry that is due, then nothing (log 1, log 2, log 3). -/

namespace Sys2Proof.Machine

/-- The event that the part takes by itself when no command waits: the oldest event handed on, or else
the expiry that is due; none while the part is in power-on reset. -/
def State.ownEvent (s : State) : Option Instr :=
  if s.inReset then none
  else
    match s.handed with
    | c :: _ => some c
    | [] => s.dueEvent

/-- One step of the part. -/
def step (s : State) : Host.Outcome State Fault Refusal :=
  match s.pending with
  | c :: rest => exec c { s with pending := rest }
  | [] =>
    match s.ownEvent with
    | some c => exec c s
    | none => .next s

/-- The state with the command that a word spells put at the front of its queue. The table gives no row
any bits, so no word spells one and the state is unchanged. -/
def State.withFetchWord (s : State) (nbits w : Nat) : State :=
  match decodeTableWord nbits w with
  | none => s
  | some c => { s with pending := c :: s.pending }

end Sys2Proof.Machine
end

