-- ==== Sys2Proof/WellFormed.lean ====
section
/-! DEFINITION. The commands that a sender can put to the part: the ranges that the rules give the operands.
`exec` does not ask for well-formedness: a request out of range is refused by its rule, with a REPLY. -/

namespace Sys2Proof

/-- A sender's address is 1..126 (R3). -/
def Requester.wf (rq : Requester) : Bool := decide (1 ≤ rq.node.toNat) && decide (rq.node.toNat ≤ 126)

/-- A payload holds 0..48 bytes (R3). -/
def payloadWf (payload : List Byte) : Bool := decide (payload.length ≤ 48)

/-- A time held in two bytes (R19, R191). -/
def wordWf (n : Nat) : Bool := decide (n ≤ 65535)

/-- A byte names one of `n` records. -/
def indexWf (n : Nat) (b : Byte) : Bool := decide (b.toNat < n)

/-- A match action names a condition 16..63 (R20). -/
def actionCondWf (c : Byte) : Bool := decide (16 ≤ c.toNat) && decide (c.toNat ≤ 63)

/-- A flag byte is 0 or 1 (R190). -/
def flagWf (b : Byte) : Bool := b == 0 || b == 1

/-- A zone-set override is absent or not empty (R20). -/
def overrideWf (z : Option (BitVec 16)) : Bool := z != some 0

/-- A queue request of DOOR or PLAN names a template and a non-empty override (R124, R148). -/
def CallOrigin.wf (o : CallOrigin) (t : Byte) (z : Option (BitVec 16)) : Bool :=
  match o with
  | .request rq => rq.wf
  | .warning _ | .stage _ _ => indexWf 32 t && overrideWf z

/-- DOOR cancels by template alone (R153). -/
def CancelOrigin.wf (o : CancelOrigin) (form index : Byte) : Bool :=
  match o with
  | .request rq => rq.wf
  | .release => form == 1 && indexWf 32 index

/-- The sender of a SCAN_NOW request. -/
def ScanOrigin.wf : ScanOrigin → Bool
  | .request rq => rq.wf
  | .action _ => true

/-- A scaled value is 0..32767 (R61). -/
def scaledWf (p : Nat) : Bool := decide (p ≤ 32767)

/-- FORCED and CUTOFF events are handed to an owner: a FREE channel has none (R88, R92). -/
def ownerWf (o : Owner) : Bool := o != .free

/-- A command is well-formed: its operands lie in the ranges that its sender can give. -/
def Instr.wf (i : Instr) : Bool :=
  match i with
  | .reception _ _ | .transmitCompletion _ | .bridgeSilenceExpiry | .powerOnReset
  | .faultLineChange _ _ | .conditionChange _ _ _ | .ageIntervalExpiry | .holdExpiry _
  | .rateGeneratorOutput _ | .dwellEnd | .sample _ | .doorDerivation | .trialStepCompletion _
  | .trimCompletion _ | .timerStep | .overCurrentOnset _ _ | .currentRecovery _ _
  | .cutOffDelayExpiry _ | .restartDelayExpiry _ | .stageTimeoutExpiry _ | .staleWatchExpiry _
  | .dwellTimerExpiry _ | .retryIntervalExpiry _ | .callStageResult _ _ _
  | .doorStateTimerExpiry _ | .warningCallResult _ _ | .callDoneLimitExpiry _ | .intervalExpiry _
  | .lampStepExpiry _ | .powerOnResetCompletion _ => true
  | .setCond _ c hold => actionCondWf c && wordWf hold
  | .clearCond _ c => actionCondWf c
  | .startPlan _ r p => indexWf 4 r && indexWf 8 p
  | .closeGroup _ groups immediate => groups != 0 && flagWf immediate
  | .releaseGroup _ groups => groups != 0
  | .queueCall _ t override => indexWf 32 t && overrideWf override
  | .positionSample _ p => scaledWf p
  | .forcedEvent o _ | .cutoffEvent o _ => ownerWf o
  | .callDoneReception _ _ _ payload => payloadWf payload
  | .malformedRequest rq payload =>
    rq.wf && payloadWf payload && parseRequest rq payload == .malformedRequest rq payload
  | .callQueue o t override => o.wf t override
  | .callCancel o form index => o.wf form index
  | .scanNow o => o.wf
  | .condSet rq _ hold => rq.wf && wordWf hold
  | .tableWrite rq _ _ image _ => rq.wf && decide (image.length ≤ 44)
  | .blockWrite rq _ _ _ body _ => rq.wf && decide (body.length ≤ 43)
  | .planStart rq _ _ | .planAbort rq _ | .planResume rq _ | .groupClose rq _ _
  | .groupRelease rq _ | .channelSet rq _ _ | .channelRestore rq _ | .forceClear rq _
  | .triggerClear rq _ | .condClear rq _ | .trimStart rq | .bufferRead rq | .bufferClear rq
  | .tableRead rq _ _ _ | .statusRead rq | .flagsClear rq _ _ | .modeSet rq _
  | .identityWrite rq _ _ | .noticeSet rq _ _ _ | .opsReset rq => rq.wf

end Sys2Proof
end

