-- ==== Sys2Proof/Safety.lean ====
section
/-! DEFINITION. What a safe state of the part is, in the terms that the statements use: the facts that the
rules promise of every state, and that every step keeps. -/

namespace Sys2Proof.Machine

/-- A transmit queue holds at most 12 frames, of which at most 8 are NORMAL (R10). -/
def PortState.bounded (q : PortState) : Prop := q.total ≤ 12 ∧ q.normals ≤ 8

/-- A transmitter is not IDLE while its queue holds a frame (R13). -/
def PortState.busySending (q : PortState) : Prop := q.sending = none → q.waiting = []

/-- Both ports keep the queue rules (R10, R13). -/
structure State.queuesSafe (s : State) : Prop where
  upBounded : s.line.up.bounded
  dnBounded : s.line.dn.bounded
  upSending : s.line.up.busySending
  dnSending : s.line.dn.busySending

/-- A channel that is cut off, or whose configuration is not active, does not conduct (R79, R82, R92). -/
def Channel.safe (c : Channel) : Prop :=
  c.conducting = true → c.cutOff = false ∧ c.set.config.active = true

/-- No channel conducts that must not (R82). -/
def State.outputsSafe (s : State) : Prop := ∀ ch : Fin 16, (s.chans.row ch).safe

/-- In SETUP the requested level of every owned channel is OFF (R83). -/
def State.setupSafe (s : State) : Prop :=
  s.req.mode = .setup → ∀ ch : Fin 16, (s.chans.row ch).set.owner ≠ .free →
    (s.chans.row ch).requested = false

/-- The attempt count of a door stays within its retry limit plus 1 (R139, R151). -/
def State.attemptsSafe (s : State) : Prop :=
  ∀ d : Fin 24, (s.door.doors.row d).attempts ≤ (s.door.doors.row d).set.retryLimit + 1

/-- The sample buffer holds at most 512 records (R66). -/
def State.bufferSafe (s : State) : Prop := s.scan.buffer.length ≤ 512

/-- The sources of conditions 0..15 are built in (R38). -/
def State.sourcesSafe (s : State) : Prop :=
  ∀ c : Fin 64, c.val < 16 → (s.board.conds.row c).source = .fixed

/-- A SPEAKING slot holds a token and runs its limit timer, and no other slot does (R163, R167). -/
def Slot.safe (x : Slot) : Prop :=
  (x.state = .speaking → x.token.isSome ∧ x.limit.isSome)
  ∧ (x.state ≠ .speaking → x.token = none ∧ x.limit = none)

/-- Every occupied slot keeps the slot rule. -/
def State.slotsSafe (s : State) : Prop :=
  ∀ k : Fin 16, ∀ x, s.call.slots.row k = some x → x.safe

/-- The samples stored are the samples read, cleared and present, while the stored count has not
saturated; and at most 512 are present (R70). -/
def State.accountSafe (s : State) : Prop :=
  s.bufferSafe ∧ (s.scan.stored < 65535 →
    s.scan.stored = s.scan.read + s.scan.cleared + s.scan.buffer.length)

/-- An entry counts no more refusals than hits, at most 255 refusals and at most 65535 hits (R36). -/
def State.countsSafe (s : State) : Prop :=
  ∀ e : Fin 64, (s.table.row e).refusals ≤ (s.table.row e).hits
    ∧ (s.table.row e).refusals ≤ 255 ∧ (s.table.row e).hits ≤ 65535

/-- Stage `k` is a stage of plan `p` (R115). -/
def State.inPlan (s : State) (p : Fin 8) (k : Fin 64) : Prop :=
  (s.plan.plans.row p).first.val ≤ k.val
    ∧ k.val < (s.plan.plans.row p).first.val + (s.plan.plans.row p).count

/-- What the rules promise of a ramp: an IDLE ramp stands at no stage; any other stands, in SERVICE, at a stage
of its plan; its command is above 0 only RUNNING at an ENTERED DRIVE stage, within the effective Vmax; and
its dwell timer has time only at an ENTERED DWELL stage (R118, R120, R123, R131, R134, R179). -/
structure State.rampSafe (s : State) (r : Fin 4) : Prop where
  atRest : (s.ramp r).state = .idle →
    (s.ramp r).stage = none ∧ (s.ramp r).phase = .pending ∧ (s.ramp r).dwell = .stopped
  placed : (s.ramp r).state ≠ .idle → s.req.mode = .service
    ∧ ∃ p k, (s.ramp r).plan = some p ∧ (s.ramp r).stage = some k ∧ s.inPlan p k
  command : 0 < (s.ramp r).sPrev → (s.ramp r).state = .running ∧ (s.ramp r).phase = .entered
    ∧ ∃ k d, (s.ramp r).stage = some k ∧ (s.stage k).kind = .drive d
      ∧ (s.ramp r).sPrev ≤ min d.vMax 1000
  dwells : (s.ramp r).dwell ≠ .stopped → (s.ramp r).phase = .entered
    ∧ ∃ k n, (s.ramp r).stage = some k ∧ (s.stage k).kind = .dwell n

/-- Every plan lies in the stage pool, and every ramp keeps its rules (R115). -/
structure State.rampsSafe (s : State) : Prop where
  plans : ∀ p : Fin 8, 1 ≤ (s.plan.plans.row p).count
    ∧ (s.plan.plans.row p).first.val + (s.plan.plans.row p).count ≤ 64
  ramps : ∀ r : Fin 4, s.rampSafe r

/-- Every condition that follows a source has its source's value: the conditions 0 and 5 to 15, and every
assignable condition but a FRAME one, which alone has a hold (R37, R38, R40, R41, R118, R143). -/
structure State.followsSafe (s : State) : Prop where
  bridge : s.cond 0 = true ↔ s.line.silence ≠ none
  paFault : s.cond 5 = true ↔ 2 ≤ s.call.paRun
  service : s.cond 6 = true ↔ s.req.mode = .service
  moving : s.cond 7 = true ↔ ∃ r k d, (s.ramp r).state = .running ∧ (s.ramp r).phase = .entered
    ∧ (s.ramp r).stage = some k ∧ (s.stage k).kind = .drive d ∧ 0 < (s.ramp r).sPrev
  lanes : ∀ n : Fin 8, s.cond ⟨8 + n.val, by omega⟩ = true ↔
    ∀ d, (s.door.doors.row d).set.lane = some n → (s.door.doors.row d).state = .opened
  unsourced : ∀ c, (s.board.conds.row c).source = .none → s.cond c = false
  thresholds : ∀ c k, (s.board.conds.row c).source = .threshold k →
    s.cond c = (s.scan.thresholds.row k).tripped
  groupsClosed : ∀ c g, (s.board.conds.row c).source = .groupClosed g →
    (s.cond c = true ↔ (∃ d, (s.door.doors.row d).set.group = some g)
      ∧ ∀ d, (s.door.doors.row d).set.group = some g → (s.door.doors.row d).state = .closed)
  groupsOpen : ∀ c g, (s.board.conds.row c).source = .groupOpen g →
    (s.cond c = true ↔ (∃ d, (s.door.doors.row d).set.group = some g)
      ∧ ∀ d, (s.door.doors.row d).set.group = some g → (s.door.doors.row d).state = .opened)
  rampsAt : ∀ c r p, (s.board.conds.row c).source = .rampAt r p →
    (s.cond c = true ↔ (s.ramp r).state = .idle ∧ (s.ramp r).result = .complete
      ∧ (s.ramp r).plan = some p)
  channelsCut : ∀ c ch, (s.board.conds.row c).source = .channelCut ch →
    (s.cond c = true ↔ (s.chans.row ch).restart ≠ .none)
  holds : ∀ c, (s.board.conds.row c).source ≠ .frame → (s.board.conds.row c).hold = none

/-- The holding rules: a free or WAITING slot holds no zone, a SPEAKING or INTERVAL slot holds exactly the
zones of its zone set, which is not empty; a slot of equal or higher priority holds a zone of every WAITING
slot; the interval timer runs in INTERVAL alone, and the lamp step timer in SPEAKING and INTERVAL alone. A
zone has at most one holder by its type (R160, R163, R165, R173). -/
structure State.zonesSafe (s : State) : Prop where
  free : ∀ k, s.call.slots.row k = none → ∀ z, (s.call.zones.row z).holder ≠ some k
  waiting : ∀ k x, s.call.slots.row k = some x → x.state = .waiting →
    ∀ z, (s.call.zones.row z).holder ≠ some k
  holding : ∀ k x, s.call.slots.row k = some x → x.state ≠ .waiting →
    ∀ z : Fin 16, (s.call.zones.row z).holder = some k ↔ x.zones.getLsbD z.val = true
  blocked : ∀ k x, s.call.slots.row k = some x → x.state = .waiting →
    ∃ (z j : Fin 16) (y : Slot), x.zones.getLsbD z.val = true ∧ (s.call.zones.row z).holder = some j
      ∧ s.call.slots.row j = some y ∧ x.priority ≤ y.priority
  timers : ∀ k x, s.call.slots.row k = some x →
    (x.interval ≠ none ↔ x.state = .interval) ∧ (x.lampDue ≠ none ↔ x.state ≠ .waiting)
  named : ∀ k x, s.call.slots.row k = some x → x.zones ≠ 0
  templates : ∀ m : Fin 32, (s.call.templates.row m).allow ≠ none → (s.call.templates.row m).zones ≠ 0

/-! ## Words of the statements -/

/-- A frame that passes FRAME CHECK (R3). -/
def Frame.sound (f : Frame) : Prop :=
  f.payload.length ≤ 48 ∧ 1 ≤ f.src.toNat ∧ f.src.toNat ≤ 126
  ∧ f.crc = crc16 (headerAndPayload f.dst f.src f.kind f.tag f.payload)

/-- The test of a frame reaches entry `e`: no entry below it matches with stop set (R25). -/
def State.reaches (s : State) (f : Frame) (p : Port) (e : Fin 64) : Prop :=
  ∀ e' : Fin 64, e' < e → (s.table.row e').accepts f p = true → (s.table.row e').stop = false

/-- Entry `e` is a matched entry of the frame (R25). -/
def State.matches (s : State) (f : Frame) (p : Port) (e : Fin 64) : Prop :=
  (s.table.row e).accepts f p = true ∧ s.reaches f p e

/-- A command that REQ answers with a REPLY is taken: the part is addressed and not in reset (R1, R17). -/
def State.takesRequests (s : State) : Prop := s.inReset = false ∧ s.addressed = true

/-- The refusal count of entry `e` rises by one, up to 255 and not past its hit count (R28, R36). -/
def State.refuse (s : State) (e : Fin 64) : State :=
  let m := s.table.row e
  s.setEntry e { m with refusals :=
    if m.refusals < m.hits then min (m.refusals + 1) 255 else m.refusals }

/-- A term names a condition (R48). -/
def State.names (s : State) (t : Fin 32) (c : Fin 64) : Prop :=
  ∃ v, (c, v) ∈ (s.board.terms.row t).literals

/-- The running conditions of a DRIVE stage hold: its permit term, LANE_CLEAR of every lane of its lane set,
and SCAN_VALID (R126). -/
def State.mayRun (s : State) (st : Stage) : Prop :=
  s.term st.permit = true ∧ s.cond 1 = true
    ∧ ∀ n : Fin 8, st.lanes.getLsbD n.val = true → s.cond ⟨8 + n.val, by omega⟩ = true

/-- The entry conditions of a stage hold: its permit term, and for a DRIVE stage its running conditions, and
BRIDGE_LINK where it needs the bridge (R120). -/
def State.enters (s : State) (st : Stage) : Prop :=
  s.term st.permit = true
    ∧ ∀ d, st.kind = .drive d → s.mayRun st ∧ (st.needsBridge = true → s.cond 0 = true)

/-- A DRIVE stage names a condition, through its permit term, its lane set, SCAN_VALID or BRIDGE_LINK (R47). -/
def State.driveWaits (s : State) (st : Stage) (c : Fin 64) : Prop :=
  s.names st.permit c ∨ c = 1 ∨ (st.needsBridge = true ∧ c = 0)
    ∨ ∃ n : Fin 8, st.lanes.getLsbD n.val = true ∧ c.val = 8 + n.val

/-- A ramp waits on a condition: RUNNING at a PENDING stage on its entry conditions, RUNNING or PAUSED at a
DRIVE stage on what the stage names, and RUNNING at an ENTERED WAIT stage on its wait term (R47, R120,
R122, R126). -/
def State.waitsOn (s : State) (r : Fin 4) (c : Fin 64) : Prop :=
  ∃ k, (s.ramp r).stage = some k ∧
    (((∃ d, (s.stage k).kind = .drive d) ∧ ((s.ramp r).state = .running ∨ (s.ramp r).state = .paused)
        ∧ s.driveWaits (s.stage k) c)
      ∨ ((∀ d, (s.stage k).kind ≠ .drive d) ∧ (s.ramp r).state = .running
        ∧ (s.ramp r).phase = .pending ∧ s.names (s.stage k).permit c)
      ∨ ((s.ramp r).state = .running ∧ (s.ramp r).phase = .entered
        ∧ ∃ w, (s.stage k).kind = .wait w ∧ s.names w c))

/-- A stage whose entry conditions hold completes at its entry, at last position `p`: a SET stage, a DWELL of
time 0, a WAIT whose term is TRUE, and a DRIVE that begins within its dead band (R120, R121, R122, R123,
R125). -/
def State.passes (s : State) (st : Stage) (p : Nat) : Prop :=
  (∃ a b c d, st.kind = .set a b c d) ∨ st.kind = .dwell 0 ∨ (∃ w, st.kind = .wait w ∧ s.term w = true)
    ∨ ∃ d, st.kind = .drive d ∧ (d.target - p) + (p - d.target) ≤ d.deadBand

/-- A ramp waits on term `t` at stage `k`: RUNNING and PENDING on its permit term, RUNNING or PAUSED at an ENTERED
DRIVE stage on its permit term, and RUNNING at an ENTERED WAIT stage on its wait term (R47, R50, R120, R122,
R126). -/
def State.readsTerm (s : State) (r : Fin 4) (k : Fin 64) (t : Fin 32) : Prop :=
  let x := s.ramp r
  let st := s.stage k
  x.stage = some k ∧
    ((x.state = .running ∧ x.phase = .pending ∧ st.permit = t)
      ∨ (∃ d, st.kind = .drive d ∧ x.phase = .entered ∧ (x.state = .running ∨ x.state = .paused)
        ∧ st.permit = t)
      ∨ (x.state = .running ∧ x.phase = .entered ∧ st.kind = .wait t))

/-- The valves of ramp `r`, where the ramp owns them, stand OFF with compare 0 (R118). -/
def State.valvesOff (s t : State) (r : Fin 4) : Prop :=
  ∀ valve, ((s.ramp r).extend = some valve ∨ (s.ramp r).retract = some valve) →
    (s.chans.row valve).set.owner = .ramp r →
    (t.chans.row valve).requested = false ∧ (t.chans.row valve).set.cmpA = 0

/-- State `t` is state `u` after the entry of ramp `r` into a stage that does not complete there; `y` is the
ramp's record at the stage, ENTERED (R122, R123, R124, R125). -/
def State.standsAt (u t : State) (r : Fin 4) (st : Stage) (y : Ramp) : Prop :=
  (∀ w, st.kind = .wait w → t = u.setRamp r y)
  ∧ (∀ n, st.kind = .dwell n → t = u.setRamp r { y with dwell := .running (u.clock + n * 100000) })
  ∧ (∀ m, st.kind = .call m →
      t = (u.setRamp r { y with callWait := .asked, ask := y.ask + 1, retry := none }).hand
        (.callQueue (.stage r (y.ask + 1)) (BitVec.ofNat 8 m.val) none))
  ∧ (∀ d, st.kind = .drive d →
      t.ramp r = { y with
        sPrev := 0, travel := (if y.lastPos < d.target then .extend else .retract),
        stale := some (u.clock + y.staleLimit * 1000) }
      ∧ (∀ other, other ≠ r → t.ramp other = u.ramp other)
      ∧ u.valvesOff t r ∧ t.board = u.board ∧ t.handed = u.handed ∧ t.req = u.req)

/-- State `t` is where stage `k` of plan `m` leaves ramp `r` when it completes in state `u`: the plan completes
with its last stage, and a next stage whose entry conditions do not hold is PENDING (R120, R131). -/
def State.goesOn (u t : State) (r : Fin 4) (m : Fin 8) (k : Fin 64) : Prop :=
  let last := (u.plan.plans.row m).first.val + (u.plan.plans.row m).count
  (last = k.val + 1 → (t.ramp r).state = .idle ∧ (t.ramp r).result = .complete
    ∧ (t.ramp r).stage = none ∧ (t.ramp r).plan = some m ∧ (t.ramp r).sPrev = 0
    ∧ t.req.marks = u.req.marks ||| 64 ∧ u.valvesOff t r)
  ∧ (∀ next : Fin 64, next.val = k.val + 1 → next.val < last → ¬ u.enters (u.stage next) →
    (t.ramp r).state = .running ∧ (t.ramp r).stage = some next ∧ (t.ramp r).phase = .pending
    ∧ (t.ramp r).stageTimer = { acc := 0, since := some u.clock } ∧ (t.ramp r).callWait = .none
    ∧ (t.ramp r).plan = some m ∧ t.board = u.board ∧ t.handed = u.handed ∧ t.req = u.req)

/-- No event of DOOR moves the reading of a term: its literals name conditions 0 to 7, or conditions whose
source is THRESHOLD or FRAME (R38, R40). -/
def State.steady (s : State) (t : Fin 32) : Prop :=
  ∀ l ∈ (s.board.terms.row t).literals, l.1.val < 8 ∨ (s.board.conds.row l.1).source = .frame
    ∨ ∃ k, (s.board.conds.row l.1).source = .threshold k

/-- Entry `n` of a table reads as the written image `w` has it: its quantities clamped, its unused fields 0, and
its kept fields as they stood in the image `o` before the write, where the write does not act on them (R182,
R190, R193, and the write rule of each table: R6, R16, R20, R42, R50, R53, R55 to R57, R64, R67, R78, R98, R114
to R116, R139, R141, R160 to R162; logs 33, 66). -/
def TableId.readsBack (t : TableId) (w o n : List Byte) : Prop :=
  let b (k : Nat) : Byte := w.getD k 0
  let num (k : Nat) : Nat := (b k).toNat * 256 + (b (k + 1)).toNat
  let word (v : Nat) : List Byte := [BitVec.ofNat 8 (v / 256), BitVec.ofNat 8 v]
  let within (low high v : Nat) : Nat := max low (min v high)
  let byte (low high k : Nat) : Byte := BitVec.ofNat 8 (within low high (b k).toNat)
  let zeros (k : Nat) : List Byte := List.replicate k 0
  match t with
  | .line => n = word (within 50 5000 (num 0))
  | .sides => n = [b 0, b 1]
  | .entries => n = w.take 10 ++ [if b 9 = 6 then 0 else b 10]
      ++ (if b 9 = 0 ∨ (b 9 = 5 ∧ b 13 = 1) then [b 11, b 12] else [0, 0])
      ++ [if b 9 = 2 ∨ b 9 = 3 ∨ b 9 = 5 then b 13 else 0, b 14, 0, 0, 0]
  | .conds =>
    let source : List Byte :=
      [b 1, if b 1 = 0 ∨ b 1 = 6 then 0 else b 2, if b 1 = 4 then b 3 else 0]
    (n.drop 1).take 3 = source
    ∧ ((o.drop 1).take 3 = source → n = o)
    ∧ ((o.drop 1).take 3 ≠ source → (n.drop 4).take 4 = [0, 0, 0, 0] ∧ (b 1 = 6 → n.getD 0 0 = 0)
      ∧ n.drop 8 = if n.getD 0 0 = o.getD 0 0 then o.drop 8 else [0, 0])
  | .terms =>
    let c := min (b 0).toNat 4
    n = BitVec.ofNat 8 c :: ((w.drop 1).take (2 * c) ++ zeros (8 - 2 * c))
  | .sensors => n = [b 0] ++ word (within 0 4095 (num 1)) ++ word (within 1 4096 (num 3)) ++ [b 5, b 6]
      ++ o.drop 7
  | .list =>
    let c := min (b 0).toNat 32
    n = BitVec.ofNat 8 c :: ((w.drop 1).take c ++ zeros (32 - c))
  | .settings => n = [b 0] ++ word (within 2 65535 (num 1)) ++ word (within 2 65535 (num 3)) ++ [b 5, b 6]
      ++ word (within 1 511 (num 7)) ++ o.drop 9
  | .thresholds => n = [b 0, b 1] ++ word (within 0 32767 (num 2)) ++ word (within 0 32767 (num 4))
      ++ [byte 1 15 6, o.getD 7 0, 0]
  | .channels => n.take 24 = [b 0, b 1, b 2, if b 2 = 0 then 0 else b 3, b 4, b 5,
        if b 5 = 3 then b 6 else 0, b 7, b 8, byte 0 3 9, byte 0 3 10, byte 0 4 11, byte 0 3 12]
      ++ (w.drop 13).take 6 ++ [b 19, b 20, if b 20 = 0 then 0 else b 21, b 22, b 23]
  | .ramps => n = w.take 3 ++ word (within 10 2000 (num 3)) ++ o.drop 5
  | .plans => n = [b 0, b 1, BitVec.ofNat 8 (min (within 1 16 (b 2).toNat) (64 - (b 1).toNat))]
  | .stages => n = w.take 6 ++ (match (b 0).toNat with
      | 0 => word (within 0 32767 (num 6)) ++ word (within 0 1000 (num 8)) ++ word (within 0 1000 (num 10))
          ++ word (within 0 32767 (num 12)) ++ word (within 0 32767 (num 14))
          ++ word (within 0 32767 (num 16)) ++ word (within 0 1000 (num 18)) ++ word (within 0 1000 (num 20))
      | 1 => (w.drop 6).take 4 ++ zeros 12
      | 3 => (w.drop 6).take 2 ++ zeros 14
      | _ => [b 6] ++ zeros 15)
  | .doors => n.take 19 = w.take 18 ++ [byte 0 3 18]
  | .groups => n = w
  | .templates => n = [byte 1 255 0, b 1, b 2, byte 0 7 3, byte 0 15 4, byte 1 255 5, b 6, b 7, b 8]
  | .zones => n = [b 0, o.getD 1 0]
  | .pa => n = [b 0, byte 5 120 1]
  | .directory | .slots | .notices => n = o

/-! ## What a write may not hold (R182), in the words of each table's rule -/

/-- The image `w`, written at index `i` of a table, holds a code that is not known, or a reference that is out of
range or of the wrong kind (step 4 of R182, R190, R193, and the write rule of each table: R6, R20, R42, R48, R50,
R53 to R57, R64, R78, R98, R114 to R116, R139, R141, R160 to R162; logs 33, 74). -/
def TableId.badCodes (t : TableId) (i : Nat) (w : List Byte) : Prop :=
  let b (k : Nat) : Nat := (w.getD k 0).toNat
  let noRef (k n : Nat) : Prop := n ≤ b k ∧ b k ≠ 255
  let noSwitch (k : Nat) : Prop := (b k < 16 ∨ 64 ≤ b k) ∧ b k ≠ 255
  match t with
  | .line => False
  | .sides => 3 ≤ b 0 ∨ 2 ≤ b 1
  | .entries => 2 ≤ b 0 ∨ 127 ≤ b 1 ∨ 3 ≤ b 5 ∨ (48 ≤ b 6 ∧ b 7 ≠ 0) ∨ 8 ≤ b 9 ∨ 2 ≤ b 14
      ∨ ((b 9 = 0 ∨ b 9 = 1) ∧ (b 10 < 16 ∨ 64 ≤ b 10))
      ∨ (b 9 = 2 ∧ (4 ≤ b 10 ∨ 8 ≤ b 13))
      ∨ ((b 9 = 3 ∨ b 9 = 4) ∧ b 10 = 0) ∨ (b 9 = 3 ∧ 2 ≤ b 13)
      ∨ (b 9 = 5 ∧ (32 ≤ b 10 ∨ 2 ≤ b 13 ∨ (b 13 = 1 ∧ b 11 = 0 ∧ b 12 = 0)))
      ∨ (b 9 = 7 ∧ 32 ≤ b 10)
  | .conds => 7 ≤ b 1 ∨ (b 1 = 1 ∧ 48 ≤ b 2) ∨ ((b 1 = 2 ∨ b 1 = 3) ∧ 8 ≤ b 2)
      ∨ (b 1 = 4 ∧ (4 ≤ b 2 ∨ 8 ≤ b 3)) ∨ (b 1 = 5 ∧ 16 ≤ b 2)
  | .terms => ∃ k, k < min (b 0) 4 ∧ (64 ≤ b (1 + 2 * k) ∨ 2 ≤ b (2 + 2 * k))
  | .sensors => 3 ≤ b 0 ∨ 2 ≤ b 5 ∨ 2 ≤ b 6
  | .list => ∃ k, k < min (b 0) 32 ∧ 24 ≤ b (1 + k)
  | .settings => 3 ≤ b 0 ∨ 2 ≤ b 5 ∨ 2 ≤ b 6
  | .thresholds => 24 ≤ b 0 ∨ 2 ≤ b 1
  | .channels => 5 ≤ b 0 ∨ 2 ≤ b 1 ∨ 4 ≤ b 2 ∨ (b 2 = 1 ∧ 4 ≤ b 3) ∨ (b 2 = 2 ∧ 24 ≤ b 3)
      ∨ (b 2 = 3 ∧ 16 ≤ b 3) ∨ noRef 4 64 ∨ 4 ≤ b 5 ∨ (b 5 = 3 ∧ 32 ≤ b 6) ∨ 3 ≤ b 7 ∨ 2 ≤ b 8
      ∨ 7 ≤ b 19 ∨ 3 ≤ b 20
      ∨ (b 20 ≠ 0 ∧ (16 ≤ b 21 ∨ b 21 = i ∨ (b 23 = 1 ∧ i % 2 = 0 ∧ b 21 = i + 1)))
      ∨ 2 ≤ b 22 ∨ 2 ≤ b 23 ∨ (i % 2 = 1 ∧ b 23 = 1)
  | .ramps => noRef 0 24 ∨ noRef 1 16 ∨ noRef 2 16
  | .plans => 4 ≤ b 0 ∨ 64 ≤ b 1
  | .stages => 5 ≤ b 0 ∨ 32 ≤ b 1 ∨ 2 ≤ b 3
      ∨ (b 0 = 1 ∧ (3 ≤ b 6 ∨ 2 ≤ b 7 ∨ 3 ≤ b 8 ∨ 2 ≤ b 9)) ∨ ((b 0 = 2 ∨ b 0 = 4) ∧ 32 ≤ b 6)
  | .doors => noRef 0 8 ∨ noRef 1 8 ∨ noRef 2 16 ∨ noRef 3 16 ∨ noSwitch 4 ∨ noSwitch 5
  | .groups => noRef 0 32 ∨ noRef 1 32 ∨ noRef 2 32
  | .templates => noRef 8 32 ∨ (b 8 ≠ 255 ∧ b 1 = 0 ∧ b 2 = 0)
  | .zones => noRef 0 16
  | .pa => 127 ≤ b 0
  | .directory | .slots | .notices => True

/-- Channel `ch` is in an active configuration (R79). -/
def State.drivesPin (s : State) (ch : Fin 16) : Prop :=
  (s.chans.row ch).set.config ≠ .off ∧ (s.chans.row ch).set.config ≠ .float

/-- Channel `e` is the even channel of a joined pair whose odd channel is `o` (R110). -/
def State.joins (s : State) (e o : Fin 16) : Prop :=
  e.val % 2 = 0 ∧ o.val = e.val + 1 ∧ (s.chans.row e).set.joined = true

/-- Stage `k` is a DRIVE stage of a plan whose ramp is `r` (R115, R136). -/
def State.drivesFor (s : State) (r : Fin 4) (k : Fin 64) : Prop :=
  ∃ p d, (s.plan.plans.row p).ramp = r ∧ s.inPlan p k ∧ (s.stage k).kind = .drive d

/-- A condition has source THRESHOLD (R40). -/
def State.limitSwitch (s : State) (c : Fin 64) : Prop := ∃ k, (s.board.conds.row c).source = .threshold k

/-- The record at index `i` of table `t` names channel `ch`: a ramp's extend or retract channel, a door's close
or open channel, a zone's lamp channel (R85). -/
def State.namesChannel (s : State) (t : TableId) (i : Nat) (ch : Fin 16) : Prop :=
  (t = .ramps ∧ ∃ r : Fin 4, r.val = i ∧ ((s.ramp r).extend = some ch ∨ (s.ramp r).retract = some ch))
  ∨ (t = .doors ∧ ∃ d : Fin 24, d.val = i ∧ ((s.door.doors.row d).set.closeCh = some ch
      ∨ (s.door.doors.row d).set.openCh = some ch))
  ∨ (t = .zones ∧ ∃ z : Fin 16, z.val = i ∧ (s.call.zones.row z).lamp = some ch)

/-- The owner of channel `ch` is the record at index `i` of table `t` (R77, R85). -/
def State.ownedBy (s : State) (ch : Fin 16) (t : TableId) (i : Nat) : Prop :=
  (t = .ramps ∧ ∃ r : Fin 4, r.val = i ∧ (s.chans.row ch).set.owner = .ramp r)
  ∨ (t = .doors ∧ ∃ d : Fin 24, d.val = i ∧ (s.chans.row ch).set.owner = .door d)
  ∨ (t = .zones ∧ ∃ z : Fin 16, z.val = i ∧ (s.chans.row ch).set.owner = .lamp z)

/-- The channel whose mode channel `ch` acts by is not in STEADY: its own, or, for the odd channel of a joined
pair, the even channel (R112). -/
def State.actsTimed (s : State) (ch : Fin 16) : Prop :=
  ∃ a, (s.chans.row a).set.mode ≠ .steady ∧ (s.joins a ch ∨ (a = ch ∧ ∀ e, ¬ s.joins e ch))

/-- A ramp's gate is in LANE AGREEMENT: NONE where none of its DRIVE stages names a lane, and otherwise the
LANE_CLEAR condition of a lane that every one of them names (R136). -/
def State.laneAgrees (s : State) (r : Fin 4) (gate : Option (Fin 64)) : Prop :=
  ((∀ k, s.drivesFor r k → (s.stage k).lanes = 0) → gate = none)
  ∧ ((∃ k, s.drivesFor r k ∧ (s.stage k).lanes ≠ 0) → ∃ n : Fin 8, gate = some ⟨8 + n.val, by omega⟩
    ∧ ∀ k, s.drivesFor r k → (s.stage k).lanes.getLsbD n.val = true)

/-- A role of a SET stage names a channel that is NONE in the ramp (R136). -/
def Ramp.lacks (x : Ramp) (role : Role) : Prop :=
  (role = .extend ∧ x.extend = none) ∨ (role = .retract ∧ x.retract = none)

/-- The record at index `i` of table `t` shows the inconsistency of a row of the validation: passes 1 to 4 are
channel ownership (R85), timer use by owners (R112), plans and lane agreement (R136) and doors (R157), and the
rows of each are numbered from 0, in the order of its rule's table (R179). -/
def State.inconsistent (s : State) (pass row : Nat) (t : TableId) (i : Nat) : Prop :=
  match pass, row with
  | 1, 0 => ∃ ch, s.namesChannel t i ch ∧ ¬ s.ownedBy ch t i
  | 1, 1 => ∃ ch, (t = .ramps ∧ ∃ r : Fin 4, r.val = i ∧ (s.ramp r).extend = some ch
        ∧ (s.ramp r).retract = some ch)
      ∨ (t = .doors ∧ ∃ d : Fin 24, d.val = i ∧ (s.door.doors.row d).set.closeCh = some ch
        ∧ (s.door.doors.row d).set.openCh = some ch)
  | 1, 2 => ∃ ch t' i', s.namesChannel t i ch ∧ s.namesChannel t' i' ch
      ∧ (t'.id < t.id ∨ (t' = t ∧ i' < i))
  | 1, 3 => t = .channels ∧ ∃ ch : Fin 16, ch.val = i ∧ (s.chans.row ch).set.owner ≠ .free
      ∧ ∀ t' i', s.ownedBy ch t' i' → ¬ s.namesChannel t' i' ch
  | 2, 0 => t = .channels ∧ ∃ ch : Fin 16, ch.val = i ∧ (∃ r, (s.chans.row ch).set.owner = .ramp r)
      ∧ ((s.chans.row ch).set.mode ≠ .pwm ∨ (s.chans.row ch).set.sync ≠ .free
        ∨ ∃ e o, s.joins e o ∧ (ch = e ∨ ch = o))
  | 2, 1 => t = .channels ∧ ∃ ch : Fin 16, ch.val = i ∧ (∃ d, (s.chans.row ch).set.owner = .door d)
      ∧ s.actsTimed ch
  | 2, 2 => t = .channels ∧ ∃ ch : Fin 16, ch.val = i ∧ (∃ z, (s.chans.row ch).set.owner = .lamp z)
      ∧ s.actsTimed ch
  | 3, 0 => t = .ramps ∧ ∃ r : Fin 4, r.val = i ∧ (∃ k, s.drivesFor r k)
      ∧ ((s.ramp r).position = none ∨ (s.ramp r).extend = none ∨ (s.ramp r).retract = none)
  | 3, 1 => t = .stages ∧ ∃ k : Fin 64, k.val = i ∧ ∃ p r1 on1 r2 on2, s.inPlan p k
      ∧ (s.stage k).kind = .set r1 on1 r2 on2
      ∧ ((s.ramp (s.plan.plans.row p).ramp).lacks r1 ∨ (s.ramp (s.plan.plans.row p).ramp).lacks r2)
  | 3, 2 => t = .channels ∧ ∃ ch : Fin 16, ch.val = i
      ∧ ∃ r, ((s.ramp r).extend = some ch ∨ (s.ramp r).retract = some ch)
        ∧ ¬ s.laneAgrees r (s.chans.row ch).set.gate
  | 4, 0 => t = .doors ∧ ∃ d : Fin 24, d.val = i ∧ (s.door.doors.row d).set.group ≠ none
      ∧ ((s.door.doors.row d).set.closedCond = none ∨ (s.door.doors.row d).set.openCond = none)
  | 4, 1 => t = .doors ∧ ∃ d : Fin 24, d.val = i ∧ (s.door.doors.row d).set.group ≠ none
      ∧ ∃ c, ((s.door.doors.row d).set.closedCond = some c ∨ (s.door.doors.row d).set.openCond = some c)
        ∧ ¬ s.limitSwitch c
  | 4, 2 => t = .doors ∧ ∃ d : Fin 24, d.val = i ∧ (s.door.doors.row d).set.group = none
      ∧ ((s.door.doors.row d).set.lane ≠ none ∨ (s.door.doors.row d).set.closeCh ≠ none
        ∨ (s.door.doors.row d).set.openCh ≠ none)
  | _, _ => False

/-- A pass of the validation finds nothing (R179). -/
def State.passClean (s : State) (pass : Nat) : Prop := ∀ row t i, ¬ s.inconsistent pass row t i

/-- A pass reports the record at index `i` of table `t`: it shows the first row that any record shows, and no
record before it shows that row (R179; log 30). -/
def State.passReports (s : State) (pass : Nat) (t : TableId) (i : Nat) : Prop :=
  ∃ row, s.inconsistent pass row t i
    ∧ (∀ row' t' i', row' < row → ¬ s.inconsistent pass row' t' i')
    ∧ ∀ t' i', s.inconsistent pass row t' i' → t.id < t'.id ∨ (t' = t ∧ i ≤ i')

/-- The written record at index `i` of table `t` meets a BAD_VALUE rule that reads other records: R110 in either
mode; in SERVICE R42, R114, R117 (log 31) and R140. `after` is the part as the whole write would leave its
tables. -/
def State.badAgainst (s after : State) (t : TableId) (i : Nat) : Prop :=
  match t with
  | .channels => ∃ e o, after.joins e o ∧ (e.val = i ∨ o.val = i)
      ∧ ((∃ r, (after.chans.row o).set.owner = .ramp r) ∨ ∃ d, (after.chans.row o).set.owner = .door d)
  | .conds => s.req.mode = .service ∧ ∃ c : Fin 64, c.val = i ∧ ¬ after.limitSwitch c
      ∧ ∃ d, (s.door.doors.row d).set.group ≠ none ∧ ((s.door.doors.row d).set.closedCond = some c
        ∨ (s.door.doors.row d).set.openCond = some c)
  | .ramps => s.req.mode = .service ∧ ∃ r : Fin 4, r.val = i ∧ (after.ramp r).position = none
      ∧ ∃ k, s.drivesFor r k
  | .plans | .stages => s.req.mode = .service ∧ ¬ after.passClean 3
  | .doors => s.req.mode = .service ∧ ∃ d : Fin 24, d.val = i ∧
      ((∃ c, ((after.door.doors.row d).set.closedCond = some c
          ∨ (after.door.doors.row d).set.openCond = some c) ∧ ¬ s.limitSwitch c)
        ∨ (s.door.doors.row d).set.group ≠ none ∧ ((after.door.doors.row d).set.closedCond = none
          ∨ (after.door.doors.row d).set.openCond = none))
  | _ => False

/-- The write would jump: the channel passes from one active configuration to another (R80). -/
def State.leaps (s after : State) (t : TableId) (i : Nat) : Prop :=
  t = .channels ∧ ∃ ch : Fin 16, ch.val = i ∧ s.drivesPin ch ∧ after.drivesPin ch
    ∧ (s.chans.row ch).set.config ≠ (after.chans.row ch).set.config

/-- Plan `p` is the plan of a ramp that is not IDLE (R117). -/
def State.planRuns (s : State) (p : Fin 8) : Prop :=
  ∃ r, (s.ramp r).state ≠ .idle ∧ (s.ramp r).plan = some p

/-- A door is in none of OPEN, CLOSED and JAMMED (R78, R140). -/
def State.doorMoves (s : State) (d : Fin 24) : Prop :=
  (s.door.doors.row d).state ≠ .opened ∧ (s.door.doors.row d).state ≠ .closed
    ∧ (s.door.doors.row d).state ≠ .jammed

/-- In SERVICE, the entry at index `i` of table `t` is in use under its table's rule: the BUSY rows of R182 (R78,
R114, R117, R140, R160, R161). -/
def State.inUse (s after : State) (t : TableId) (i : Nat) : Prop :=
  s.req.mode = .service ∧
  match t with
  | .channels => ∃ ch : Fin 16, ch.val = i ∧
      let o := (s.chans.row ch).set
      let n := (after.chans.row ch).set
      (∃ r, o.owner = .ramp r ∧ ((s.ramp r).state ≠ .idle ∨ o.gate ≠ n.gate))
      ∨ (∃ d, o.owner = .door d ∧ s.doorMoves d)
      ∨ o.owner ≠ n.owner
      ∨ (o.owner ≠ .free ∧ (o.mode ≠ n.mode ∨ o.sync ≠ n.sync ∨ o.joined ≠ n.joined))
      ∨ ∃ odd : Fin 16, i % 2 = 0 ∧ odd.val = i + 1 ∧ (s.chans.row odd).set.owner ≠ .free
        ∧ (o.joined ≠ n.joined ∨ (o.joined = true ∧ o.mode ≠ n.mode))
  | .ramps => ∃ r : Fin 4, r.val = i ∧ ((s.ramp r).state ≠ .idle
      ∨ (s.ramp r).extend ≠ (after.ramp r).extend ∨ (s.ramp r).retract ≠ (after.ramp r).retract)
  | .plans => ∃ p : Fin 8, p.val = i ∧ s.planRuns p
  | .stages => ∃ (k : Fin 64) (p : Fin 8), k.val = i ∧ s.planRuns p ∧ s.inPlan p k
  | .doors => ∃ d : Fin 24, d.val = i ∧
      let o := (s.door.doors.row d).set
      let n := (after.door.doors.row d).set
      s.doorMoves d ∨ o.closeCh ≠ n.closeCh ∨ o.openCh ≠ n.openCh ∨ ¬ (o.group = none ↔ n.group = none)
  | .templates => ∃ k x, s.call.slots.row k = some x ∧ x.template.val = i
  | .zones => ∃ z : Fin 16, z.val = i ∧ (s.call.zones.row z).lamp ≠ (after.call.zones.row z).lamp
  | _ => False

/-- The result `r` of steps 2 to 6 of R182 for one entry of a write, none where it passes. -/
def State.finds (s after : State) (t : TableId) (w : Written) (r : Option Code) : Prop :=
  let sound : Prop := w.check = ~~~ (w.image.foldl (· ^^^ ·) 0)
  let inside : Prop := t.first ≤ w.index ∧ w.index < t.first + t.count ∧ (t = .conds → 16 ≤ w.index)
  let bad : Prop := t.badCodes w.index w.image ∨ s.badAgainst after t w.index
  (¬ sound → r = some .badCheck)
  ∧ (sound → ¬ inside → r = some .badIndex)
  ∧ (sound → inside → bad → r = some .badValue)
  ∧ (sound → inside → ¬ bad → s.leaps after t w.index → r = some .forbiddenJump)
  ∧ (sound → inside → ¬ bad → ¬ s.leaps after t w.index → s.inUse after t w.index → r = some .busy)
  ∧ (sound → inside → ¬ bad → ¬ s.leaps after t w.index → ¬ s.inUse after t w.index → r = none)

/-- What a taken write of a table leaves alone: all but the table's records and what its owner does with them
(R182). -/
def TableId.changesOnly (t : TableId) (s u : State) : Prop :=
  match t with
  | .line => u = { s with line := { s.line with silenceMs := u.line.silenceMs } }
  | .sides => u = { s with line := { s.line with sides := u.line.sides } }
  | .entries => u = { s with table := u.table }
  | .conds => u = { s with board := { s.board with conds := u.board.conds }, handed := u.handed }
  | .terms => u = { s with
      board := u.board, chans := u.chans, plan := { s.plan with ramps := u.plan.ramps },
      door := { s.door with doors := u.door.doors }, req := { s.req with marks := u.req.marks },
      line := { s.line with up := u.line.up, dn := u.line.dn }, handed := u.handed }
  | .sensors => u = { s with scan := { s.scan with sensors := u.scan.sensors } }
  | .list => u = { s with
      scan := { s.scan with
                list := u.scan.list, scanner := u.scan.scanner, frontEnds := u.scan.frontEnds },
      board := { s.board with conds := u.board.conds }, handed := u.handed }
  | .settings => u = { s with
      scan := { s.scan with settings := u.scan.settings, above := u.scan.above },
      req := { s.req with marks := u.req.marks },
      line := { s.line with up := u.line.up, dn := u.line.dn } }
  | .thresholds => u = { s with scan := { s.scan with thresholds := u.scan.thresholds } }
  | .channels => u = { s with chans := u.chans, handed := u.handed }
  | .ramps => u = { s with plan := { s.plan with ramps := u.plan.ramps } }
  | .plans => u = { s with plan := { s.plan with plans := u.plan.plans } }
  | .stages => u = { s with plan := { s.plan with stages := u.plan.stages } }
  | .doors => u = { s with
      board := { s.board with conds := u.board.conds }, chans := u.chans,
      door := { s.door with doors := u.door.doors }, req := { s.req with marks := u.req.marks },
      line := { s.line with up := u.line.up, dn := u.line.dn }, handed := u.handed }
  | .groups => u = { s with
      board := { s.board with conds := u.board.conds }, chans := u.chans,
      door := { s.door with doors := u.door.doors, groups := u.door.groups },
      req := { s.req with marks := u.req.marks },
      line := { s.line with up := u.line.up, dn := u.line.dn }, handed := u.handed }
  | .templates => u = { s with call := { s.call with templates := u.call.templates } }
  | .zones => u = { s with call := { s.call with zones := u.call.zones } }
  | .pa => u = { s with call := { s.call with paNode := u.call.paNode, paLimit := u.call.paLimit } }
  | .directory | .slots | .notices => u = s

/-- A source other than FRAME is TRUE as its object stands (R40). -/
def State.sourceHolds (s : State) (src : Source) : Prop :=
  match src with
  | .none | .frame | .fixed => False
  | .threshold k => (s.scan.thresholds.row k).tripped = true
  | .groupClosed g => (∃ d, (s.door.doors.row d).set.group = some g)
      ∧ ∀ d, (s.door.doors.row d).set.group = some g → (s.door.doors.row d).state = .closed
  | .groupOpen g => (∃ d, (s.door.doors.row d).set.group = some g)
      ∧ ∀ d, (s.door.doors.row d).set.group = some g → (s.door.doors.row d).state = .opened
  | .rampAt r p => (s.ramp r).state = .idle ∧ (s.ramp r).result = .complete ∧ (s.ramp r).plan = some p
  | .channelCut ch => (s.chans.row ch).restart ≠ .none

/-- The warning call that door `d` hands at its entry into WARNING (R148). -/
def State.callOf (s : State) (d : Fin 24) : Option Instr :=
  match (s.door.doors.row d).set.group with
  | none => none
  | some g => (s.door.groups.row g).template.map (fun tpl =>
      .callQueue (.warning d) (BitVec.ofNat 8 tpl.val)
        (if (s.door.doors.row d).set.zones = 0 then none else some (s.door.doors.row d).set.zones))

/-- The cancel frame of the SPEAKING call in slot `k` of `s` is offered in state `u` (R166). -/
def State.cancelOf (s u : State) (k : Fin 16) : State :=
  match s.call.slots.row k with
  | none => u
  | some x =>
    match x.token with
    | none => u
    | some token => u.emit s.call.paNode 4 token
        [0, x.zones.extractLsb' 8 8, x.zones.extractLsb' 0 8, BitVec.ofNat 8 x.priority]

/-- The token taken at an entry to SPEAKING: the first value from the token counter on that no other SPEAKING
slot holds; the counter stands after it (R167). -/
def State.tokenTaken (s t : State) (k : Fin 16) (token : Byte) : Prop :=
  let other (v : Byte) : Prop := ∃ (j : Fin 16) (y : Slot), j ≠ k ∧ t.call.slots.row j = some y
    ∧ y.state = .speaking ∧ y.token = some v
  t.call.token = token + 1 ∧ ¬ other token
    ∧ ∃ n : Nat, n ≤ 16 ∧ token = s.call.token + BitVec.ofNat 8 n
      ∧ ∀ m, m < n → other (s.call.token + BitVec.ofNat 8 m)

/-- A handed event is a queue request. -/
def isQueue : Instr → Bool
  | .callQueue _ _ _ => true
  | _ => false

/-- The queue requests that an event has handed, in their order. -/
def State.queuedSince (t s : State) : List Instr :=
  (t.handed.drop s.handed.length).filter isQueue

/-- The part is quiet: nothing handed waits to be taken, and no expiry is due. A sender that puts one
command to a quiet part and lets it run until it is quiet again sees the events in the order in which the
data book tells them (log 3). -/
def State.quiet (s : State) : Prop := s.pending = [] ∧ s.ownEvent = none

end Sys2Proof.Machine
end

