-- ==== Sys2Proof/Certificates/Slice0/Obligations.lean ====
section
/-! DEFINITION. The statements for the provers. Each docstring names the rules of spec/ it formalises. -/

open Sys2Proof Sys2Proof.Machine

/-! ## The step -/

/-- The command at the front of the queue is the one a step runs, on the state with the queue's rest
(log 1). -/
def Obligations.StepRunsTheFrontCommand : Prop :=
  ∀ (s : State) (c : Instr) (rest : List Instr), s.pending = c :: rest →
    step s = exec c { s with pending := rest }

/-- What a step does on an empty queue, the model's choice (log 2, log 3). -/
def Obligations.StepOnAnEmptyQueue : Prop :=
  ∀ s : State, s.pending = [] →
    (s.inReset = true → step s = .next s)
    ∧ (s.inReset = false →
        (∀ c rest, s.handed = c :: rest → step s = exec c s)
        ∧ (s.handed = [] → s.dueEvent = none → step s = .next s)
        ∧ (∀ c, s.handed = [] → s.dueEvent = some c → step s = exec c s))

/-- Every command answers a next state in every state: none ends in a fault or a refusal. -/
def Obligations.EveryCommandAnswersANextState : Prop :=
  ∀ (i : Instr) (s : State), ∃ t : State, exec i s = .next t

/-! ## LINE -/

/-- FRAME CHECK passes exactly the sound frames, and reads each as it was laid out (R3, R189). -/
def Obligations.FrameCheckReadsExactlyTheSoundFrames : Prop :=
  ∀ (bytes : List Byte) (f : Frame), frameCheck bytes = some f ↔ f.sound ∧ f.toBytes = bytes

/-- A run of bytes that is the layout of no sound frame is discarded and counted on its port; a checked
frame from the own address is discarded and counted, and on UP it restarts the bridge-silence timer
(R3, R4, R15, R18). -/
def Obligations.DiscardedFramesAreCounted : Prop :=
  (∀ (p : Port) (bytes : List Byte) (s : State), s.inReset = false →
      (∀ f : Frame, f.sound → f.toBytes ≠ bytes) →
      let u := s.take (.reception p bytes)
      exec (.reception p bytes) s =
        .next (u.setPort p { u.port p with crcCount := min ((s.port p).crcCount + 1) 65535 }))
  ∧ (∀ (p : Port) (f : Frame) (s : State), s.inReset = false → f.sound → s.own = some f.src →
      let u := s.take (.reception p f.toBytes)
      let n := { u with line := { u.line with clashCount := min (s.line.clashCount + 1) 65535 } }.notice 1
                (match p with | .up => 0 | .dn => 1)
      ∃ t : State, exec (.reception p f.toBytes) s = .next t
        ∧ t.line.clashCount = min (s.line.clashCount + 1) 65535
        ∧ t.req.marks = s.req.marks ||| 1
        ∧ t.line.sides = s.line.sides ∧ t.table = s.table ∧ t.call = s.call
        ∧ t.line.up = n.line.up ∧ t.line.dn = n.line.dn
        ∧ (p = .dn → t.handed = u.handed ∧ t.board = s.board ∧ t.line.silence = s.line.silence)
        ∧ (p = .up → t.cond 0 = true ∧ t.line.silence = some (s.clock + s.line.silenceMs * 1000)
            ∧ (s.cond 0 = true → t.handed = u.handed ∧ t.board = s.board)))

/-- A frame addressed to the part is consumed: it is not matched and not forwarded. A REQUEST whose
operation another block owns is handed on with its source and tag; a CALL_DONE is handed to CALL; any
other kind is discarded (R8, R177). -/
def Obligations.OwnFrameIsConsumed : Prop :=
  ∀ (p : Port) (f : Frame) (s : State), s.inReset = false → f.sound → s.own ≠ some f.src →
    s.own = some f.dst →
    let u := ((s.take (.reception p f.toBytes)).learn f.src p).bridgeHeard p
    let i := parseRequest { node := f.src, tag := f.tag } f.payload
    (f.kind = 6 → ownOperation i = none → exec (.reception p f.toBytes) s = .next (u.hand i))
    ∧ (f.kind = 6 → (ownOperation i).isSome = true → i ∉ u.handed →
        exec (.reception p f.toBytes) s = exec i u)
    ∧ (f.kind = 5 → exec (.reception p f.toBytes) s =
        .next (u.hand (.callDoneReception f.src f.dst f.tag f.payload)))
    ∧ (f.kind ≠ 5 → f.kind ≠ 6 → exec (.reception p f.toBytes) s = .next u)

/-- A passing frame teaches the side map its source's port, unless the entry is pinned. It is forwarded
unchanged on the opposite port, or discarded with a HOLD_NOTE on the arrival port, and the actions of
its matched entries are handed on in index order. A CALL_DONE that passes or is broadcast is handed to CALL as
well (R5, R8, R9, R27, R28, R35); that it is handed before the actions is the model's choice (log 2). -/
def Obligations.PassingFrameIsLearnedAndForwardedOrHeld : Prop :=
  (∀ (p : Port) (f : Frame) (s : State), s.inReset = false → f.sound → s.own ≠ some f.src →
      s.own ≠ some f.dst →
      ∃ t : State, exec (.reception p f.toBytes) s = .next t
        ∧ ∀ i : Fin 126, t.line.sides.row i =
            (if i.val + 1 = f.src.toNat ∧ (s.line.sides.row i).pinned = false then
              { side := (match p with | .up => .up | .dn => .dn), pinned := false }
            else s.line.sides.row i))
  ∧ (∀ (p : Port) (f : Frame) (s : State), s.inReset = false → f.sound → s.own ≠ some f.src →
      s.own ≠ some f.dst →
      let u := ((s.take (.reception p f.toBytes)).learn f.src p).bridgeHeard p
      let x := u.testFrame f p
      ∃ t : State, exec (.reception p f.toBytes) s = .next t
        ∧ t.table = x.s.table
        ∧ t.handed = u.handed
            ++ (if f.kind = 5 then [.callDoneReception f.src f.dst f.tag f.payload] else [])
            ++ x.matched.filterMap (fun e => (u.table.row e).action.handed e)
        ∧ (x.held = none → t.port (otherPort p) = (s.port (otherPort p)).offer f
            ∧ t.port p = s.port p)
        ∧ (∀ e tm, x.held = some (e, tm) →
            t.port (otherPort p) = s.port (otherPort p)
            ∧ (s.own = none → t.port p = s.port p)
            ∧ (∀ own, s.own = some own → t.port p = (s.port p).offer
                (buildFrame f.src own 9 (BitVec.ofNat 8 e.val)
                  [BitVec.ofNat 8 tm.val, f.dst, f.kind, f.tag]))))

/-- What a frame of the part and a REPLY hold, and the ports by which they go out, by their destination: a REPLY
goes to the sender of the request with kind 7 and the request's tag, and its payload is the operation code, the
result code and the data of the result (R7, R17, R177, R190, R191). -/
def Obligations.OwnFramesGoOutBySideMap : Prop :=
  (∀ (s : State) (rq : Requester) (op : Byte) (code : Code) (data : List Byte),
    let number : Byte := match code with
      | .done => 0 | .refusedMode => 1 | .busy => 2 | .badTable => 3 | .badIndex => 4 | .badCheck => 5
      | .badValue => 6 | .forbiddenJump => 7 | .locked => 8 | .notOwner => 9 | .termFalse => 10 | .full => 11
    s.reply rq op code data = s.emit rq.node 7 rq.tag (op :: number :: data))
  ∧ ∀ (s : State) (dst kind tag : Byte) (payload : List Byte),
    (s.addressed = false → s.emit dst kind tag payload = s)
    ∧ ∀ own, s.own = some own →
      let f := buildFrame dst own kind tag payload
      (f.dst = dst ∧ f.src = own ∧ f.kind = kind ∧ f.tag = tag ∧ f.payload = payload
        ∧ (payload.length ≤ 48 → f.sound))
      ∧ (dst = own ∨ dst = 0 → s.emit dst kind tag payload = s)
      ∧ (dst = 127 → s.emit dst kind tag payload = (s.offer .up f).offer .dn f)
      ∧ ∀ i : Fin 126, dst.toNat = i.val + 1 → dst ≠ own →
          s.emit dst kind tag payload =
            (match (s.line.sides.row i).side with
              | .up => s.offer .up f
              | .dn => s.offer .dn f
              | .unknown => (s.offer .up f).offer .dn f)

/-- ADMISSION to a queue whose transmitter is not IDLE over a waiting frame: a NORMAL frame joins or is
dropped; a SAFETY frame joins, displaces the oldest NORMAL frame not being sent, or is dropped (R11,
R12, R13). -/
def Obligations.OfferedFrameIsAdmittedDisplacesOrIsDropped : Prop :=
  (∀ (q : PortState) (f : Frame), q.busySending → f.normal = true →
      (8 ≤ q.normals ∨ 12 ≤ q.total →
        q.offer f = { q with normalDrops := min (q.normalDrops + 1) 65535 })
      ∧ (q.normals < 8 → q.total < 12 →
        (q.sending = none → q.offer f = { q with sending := some f })
        ∧ (∀ g, q.sending = some g → q.offer f = { q with waiting := q.waiting ++ [f] })))
  ∧ (∀ (q : PortState) (f : Frame), q.busySending → f.safety = true →
      (q.total < 12 →
        (q.sending = none → q.offer f = { q with sending := some f })
        ∧ (∀ g, q.sending = some g → q.offer f = { q with waiting := q.waiting ++ [f] }))
      ∧ (12 ≤ q.total →
        (∀ older oldest younger, q.waiting = older ++ oldest :: younger →
          (∀ g ∈ older, g.safety = true) → oldest.normal = true →
          q.offer f = { q with waiting := older ++ younger ++ [f],
                               normalDrops := min (q.normalDrops + 1) 65535 })
        ∧ ((∀ g ∈ q.waiting, g.safety = true) →
          q.offer f = { q with safetyDrops := min (q.safetyDrops + 1) 65535 })))

/-- The completion of TRANSMIT frees the slot, and the oldest SAFETY frame, or else the oldest NORMAL
frame, is sent next; nothing else changes (R13). -/
def Obligations.TransmitCompletionSendsTheNextFrame : Prop :=
  ∀ (p : Port) (s : State) (sent : Frame), s.inReset = false → (s.port p).sending = some sent →
    let u := s.take (.transmitCompletion p)
    let q := s.port p
    (q.waiting = [] → exec (.transmitCompletion p) s = .next (u.setPort p { q with sending := none }))
    ∧ (∀ older f younger, q.waiting = older ++ f :: younger → (∀ g ∈ older, g.normal = true) →
        f.safety = true →
        exec (.transmitCompletion p) s =
          .next (u.setPort p { q with sending := some f, waiting := older ++ younger }))
    ∧ (∀ f younger, q.waiting = f :: younger → (∀ g ∈ q.waiting, g.normal = true) →
        exec (.transmitCompletion p) s =
          .next (u.setPort p { q with sending := some f, waiting := younger }))

/-- The EXPIRY of the bridge-silence timer: the timer stops, BRIDGE_LINK falls and is handed to its waiting
users, and its notice event occurs; no other state moves (R15, R41, R187). -/
def Obligations.BridgeSilenceExpiryDropsTheLink : Prop :=
  ∀ (s : State) (due : Nat), s.inReset = false → s.line.silence = some due →
    ∃ t : State, exec .bridgeSilenceExpiry s = .next t
      ∧ t.line.silence = none ∧ t.cond 0 = false ∧ t.req.marks = s.req.marks ||| 2
      ∧ (s.cond 0 = true → (t.board.conds.row 0).age = 0)
      ∧ (∀ c : Fin 64, c ≠ 0 → t.board.conds.row c = s.board.conds.row c)
      ∧ t.handed = (s.take .bridgeSilenceExpiry).handed ++ (if s.cond 0 = true then
          (s.users 0).map (fun user => .conditionChange 0 false user) else [])
      ∧ (s.req.marks.getLsbD 1 = true → t.line = { s.line with silence := none })
      ∧ (∀ p, (t.port p).crcCount = (s.port p).crcCount)
      ∧ t = { s with
          line := { s.line with silence := none, up := t.line.up, dn := t.line.dn },
          board := { s.board with conds := t.board.conds },
          req := { s.req with marks := t.req.marks }, handed := t.handed }

/-- The queue rules hold after every step of a state in which they hold (R10, R13). -/
def Obligations.EveryStepKeepsTheQueueRules : Prop :=
  ∀ s t : State, s.queuesSafe → step s = .next t → t.queuesSafe

/-! ## MATCH -/

/-- HEADER MATCH and PAYLOAD TEST: a valid entry matches by source, kind, tag range, port, and the bits
of one payload byte that its mask sets (R23, R24). -/
def Obligations.EntryMatchesByHeaderAndMaskedByte : Prop :=
  (∀ (m : MatchEntry) (f : Frame) (p : Port), m.valid = true →
      (m.accepts f p = true ↔
        (m.source = none ∨ m.source = some f.src) ∧ m.kind = f.kind
        ∧ m.tagLow.toNat ≤ f.tag.toNat ∧ f.tag.toNat ≤ m.tagHigh.toNat
        ∧ (m.port = .either ∨ (m.port = .up ∧ p = .up) ∨ (m.port = .dn ∧ p = .dn))
        ∧ m.payloadTest f.payload = true))
  ∧ (∀ (m : MatchEntry) (payload : List Byte),
      (m.mask = 0 → m.payloadTest payload = true)
      ∧ (m.mask ≠ 0 →
        (m.payloadTest payload = true ↔
          ∃ b, payload[m.position.toNat]? = some b
            ∧ ∀ i : Fin 8, m.mask.getLsbD i.val = true → b.getLsbD i.val = m.value.getLsbD i.val)))

/-- ORDER OF TESTING AND STOP, HOLD_FORWARD AND THE VERDICT: which entries match, in which order, which
one holds the frame, and what the test counts (R25, R26). -/
def Obligations.TestOfAFrameFollowsIndexOrder : Prop :=
  ∀ (s : State) (f : Frame) (p : Port),
    let x := s.testFrame f p
    (∀ e, e ∈ x.matched ↔ s.matches f p e)
    ∧ x.matched.Pairwise (fun a b => a < b)
    ∧ (x.held = none ↔ ∀ e, s.matches f p e → s.failingHold (s.table.row e).action = none)
    ∧ (∀ e t, x.held = some (e, t) ↔
        (s.matches f p e ∧ s.failingHold (s.table.row e).action = some t
        ∧ ∀ e', e' < e → s.matches f p e' → s.failingHold (s.table.row e').action = none))
    ∧ (∀ e, s.matches f p e → x.s.table.row e =
        { s.table.row e with
          hits := min ((s.table.row e).hits + 1) 65535,
          refusals := if (s.failingHold (s.table.row e).action).isSome
            then min ((s.table.row e).refusals + 1) 255 else (s.table.row e).refusals })
    ∧ (∀ e, ¬ s.matches f p e → x.s.table.row e = s.table.row e)
    ∧ x.s = { s with table := x.s.table }

/-! ## COND -/

/-- COND_SET and the match action SET_COND: the four cases of the table, and the refusal; a refused action raises
the refusal count of its entry by 1, up to 255, and changes nothing else; an UNADDRESSED part takes the action
too (R17, R28, R29, R36, R43). That the count rises only while it is below the entry's hits is the model's
reading (log 16). -/
def Obligations.CondSetActsByTheConditionsValue : Prop :=
  ∀ (s : State) (rq : Requester) (e : Fin 64) (b : Byte) (hold : Nat), s.inReset = false →
    (∀ c : Fin 64, b.toNat = c.val → 16 ≤ c.val → (s.board.conds.row c).source = .frame →
      ∀ i u, (i = .condSet rq b hold ∨ i = .setCond e b hold) → u = s.take i →
      ∃ t : State, (i = .condSet rq b hold → s.addressed = true →
          exec i s = .next (t.reply rq 0x0C .done []))
        ∧ (i = .setCond e b hold → exec i s = .next t)
        ∧ t.board.conds.row c =
            { value := true, source := .frame, holdTime := min hold 65535,
              hold := if hold = 0 then none else some (s.clock + min hold 65535 * 10000),
              age := if s.cond c = true then (s.board.conds.row c).age else 0 }
        ∧ (∀ c' : Fin 64, c' ≠ c → t.board.conds.row c' = s.board.conds.row c')
        ∧ t.handed = u.handed ++ (if s.cond c = true then []
            else (s.users c).map (fun user => .conditionChange c true user))
        ∧ t = { u with board := { s.board with conds := t.board.conds }, handed := t.handed })
    ∧ ((∀ c : Fin 64, b.toNat = c.val → c.val < 16 ∨ (s.board.conds.row c).source ≠ .frame) →
      (s.addressed = true → exec (.condSet rq b hold) s =
        .next ((s.take (.condSet rq b hold)).reply rq 0x0C .badValue []))
      ∧ let u := s.take (.setCond e b hold)
        let m := s.table.row e
        exec (.setCond e b hold) s = .next (u.refuse e)
        ∧ (u.refuse e).table.row e = { m with
            refusals := if m.refusals < m.hits then min (m.refusals + 1) 255 else m.refusals }
        ∧ (∀ other, other ≠ e → (u.refuse e).table.row other = s.table.row other)
        ∧ u.refuse e = { u with table := (u.refuse e).table })

/-- COND_CLEAR, the match action CLEAR_COND, in an UNADDRESSED part too, and HOLD EXPIRY of a running hold
(R17, R28, R29, R36, R44, R45). That a refused action counts only while the count is below the entry's hits is
the model's reading (log 16). -/
def Obligations.CondClearAndHoldExpiryMakeAConditionFalse : Prop :=
  (∀ (s : State) (rq : Requester) (e : Fin 64) (b : Byte), s.inReset = false →
      (∀ c : Fin 64, b.toNat = c.val → 16 ≤ c.val → (s.board.conds.row c).source = .frame →
        ∀ i u, (i = .condClear rq b ∨ i = .clearCond e b) → u = s.take i →
        ∃ t : State, (i = .condClear rq b → s.addressed = true →
            exec i s = .next (t.reply rq 0x0D .done []))
          ∧ (i = .clearCond e b → exec i s = .next t)
          ∧ (s.cond c = false → t = u)
          ∧ (s.cond c = true → t.board.conds.row c =
              { value := false, source := .frame, holdTime := 0, hold := none, age := 0 })
          ∧ (∀ c' : Fin 64, c' ≠ c → t.board.conds.row c' = s.board.conds.row c')
          ∧ t.handed = u.handed ++ (if s.cond c = true then
              (s.users c).map (fun user => .conditionChange c false user) else [])
          ∧ t = { u with board := { s.board with conds := t.board.conds }, handed := t.handed })
      ∧ ((∀ c : Fin 64, b.toNat = c.val → c.val < 16 ∨ (s.board.conds.row c).source ≠ .frame) →
        (s.addressed = true →
          exec (.condClear rq b) s = .next ((s.take (.condClear rq b)).reply rq 0x0D .badValue []))
        ∧ exec (.clearCond e b) s = .next ((s.take (.clearCond e b)).refuse e)))
  ∧ (∀ (s : State) (c : Fin 64) (due : Nat), s.inReset = false →
      (s.board.conds.row c).hold = some due → s.cond c = true →
      let u := s.take (.holdExpiry c)
      ∃ t : State, exec (.holdExpiry c) s = .next t
        ∧ t.board.conds.row c = { s.board.conds.row c with
            value := false, holdTime := 0, hold := none, age := 0 }
        ∧ (∀ c' : Fin 64, c' ≠ c → t.board.conds.row c' = s.board.conds.row c')
        ∧ t.handed = u.handed ++ (s.users c).map (fun user => .conditionChange c false user)
        ∧ t = { u with board := { s.board with conds := t.board.conds }, handed := t.handed })

/-- A change of level at a fault pin sets its condition at once, and the change is handed on; at the
expiry of the age interval every age below 65535 rises by 1, and nothing else changes (R39, R46). -/
def Obligations.FaultLinesAndAgesFollowTheirEvents : Prop :=
  (∀ (s : State) (low : Bool), s.inReset = false →
      (∃ t : State, exec (.faultLineChange .a low) s = .next t ∧ t.faultA = low ∧ t.faultB = s.faultB
        ∧ t.cond 3 = low
        ∧ (∀ c : Fin 64, c ≠ 3 → t.board.conds.row c = s.board.conds.row c)
        ∧ (s.cond 3 = low → t.handed = (s.take (.faultLineChange .a low)).handed)
        ∧ (s.cond 3 ≠ low → (t.board.conds.row 3).age = 0 ∧ t.handed =
            (s.take (.faultLineChange .a low)).handed
              ++ (s.users 3).map (fun user => .conditionChange 3 low user)))
      ∧ (∃ t : State, exec (.faultLineChange .b low) s = .next t ∧ t.faultB = low ∧ t.faultA = s.faultA
        ∧ t.cond 4 = low
        ∧ (∀ c : Fin 64, c ≠ 4 → t.board.conds.row c = s.board.conds.row c)
        ∧ (s.cond 4 = low → t.handed = (s.take (.faultLineChange .b low)).handed)
        ∧ (s.cond 4 ≠ low → (t.board.conds.row 4).age = 0 ∧ t.handed =
            (s.take (.faultLineChange .b low)).handed
              ++ (s.users 4).map (fun user => .conditionChange 4 low user))))
  ∧ (∀ s : State, s.inReset = false →
      ∃ t : State, exec .ageIntervalExpiry s = .next t
        ∧ (∀ c : Fin 64, (s.board.conds.row c).age ≤ 65535 → t.board.conds.row c =
            { s.board.conds.row c with
              age := if (s.board.conds.row c).age < 65535 then (s.board.conds.row c).age + 1
                else 65535 })
        ∧ t.board.ageDue = s.board.ageDue + 10000
        ∧ t = { s.take .ageIntervalExpiry with board :=
            { s.board with conds := t.board.conds, ageDue := t.board.ageDue } })

/-- CHANGE DELIVERY: a condition set to the value it holds changes nothing; a change restarts the age and is
handed once to each waiting user that names the condition (R41, R47). A taken term write is read at the write by
every channel forcing and ramp that waits on the term: the forcing is judged on the written term, and the ramp
enters, completes, pauses or runs on by it; the ramps that do not wait on it stand (R50, R87, R88, R89, R120,
R122, R126). That each channel gate, channel forcing and ramp takes an event of its own, and DOOR a single one, and
that the forcings read a written term before the ramps, are the model's choices (log 26, log 58). -/
def Obligations.ChangeIsHandedToEveryWaitingUser : Prop :=
  (∀ (s : State) (c : Fin 64) (v : Bool),
    (s.cond c = v → s.setCond c v = s)
    ∧ (s.cond c ≠ v → ∃ users : List CondUser,
      s.setCond c v =
        { s.setRecord c { s.board.conds.row c with value := v, age := 0 } with
          handed := s.handed ++ users.map (fun user => .conditionChange c v user) }
      ∧ users.Nodup
      ∧ (∀ ch, .gate ch ∈ users ↔ (s.chans.row ch).set.gate = some c)
      ∧ (∀ ch, .forcing ch ∈ users ↔
          (((s.chans.row ch).set.forcing = .faultA ∧ c = 3)
          ∨ ((s.chans.row ch).set.forcing = .faultB ∧ c = 4)
          ∨ ∃ t v', (s.chans.row ch).set.forcing = .termFalse t
              ∧ (c, v') ∈ (s.board.terms.row t).literals))
      ∧ (∀ r, .ramp r ∈ users ↔ s.waitsOn r c)
      ∧ (.doors ∈ users ↔
          ((∃ d g, (s.door.doors.row d).set.group = some g
            ∧ ((s.door.doors.row d).set.closedCond = some c
              ∨ (s.door.doors.row d).set.openCond = some c))
          ∨ ∃ g t v', (s.door.groups.row g).trigger = some t
              ∧ (c, v') ∈ (s.board.terms.row t).literals))))
  ∧ (∀ (s : State) (t : Fin 32) (w : Written), w.index = t.val → ¬ TableId.terms.badCodes t.val w.image →
      let u := s.takeWrite .terms [w]
      let v : State := { s with board := { s.board with terms := u.board.terms } }
      let forces (ch : Fin 16) : Prop := (s.chans.row ch).set.forcing = .termFalse t
      (∀ t', t' ≠ t → u.board.terms.row t' = s.board.terms.row t')
      ∧ (∀ ch, let x := s.chans.row ch
          let y := u.chans.row ch
          (forces ch → v.term t = false → y.status = .engaged)
          ∧ (forces ch → v.term t = true → x.status = .engaged → x.set.latched = false →
              y.status = if x.cutOff = false ∧ counting s.chans ch = false then .clear else .awaitingWrap)
          ∧ (¬ forces ch ∨ (v.term t = true ∧ ¬ (x.status = .engaged ∧ x.set.latched = false)) →
              y.status = x.status)
          ∧ ∀ o, (Instr.forcedEvent o ch) ∈ u.handed.drop s.handed.length ↔
              forces ch ∧ v.term t = false ∧ x.status = .clear ∧ x.cutOff = false ∧ x.set.owner = o
                ∧ o ≠ .free)
      ∧ (∀ r, (∀ k, ¬ s.readsTerm r k t) → u.ramp r = s.ramp r)
      ∧ (∀ r k m, s.readsTerm r k t → (s.ramp r).plan = some m →
          (∀ ch, ¬ forces ch) → (∀ r' k', r' ≠ r → ¬ s.readsTerm r' k' t) →
          (∀ g, (s.door.groups.row g).trigger ≠ some t) →
          let x := s.ramp r
          let st := s.stage k
          (x.phase = .pending →
            (¬ v.enters st → u = v)
            ∧ (v.enters st → ¬ v.passes st x.lastPos → v.standsAt u r st { x with phase := .entered })
            ∧ (v.enters st → v.passes st x.lastPos → v.goesOn u r m k))
          ∧ (x.phase = .entered → st.kind = .wait t →
            (v.term t = false → u = v) ∧ (v.term t = true → v.goesOn u r m k))
          ∧ (∀ d, x.phase = .entered → st.kind = .drive d →
            (x.state = .running → v.mayRun st → u = v)
            ∧ (x.state = .running → ¬ v.mayRun st → v.valvesOff u r ∧ u.ramp r = { x with
                state := .paused, sPrev := 0, stale := none,
                stageTimer := { acc := x.stageTimer.elapsed s.clock, since := none } })
            ∧ (x.state = .paused → ¬ v.mayRun st → u = v)
            ∧ (x.state = .paused → v.mayRun st → u = (v.setRamp r { x with
                state := .running, dwell := x.dwell.resume s.clock,
                stageTimer := { acc := x.stageTimer.elapsed s.clock, since := some s.clock },
                stale := some (s.clock + x.staleLimit * 1000) }).followRamp r))))

/-! ## SCAN -/

/-- An output of the selected generator is a trigger and acts by the scanner state; SCAN START fixes the
list, the slot interval, the scan number and the sample counts; the first slot takes the kind and wetting of
its channel as they stand; a slot's dwell ends 20 µs before the next slot, or 40 µs before the end of the
last slot's interval; a LOOP channel has its shunt at all times, and a channel has wetting current in its slot
and under the wetting test, by the kind and wetting in effect (R53, R54, R57, R59, R60). That the slot interval
follows the settings as written, and how the kind and wetting in effect are held, are the model's (log 39,
log 52). -/
def Obligations.TriggerStartsAScanOfTimedSlots : Prop :=
  (∀ (s : State) (g : Gen), s.inReset = false →
      let u := s.take (.rateGeneratorOutput g)
      let selected := (s.scan.settings.trigger = .rateA ∧ g = .a)
        ∨ (s.scan.settings.trigger = .rateB ∧ g = .b)
      (¬ selected → exec (.rateGeneratorOutput g) s = .next u)
      ∧ (selected → s.scan.scanner = .stopped → exec (.rateGeneratorOutput g) s = .next u)
      ∧ (selected → ∀ x, s.scan.scanner = .trimming x → exec (.rateGeneratorOutput g) s = .next u)
      ∧ (selected → s.scan.scanner = .idle →
          exec (.rateGeneratorOutput g) s = .next (u.setScan (s.scan.begin s.clock)))
      ∧ (selected → ∀ x, s.scan.scanner = .scanning x → exec (.rateGeneratorOutput g) s =
          .next (u.setScan { s.scan with overrun := min (s.scan.overrun + 1) 65535 })))
  ∧ (∀ (x : Scan) (now : Nat), ∃ run,
      x.begin now = { x with
        scanner := .scanning run, scanNumber := (x.begin now).scanNumber,
        sensors := (x.begin now).sensors, frontEnds := (x.begin now).frontEnds }
      ∧ (∀ ch, x.list.head? = some ch →
          (x.begin now).frontEnds.row ch =
            { kind := (x.sensors.row ch).kind, wetting := (x.sensors.row ch).wetting }
          ∧ (run.wetted = true ↔
            (x.sensors.row ch).kind = .contact ∧ (x.sensors.row ch).wetting = true))
      ∧ (∀ ch, x.list.head? ≠ some ch → (x.begin now).frontEnds.row ch = x.frontEnds.row ch)
      ∧ run.list = x.list ∧ run.slot = 0 ∧ run.start = now ∧ run.converting = false
      ∧ (x.begin now).scanNumber.toNat = (x.scanNumber.toNat + 1) % 256
      ∧ (∀ ch, (x.begin now).sensors.row ch = { x.sensors.row ch with samples := 0 })
      ∧ (x.settings.trigger = .frame → run.interval = 200)
      ∧ (x.settings.trigger = .rateA → run.interval = max (x.settings.nA / x.list.length) 50)
      ∧ (x.settings.trigger = .rateB → x.settings.bInput = .reference →
          run.interval = max (x.settings.nB / x.list.length) 50)
      ∧ (x.settings.trigger = .rateB → x.settings.bInput = .a →
          run.interval = max (x.settings.nA * x.settings.nB / x.list.length) 50))
  ∧ (∀ (s : State) (r : ScanRun), s.inReset = false → s.scan.scanner = .scanning r →
      (50 ≤ r.interval →
        (r.slot + 1 < r.list.length → r.dwellEnd + 20 = r.start + (r.slot + 1) * r.interval)
        ∧ (r.slot + 1 = r.list.length → r.dwellEnd + 40 = r.start + r.list.length * r.interval))
      ∧ (r.converting = false → (r.dwellEnd, Instr.dwellEnd) ∈ s.deadlines)
      ∧ exec .dwellEnd s = .next ((s.take .dwellEnd).setScan
          { s.scan with scanner := .scanning { r with converting := true } }))
  ∧ (∀ (x : Scan) (ch : Fin 24) (f : FrontEnd),
      let slotted := ch ∈ x.list ∨ ∃ r, x.scanner = .scanning r ∧ ch ∈ r.list
      (slotted → f = x.frontEnds.row ch) →
      (¬ slotted → f = { kind := (x.sensors.row ch).kind, wetting := (x.sensors.row ch).wetting }) →
      (x.shunt ch = true ↔ f.kind = .loop)
      ∧ (x.wetting ch = true ↔
          (x.settings.wettingTest = true ∧ f.kind = .contact ∧ f.wetting = true)
          ∨ ∃ r, x.scanner = .scanning r ∧ r.wetted = true ∧ r.list[r.slot]? = some ch))

/-- SCAN_NOW, as a request and as the match action, by the trigger source and the scanner state; an UNADDRESSED
part takes the action too (R17, R28, R34, R36, R58). That the trigger source is judged first in TRIMMING too is
the model's choice (log 54), and that a refused action counts only while the count is below the entry's hits is
its reading (log 16). -/
def Obligations.ScanNowActsByTheScannerState : Prop :=
  ∀ (s : State) (rq : Requester) (e : Fin 64) (code : Code) (x : Scan), s.inReset = false →
    ((s.scan.settings.trigger ≠ .frame ∧ code = .badValue ∧ x = s.scan)
      ∨ (s.scan.settings.trigger = .frame ∧
        ((s.scan.scanner = .stopped ∧ code = .badValue ∧ x = s.scan)
        ∨ (s.scan.scanner = .idle ∧ code = .done ∧ x = s.scan.begin s.clock)
        ∨ ((∃ r, s.scan.scanner = .scanning r) ∧ code = .busy
            ∧ x = { s.scan with overrun := min (s.scan.overrun + 1) 65535 })
        ∨ ((∃ r, s.scan.scanner = .trimming r) ∧ code = .busy ∧ x = s.scan)))) →
    (s.addressed = true → exec (.scanNow (.request rq)) s =
      .next (((s.take (.scanNow (.request rq))).setScan x).reply rq 0x0E code []))
    ∧ (code = .done → exec (.scanNow (.action e)) s =
        .next ((s.take (.scanNow (.action e))).setScan x))
    ∧ (code ≠ .done → exec (.scanNow (.action e)) s =
        .next (((s.take (.scanNow (.action e))).setScan x).refuse e))

/-- THRESHOLD ADVANCE: a sample that calls for a change counts; the debounce-th in a row changes the state;
any other sample sets the count to 0 (R65). -/
def Obligations.ThresholdChangesAfterItsDebounce : Prop :=
  ∀ (t : Threshold) (v : Nat),
    (t.calls v = true ↔
      (t.direction = .high ∧ t.tripped = false ∧ t.level ≤ v)
      ∨ (t.direction = .high ∧ t.tripped = true ∧ v + t.hysteresis < t.level)
      ∨ (t.direction = .low ∧ t.tripped = false ∧ v ≤ t.level)
      ∨ (t.direction = .low ∧ t.tripped = true ∧ t.level + t.hysteresis < v))
    ∧ (t.calls v = false → t.advance v = { t with agreement := 0 })
    ∧ (∀ n vs, t.agreement + n < t.debounce → vs = List.replicate n v → t.calls v = true →
        vs.foldl Threshold.advance t = { t with agreement := t.agreement + n })
    ∧ (∀ n vs, t.agreement + n = t.debounce → 0 < n → vs = List.replicate n v →
        t.calls v = true →
        vs.foldl Threshold.advance t = { t with tripped := !t.tripped, agreement := 0 })

/-- SAMPLE: the conversion of a slot gives the channel its scaled value, advances exactly the threshold
records of the channel, stores the record when the channel is logged, with the notice of BUFFER_ABOVE where
it raises the fill to the threshold, and hands PLAN one position sample for each ramp that names the channel,
and no other; the conditions of a record that changes state follow it, and other conditions stand; then the
next slot begins with the kind and wetting of its channel as they stand, or the scan is complete (R41, R53,
R60, R62, R63, R65, R66, R67).
That a SAMPLE acts once the slot's conversion has begun is the model's reading (log 18). -/
def Obligations.SampleIsHandedOn : Prop :=
  ∀ (s : State) (raw : Fin 4096) (r : ScanRun) (ch : Fin 24), s.inReset = false →
    s.scan.scanner = .scanning r → r.converting = true → r.channel = some ch →
    let x := s.scan
    let c := x.sensors.row ch
    let v := if raw.val ≤ c.zero then 0 else min ((raw.val - c.zero) * c.gain / 256) 32767
    ∃ t : State, exec (.sample raw) s = .next t
      ∧ t.scan.sensors.row ch =
          { x.sensors.row ch with last := v, samples := (x.sensors.row ch).samples + 1 }
      ∧ (∀ other, other ≠ ch → t.scan.sensors.row other = x.sensors.row other)
      ∧ (∀ k, (x.thresholds.row k).channel = ch →
          t.scan.thresholds.row k = (x.thresholds.row k).advance v)
      ∧ (∀ k, (x.thresholds.row k).channel ≠ ch → t.scan.thresholds.row k = x.thresholds.row k)
      ∧ ((x.sensors.row ch).logged = false → t.scan.buffer = x.buffer ∧ t.scan.above = x.above
          ∧ t.req = s.req ∧ t.line = s.line)
      ∧ ((x.sensors.row ch).logged = true →
          let above := decide (x.settings.bufferThreshold ≤ t.scan.buffer.length)
          t.scan.above = above
          ∧ (x.above = false → above = true → t.req.marks = s.req.marks ||| 4
            ∧ (s.req.marks.getLsbD 2 = true → t.line = s.line))
          ∧ (x.above = above → t.req = s.req ∧ t.line = s.line))
      ∧ ((x.sensors.row ch).logged = true → x.buffer.length < 512 →
          t.scan.buffer = x.buffer ++ [{ channel := ch, value := v, scan := x.scanNumber }]
          ∧ t.scan.stored = min (x.stored + 1) 65535)
      ∧ ((x.sensors.row ch).logged = true → 512 ≤ x.buffer.length →
          t.scan.buffer = x.buffer ∧ t.scan.discarded = min (x.discarded + 1) 65535
          ∧ t.scan.overflowing = true
          ∧ (x.overflowing = false → t.scan.overflow = min (x.overflow + 1) 65535)
          ∧ (x.overflowing = true → t.scan.overflow = x.overflow))
      ∧ (∀ m, (t.handed.drop (s.take (.sample raw)).handed.length).count (.positionSample m v) =
          if (s.plan.ramps.row m).position = some ch then 1 else 0)
      ∧ (∀ m w, (.positionSample m w) ∈ t.handed.drop (s.take (.sample raw)).handed.length → w = v)
      ∧ (∀ c k, (s.board.conds.row c).source = .threshold k → 16 ≤ c.val →
          ((t.scan.thresholds.row k).tripped ≠ (x.thresholds.row k).tripped →
            t.cond c = (t.scan.thresholds.row k).tripped)
          ∧ ((t.scan.thresholds.row k).tripped = (x.thresholds.row k).tripped →
            t.board.conds.row c = s.board.conds.row c))
      ∧ (∀ c, c ≠ 1 → (∀ k, (s.board.conds.row c).source ≠ .threshold k) →
          t.board.conds.row c = s.board.conds.row c)
      ∧ (r.slot + 1 < r.list.length → ∃ r', t.scan.scanner = .scanning r'
          ∧ r'.list = r.list ∧ r'.slot = r.slot + 1 ∧ r'.start = r.start
          ∧ r'.interval = r.interval ∧ r'.converting = false
          ∧ ∀ next, r.list[r.slot + 1]? = some next →
              let f : FrontEnd := { kind := (x.sensors.row next).kind, wetting := (x.sensors.row next).wetting }
              t.scan.frontEnds.row next = f
              ∧ (r'.wetted = true ↔ f.kind = .contact ∧ f.wetting = true)
              ∧ ∀ other, other ≠ next → t.scan.frontEnds.row other = x.frontEnds.row other)
      ∧ (r.list.length ≤ r.slot + 1 → t.scan.scanner = .idle ∧ t.cond 1 = true
          ∧ t.handed.getLast? = some .doorDerivation)

/-- BUFFER_READ removes and returns the oldest records, up to 8; BUFFER_CLEAR empties the buffer and
abandons a scan in progress; a taken write of the scan settings judges the buffer state against the written
threshold, with the notice event of a change, and leaves the generators and the scanner as they stand (R56, R57,
R67, R68, R69, R191). That the notice of the event is offered before its REPLY is
the model's choice (log 44). -/
def Obligations.BufferReadAndClearRemoveRecords : Prop :=
  (∀ (s : State) (rq : Requester), s.takesRequests →
      let x := s.scan
      ∃ t : State, exec (.bufferRead rq) s =
          .next (t.reply rq 0x10 .done
            (BitVec.ofNat 8 (min 8 x.buffer.length) :: (x.buffer.take 8).flatMap Sampled.bytes))
        ∧ t.scan.buffer = x.buffer.drop 8
        ∧ t.scan.read = min (x.read + min 8 x.buffer.length) 65535
        ∧ (x.buffer ≠ [] → t.scan.overflowing = false)
        ∧ (x.buffer = [] → t.scan.overflowing = x.overflowing)
        ∧ t.scan.above = decide (x.settings.bufferThreshold ≤ x.buffer.length - 8)
        ∧ (x.above = true → x.buffer.length - 8 < x.settings.bufferThreshold →
            t.req.marks = s.req.marks ||| 8)
        ∧ (x.above = decide (x.settings.bufferThreshold ≤ x.buffer.length - 8) →
            t.req = s.req ∧ t.line = s.line)
        ∧ t.scan.scanner = x.scanner ∧ t.scan.stored = x.stored ∧ t.scan.cleared = x.cleared
        ∧ t.board = s.board ∧ t.handed = (s.take (.bufferRead rq)).handed)
  ∧ (∀ (s : State) (rq : Requester), s.takesRequests → 1 ≤ s.scan.settings.bufferThreshold →
      let x := s.scan
      ∃ t : State, exec (.bufferClear rq) s = .next (t.reply rq 0x11 .done [])
        ∧ t.scan.buffer = [] ∧ t.scan.overflowing = false ∧ t.scan.above = false
        ∧ t.scan.cleared = min (x.cleared + x.buffer.length) 65535
        ∧ t.scan.stored = x.stored ∧ t.scan.read = x.read
        ∧ ((∃ r, x.scanner = .scanning r) → t.scan.scanner = .idle)
        ∧ ((∀ r, x.scanner ≠ .scanning r) → t.scan.scanner = x.scanner)
        ∧ (x.above = true → t.req.marks = s.req.marks ||| 8)
        ∧ (x.above = false → t.req = s.req ∧ t.line = s.line)
        ∧ t.board = s.board ∧ t.scan.sensors = x.sensors ∧ t.scan.thresholds = x.thresholds
        ∧ t.handed = (s.take (.bufferClear rq)).handed)
  ∧ (∀ (s : State) (w : Written), w.index = 0 → ¬ TableId.settings.badCodes 0 w.image →
      let u := s.takeWrite .settings [w]
      let above := decide (u.scan.settings.bufferThreshold ≤ s.scan.buffer.length)
      let v := s.setScan { s.scan with settings := u.scan.settings, above := above }
      (s.scan.above = above → u = v)
      ∧ (s.scan.above = false → above = true → u = v.notice 3 0)
      ∧ (s.scan.above = true → above = false → u = v.notice 4 0))

/-- The samples stored are the samples read, cleared and present after every step of a state in which
they are (R70). -/
def Obligations.EveryStepKeepsTheBufferAccount : Prop :=
  ∀ s t : State, s.accountSafe → step s = .next t → t.accountSafe

/-- TRIM_START is refused while a ramp is RUNNING, PAUSED or HELD or a trim runs, and otherwise begins the
trim (R71). TRIAL STEP of bit `n`: the bit stays set when the average of the 8 conversions is below 2048,
and is cleared at 2048 or more; the next lower bit is tried next. TRIM COMPLETION: the code is kept,
TRIM_OK says whether the FINAL CHECK is in range, TRIM_DONE occurs with TRIM_OK as its subject, and the
scanner rests by the list as it stands (R72, R73). That the code reads 512 from TRIM_START on is the model's
reading (log 19). -/
def Obligations.TrimStartsTriesItsBitsAndIsJudged : Prop :=
  (∀ (s : State) (rq : Requester), s.takesRequests →
      let busy := (∃ x, s.scan.scanner = .trimming x)
        ∨ ∃ r, (s.ramp r).state = .running ∨ (s.ramp r).state = .paused ∨ (s.ramp r).state = .held
      (busy → exec (.trimStart rq) s = .next ((s.take (.trimStart rq)).reply rq 0x0F .busy []))
      ∧ (¬ busy → ∃ t : State, exec (.trimStart rq) s = .next (t.reply rq 0x0F .done [])
        ∧ (∃ run, t.scan.scanner = .trimming run ∧ run.kept = s.scan.trimCode ∧ run.stepsLeft = 10)
        ∧ t.scan.trimCode = 512
        ∧ t.cond 1 = false ∧ t.cond 2 = s.cond 2
        ∧ (∀ k, t.scan.thresholds.row k = { s.scan.thresholds.row k with agreement := 0 })
        ∧ t.scan.buffer = s.scan.buffer ∧ t.scan.list = s.scan.list
        ∧ t.scan.sensors = s.scan.sensors ∧ t.scan.settings = s.scan.settings
        ∧ t.plan = s.plan ∧ t.door = s.door ∧ t.chans = s.chans ∧ t.req = s.req ∧ t.line = s.line))
  ∧ (∀ (s : State) (readings : Vector (Fin 4096) 8) (run : TrimRun) (n : Nat), s.inReset = false →
      s.scan.scanner = .trimming run → run.stepsLeft = n + 1 → n < 10 →
      s.scan.trimCode % 2 ^ (n + 1) = 2 ^ n →
      let average := ((readings.toList.map Fin.val).sum) / 8
      ∃ t : State, exec (.trialStepCompletion readings) s = .next t
        ∧ t.scan.scanner = .trimming { run with stepsLeft := n }
        ∧ t.scan.trimCode.testBit n = decide (average < 2048)
        ∧ (∀ m, n < m → t.scan.trimCode.testBit m = s.scan.trimCode.testBit m)
        ∧ (∀ m, n = m + 1 → t.scan.trimCode % 2 ^ n = 2 ^ m)
        ∧ (n = 0 → t.scan.trimCode / 2 = s.scan.trimCode / 2)
        ∧ t = { s.take (.trialStepCompletion readings) with scan :=
                { s.scan with scanner := t.scan.scanner, trimCode := t.scan.trimCode } })
  ∧ (∀ (s : State) (readings : Vector (Fin 4096) 8) (run : TrimRun), s.inReset = false →
      s.scan.scanner = .trimming run → run.stepsLeft = 0 →
      let average := ((readings.toList.map Fin.val).sum) / 8
      let ok := decide (2046 ≤ average ∧ average ≤ 2050)
      let u := s.take (.trimCompletion readings)
      let rest : Scanner := if s.scan.list = [] then .stopped else .idle
      ∃ t : State, exec (.trimCompletion readings) s = .next t
        ∧ t = (((u.setScan { s.scan with scanner := rest }).setCond 2 ok).notice 5 (if ok then 1 else 0))
        ∧ t.scan = { s.scan with scanner := rest }
        ∧ t.cond 2 = ok
        ∧ (∀ c : Fin 64, c ≠ 2 → t.board.conds.row c = s.board.conds.row c)
        ∧ (s.cond 2 = ok → t.handed = u.handed)
        ∧ t.req.marks = s.req.marks ||| 16)

/-! ## OUT -/

/-- CONDUCTION and PIN DRIVE: what a recomputation gives one channel, and that it touches no other
(R79, R81, R82). That a cut-off PUSH_PULL channel whose forced state is FLOAT has both switches off is the
model's choice (log 55). -/
def Obligations.ConductionAndPinFollowTheInputs : Prop :=
  ∀ (s : State) (ch : Fin 16),
    let c := s.chans.row ch
    let t := s.conduct ch
    let level : Level :=
      if c.status = .clear then
        (if c.requested = true ∧ (actingMode s.chans ch = .steady ∨ c.timerOut = true) then .on else .off)
      else c.set.forced
    let pin : PinDrive :=
      match c.set.config, (t.chans.row ch).conducting with
      | .off, _ => .passiveLow
      | .float, _ => .highImpedance
      | .sink, true => .lowSideOn
      | .source, true => .highSideOn
      | .pushPull, true => .highSideOn
      | .sink, false => .bothOff
      | .source, false => .bothOff
      | .pushPull, false => if level = .float then .bothOff else .lowSideOn
    ((t.chans.row ch).conducting = true ↔
      (c.set.config = .sink ∨ c.set.config = .source ∨ c.set.config = .pushPull)
      ∧ c.restart = .none
      ∧ (∀ g, c.set.gate = some g → s.cond g = true)
      ∧ ((c.set.invert = false ∧ level = .on) ∨ (c.set.invert = true ∧ level = .off)))
    ∧ (t.chans.row ch).pin = pin
    ∧ ((t.chans.row ch).conducting ≠ c.conducting → (t.chans.row ch).supervision = none)
    ∧ ((t.chans.row ch).conducting = c.conducting → (t.chans.row ch).supervision = c.supervision)
    ∧ (∀ other, other ≠ ch → t.chans.row other = s.chans.row other)
    ∧ t = { s with chans := t.chans }

/-- A gate that becomes FALSE stops its channel in OUT's event, whatever its owner asks; forcing is judged at a
change that its source names, by the tables of R88 and R89; and what a taken channel entry write does: a change
of owner sets the level OFF, changed forcing fields are judged, the pin is recomputed, a new limit class is
compared with the current, and the timer acts by its written mode, sync, period and cascade (R78, R81, R82, R86,
R87, R88, R89, R91, R95, R99, R100, R101, R102, R103, R104, R107, R110, R111). That conduction is recomputed at
every such write, for the channel and its pair partner, that the current is kept, that a cascade write takes A in
force where the acting mode becomes PWM, and that the period judged for A in force is the one written, are the
model's (log 72, log 17, log 25, log 68); so are that a write which only stops the timer leaves an AWAITING_WRAP
forcing, that A in force moves only in PWM, and the pulse phase of a pair's odd channel (log 21, log 24, log 57). -/
def Obligations.GateAndForcingActAtAChange : Prop :=
  (∀ (s : State) (c : Fin 64) (v : Bool) (ch : Fin 16), s.inReset = false →
      (s.chans.row ch).set.gate = some c →
      ∃ t : State, exec (.conditionChange c v (.gate ch)) s = .next t
        ∧ t = (s.take (.conditionChange c v (.gate ch))).conduct ch
        ∧ (s.cond c = false → (t.chans.row ch).conducting = false)
        ∧ (t.chans.row ch).requested = (s.chans.row ch).requested
        ∧ (t.chans.row ch).status = (s.chans.row ch).status
        ∧ (t.chans.row ch).count = (s.chans.row ch).count
        ∧ t.door = s.door ∧ t.plan = s.plan ∧ t.req = s.req ∧ t.line = s.line ∧ t.board = s.board)
  ∧ (∀ (s : State) (c : Fin 64) (v : Bool) (ch : Fin 16), s.inReset = false →
      s.forcingNames (s.chans.row ch).set.forcing c = true →
      let i := Instr.conditionChange c v (.forcing ch)
      let u := s.take i
      let x := s.chans.row ch
      let active := s.forcingActive x.set.forcing
      ∃ t : State, exec i s = .next t
        ∧ (active = true → (t.chans.row ch).status = .engaged)
        ∧ (active = false → x.status = .engaged → x.set.latched = false →
            (t.chans.row ch).status =
              if x.cutOff = false ∧ counting s.chans ch = false then .clear else .awaitingWrap)
        ∧ (active = false → ¬ (x.status = .engaged ∧ x.set.latched = false) → t = u)
        ∧ (active = true → x.status = .engaged → t = u)
        ∧ t.handed = u.handed ++
            (if active = true ∧ x.status = .clear ∧ x.cutOff = false ∧ x.set.owner ≠ .free then
              [.forcedEvent x.set.owner ch] else [])
        ∧ (t.chans.row ch).requested = x.requested ∧ (t.chans.row ch).set = x.set
        ∧ (∀ other, other ≠ ch → t.chans.row other = s.chans.row other)
        ∧ t = { u with chans := t.chans, handed := t.handed })
  ∧ (∀ (s : State) (ch : Fin 16) (w : Written), w.index = ch.val →
      ¬ TableId.channels.badCodes ch.val w.image →
      let u := s.takeWrite .channels [w]
      let x := s.chans.row ch
      let y := u.chans.row ch
      let rewritten := y.set.forcing ≠ x.set.forcing ∨ y.set.forced ≠ x.set.forced
        ∨ y.set.latched ≠ x.set.latched
      let active := s.forcingActive y.set.forcing
      let newLimit := y.set.limit ≠ x.set.limit
      y.requested = (if y.set.owner = x.set.owner then x.requested else false)
      ∧ y.restart = x.restart ∧ y.cutOffs = x.cutOffs
      ∧ (¬ rewritten → y.status = x.status)
      ∧ (rewritten → active = true → y.status = .engaged)
      ∧ (rewritten → active = false → x.status = .engaged → y.set.latched = false →
          y.status = if x.cutOff = false ∧ counting u.chans ch = false then .clear else .awaitingWrap)
      ∧ (rewritten → active = false → ¬ (x.status = .engaged ∧ y.set.latched = false) →
          y.status = x.status)
      ∧ (rewritten ∧ active = true ∧ x.status = .clear ∧ x.cutOff = false ∧ y.set.owner ≠ .free →
          u.handed = s.handed ++ [.forcedEvent y.set.owner ch])
      ∧ (¬ (rewritten ∧ active = true ∧ x.status = .clear ∧ x.cutOff = false ∧ y.set.owner ≠ .free) →
          u.handed = s.handed)
      ∧ u.conduct ch = u ∧ u.conduct (partner ch) = u
      ∧ (y.conducting ≠ x.conducting → y.supervision = none)
      ∧ (y.conducting = x.conducting → y.current = x.current
        ∧ (¬ newLimit ∨ x.conducting = false → y.supervision = x.supervision)
        ∧ (newLimit → x.conducting = true →
          (x.current ≤ y.set.limit.milliamps → y.supervision = none)
          ∧ (y.set.limit.milliamps < x.current → y.supervision =
              if x.supervision = none then some (s.clock + y.set.cutDelay.micros) else x.supervision)))
      ∧ (∀ other, other ≠ ch → other ≠ partner ch → u.chans.row other = s.chans.row other)
      ∧ (let p := s.chans.row (partner ch)
        let q := u.chans.row (partner ch)
        q.set = p.set ∧ q.requested = p.requested ∧ q.restart = p.restart ∧ q.status = p.status
        ∧ q.cutOffs = p.cutOffs ∧ (q.conducting ≠ p.conducting → q.supervision = none)
        ∧ (q.conducting = p.conducting → q.supervision = p.supervision))
      ∧ ∀ h, (h = head u.chans ch ∨ h = head u.chans (partner ch)) →
        let old (m : Fin 16) := s.chans.row m
        let new (m : Fin 16) := u.chans.row m
        let mode := (new h).set.mode
        let hasPeriod := ∀ m ∈ members u.chans h, (new m).set.period ≠ 0
        let held := (∃ c, (new h).set.sync = .trigger c) ∧ (new h).running = false
        let still := mode = .steady ∨ ¬ hasPeriod ∨ held
        let joinedAnew := ch.val % 2 = 0 ∧ y.set.joined ≠ x.set.joined
        let entered := h = ch ∧ (y.set.mode ≠ x.set.mode ∨ y.set.mode = .pulseOnce)
        let stopped := h = ch ∧ y.set.sync ≠ x.set.sync ∧ ∃ c, y.set.sync = .trigger c
        let taken (m : Fin 16) := mode = .pwm ∧ (¬ hasPeriod
          ∨ (joinedAnew ∧ actingMode s.chans m ≠ .pwm)
          ∨ (¬ joinedAnew ∧ h = ch ∧ y.set.mode ≠ x.set.mode))
        (∀ m ∈ members u.chans h,
          (taken m → (new m).aInForce = (new m).set.cmpA)
          ∧ (¬ taken m → (new m).aInForce = (old m).aInForce)
          ∧ (mode = .steady → (new m).timerOut = (new m).requested)
          ∧ (mode = .pwm → ((new m).timerOut = true ↔ hasPeriod ∧ ¬ held
            ∧ (∃ m' ∈ members u.chans h, (new m').aInForce ≠ 0)
            ∧ ((new h).set.period ≤ (new h).aInForce ∨ (new h).count < (new h).aInForce
              ∨ (paired u.chans h = true ∧ (new h).count = (new h).aInForce
                ∧ (new (partner h)).count < (new (partner h)).aInForce)))))
        ∧ (¬ joinedAnew → (new h).running = (if stopped then false else (old h).running)
          ∧ ∀ m ∈ members u.chans h,
            (still → (new m).count = 0) ∧ (¬ still → (new m).count = (old m).count)
            ∧ (new m).phase = (if entered ∧ (mode = .pulseOnce ∨ mode = .pulseRepeat) then .waitA
                else (old m).phase)
            ∧ (mode ≠ .steady → mode ≠ .pwm → (new m).timerOut =
                if entered then decide (mode = .clearAtA) else (old m).timerOut))
        ∧ (joinedAnew → ∀ m ∈ members u.chans h,
          (new m).count = 0 ∧ (new m).phase = .waitA ∧ (new m).running = false
          ∧ (mode ≠ .steady → mode ≠ .pwm → (new m).timerOut = decide (mode = .clearAtA))))

/-- No step leaves a channel conducting that is cut off or not active, when no channel was (R79, R82,
R92). -/
def Obligations.EveryStepKeepsTheOutputsSafe : Prop :=
  ∀ s t : State, s.outputsSafe → step s = .next t → t.outputsSafe

/-- In SETUP no owned channel has its requested level ON, after every step of a state in which that
holds (R83). -/
def Obligations.EveryStepKeepsOwnedLevelsOffInSetup : Prop :=
  ∀ s t : State, s.setupSafe → step s = .next t → t.setupSafe

/-- No output channel ever passes from one active configuration directly to a different active one, in
any mode and across both resets (R80). -/
def Obligations.NoStepJumpsBetweenActiveConfigurations : Prop :=
  ∀ (s t : State) (ch : Fin 16), step s = .next t →
    (s.chans.row ch).set.config.active = true → (t.chans.row ch).set.config.active = true →
    (t.chans.row ch).set.config = (s.chans.row ch).set.config

/-- CHANNEL_SET: the refusals; on a FREE channel a level already requested changes nothing, and another is
requested (R84). That BAD_VALUE comes before NOT_OWNER is the model's reading (log 45). -/
def Obligations.ChannelSetSetsAFreeChannel : Prop :=
  ∀ (s : State) (rq : Requester) (b level : Byte), s.takesRequests →
    let u := s.take (.channelSet rq b level)
    ((16 ≤ b.toNat ∨ (level ≠ 0 ∧ level ≠ 1)) →
      exec (.channelSet rq b level) s = .next (u.reply rq 0x08 .badValue []))
    ∧ ∀ ch : Fin 16, b.toNat = ch.val → ∀ on : Bool, level = (if on then 1 else 0) →
      ((s.chans.row ch).set.owner ≠ .free →
        exec (.channelSet rq b level) s = .next (u.reply rq 0x08 .notOwner []))
      ∧ ((s.chans.row ch).set.owner = .free → (s.chans.row ch).requested = on →
        exec (.channelSet rq b level) s = .next (u.reply rq 0x08 .done []))
      ∧ ((s.chans.row ch).set.owner = .free → (s.chans.row ch).requested ≠ on →
        ∃ t : State, exec (.channelSet rq b level) s = .next (t.reply rq 0x08 .done [])
          ∧ (t.chans.row ch).requested = on
          ∧ (t.chans.row ch).conducting = t.conducts ch
          ∧ (t.chans.row ch).set = (s.chans.row ch).set
          ∧ (t.chans.row ch).status = (s.chans.row ch).status
          ∧ (t.chans.row ch).restart = (s.chans.row ch).restart
          ∧ (∀ other, other ≠ ch → t.chans.row other = s.chans.row other)
          ∧ t = { u with chans := t.chans })

/-- FORCE_CLEAR: the four cases of the table. TRIGGER_CLEAR: the refusals, the HELD timer, and the RUNNING
timer, single or pair (R90, R108). That an AWAITING_WRAP channel whose source is ACTIVE again, not judged yet,
answers DONE without effect, that an unlatched ENGAGED channel whose source has fallen, not judged yet, is released
by it, and that conduction is recomputed where the channel stays FORCED, are the model's choices (log 56, log 75,
log 72). -/
def Obligations.ForceClearAndTriggerClearRelease : Prop :=
  (∀ (s : State) (rq : Requester) (b : Byte), s.takesRequests →
      let u := s.take (.forceClear rq b)
      (16 ≤ b.toNat → exec (.forceClear rq b) s = .next (u.reply rq 0x0A .badValue []))
      ∧ ∀ ch : Fin 16, b.toNat = ch.val →
        let x := s.chans.row ch
        (x.status ≠ .engaged → exec (.forceClear rq b) s = .next (u.reply rq 0x0A .done []))
        ∧ (x.status = .engaged → s.forcingActive x.set.forcing = true →
            exec (.forceClear rq b) s = .next (u.reply rq 0x0A .busy []))
        ∧ (x.status = .engaged → s.forcingActive x.set.forcing = false →
            ∃ t : State, exec (.forceClear rq b) s = .next (t.reply rq 0x0A .done [])
              ∧ (t.chans.row ch).status =
                  (if x.cutOff = false ∧ counting s.chans ch = false then .clear else .awaitingWrap)
              ∧ (t.chans.row ch).restart = x.restart ∧ (t.chans.row ch).requested = x.requested
              ∧ (t.chans.row ch).conducting = t.conducts ch
              ∧ (∀ other, other ≠ ch → t.chans.row other = s.chans.row other)
              ∧ t = { u with chans := t.chans }))
  ∧ (∀ (s : State) (rq : Requester) (b : Byte), s.takesRequests →
      let u := s.take (.triggerClear rq b)
      (16 ≤ b.toNat → exec (.triggerClear rq b) s = .next (u.reply rq 0x0B .badValue []))
      ∧ ∀ ch : Fin 16, b.toNat = ch.val →
        ((head s.chans ch ≠ ch ∨ ∀ c, (s.chans.row ch).set.sync ≠ .trigger c) →
          exec (.triggerClear rq b) s = .next (u.reply rq 0x0B .badValue []))
        ∧ (head s.chans ch = ch → ∀ c, (s.chans.row ch).set.sync = .trigger c →
          ((s.chans.row ch).running = false →
            exec (.triggerClear rq b) s = .next (u.reply rq 0x0B .done []))
          ∧ ((s.chans.row ch).running = true →
            ∃ t : State, exec (.triggerClear rq b) s = .next (t.reply rq 0x0B .done [])
              ∧ (t.chans.row ch).running = false
              ∧ (∀ m ∈ members s.chans ch, (t.chans.row m).count = 0
                  ∧ (t.chans.row m).requested = (s.chans.row m).requested)
              ∧ (∀ other, other ∉ members s.chans ch → t.chans.row other = s.chans.row other)
              ∧ t = { u with chans := t.chans })))

/-- OVER-CURRENT ONSET starts the cut-off delay of a conducting channel, CURRENT RECOVERY ends it without
expiry, and at its expiry the channel is cut off in one event (R92). That the channel record keeps the current
named is the model's choice (log 17). -/
def Obligations.OverCurrentCutsTheChannelOff : Prop :=
  (∀ (s : State) (ch : Fin 16) (mA : Nat), s.inReset = false →
      let c := s.chans.row ch
      let up := s.take (.overCurrentOnset ch mA)
      let down := s.take (.currentRecovery ch mA)
      (c.conducting = false → exec (.overCurrentOnset ch mA) s = .next up
        ∧ exec (.currentRecovery ch mA) s = .next down)
      ∧ (c.conducting = true → c.supervision = none → c.set.limit.milliamps < mA →
          exec (.overCurrentOnset ch mA) s = .next (up.setChan ch
            { c with current := mA, supervision := some (s.clock + c.set.cutDelay.micros) }))
      ∧ (c.conducting = true → ∀ due, c.supervision = some due → mA ≤ c.set.limit.milliamps →
          exec (.currentRecovery ch mA) s = .next (down.setChan ch
            { c with current := mA, supervision := none })))
  ∧ (∀ (s : State) (ch : Fin 16) (due : Nat), s.inReset = false →
      (s.chans.row ch).supervision = some due →
      let x := s.chans.row ch
      let u := s.take (.cutOffDelayExpiry ch)
      ∃ t : State, exec (.cutOffDelayExpiry ch) s = .next t
        ∧ (t.chans.row ch).restart =
            (match x.set.restartDelay with
              | .manual => .waitingManual
              | .ms20 => .running (s.clock + 20000)
              | .ms100 => .running (s.clock + 100000)
              | .ms500 => .running (s.clock + 500000)
              | .ms2000 => .running (s.clock + 2000000))
        ∧ (t.chans.row ch).conducting = false ∧ (t.chans.row ch).supervision = none
        ∧ (t.chans.row ch).cutOffs = min (x.cutOffs + 1) 255
        ∧ (t.chans.row ch).status = x.status ∧ (t.chans.row ch).requested = x.requested
        ∧ (∀ other, other ≠ ch → t.chans.row other = s.chans.row other)
        ∧ (∀ c, (s.board.conds.row c).source = .channelCut ch → t.cond c = true)
        ∧ (∀ c, (s.board.conds.row c).source ≠ .channelCut ch →
            t.board.conds.row c = s.board.conds.row c)
        ∧ (∃ changes, t.handed = u.handed
              ++ (if x.set.owner = .free then [] else [.cutoffEvent x.set.owner ch]) ++ changes
            ∧ ∀ i ∈ changes, ∃ c user, i = .conditionChange c true user)
        ∧ t.req.marks = s.req.marks ||| 32
        ∧ t.plan = s.plan ∧ t.door = s.door ∧ t.scan = s.scan ∧ t.call = s.call)

/-- A channel leaves CUT_OFF at the expiry of its restart delay and at CHANNEL_RESTORE alike (R93, R94). That the
FORCED event is handed also where the forcing is AWAITING_WRAP on a timer that does not count, and is released at
once in the same event, and that it is handed before the changes of the conditions, are the model's reading (log
22) and choice (log 2). -/
def Obligations.ChannelLeavesCutOff : Prop :=
  (∀ (s : State) (rq : Requester) (b : Byte) (ch : Fin 16), s.takesRequests → b.toNat = ch.val →
      let x := s.chans.row ch
      (x.cutOff = false →
        exec (.restartDelayExpiry ch) s = .next (s.take (.restartDelayExpiry ch))
        ∧ exec (.channelRestore rq b) s =
            .next ((s.take (.channelRestore rq b)).reply rq 0x09 .done []))
      ∧ (∀ i u, u = s.take i → (i = .channelRestore rq b ∧ x.cutOff = true
            ∨ i = .restartDelayExpiry ch ∧ ∃ due, x.restart = .running due) →
        ∃ t : State, (i = .restartDelayExpiry ch → exec i s = .next t)
          ∧ (i = .channelRestore rq b → exec i s = .next (t.reply rq 0x09 .done []))
          ∧ (t.chans.row ch).restart = .none
          ∧ (t.chans.row ch).requested = x.requested
          ∧ (t.chans.row ch).conducting = t.conducts ch
          ∧ (x.status = .engaged → (t.chans.row ch).state = .forced)
          ∧ (x.status = .awaitingWrap → counting s.chans ch = true →
              (t.chans.row ch).state = .forced)
          ∧ (x.status = .clear → (t.chans.row ch).state = .normal)
          ∧ (∀ c, (s.board.conds.row c).source = .channelCut ch → t.cond c = false)
          ∧ (∃ changes, t.handed = u.handed
              ++ (if x.status = .clear ∨ x.set.owner = .free then []
                else [.forcedEvent x.set.owner ch]) ++ changes
            ∧ ∀ i ∈ changes, ∃ c user, i = .conditionChange c false user)
          ∧ (∀ other, other ≠ ch → t.chans.row other = s.chans.row other)
          ∧ t.req = s.req ∧ t.plan = s.plan ∧ t.door = s.door ∧ t.line = s.line))
  ∧ (∀ (s : State) (rq : Requester) (b : Byte), s.takesRequests → 16 ≤ b.toNat →
      exec (.channelRestore rq b) s =
        .next ((s.take (.channelRestore rq b)).reply rq 0x09 .badValue []))

/-- TIMER STEP: a single timer of FREE sync advances when its tick is due, and wraps at the end of its period; in
PWM the wrap takes the new A, and the output follows the count; the edge and pulse modes act at the arrivals
at A and at B. For a timer of any sync, single or pair: the timers that wrap in a step are those that reach
the end of their period, and those that return under SYNC or start under TRIGGER at the wrap of the channel
they name; a wrap zeroes the counts, takes the new A under PWM and releases an AWAITING_WRAP forcing; a
RUNNING TRIGGER timer that stops at B returns to HELD at its arrival. Settings, levels, cut-offs and the
other blocks, but for the rate generators and the events they hand, are unchanged (R89, R99, R100, R101, R102,
R103, R104, R106, R107, R109, R111). That the step after step n has number n + 1, whose ticks are due by it,
and what a TRIGGER start of a timer that cannot count leaves, are the model's readings (log 40, log 20). -/
def Obligations.TimerStepCountsAndCompares : Prop :=
  (∀ (s : State), s.inReset = false →
      ∃ t : State, exec .timerStep s = .next t ∧ t.clock = s.clock + 1
        ∧ (∀ ch, let c := s.chans.row ch
            let d := t.chans.row ch
            head s.chans ch = ch → paired s.chans ch = false → c.set.sync = .free →
            let moves := c.set.mode ≠ .steady ∧ c.set.period ≠ 0
              ∧ (s.clock + 1) % c.set.tick.micros = 0
            (moves → d.count = if c.set.period ≤ c.count + 1 then 0 else c.count + 1)
            ∧ (¬ moves → c.count = 0 → d.count = 0)
            ∧ (¬ moves → c.set.mode ≠ .steady → c.set.period ≠ 0 → d.count = c.count)
            ∧ (c.set.mode = .pwm → c.set.period ≠ 0 →
                d.aInForce = (if moves ∧ c.set.period ≤ c.count + 1 then c.set.cmpA else c.aInForce)
                ∧ (d.timerOut = true ↔
                    0 < d.aInForce ∧ (c.set.period ≤ d.aInForce ∨ d.count < d.aInForce))))
        ∧ (∀ ch, (t.chans.row ch).set = (s.chans.row ch).set
            ∧ (t.chans.row ch).requested = (s.chans.row ch).requested
            ∧ (t.chans.row ch).restart = (s.chans.row ch).restart
            ∧ (t.chans.row ch).cutOffs = (s.chans.row ch).cutOffs)
        ∧ t = { s with
            clock := t.clock, chans := t.chans, handed := t.handed,
            scan := { s.scan with genA := t.scan.genA, genB := t.scan.genB } })
  ∧ (∀ (s : State) (ch : Fin 16), s.inReset = false →
      head s.chans ch = ch → paired s.chans ch = false → (s.chans.row ch).set.sync = .free →
      let c := s.chans.row ch
      c.set.period ≠ 0 → (s.clock + 1) % c.set.tick.micros = 0 →
      ∃ t : State, exec .timerStep s = .next t ∧
        let d := t.chans.row ch
        let a := d.count = c.set.cmpA
        let b := d.count = c.set.cmpB
        (c.set.mode = .setAtA → (d.timerOut = true ↔ c.timerOut = true ∨ a))
        ∧ (c.set.mode = .clearAtA → (d.timerOut = true ↔ c.timerOut = true ∧ ¬ a))
        ∧ (c.set.mode = .toggleAtA → (d.timerOut ≠ c.timerOut ↔ a))
        ∧ (c.set.mode = .pulseOnce →
            (c.phase = .waitA → a → d.timerOut = true ∧ d.phase = .waitB)
            ∧ (c.phase = .waitB → b → d.timerOut = false ∧ d.phase = .finished)
            ∧ (c.phase = .finished ∨ (c.phase = .waitA ∧ ¬ a) ∨ (c.phase = .waitB ∧ ¬ b) →
                d.timerOut = c.timerOut ∧ d.phase = c.phase))
        ∧ (c.set.mode = .pulseRepeat →
            (c.phase = .waitA → a → d.timerOut = true ∧ d.phase = .waitB)
            ∧ (c.phase = .waitB → b → ¬ a → d.timerOut = false ∧ d.phase = .waitA)
            ∧ (c.phase = .waitB → b → a → d.timerOut = true ∧ d.phase = .waitB)
            ∧ ((c.phase = .waitA ∧ ¬ a) ∨ (c.phase = .waitB ∧ ¬ b) →
                d.timerOut = c.timerOut ∧ d.phase = c.phase)))
  ∧ (∀ s : State, s.inReset = false →
      let c (ch : Fin 16) := s.chans.row ch
      let timer (h : Fin 16) : Prop := head s.chans h = h
      let parts (h : Fin 16) := members s.chans h
      let able (h : Fin 16) : Prop := (c h).set.mode ≠ .steady ∧ ∀ m ∈ parts h, (c m).set.period ≠ 0
      let held (h : Fin 16) : Prop := (∃ x, (c h).set.sync = .trigger x) ∧ (c h).running = false
      let moves (h : Fin 16) : Prop := able h ∧ ¬ held h
        ∧ (s.clock + 1) % (c (if paired s.chans h then partner h else h)).set.tick.micros = 0
      let atEnd (m : Fin 16) : Prop := (c m).set.period ≤ (c m).count + 1
      let called (w : Fin 16 → Prop) (h : Fin 16) : Prop := timer h ∧
        ((moves h ∧ ∀ m ∈ parts h, atEnd m)
          ∨ (∃ x, (c h).set.sync = .sync x ∧ able h ∧ w (head s.chans x))
          ∨ ∃ x, (c h).set.sync = .trigger x ∧ able h ∧ held h ∧ w (head s.chans x))
      ∃ (t : State) (wraps : Fin 16 → Prop) (position : Fin 16 → Nat),
        exec .timerStep s = .next t
        ∧ (∀ h, wraps h ↔ called wraps h)
        ∧ (∀ w : Fin 16 → Prop, (∀ h, called w h → w h) → ∀ h, wraps h → w h)
        ∧ (∀ ch, let released := (c ch).status = .awaitingWrap ∧ (c ch).cutOff = false
              ∧ wraps (head s.chans ch)
            (released → (t.chans.row ch).status = .clear)
            ∧ (¬ released → (t.chans.row ch).status = (c ch).status))
        ∧ ∀ h, timer h →
          let new (m : Fin 16) := t.chans.row m
          let arrives (at_ : Channel → Nat) : Prop := (wraps h ∨ moves h)
            ∧ ∀ m ∈ parts h, position m = at_ (c m) ∧ at_ (c m) < (c m).set.period
          let stops : Prop := (∃ x, (c h).set.sync = .trigger x) ∧ (c h).running = true
            ∧ (c h).set.stopAtB = true ∧ arrives (fun x => x.set.cmpB)
          (wraps h → ∀ m ∈ parts h, position m = 0)
          ∧ (¬ wraps h → moves h →
              (paired s.chans h = false → position h = (c h).count + 1)
              ∧ (paired s.chans h = true →
                (atEnd (partner h) → position (partner h) = 0 ∧ position h = (c h).count + 1)
                ∧ (¬ atEnd (partner h) → position (partner h) = (c (partner h)).count + 1
                    ∧ position h = (c h).count)))
          ∧ (¬ wraps h → ¬ moves h → ∀ m ∈ parts h, position m = (c m).count)
          ∧ ((able h ∧ ¬ held h ∨ wraps h) → ∀ m ∈ parts h,
              (stops → (new m).count = 0) ∧ (¬ stops → (new m).count = position m))
          ∧ (∀ x, (c h).set.sync = .trigger x → ((new h).running = true ↔
              ((c h).running = true ∧ ¬ stops) ∨ ((c h).running = false ∧ wraps (head s.chans x))))
          ∧ ((∀ x, (c h).set.sync ≠ .trigger x) → (new h).running = (c h).running)
          ∧ ((c h).set.mode = .pwm → able h → ∀ m ∈ parts h,
              (wraps h → (new m).aInForce = (c m).set.cmpA)
              ∧ (¬ wraps h → (new m).aInForce = (c m).aInForce)
              ∧ ((new m).timerOut = true ↔ ¬ ((∃ x, (c h).set.sync = .trigger x) ∧ (new h).running = false)
                ∧ (∃ m' ∈ parts h, (new m').aInForce ≠ 0)
                ∧ ((c h).set.period ≤ (new h).aInForce ∨ (new h).count < (new h).aInForce
                  ∨ (paired s.chans h = true ∧ (new h).count = (new h).aInForce
                    ∧ (new (partner h)).count < (new (partner h)).aInForce))))
          ∧ ((wraps h ∨ moves h) →
              let a := arrives (fun x => x.set.cmpA)
              let b := arrives (fun x => x.set.cmpB)
              ∀ m ∈ parts h,
                ((c h).set.mode = .setAtA → ((new m).timerOut = true ↔ (c h).timerOut = true ∨ a))
                ∧ ((c h).set.mode = .clearAtA → ((new m).timerOut = true ↔ (c h).timerOut = true ∧ ¬ a))
                ∧ ((c h).set.mode = .toggleAtA → ((new m).timerOut ≠ (c h).timerOut ↔ a))
                ∧ ((c h).set.mode = .pulseOnce ∨ (c h).set.mode = .pulseRepeat →
                  ((c h).phase = .waitA → a → (new m).timerOut = true ∧ (new h).phase = .waitB)
                  ∧ ((c h).phase = .waitA → ¬ a →
                    (new m).timerOut = (c h).timerOut ∧ (new h).phase = .waitA)
                  ∧ ((c h).phase = .waitB → ¬ b →
                    (new m).timerOut = (c h).timerOut ∧ (new h).phase = .waitB))
                ∧ ((c h).set.mode = .pulseOnce →
                  ((c h).phase = .waitB → b → (new m).timerOut = false ∧ (new h).phase = .finished)
                  ∧ ((c h).phase = .finished →
                    (new m).timerOut = (c h).timerOut ∧ (new h).phase = .finished))
                ∧ ((c h).set.mode = .pulseRepeat → (c h).phase = .waitB → b →
                  ((new m).timerOut = true ↔ a)
                  ∧ ((new h).phase = .waitB ↔ a) ∧ ((new h).phase = .waitA ↔ ¬ a))))


/-- TIMER STEP: a generator that counts the microsecond gives its output when its count reaches the
divisor in force, and takes the written divisor then (R56). That the generators count at TIMER_STEP is the
model's choice (log 5). -/
def Obligations.RateGeneratorsCountTheReference : Prop :=
  ∀ s : State, s.inReset = false →
    let a := s.scan.genA
    let b := s.scan.genB
    let outA := a.divisor ≤ a.count + 1
    let counts := b.input = .reference ∨ outA
    let outB := counts ∧ b.divisor ≤ b.count + 1
    ∃ t : State, exec .timerStep s = .next t
      ∧ (outA → t.scan.genA.count = 0 ∧ t.scan.genA.divisor = s.scan.settings.nA)
      ∧ (¬ outA → t.scan.genA = { a with count := a.count + 1 })
      ∧ (outB → t.scan.genB = { count := 0, divisor := s.scan.settings.nB,
                                input := s.scan.settings.bInput })
      ∧ (counts → ¬ outB → t.scan.genB = { b with count := b.count + 1 })
      ∧ (¬ counts → t.scan.genB = b)
      ∧ t.handed = (s.take .timerStep).handed
          ++ (if outA then [.rateGeneratorOutput .a] else [])
          ++ (if outB then [.rateGeneratorOutput .b] else [])

/-! ## PLAN -/

/-- PLAN_START and the match action START_PLAN: the refusals, and the arrival of an IDLE ramp at the first
stage of its plan: PENDING where its entry conditions do not hold, ENTERED as its kind says, or completed at
its entry, a SET stage having set its levels; an UNADDRESSED part takes the action too (R17, R28, R30, R36, R119,
R120, R121, R122, R123, R124, R125, R131). That BAD_VALUE comes before REFUSED_MODE, and that a refused action
counts only while the count is below the entry's hits, are the model's readings (log 45, log 16); that the
PLAN_COMPLETE notice of a plan complete at its entry is offered before the REPLY is its choice (log 44). -/
def Obligations.PlanStartArrivesAtTheFirstStage : Prop :=
  ∀ (s : State) (rq : Requester) (e : Fin 64) (rb pb : Byte), s.inReset = false →
    (∀ code, ((4 ≤ rb.toNat ∨ 8 ≤ pb.toNat) ∧ code = .badValue
        ∨ ∃ (r : Fin 4) (p : Fin 8), rb.toNat = r.val ∧ pb.toNat = p.val ∧
          ((s.plan.plans.row p).ramp ≠ r ∧ code = .badValue
          ∨ (s.plan.plans.row p).ramp = r ∧
            (s.req.mode = .setup ∧ code = .refusedMode
            ∨ s.req.mode = .service ∧ (s.ramp r).state ≠ .idle ∧ code = .busy))) →
      (s.addressed = true →
        exec (.planStart rq rb pb) s = .next ((s.take (.planStart rq rb pb)).reply rq 0x01 code []))
      ∧ exec (.startPlan e rb pb) s = .next ((s.take (.startPlan e rb pb)).refuse e))
    ∧ ∀ (r : Fin 4) (p : Fin 8) (i : Instr), rb.toNat = r.val → pb.toNat = p.val →
      (s.plan.plans.row p).ramp = r → s.req.mode = .service → (s.ramp r).state = .idle →
      (i = .planStart rq rb pb ∨ i = .startPlan e rb pb) →
      let k := (s.plan.plans.row p).first
      let started : Ramp := { s.ramp r with
        state := .running, plan := some p, result := .none, overshoot := 0, travel := .none }
      let u := ((s.take i).setRamp r started).followRamp r
      let x : Ramp := { started with
        stage := some k, phase := .pending, stageTimer := { acc := 0, since := some s.clock },
        callWait := .none }
      let y : Ramp := { x with phase := .entered }
      ∃ t : State, (i = .planStart rq rb pb → s.addressed = true →
          exec i s = .next (t.reply rq 0x01 .done []))
        ∧ (i = .startPlan e rb pb → exec i s = .next t)
        ∧ (t.ramp r).plan = some p
        ∧ (¬ u.enters (s.stage k) → t = u.setRamp r x)
        ∧ (u.enters (s.stage k) → ¬ u.passes (s.stage k) x.lastPos → u.standsAt t r (s.stage k) y)
        ∧ (u.enters (s.stage k) → u.passes (s.stage k) x.lastPos → u.goesOn t r p k
          ∧ (∀ d, (s.stage k).kind = .drive d → (s.plan.plans.row p).count = 1 →
              (t.ramp r).travel = .none ∧ (t.ramp r).overshoot = 0)
          ∧ ∀ role1 level1 role2 level2 next, (s.stage k).kind = .set role1 level1 role2 level2 →
            next.val = k.val + 1 → 1 < (s.plan.plans.row p).count → ¬ u.enters (s.stage next) →
            let named (role : Role) (ch : Fin 16) : Prop := (role = .extend ∧ x.extend = some ch)
              ∨ (role = .retract ∧ x.retract = some ch)
            ∀ ch, (s.chans.row ch).set.owner = .ramp r →
              (t.chans.row ch).set = (s.chans.row ch).set
              ∧ (named role2 ch → (t.chans.row ch).requested = level2)
              ∧ (¬ named role2 ch → named role1 ch → (t.chans.row ch).requested = level1)
              ∧ (¬ named role2 ch → ¬ named role1 ch →
                  (t.chans.row ch).requested = (s.chans.row ch).requested))

/-- SPEED AND RATE LIMITS: the speed lies between the effective Vmin and Vmax and does not fall as the
distance grows; the command follows it by at most ACC up and DEC down, and never exceeds the greater of
the speed and the last command. No step brings a ramp, in a state where every ramp keeps its rules, out of
them: its command stays within the effective Vmax of its DRIVE stage, and is 0 elsewhere (R118, R120, R123,
R131, R134). -/
def Obligations.SpeedFollowsDistanceWithinTheLimits : Prop :=
  (∀ s t : State, s.rampsSafe → step s = .next t → t.rampsSafe)
  ∧ (∀ (s t : State) (r : Fin 4) (d : Drive), s.rampsSafe → step s = .next t → t.driving r = some d →
      (t.ramp r).sPrev ≤ min d.vMax 1000)
  ∧ ∀ (d : Drive) (last near far : Nat), near ≤ far →
    let vMax := min d.vMax 1000
    let vMin := min d.vMin vMax
    let slow := max d.slowdown 1
    d.speed far = vMin + (vMax - vMin) * min far slow / slow
    ∧ vMin ≤ d.speed near ∧ d.speed near ≤ d.speed far ∧ d.speed far ≤ vMax
    ∧ (slow ≤ far → d.speed far = vMax) ∧ d.speed 0 = vMin
    ∧ (last < d.speed far → d.command last far = min (d.speed far) (last + d.rise))
    ∧ (d.speed far < last → d.command last far = max (d.speed far) (last - d.fall))
    ∧ (last = d.speed far → d.command last far = d.speed far)
    ∧ d.command last far ≤ max last (d.speed far) ∧ d.command last far ≤ last + d.rise
    ∧ (last ≤ vMax → d.command last far ≤ vMax)

/-- POSITION SAMPLE: outside an ENTERED DRIVE stage only the last position changes; at one, the approach
law continues with the limited command and its duty, or the sample overruns, or the last stage of the
plan completes (R131, R132, R133, R135). -/
def Obligations.PositionSampleRunsTheApproachLaw : Prop :=
  ∀ (s : State) (r : Fin 4) (p : Nat), s.inReset = false →
    let i := Instr.positionSample r p
    let u := s.take i
    let x := s.ramp r
    (s.driving r = none → exec i s = .next (u.setRamp r { x with lastPos := p }))
    ∧ ∀ d, s.driving r = some d →
      let dist := (d.target - p) + (p - d.target)
      let beyond := (x.travel = .extend ∧ d.target < p) ∨ (x.travel = .retract ∧ p < d.target)
      let told : Ramp := { x with lastPos := p, stale := some (s.clock + x.staleLimit * 1000) }
      ∃ t : State, exec i s = .next t
        ∧ (∀ other, other ≠ r → t.ramp other = s.ramp other)
        ∧ (d.deadBand < dist → ¬ beyond →
            t.ramp r = { told with sPrev := d.command x.sPrev dist }
            ∧ ∀ ch other, ((x.travel = .extend ∧ x.extend = some ch ∧ x.retract = some other)
                ∨ (x.travel = .retract ∧ x.retract = some ch ∧ x.extend = some other)) →
              ch ≠ other → (s.chans.row ch).set.owner = .ramp r →
              (s.chans.row other).set.owner = .ramp r → s.req.mode = .service →
              (t.chans.row ch).set.cmpA =
                d.command x.sPrev dist * (s.chans.row ch).set.period / 1000
              ∧ ((t.chans.row ch).requested = true ↔ 0 < d.command x.sPrev dist)
              ∧ (t.chans.row other).requested = false)
        ∧ (d.deadBand < dist → beyond → d.allow < dist →
            t.ramp r = { told with
              overshoot := dist, state := .faulted, sPrev := 0,
              stageTimer := { acc := x.stageTimer.elapsed s.clock, since := none }, stale := none,
              dwell := .stopped, retry := none, result := .fault .overrun }
            ∧ t.req.marks = s.req.marks ||| 128)
        ∧ ((dist ≤ d.deadBand ∨ (beyond ∧ dist ≤ d.allow)) →
            ∀ k m, x.stage = some k → x.plan = some m →
              (s.plan.plans.row m).first.val + (s.plan.plans.row m).count = k.val + 1 →
              (t.ramp r).state = .idle ∧ (t.ramp r).result = .complete
              ∧ (t.ramp r).stage = none ∧ (t.ramp r).plan = some m ∧ (t.ramp r).sPrev = 0
              ∧ (beyond → (t.ramp r).overshoot = dist) ∧ (¬ beyond → (t.ramp r).overshoot = 0)
              ∧ t.req.marks = s.req.marks ||| 64)

/-- FAULTS: a stage timeout, a stale watch and a CUTOFF event fault the ramp in the states that the table
names, and change nothing in the others; a faulted ramp keeps its plan and stage, its timers stop, and
both its valves are OFF (R118, R130). That its call wait is kept too is the model's reading (log 37). -/
def Obligations.FaultsStopTheRampAndKeepItsPlace : Prop :=
  ∀ (s : State) (r : Fin 4) (ch : Fin 16) (i : Instr) (reason : FaultReason) (acts : Prop),
    s.inReset = false →
    let x := s.ramp r
    let u := s.take i
    ((i = .stageTimeoutExpiry r
        ∧ (acts ↔ x.state = .running ∧ ∃ k, x.stage = some k ∧ (s.stage k).timeout ≠ 0)
        ∧ (reason = .callFull ↔ (∃ k m, x.stage = some k ∧ x.phase = .entered
            ∧ (s.stage k).kind = .call m) ∧ (x.callWait = .asked ∨ x.callWait = .refused))
        ∧ (reason = .callFull ∨ reason = .timeout))
      ∨ (i = .staleWatchExpiry r
        ∧ (acts ↔ x.state = .running ∧ x.phase = .entered ∧ x.stale ≠ none
            ∧ ∃ k d, x.stage = some k ∧ (s.stage k).kind = .drive d)
        ∧ reason = .positionLost)
      ∨ (i = .cutoffEvent (.ramp r) ch
        ∧ (acts ↔ (x.extend = some ch ∨ x.retract = some ch)
            ∧ (x.state = .running ∨ x.state = .paused ∨ x.state = .held))
        ∧ reason = .cutoff)) →
    (¬ acts → exec i s = .next u)
    ∧ (acts → ∃ t : State, exec i s = .next t
      ∧ t.ramp r = { x with
          state := .faulted, sPrev := 0,
          stageTimer := { acc := x.stageTimer.elapsed s.clock, since := none }, stale := none,
          dwell := .stopped, retry := none, result := .fault reason }
      ∧ (∀ other, other ≠ r → t.ramp other = s.ramp other)
      ∧ t.req.marks = s.req.marks ||| 128
      ∧ (∀ valve, (x.extend = some valve ∨ x.retract = some valve) →
          (s.chans.row valve).set.owner = .ramp r →
          (t.chans.row valve).requested = false ∧ (t.chans.row valve).set.cmpA = 0)
      ∧ t.door = s.door ∧ t.call = s.call ∧ t.scan = s.scan)

/-- STAGE COMPLETION: the dwell expiry, a change after which the term of a WAIT stage reads TRUE, and the DONE
of a CALL stage take the ramp to the next stage or complete the plan; FULL and TERM_FALSE start the retry
interval, whose expiry asks again with the next ask number; a result of another ask changes nothing, and
neither does a change after which the wait term reads FALSE (R122, R123, R124, R131). -/
def Obligations.DwellAndCallStagesComplete : Prop :=
  ∀ (s : State) (r : Fin 4) (k : Fin 64) (m : Fin 8) (n : BitVec 16), s.inReset = false →
    let x := s.ramp r
    x.stage = some k → x.phase = .entered → x.plan = some m →
    let last := (s.plan.plans.row m).first.val + (s.plan.plans.row m).count
    (∀ c v w, x.state = .running → (s.stage k).kind = .wait w → s.term w = false →
      exec (.conditionChange c v (.ramp r)) s = .next (s.take (.conditionChange c v (.ramp r))))
    ∧ (∀ i, (i = .dwellTimerExpiry r ∧ x.state = .running ∧ (∃ due, x.dwell = .running due)
        ∨ (∃ c v w, i = .conditionChange c v (.ramp r) ∧ x.state = .running
          ∧ (s.stage k).kind = .wait w ∧ s.names w c ∧ s.term w = true)
        ∨ i = .callStageResult r n .done ∧ x.state = .running ∧ x.callWait = .asked ∧ x.ask = n
          ∧ ∃ c, (s.stage k).kind = .call c) →
      (last = k.val + 1 → ∃ t : State, exec i s = .next t
        ∧ (t.ramp r).state = .idle ∧ (t.ramp r).result = .complete ∧ (t.ramp r).stage = none
        ∧ (t.ramp r).plan = some m ∧ (t.ramp r).dwell = .stopped
        ∧ t.req.marks = s.req.marks ||| 64)
      ∧ (∀ next : Fin 64, next.val = k.val + 1 → next.val < last →
          ¬ s.enters (s.stage next) →
          exec i s = .next ((s.take i).setRamp r { x with
            dwell := .stopped, retry := none, stale := none, stage := some next,
            phase := .pending, stageTimer := { acc := 0, since := some s.clock },
            callWait := .none })))
    ∧ ∀ c, (s.stage k).kind = .call c →
      (∀ code, x.callWait ≠ .asked ∨ x.ask ≠ n →
        exec (.callStageResult r n code) s = .next (s.take (.callStageResult r n code)))
      ∧ (∀ code, (code = .full ∨ code = .termFalse) → x.callWait = .asked → x.ask = n →
        (x.state = .running → exec (.callStageResult r n code) s =
          .next ((s.take (.callStageResult r n code)).setRamp r
            { x with callWait := .refused, retry := some (s.clock + 100000) }))
        ∧ (x.state = .held → exec (.callStageResult r n code) s =
          .next ((s.take (.callStageResult r n code)).setRamp r
            { x with callWait := .refused, retry := none })))
      ∧ (x.callWait = .asked → x.ask = n → x.state = .held →
        exec (.callStageResult r n .done) s =
          .next ((s.take (.callStageResult r n .done)).setRamp r { x with callWait := .none }))
      ∧ (∀ due, x.state = .running → x.retry = some due →
        exec (.retryIntervalExpiry r) s =
          .next (((s.take (.retryIntervalExpiry r)).setRamp r
            { x with callWait := .asked, ask := x.ask + 1, retry := none }).hand
              (.callQueue (.stage r (x.ask + 1)) (BitVec.ofNat 8 c.val) none)))

/-- PLAN_ABORT and PLAN_RESUME by the ramp's state, and a resume by the stage and phase at which the ramp was
HELD (R120, R122, R123, R124, R126, R128, R129). That REFUSED_MODE comes before BAD_VALUE, and that an abort
keeps the call wait, are the model's readings (log 45, log 37); that the PLAN_COMPLETE notice of a plan complete
at the resume is offered before the REPLY is its choice (log 44). -/
def Obligations.AbortAndResumeActByTheRampState : Prop :=
  ∀ (s : State) (rq : Requester) (b : Byte), s.takesRequests →
    let a := Instr.planAbort rq b
    let c := Instr.planResume rq b
    (s.req.mode = .setup →
      exec a s = .next ((s.take a).reply rq 0x02 .refusedMode [])
      ∧ exec c s = .next ((s.take c).reply rq 0x03 .refusedMode []))
    ∧ (s.req.mode = .service → 4 ≤ b.toNat →
      exec a s = .next ((s.take a).reply rq 0x02 .badValue [])
      ∧ exec c s = .next ((s.take c).reply rq 0x03 .badValue []))
    ∧ ∀ r : Fin 4, b.toNat = r.val → s.req.mode = .service →
      let x := s.ramp r
      let cause := (∃ ch, (x.extend = some ch ∨ x.retract = some ch)
            ∧ (s.chans.row ch).state = .forced)
          ∨ ∃ k d, x.stage = some k ∧ x.phase = .entered ∧ (s.stage k).kind = .drive d
            ∧ (s.stage k).needsBridge = true ∧ s.cond 0 = false
      let clock : Stopwatch := { acc := x.stageTimer.elapsed s.clock, since := some s.clock }
      (x.state = .idle → exec a s = .next ((s.take a).reply rq 0x02 .done [])
        ∧ exec c s = .next ((s.take c).reply rq 0x03 .busy []))
      ∧ (x.state ≠ .idle → ∃ t : State, exec a s = .next (t.reply rq 0x02 .done [])
        ∧ t.ramp r = { x with
            state := .idle, stage := none, phase := .pending,
            stageTimer := { acc := 0, since := none }, stale := none, dwell := .stopped,
            retry := none, sPrev := 0,
            result := .aborted (match x.state, x.result with
              | .faulted, .fault reason => some reason
              | _, _ => none) }
        ∧ t.req = s.req
        ∧ ∀ valve, (x.extend = some valve ∨ x.retract = some valve) →
            (s.chans.row valve).set.owner = .ramp r →
            (t.chans.row valve).requested = false ∧ (t.chans.row valve).set.cmpA = 0)
      ∧ (x.state = .faulted → exec c s = .next ((s.take c).reply rq 0x03 .busy []))
      ∧ (x.state = .running ∨ x.state = .paused →
          exec c s = .next ((s.take c).reply rq 0x03 .done []))
      ∧ (x.state = .held → cause → exec c s = .next ((s.take c).reply rq 0x03 .termFalse []))
      ∧ (x.state = .held → ¬ cause → ∀ k, x.stage = some k → x.phase = .entered →
          (∀ d, (s.stage k).kind = .drive d → s.mayRun (s.stage k) →
            exec c s = .next ((((s.take c).setRamp r { x with
              state := .running, stageTimer := clock, dwell := x.dwell.resume s.clock,
              stale := some (s.clock + x.staleLimit * 1000) }).followRamp r).reply rq 0x03 .done []))
          ∧ (∀ d, (s.stage k).kind = .drive d → ¬ s.mayRun (s.stage k) →
            ∃ t : State, exec c s = .next (t.reply rq 0x03 .done [])
              ∧ (t.ramp r).state = .paused ∧ (t.ramp r).stage = some k)
          ∧ (∀ n left, (s.stage k).kind = .dwell n → x.dwell = .held left →
            exec c s = .next ((((s.take c).setRamp r { x with
              state := .running, stageTimer := clock, stale := none,
              dwell := .running (s.clock + left) }).followRamp r).reply rq 0x03 .done [])))
      ∧ (x.state = .held → ¬ cause → ∀ k m, x.stage = some k → x.plan = some m →
          let st := s.stage k
          let y : Ramp := { x with
            state := .running, stageTimer := clock, stale := none, dwell := x.dwell.resume s.clock }
          let u := ((s.take c).setRamp r y).followRamp r
          let done (t : State) : Prop := exec c s = .next (t.reply rq 0x03 .done [])
          (x.phase = .pending →
            (¬ u.enters st → done u)
            ∧ (u.enters st → ∃ t, done t
              ∧ (¬ u.passes st x.lastPos → u.standsAt t r st { y with phase := .entered })
              ∧ (u.passes st x.lastPos → u.goesOn t r m k)))
          ∧ (x.phase = .entered → ∀ w, st.kind = .wait w →
            (u.term w = false → done u) ∧ (u.term w = true → ∃ t, done t ∧ u.goesOn t r m k))
          ∧ (x.phase = .entered → ∀ tpl, st.kind = .call tpl →
            (x.callWait = .none → ∃ t, done t ∧ u.goesOn t r m k)
            ∧ (x.callWait = .asked → done u)
            ∧ (x.callWait = .refused →
              done ((u.setRamp r { y with callWait := .asked, ask := y.ask + 1, retry := none }).hand
                (.callQueue (.stage r (y.ask + 1)) (BitVec.ofNat 8 tpl.val) none)))))

/-- PAUSED and HELD: what a CONDITION CHANGE does to a ramp at an ENTERED DRIVE stage and at a PENDING stage, and
what a FORCED event does to a ramp (R118, R120, R126, R127). That a change which the ramp's stage does not name
does nothing is the model's reading (log 27). -/
def Obligations.DriveStagePausesHoldsAndResumes : Prop :=
  ∀ (s : State) (r : Fin 4), s.inReset = false →
    let x := s.ramp r
    let off (t : State) : Prop := ∀ valve, (x.extend = some valve ∨ x.retract = some valve) →
      (s.chans.row valve).set.owner = .ramp r →
      (t.chans.row valve).requested = false ∧ (t.chans.row valve).set.cmpA = 0
    let stopped : Stopwatch := { acc := x.stageTimer.elapsed s.clock, since := none }
    let heldRamp : Ramp := { x with
      state := .held, sPrev := 0, stageTimer := stopped, stale := none,
      dwell := x.dwell.hold s.clock, retry := none }
    (∀ c v i, i = Instr.conditionChange c v (.ramp r) → ¬ s.waitsOn r c →
      exec i s = .next (s.take i))
    ∧ (∀ c v k m i, i = Instr.conditionChange c v (.ramp r) → s.waitsOn r c → x.stage = some k →
      x.plan = some m → x.state = .running → x.phase = .pending →
      (¬ s.enters (s.stage k) → exec i s = .next (s.take i))
      ∧ (s.enters (s.stage k) → ∃ t : State, exec i s = .next t
        ∧ (¬ s.passes (s.stage k) x.lastPos →
            (s.take i).standsAt t r (s.stage k) { x with phase := .entered })
        ∧ (s.passes (s.stage k) x.lastPos → (s.take i).goesOn t r m k)))
    ∧ (∀ c v k d i, i = Instr.conditionChange c v (.ramp r) → s.waitsOn r c →
      x.stage = some k → x.phase = .entered → (s.stage k).kind = .drive d →
      (x.state = .running ∨ x.state = .paused) →
      let fell := c = 0 ∧ v = false ∧ (s.stage k).needsBridge = true
      (fell → ∃ t : State, exec i s = .next t ∧ t.ramp r = heldRamp ∧ off t)
      ∧ (¬ fell → x.state = .running → s.mayRun (s.stage k) → exec i s = .next (s.take i))
      ∧ (¬ fell → x.state = .running → ¬ s.mayRun (s.stage k) →
          ∃ t : State, exec i s = .next t ∧ off t
            ∧ t.ramp r = { x with
                state := .paused, sPrev := 0, stageTimer := stopped, stale := none })
      ∧ (¬ fell → x.state = .paused → ¬ s.mayRun (s.stage k) →
          exec i s = .next (s.take i))
      ∧ (¬ fell → x.state = .paused → s.mayRun (s.stage k) →
          exec i s = .next (((s.take i).setRamp r { x with
            state := .running, dwell := x.dwell.resume s.clock,
            stageTimer := { acc := x.stageTimer.elapsed s.clock, since := some s.clock },
            stale := some (s.clock + x.staleLimit * 1000) }).followRamp r)))
    ∧ (∀ ch i, i = Instr.forcedEvent (.ramp r) ch →
      let acts := (x.extend = some ch ∨ x.retract = some ch)
        ∧ (x.state = .running ∨ x.state = .paused)
      (¬ acts → exec i s = .next (s.take i))
      ∧ (acts → ∃ t : State, exec i s = .next t ∧ t.ramp r = heldRamp ∧ off t
          ∧ ∀ other, other ≠ r → t.ramp other = s.ramp other))
    ∧ ∀ o ch i, i = Instr.forcedEvent o ch → (∀ r', o ≠ .ramp r') → exec i s = .next (s.take i)

/-! ## DOOR -/

/-- The state timer of a door expires, or its close or open channel is cut off: the CLOSE SEQUENCE and
the BACK-OFF CYCLE go on, or the door is JAMMED; a back-off time of 0 expires at the obstruction, and a
re-warning time of 0 sends the door on to CLOSING; its levels are those of the state it is left in (R142, R149, R150, R151, R152, R154). -/
def Obligations.DoorTimersAndCutOffsMoveTheDoor : Prop :=
  ∀ (s : State) (d : Fin 24) (ch : Fin 16) (i : Instr), s.inReset = false →
    let x := s.door.doors.row d
    let expires := i = .doorStateTimerExpiry d ∧ x.due ≠ none
    let cut := i = .cutoffEvent (.door d) ch
      ∧ (x.state = .closing ∧ x.set.closeCh = some ch
        ∨ (x.state = .backoff ∨ x.state = .opening) ∧ x.set.openCh = some ch)
    (i = .doorStateTimerExpiry d → ¬ expires → exec i s = .next (s.take i))
    ∧ (i = .cutoffEvent (.door d) ch → ¬ cut → exec i s = .next (s.take i))
    ∧ (expires ∨ cut → ∃ t : State, exec i s = .next t ∧
      let y := t.door.doors.row d
      y.set = x.set
      ∧ (∀ other, other ≠ d → t.door.doors.row other = s.door.doors.row other)
      ∧ (∀ c, x.state = .warning → x.set.closedCond = some c →
          (s.cond c = true → y.state = .closed ∧ y.due = none)
          ∧ (s.cond c = false → y.state = .closing
              ∧ y.due = if x.set.closeTimeout = 0 then none
                else some (s.clock + x.set.closeTimeout * 100000)))
      ∧ (x.state = .closing → x.set.backoff ≠ 0 → y.state = .backoff
          ∧ y.due = some (s.clock + x.set.backoff * 100000) ∧ y.attempts = x.attempts)
      ∧ (expires → x.state = .backoff → x.attempts < x.set.retryLimit + 1 →
          x.set.rewarning ≠ 0 → y.state = .warning ∧ y.attempts = x.attempts + 1
          ∧ y.due = some (s.clock + x.set.rewarning * 100000))
      ∧ (x.state = .closing ∧ x.set.backoff = 0 ∨ expires ∧ x.state = .backoff →
          (x.set.retryLimit + 1 ≤ x.attempts → y.state = .jammed ∧ y.attempts = x.attempts)
          ∧ (x.attempts < x.set.retryLimit + 1 → y.attempts = x.attempts + 1
            ∧ (x.set.rewarning ≠ 0 → y.state = .warning
              ∧ y.due = some (s.clock + x.set.rewarning * 100000))
            ∧ ∀ c k, x.set.rewarning = 0 → x.set.closedCond = some c → 16 ≤ c.val →
                (s.board.conds.row c).source = .threshold k →
                (s.cond c = true → y.state = .closed ∧ y.due = none)
                ∧ (s.cond c = false → y.state = .closing
                  ∧ y.due = if x.set.closeTimeout = 0 then none
                    else some (s.clock + x.set.closeTimeout * 100000))))
      ∧ (expires → x.state = .backoff → x.set.retryLimit + 1 ≤ x.attempts → y.state = .jammed)
      ∧ (x.state = .opening → y.state = .jammed)
      ∧ (cut → x.state = .backoff → y.state = .jammed)
      ∧ (y.state = .jammed → x.state ≠ .jammed → y.due = none ∧ t.req.marks.getLsbD 9 = true)
      ∧ (∀ a b, x.set.closeCh = some a → x.set.openCh = some b → a ≠ b →
          (s.chans.row a).set.owner = .door d → (s.chans.row b).set.owner = .door d →
          s.req.mode = .service → y.state ≠ x.state →
          ((t.chans.row a).requested = true ↔ y.state = .closing)
          ∧ ((t.chans.row b).requested = true ↔ y.state = .backoff ∨ y.state = .opening)))

/-- GROUP_CLOSE and the match action CLOSE_GROUP: the refusals, each group on its own, what a close request does
to a door by its state, and the warning calls that are handed, in ascending door order; an UNADDRESSED part
takes the action too (R17, R28, R31, R36, R142, R145, R146, R148, R149). The refusal of an immediate flag other
than 0 and 1, BAD_VALUE before REFUSED_MODE, and that a refused action counts only while the count is below the
entry's hits, are the model's readings (log 32, log 45, log 16); that a GROUP_CLOSED notice of the event is
offered before the REPLY is its choice (log 44). -/
def Obligations.GroupCloseMovesTheDoorsOfEachGroup : Prop :=
  ∀ (s : State) (rq : Requester) (e : Fin 64) (groups imm : Byte) (i : Instr), s.inReset = false →
    (i = .groupClose rq groups imm ∨ i = .closeGroup e groups imm) →
    let answers (code : Code) (t : State) : Prop :=
      (i = .groupClose rq groups imm → s.addressed = true →
        exec i s = .next (t.reply rq 0x04 code []))
      ∧ (i = .closeGroup e groups imm →
          exec i s = .next (if code = .done then t else t.refuse e))
    let unset (g : Fin 8) : Prop := ∃ d, (s.door.doors.row d).set.group = some g
      ∧ (s.door.doors.row d).state = .unset
    let named (g : Fin 8) : Prop := groups.getLsbD g.val = true
    ((groups = 0 ∨ (imm ≠ 0 ∧ imm ≠ 1)) → answers .badValue (s.take i))
    ∧ (groups ≠ 0 → (imm = 0 ∨ imm = 1) → s.req.mode = .setup → answers .refusedMode (s.take i))
    ∧ (groups ≠ 0 → (imm = 0 ∨ imm = 1) → s.req.mode = .service →
      ∃ t : State, ((∃ g, named g ∧ unset g) → answers .busy t)
        ∧ ((∀ g, named g → ¬ unset g) → answers .done t)
        ∧ (∃ ds : List (Fin 24), t.queuedSince (s.take i) = ds.filterMap s.callOf
            ∧ ds.Pairwise (fun a b => a < b)
            ∧ ∀ d, d ∈ ds ↔ ∃ g, (s.door.doors.row d).set.group = some g ∧ named g ∧ ¬ unset g
                ∧ ((s.door.doors.row d).state = .opened ∨ (s.door.doors.row d).state = .opening
                  ∨ (s.door.doors.row d).state = .jammed))
        ∧ ∀ d, let x := s.door.doors.row d
            let y := t.door.doors.row d
            (x.set.group = none → y = x)
            ∧ ∀ g, x.set.group = some g →
              ((¬ named g ∨ unset g) → y = x)
              ∧ (named g → ¬ unset g →
                (x.state = .closing ∨ x.state = .closed ∨ x.state = .backoff → y = x)
                ∧ (imm = 0 → x.state = .warning → y = x)
                ∧ (imm = 0 → (x.state = .opened ∨ x.state = .opening ∨ x.state = .jammed) →
                    x.set.warning ≠ 0 →
                    y = { x with
                      state := .warning, attempts := 1,
                      timer := { acc := 0, since := some s.clock },
                      due := some (s.clock + x.set.warning * 100000) })
                ∧ (∀ c k, x.set.closedCond = some c → 16 ≤ c.val →
                    (s.board.conds.row c).source = .threshold k →
                    ((x.state = .opened ∨ x.state = .opening ∨ x.state = .jammed)
                        ∧ (imm = 1 ∨ x.set.warning = 0)
                      ∨ x.state = .warning ∧ imm = 1) →
                    y.set = x.set
                    ∧ y.attempts = (if x.state = .warning then x.attempts else 1)
                    ∧ (s.cond c = true → y.state = .closed ∧ y.due = none)
                    ∧ (s.cond c = false → y.state = .closing
                        ∧ y.due = if x.set.closeTimeout = 0 then none
                          else some (s.clock + x.set.closeTimeout * 100000)))))

/-- GROUP_RELEASE and the match action RELEASE_GROUP: the refusals, and what a release does to a door by its
state: of one group without a trigger term, and of a set of groups, with or without trigger terms, whose
terms no event of DOOR moves; a group's warning calls are cancelled by template; an UNADDRESSED part takes the
action too (R17, R28, R32, R36, R147, R153, R154). That BAD_VALUE comes before REFUSED_MODE, that a refused
action counts only while the count is below the entry's hits, and that the cancel is the last event handed, are
the model's readings (log 45, log 16, log 38). -/
def Obligations.GroupReleaseReopensTheDoors : Prop :=
  ∀ (s : State) (rq : Requester) (e : Fin 64) (groups : Byte) (i : Instr), s.inReset = false →
    (i = .groupRelease rq groups ∨ i = .releaseGroup e groups) →
    let answers (code : Code) (t : State) : Prop :=
      (i = .groupRelease rq groups → s.addressed = true →
        exec i s = .next (t.reply rq 0x05 code []))
      ∧ (i = .releaseGroup e groups → exec i s = .next (if code = .done then t else t.refuse e))
    let unset (g : Fin 8) : Prop := ∃ d, (s.door.doors.row d).set.group = some g
      ∧ (s.door.doors.row d).state = .unset
    let warned (g : Fin 8) : Prop := ∃ d, (s.door.doors.row d).set.group = some g
      ∧ (s.door.doors.row d).state = .warning
    let kept (g : Fin 8) : Prop :=
      (∃ tm, (s.door.groups.row g).release = some tm ∧ s.term tm = false)
      ∨ ∃ tm, (s.door.groups.row g).trigger = some tm ∧ s.term tm = true
    let released (x y : Door) : Prop :=
      (x.state = .opened ∨ x.state = .opening → y = x)
      ∧ (x.state = .warning → y.state = .opened ∧ y.attempts = 0 ∧ y.due = none)
      ∧ ∀ c k, x.set.openCond = some c → 16 ≤ c.val →
          (s.board.conds.row c).source = .threshold k →
          (x.state = .closing ∨ x.state = .backoff ∨ x.state = .closed ∨ x.state = .jammed) →
          y.attempts = 0
          ∧ (s.cond c = true → y.state = .opened ∧ y.due = none)
          ∧ (s.cond c = false → y.state = .opening
              ∧ y.due = if x.set.openTimeout = 0 then none
                else some (s.clock + x.set.openTimeout * 100000))
    (groups = 0 → answers .badValue (s.take i))
    ∧ (groups ≠ 0 → s.req.mode = .setup → answers .refusedMode (s.take i))
    ∧ (∀ g : Fin 8, groups.toNat = 2 ^ g.val → s.req.mode = .service →
      (unset g → answers .busy (s.take i))
      ∧ (¬ unset g → kept g → answers .termFalse (s.take i))
      ∧ (¬ unset g → ¬ kept g → (s.door.groups.row g).trigger = none → ∃ t : State, answers .done t
        ∧ (∀ tpl, (s.door.groups.row g).template = some tpl → warned g →
            t.handed.getLast? = some (.callCancel .release 1 (BitVec.ofNat 8 tpl.val)))
        ∧ ∀ d, let x := s.door.doors.row d
            let y := t.door.doors.row d
            (x.set.group ≠ some g → y = x) ∧ (x.set.group = some g → released x y)))
    ∧ (groups ≠ 0 → s.req.mode = .service → s.sourcesSafe →
      let named (g : Fin 8) : Prop := groups.getLsbD g.val = true
      (∀ g tm, named g → ((s.door.groups.row g).release = some tm
          ∨ (s.door.groups.row g).trigger = some tm) → s.steady tm) →
      ∃ t : State, ((∀ g, named g → ¬ unset g ∧ ¬ kept g) → answers .done t)
        ∧ (∀ g, named g → (∀ g', g' < g → named g' → ¬ unset g' ∧ ¬ kept g') →
          (unset g → answers .busy t) ∧ (¬ unset g → kept g → answers .termFalse t))
        ∧ (∀ b : Byte, (.callCancel .release 1 b) ∈ t.handed.drop (s.take i).handed.length ↔
          ∃ g tpl, named g ∧ ¬ unset g ∧ ¬ kept g ∧ warned g
            ∧ (s.door.groups.row g).template = some tpl ∧ b = BitVec.ofNat 8 tpl.val)
        ∧ t.queuedSince (s.take i) = []
        ∧ ∀ d, let x := s.door.doors.row d
            let y := t.door.doors.row d
            (x.set.group = none → y = x)
            ∧ ∀ g, x.set.group = some g →
              (¬ (named g ∧ ¬ unset g ∧ ¬ kept g) → y = x)
              ∧ (named g → ¬ unset g → ¬ kept g → released x y))

/-- What the table writes of DOOR do: a taken door write keeps state and timer, lowers the attempt count, leaves a
door taken out of its group UNSET with both levels OFF, recomputes the lane and group conditions it moves, raises
no notice event where no door is close-requested, and reads the trigger term of the group a door is put into; a
group write that changes the trigger term, and a term write, read it too (R50, R140, R141, R142, R143, R147).
DOOR DERIVATION sets every fitted UNSET door by its closed condition, and a door so derived OPEN reads its
group's trigger term; a limit switch ends CLOSING, BACKOFF and OPENING, and in SETUP a door at rest follows its
closed condition both ways; a change that a trigger term names is a reading of it. In SERVICE a reading of TRUE
close-requests the group's OPEN and OPENING doors, and hands their warning calls in ascending door order; any
result of a warning call but DONE is counted (R144, R146, R147, R148, R149, R155, R156). That an OPEN door does not
change state when its closed condition becomes FALSE in SETUP, nor a CLOSED one when it becomes TRUE, is the
model's choice (log 59); that a door taken out of its group keeps its attempt count, and that its state timer
restarts, are its readings (log 36, log 35). -/
def Obligations.DoorsFollowTheirLimitSwitches : Prop :=
  let closes (s : State) (x y : Door) : Prop :=
    (x.set.warning ≠ 0 → y = { x with
      state := .warning, attempts := 1, timer := { acc := 0, since := some s.clock },
      due := some (s.clock + x.set.warning * 100000) })
    ∧ ∀ c k, x.set.warning = 0 → x.set.closedCond = some c →
        (s.board.conds.row c).source = .threshold k → y.attempts = 1
        ∧ y.state = (if s.cond c = true then .closed else .closing)
  let calls (s t : State) (i : Instr) (called : Fin 24 → Prop) : Prop :=
    ∃ ds : List (Fin 24), t.queuedSince (s.take i) = ds.filterMap s.callOf
      ∧ ds.Pairwise (fun a b => a < b) ∧ ∀ d, d ∈ ds ↔ called d
  (∀ (s : State) (c : Fin 64) (v : Bool), s.inReset = false → s.sourcesSafe →
    (∀ d g, (s.door.doors.row d).set.group = some g →
      (s.door.doors.row d).set.closedCond ≠ some c ∧ (s.door.doors.row d).set.openCond ≠ some c) →
    (∀ g tm, (s.door.groups.row g).trigger = some tm → s.steady tm) →
    let i := Instr.conditionChange c v .doors
    let read (g : Fin 8) : Prop := ∃ tm, (s.door.groups.row g).trigger = some tm ∧ s.names tm c
      ∧ s.term tm = true ∧ s.req.mode = .service
    let called (d : Fin 24) : Prop := (∃ g, (s.door.doors.row d).set.group = some g ∧ read g)
      ∧ ((s.door.doors.row d).state = .opened ∨ (s.door.doors.row d).state = .opening)
    ∃ t : State, exec i s = .next t ∧ calls s t i called
      ∧ ∀ d, (¬ called d → t.door.doors.row d = s.door.doors.row d)
        ∧ (called d → closes s (s.door.doors.row d) (t.door.doors.row d)))
  ∧ (∀ s : State, s.inReset = false → s.sourcesSafe →
    (∀ g tm, (s.door.groups.row g).trigger = some tm → s.steady tm) →
    (∀ d, (s.door.doors.row d).set.group ≠ none → (s.door.doors.row d).state = .unset →
      ∃ c k, (s.door.doors.row d).set.closedCond = some c
        ∧ (s.board.conds.row c).source = .threshold k) →
    let i := Instr.doorDerivation
    let reads (g : Fin 8) : Prop := ∃ tm, (s.door.groups.row g).trigger = some tm
      ∧ s.term tm = true ∧ s.req.mode = .service
    let opens (d : Fin 24) (g : Fin 8) : Prop := (s.door.doors.row d).set.group = some g
      ∧ (s.door.doors.row d).state = .unset
      ∧ ∃ c, (s.door.doors.row d).set.closedCond = some c ∧ s.cond c = false
    let called (d : Fin 24) : Prop := ∃ g, (s.door.doors.row d).set.group = some g ∧ reads g
      ∧ (opens d g ∨ (((s.door.doors.row d).state = .opened ∨ (s.door.doors.row d).state = .opening)
          ∧ ∃ d', opens d' g))
    ∃ t : State, exec i s = .next t ∧ calls s t i called
      ∧ ∀ d, let x := s.door.doors.row d
          let y := t.door.doors.row d
          (x.set.group = none → y = x)
          ∧ (called d → closes s x y)
          ∧ (¬ called d → x.state ≠ .unset → y = x)
          ∧ (¬ called d → x.set.group ≠ none → x.state = .unset → ∀ c, x.set.closedCond = some c →
              y.set = x.set ∧ y.attempts = x.attempts
              ∧ y.state = (if s.cond c = true then .closed else .opened)))
  ∧ (∀ (s : State) (d : Fin 24) (w : Written), w.index = d.val →
    ¬ TableId.doors.badCodes d.val w.image → s.sourcesSafe →
    (∀ g tm, (s.door.groups.row g).trigger = some tm → s.steady tm) →
    let u := s.takeWrite .doors [w]
    let x := s.door.doors.row d
    let n := (u.door.doors.row d).set
    let left := x.set.group ≠ none ∧ n.group = none ∧ x.state ≠ .unset
    let kept : Door := { x with set := n, attempts := min x.attempts (n.retryLimit + 1) }
    let v := s.setDoor d (if left then { kept with
      state := .unset, timer := { acc := 0, since := some s.clock }, due := none } else kept)
    let read (g : Fin 8) : Prop := n.group = some g ∧ x.set.group ≠ some g ∧ s.req.mode = .service
      ∧ ∃ tm, (s.door.groups.row g).trigger = some tm ∧ s.term tm = true
    let called (e : Fin 24) : Prop := (∃ g, (v.door.doors.row e).set.group = some g ∧ read g)
      ∧ ((v.door.doors.row e).state = .opened ∨ (v.door.doors.row e).state = .opening)
    (∃ ds : List (Fin 24), u.queuedSince s = ds.filterMap v.callOf
      ∧ ds.Pairwise (fun a b => a < b) ∧ ∀ e, e ∈ ds ↔ called e)
    ∧ (∀ e, (¬ called e → u.door.doors.row e = v.door.doors.row e)
      ∧ (called e → closes v (v.door.doors.row e) (u.door.doors.row e)))
    ∧ (left → ∀ ch, (n.closeCh = some ch ∨ n.openCh = some ch) →
        (s.chans.row ch).set.owner = .door d → (u.chans.row ch).requested = false)
    ∧ (∀ lane : Fin 8, (n.lane = some lane ∨ x.set.lane = some lane) →
        (u.cond ⟨8 + lane.val, by omega⟩ = true ↔ ∀ e, (u.door.doors.row e).set.lane = some lane →
          (u.door.doors.row e).state = .opened))
    ∧ (n.group ≠ x.set.group → ∀ g c, (n.group = some g ∨ x.set.group = some g) →
        ((s.board.conds.row c).source = .groupClosed g → (u.cond c = true ↔
          (∃ e, (u.door.doors.row e).set.group = some g)
          ∧ ∀ e, (u.door.doors.row e).set.group = some g → (u.door.doors.row e).state = .closed))
        ∧ ((s.board.conds.row c).source = .groupOpen g → (u.cond c = true ↔
          (∃ e, (u.door.doors.row e).set.group = some g)
          ∧ ∀ e, (u.door.doors.row e).set.group = some g → (u.door.doors.row e).state = .opened)))
    ∧ ((∀ e, ¬ called e) → u.req = s.req ∧ u.line = s.line))
  ∧ (∀ (s : State) (t : TableId) (w : Written), s.sourcesSafe →
    t.inRange w.index = true → ¬ t.badCodes w.index w.image → (t = .groups ∨ t = .terms) →
    (∀ r k tm, (s.ramp r).stage = some k → tm.val = w.index →
      t = .terms → (s.stage k).permit ≠ tm ∧ (s.stage k).kind ≠ .wait tm) →
    let u := s.takeWrite t [w]
    let v : State := { s with
      door := { s.door with groups := u.door.groups }, board := { s.board with terms := u.board.terms } }
    (∀ g tm, (v.door.groups.row g).trigger = some tm → v.steady tm) →
    let read (g : Fin 8) : Prop := s.req.mode = .service
      ∧ ∃ tm, (v.door.groups.row g).trigger = some tm ∧ v.term tm = true
        ∧ (t = .terms → tm.val = w.index)
        ∧ (t = .groups → g.val = w.index ∧ (s.door.groups.row g).trigger ≠ some tm)
    let called (e : Fin 24) : Prop := (∃ g, (v.door.doors.row e).set.group = some g ∧ read g)
      ∧ ((v.door.doors.row e).state = .opened ∨ (v.door.doors.row e).state = .opening)
    (∃ ds : List (Fin 24), u.queuedSince s = ds.filterMap v.callOf
      ∧ ds.Pairwise (fun a b => a < b) ∧ ∀ e, e ∈ ds ↔ called e)
    ∧ (∀ e, (¬ called e → u.door.doors.row e = v.door.doors.row e)
      ∧ (called e → closes v (v.door.doors.row e) (u.door.doors.row e)))
    ∧ (t = .groups → (∀ e, ¬ called e) → u = v))
  ∧ (∀ (s : State) (d : Fin 24) (code : Code), s.inReset = false →
    exec (.warningCallResult d code) s = .next (
      let u := s.take (.warningCallResult d code)
      if code = .done then u
      else { u with door := { s.door with warnCallLost := min (s.door.warnCallLost + 1) 65535 } }))
  ∧ ∀ s : State, s.inReset = false →
    (s.req.mode = .setup ∨ ∀ g, (s.door.groups.row g).trigger = none) →
    (∃ t : State, exec .doorDerivation s = .next t
      ∧ ∀ d, let x := s.door.doors.row d
          let y := t.door.doors.row d
          (x.set.group = none ∨ x.state ≠ .unset → y = x)
          ∧ ∀ g c k, x.set.group = some g → x.state = .unset → x.set.closedCond = some c →
            16 ≤ c.val → (s.board.conds.row c).source = .threshold k →
            y.set = x.set ∧ y.attempts = x.attempts
            ∧ y.state = (if s.cond c = true then .closed else .opened))
    ∧ (∀ c v, ∃ t : State, exec (.conditionChange c v .doors) s = .next t
      ∧ ∀ d, let x := s.door.doors.row d
          let y := t.door.doors.row d
          (x.set.group = none → y = x)
          ∧ (x.set.closedCond ≠ some c → x.set.openCond ≠ some c → y = x)
          ∧ (v = true → x.set.group ≠ none → x.set.closedCond = some c →
              x.set.openCond ≠ some c →
              (x.state = .closing ∨ x.state = .backoff ∨ x.state = .opened ∨ x.state = .jammed →
                y.state = .closed ∧ y.attempts = x.attempts ∧ y.due = none)
              ∧ (x.state = .unset ∨ x.state = .warning ∨ x.state = .opening ∨ x.state = .closed →
                y = x))
          ∧ (v = true → x.set.group ≠ none → x.set.openCond = some c →
              x.set.closedCond ≠ some c →
              (x.state = .opening → y.state = .opened ∧ y.due = none)
              ∧ (x.state ≠ .opening → y = x))
          ∧ (v = false → s.req.mode = .service → y = x)
          ∧ (v = false → s.req.mode = .setup → x.set.group ≠ none → x.set.closedCond = some c →
              (x.state = .closed ∨ x.state = .jammed →
                y.state = .opened ∧ y.set = x.set ∧ y.attempts = x.attempts ∧ y.due = none)
              ∧ (x.state ≠ .closed → x.state ≠ .jammed → y = x))
          ∧ (v = false → x.set.closedCond ≠ some c → y = x))

/-! ## CALL -/

/-- CALL_QUEUE from each block that sends it, and the match action QUEUE_CALL: the order of judging, MERGE,
ACCEPTANCE into the lowest free slot, the renumbering of the arrival numbers, and the arbiter's run where
every other waiting call stays barred: the call waits behind a holder of equal or higher priority, and
otherwise takes its zones and displaces their holders; an UNADDRESSED part takes all but the request (R17, R33,
R28, R36, R164, R165, R166, R167, R173). That the frames of the event are offered before the REPLY is the
model's choice (log 44), and that a refused action counts only while the count is below the entry's hits is its
reading (log 16). -/
def Obligations.QueueRequestsAreRefusedMergedOrAccepted : Prop :=
  ∀ (s : State) (o : CallOrigin) (e : Fin 64) (b : Byte) (z : Option (BitVec 16)) (i : Instr),
    s.inReset = false → (i = .callQueue o b z ∨ i = .queueCall e b z) →
    let answers (code : Code) (t : State) : Prop :=
      (i = .callQueue o b z →
        (∀ rq, o = .request rq → s.addressed = true → exec i s = .next (t.reply rq 0x06 code []))
        ∧ (∀ d, o = .warning d → exec i s = .next (t.hand (.warningCallResult d code)))
        ∧ (∀ r n, o = .stage r n → exec i s = .next (t.hand (.callStageResult r n code))))
      ∧ (i = .queueCall e b z → exec i s = .next (if code = .done then t else t.refuse e))
    (32 ≤ b.toNat ∨ z = some 0 → answers .badValue (s.take i))
    ∧ (b.toNat < 32 → z ≠ some 0 → s.req.mode = .setup → answers .refusedMode (s.take i))
    ∧ ∀ tpl : Fin 32, b.toNat = tpl.val → z ≠ some 0 → s.req.mode = .service →
      let m := s.call.templates.row tpl
      let zones := z.getD m.zones
      let allowed := ∃ a, m.allow = some a ∧ s.term a = true
      let same (k : Fin 16) (x : Slot) : Prop :=
        s.call.slots.row k = some x ∧ x.template = tpl ∧ x.zones = zones
      (¬ allowed → answers .termFalse (s.take i))
      ∧ (allowed → (∀ k x, same k x → (∀ j y, j < k → ¬ same j y) →
          answers .done ((s.take i).setSlot k (some { x with left := m.repeats }))))
      ∧ (allowed → (∀ k x, ¬ same k x) → (∀ k, s.call.slots.row k ≠ none) →
          answers .full (s.take i))
      ∧ (allowed → (∀ k x, ¬ same k x) → ∀ k, s.call.slots.row k = none →
          (∀ j, j < k → s.call.slots.row j ≠ none) → s.call.arrival < 65535 →
          let alone := ∀ j y, s.call.slots.row j = some y → y.state ≠ .waiting
          let waiting : Slot :=
            { template := tpl, zones := zones, priority := m.priority, left := m.repeats,
              arrival := s.call.arrival, state := .waiting, token := none, limit := none,
              interval := none, lampStep := 0, lampDue := none, lastAnswer := .none }
          let blocked := ∃ (zn j : Fin 16) (y : Slot), zones.getLsbD zn.val = true
            ∧ (s.call.zones.row zn).holder = some j ∧ s.call.slots.row j = some y
            ∧ m.priority ≤ y.priority
          let token := s.call.freeToken 16 s.call.token
          (blocked → alone ∨ s.zonesSafe → answers .done ((s.take i).setCall { s.call with
            slots := s.call.slots.put k (some waiting), arrival := s.call.arrival + 1 }))
          ∧ (alone → (∀ zn : Fin 16, zones.getLsbD zn.val = true →
              (s.call.zones.row zn).holder = none) → ∃ t : State, answers .done t
              ∧ t.call.slots = s.call.slots.put k (some { waiting with
                  state := .speaking, token := some token,
                  limit := some (s.clock + s.call.paLimit * 1000000),
                  lampDue := some (s.clock + 62500) })
              ∧ (∀ zn : Fin 16, t.call.zones.row zn = { s.call.zones.row zn with
                  holder := if zones.getLsbD zn.val = true then some k
                    else (s.call.zones.row zn).holder })
              ∧ t.call.token = token + 1 ∧ t.call.arrival = s.call.arrival + 1
              ∧ t.line = (s.emit s.call.paNode 4 token
                  [BitVec.ofNat 8 m.message, zones.extractLsb' 8 8, zones.extractLsb' 0 8,
                   BitVec.ofNat 8 m.priority]).line
              ∧ (∀ (zn ch : Fin 16), zones.getLsbD zn.val = true →
                  (s.call.zones.row zn).lamp = some ch → (s.chans.row ch).set.owner = .lamp zn →
                  (t.chans.row ch).requested = m.pattern.getLsbD 0)
              ∧ t.board = s.board ∧ t.req = s.req ∧ t.plan = s.plan ∧ t.door = s.door)
          ∧ (s.slotsSafe → s.zonesSafe → ¬ blocked →
            let displaced (j : Fin 16) : Prop :=
              ∃ zn : Fin 16, zones.getLsbD zn.val = true ∧ (s.call.zones.row zn).holder = some j
            (∀ j y, s.call.slots.row j = some y → y.state = .waiting →
              ∃ zn : Fin 16, y.zones.getLsbD zn.val = true
                ∧ ((zones.getLsbD zn.val = true ∧ y.priority ≤ m.priority)
                  ∨ ∃ h w, (s.call.zones.row zn).holder = some h ∧ ¬ displaced h
                      ∧ s.call.slots.row h = some w ∧ y.priority ≤ w.priority)) →
            ∃ (t : State) (token : Byte) (js : List (Fin 16)), answers .done t
              ∧ t.call.slots.row k = some { waiting with
                  state := .speaking, token := some token,
                  limit := some (s.clock + s.call.paLimit * 1000000),
                  lampDue := some (s.clock + 62500) }
              ∧ s.tokenTaken t k token
              ∧ (∀ j y, s.call.slots.row j = some y →
                  (displaced j → t.call.slots.row j = some { y with
                    state := .waiting, token := none, limit := none, interval := none,
                    lampDue := none })
                  ∧ (¬ displaced j → t.call.slots.row j = some y))
              ∧ (∀ zn : Fin 16, (zones.getLsbD zn.val = true → (t.call.zones.row zn).holder = some k)
                  ∧ (zones.getLsbD zn.val = false →
                    (∀ j, (s.call.zones.row zn).holder = some j → displaced j →
                      (t.call.zones.row zn).holder = none
                      ∧ ∀ ch, (s.call.zones.row zn).lamp = some ch →
                          (s.chans.row ch).set.owner = .lamp zn →
                          (t.chans.row ch).requested = false)
                    ∧ ((∀ j, (s.call.zones.row zn).holder = some j → ¬ displaced j) →
                      t.call.zones.row zn = s.call.zones.row zn)))
              ∧ js.Pairwise (fun a b => a < b)
              ∧ (∀ j, j ∈ js ↔ displaced j ∧ ∃ y, s.call.slots.row j = some y ∧ y.state = .speaking)
              ∧ t.line = ((js.foldl (fun u j => s.cancelOf u j) s).emit s.call.paNode 4 token
                  [BitVec.ofNat 8 m.message, zones.extractLsb' 8 8, zones.extractLsb' 0 8,
                   BitVec.ofNat 8 m.priority]).line))
      ∧ (allowed → (∀ k x, ¬ same k x) → ∀ k, s.call.slots.row k = none →
          (∀ j, j < k → s.call.slots.row j ≠ none) → s.call.arrival = 65535 →
          let n := ((List.finRange 16).filter (fun j => (s.call.slots.row j).isSome)).length
          ∃ t : State, answers .done t ∧ t.call.arrival = n + 1
            ∧ (∃ x, t.call.slots.row k = some x ∧ x.arrival = n ∧ x.template = tpl ∧ x.zones = zones)
            ∧ (∀ j y, s.call.slots.row j = some y → ∃ y', t.call.slots.row j = some y'
                ∧ y'.arrival < n ∧ y'.template = y.template ∧ y'.zones = y.zones
                ∧ y'.priority = y.priority ∧ y'.left = y.left)
            ∧ (∀ j j' y y' z z', s.call.slots.row j = some y → s.call.slots.row j' = some y' →
                t.call.slots.row j = some z → t.call.slots.row j' = some z' →
                (y.arrival < y'.arrival → z.arrival < z'.arrival)
                ∧ (j ≠ j' → z.arrival ≠ z'.arrival)))

/-- CALL_CANCEL, as a request and as DOOR's cancel at a release: the refusals, the slots it frees, what
every other call keeps, the cancel frame of a SPEAKING call that BY_SLOT names, and the call that wins the
zones a BY_SLOT cancel gives up: the first, in arbiter order, of the WAITING calls that can win (R165, R166,
R167, R172, R173). That the frames of the event are offered before the REPLY is the model's choice (log 44,
log 29). -/
def Obligations.CallCancelFreesTheNamedSlots : Prop :=
  ∀ (s : State) (o : CancelOrigin) (form b : Byte), s.inReset = false →
    let i := Instr.callCancel o form b
    let answers (code : Code) (t : State) : Prop :=
      (∀ rq, o = .request rq → s.addressed = true → exec i s = .next (t.reply rq 0x07 code []))
      ∧ (o = .release → exec i s = .next t)
    let named (k : Fin 16) : Prop := (form = 0 ∧ b.toNat = k.val)
      ∨ (form = 1 ∧ ∃ x, s.call.slots.row k = some x ∧ x.template.val = b.toNat)
    let bad := (form = 0 ∧ 16 ≤ b.toNat) ∨ (form = 1 ∧ 32 ≤ b.toNat) ∨ (form ≠ 0 ∧ form ≠ 1)
    (bad → answers .badValue (s.take i))
    ∧ (¬ bad → ∃ t : State, answers .done t
      ∧ (∀ k, named k → t.call.slots.row k = none)
      ∧ (∀ k x, ¬ named k → s.call.slots.row k = some x → ∃ y, t.call.slots.row k = some y
          ∧ y.template = x.template ∧ y.zones = x.zones ∧ y.priority = x.priority
          ∧ y.left = x.left ∧ y.arrival = x.arrival)
      ∧ (∀ k, s.call.slots.row k = none → t.call.slots.row k = none)
      ∧ t.call.paRun = s.call.paRun ∧ t.board = s.board ∧ t.req = s.req
      ∧ ((∀ j y, ¬ named j → s.call.slots.row j = some y → y.state ≠ .waiting) →
          (∀ k, ¬ named k → t.call.slots.row k = s.call.slots.row k)
          ∧ (∀ zn, (∃ k x, named k ∧ s.call.slots.row k = some x
              ∧ (s.call.zones.row zn).holder = some k) →
              (t.call.zones.row zn).holder = none
              ∧ ∀ ch, (s.call.zones.row zn).lamp = some ch →
                  (s.chans.row ch).set.owner = .lamp zn → (t.chans.row ch).requested = false)
          ∧ (∀ k x token, form = 0 → b.toNat = k.val → s.call.slots.row k = some x →
              x.state = .speaking → x.token = some token →
              t.line = (s.emit s.call.paNode 4 token
                [0, x.zones.extractLsb' 8 8, x.zones.extractLsb' 0 8,
                 BitVec.ofNat 8 x.priority]).line))
      ∧ (form = 0 → s.slotsSafe → s.zonesSafe → ∀ k x, b.toNat = k.val → s.call.slots.row k = some x →
          let can (j : Fin 16) (y : Slot) : Prop := s.call.slots.row j = some y ∧ j ≠ k
            ∧ y.state = .waiting ∧ ∀ (zn h : Fin 16) (w : Slot), y.zones.getLsbD zn.val = true →
              (s.call.zones.row zn).holder = some h → h ≠ k → s.call.slots.row h = some w →
              w.priority < y.priority
          ((∀ j y, ¬ can j y) → ∀ j, j ≠ k → t.call.slots.row j = s.call.slots.row j)
          ∧ ∀ j y, can j y →
            (∀ j' y', can j' y' → j' ≠ j → y'.priority < y.priority
              ∨ (y'.priority = y.priority ∧ y.arrival < y'.arrival)) →
            (∃ token, t.call.slots.row j = some { y with
              state := .speaking, token := some token,
              limit := some (s.clock + s.call.paLimit * 1000000), lampStep := 0,
              lampDue := some (s.clock + 62500) })
            ∧ ∀ zn : Fin 16, y.zones.getLsbD zn.val = true → (t.call.zones.row zn).holder = some j
              ∧ ∀ ch, (s.call.zones.row zn).lamp = some ch → (s.chans.row ch).set.owner = .lamp zn →
                  s.req.mode = .service → (∀ zn' : Fin 16, zn' ≠ zn →
                    (s.call.zones.row zn').lamp ≠ some ch) →
                  (t.chans.row ch).requested =
                    (s.call.templates.row y.template).pattern.getLsbD 0))

/-- CALL_DONE RECEPTION, END OF A REPETITION, and the EXPIRY of the CALL_DONE limit (R168, R169, R170).
What an UNADDRESSED part takes as an answer is the model's reading (log 42). -/
def Obligations.AnswersAndLimitsEndARepetition : Prop :=
  let ended (s t : State) (k : Fin 16) (x : Slot) (a : Answer) : Prop :=
    (x.left ≠ 1 →
      t.call.slots = s.call.slots.put k (some { x with
        state := .interval, token := none, limit := none, lastAnswer := a, left := x.left - 1,
        interval := some
          (s.clock + (s.call.templates.row x.template).interval * 1000000) })
      ∧ t.call.zones = s.call.zones ∧ t.chans = s.chans)
    ∧ (x.left = 1 → t.call.slots.row k = none
      ∧ (∀ zn, (t.call.zones.row zn).holder ≠ some k)
      ∧ ((∀ j y, s.call.slots.row j = some y → y.state ≠ .waiting) →
        t.call.slots = s.call.slots.put k none
        ∧ ∀ zn, (s.call.zones.row zn).holder = some k → (t.call.zones.row zn).holder = none
          ∧ ∀ ch, (s.call.zones.row zn).lamp = some ch →
              (s.chans.row ch).set.owner = .lamp zn → (t.chans.row ch).requested = false))
  (∀ (s : State) (src dst tag : Byte) (payload : List Byte), s.inReset = false →
      let i := Instr.callDoneReception src dst tag payload
      let answer := src = s.call.paNode ∧ s.call.paNode ≠ 0 ∧ (dst = 127 ∨ s.own = some dst)
      let speaking (k : Fin 16) (x : Slot) : Prop :=
        s.call.slots.row k = some x ∧ x.state = .speaking ∧ x.token = some tag
      (¬ answer → exec i s = .next (s.take i))
      ∧ (answer → (∀ k x, ¬ speaking k x) → exec i s = .next ((s.take i).setCall
          { s.call with paLate := min (s.call.paLate + 1) 65535 }))
      ∧ (answer → ∀ k x, speaking k x → (∀ j y, speaking j y → j = k) →
          ∃ t : State, exec i s = .next t
            ∧ ended s t k x (if payload.head? = some 2 then .refused else .played)
            ∧ t.call.paRun = 0 ∧ t.cond 5 = false ∧ t.call.paLate = s.call.paLate
            ∧ t.req = s.req))
  ∧ (∀ (s : State) (k : Fin 16) (x : Slot) (due : Nat), s.inReset = false →
      s.call.slots.row k = some x → x.limit = some due →
      ∃ t : State, exec (.callDoneLimitExpiry k) s = .next t
        ∧ ended s t k x .limit
        ∧ t.call.paLate = min (s.call.paLate + 1) 65535
        ∧ t.call.paRun = min (s.call.paRun + 1) 255
        ∧ (s.call.paRun = 1 → t.cond 5 = true ∧ t.req.marks = s.req.marks ||| 0x400)
        ∧ (s.call.paRun ≠ 1 → t.cond 5 = s.cond 5 ∧ t.req = s.req))

/-- ENTRY TO SPEAKING at the EXPIRY of the interval timer, the token it takes, and the LAMP STEP (R167,
R171, R173). -/
def Obligations.IntervalExpirySpeaksAgainAndLampsStep : Prop :=
  (∀ c : Call, ∃ n : Nat, n ≤ 16
      ∧ c.freeToken 16 c.token = c.token + BitVec.ofNat 8 n
      ∧ (∀ k x, c.slots.row k = some x → x.state = .speaking →
          x.token ≠ some (c.freeToken 16 c.token))
      ∧ ∀ m, m < n → ∃ k x, c.slots.row k = some x ∧ x.state = .speaking
          ∧ x.token = some (c.token + BitVec.ofNat 8 m))
  ∧ (∀ (s : State) (k : Fin 16) (x : Slot), s.inReset = false → s.call.slots.row k = some x →
      let i := Instr.intervalExpiry k
      let token := s.call.freeToken 16 s.call.token
      (x.interval = none → exec i s = .next (s.take i))
      ∧ (∀ due, x.interval = some due → exec i s = .next
          (((s.take i).setCall { s.call with
            slots := s.call.slots.put k (some { x with
              state := .speaking, token := some token,
              limit := some (s.clock + s.call.paLimit * 1000000), interval := none }),
            token := token + 1 }).emit s.call.paNode 4 token
              [BitVec.ofNat 8 (s.call.templates.row x.template).message,
               x.zones.extractLsb' 8 8, x.zones.extractLsb' 0 8, BitVec.ofNat 8 x.priority])))
  ∧ (∀ (s : State) (k : Fin 16) (x : Slot), s.inReset = false → s.call.slots.row k = some x →
      let i := Instr.lampStepExpiry k
      (x.lampDue = none → exec i s = .next (s.take i))
      ∧ (∀ due, x.lampDue = some due → ∃ t : State, exec i s = .next t
        ∧ t.call = { s.call with slots := s.call.slots.put k (some
            { x with lampStep := x.lampStep + 1, lampDue := some (due + 62500) }) }
        ∧ (∀ zn ch, (s.call.zones.row zn).holder = some k → (s.call.zones.row zn).lamp = some ch →
            (s.chans.row ch).set.owner = .lamp zn → s.req.mode = .service →
            (t.chans.row ch).requested =
              (s.call.templates.row x.template).pattern.getLsbD ((x.lampStep.val + 1) % 16))
        ∧ (∀ ch, (∀ zn, (s.call.zones.row zn).holder = some k →
              (s.call.zones.row zn).lamp ≠ some ch) → t.chans.row ch = s.chans.row ch)
        ∧ t = { s.take i with call := t.call, chans := t.chans }))

/-- The fixed conditions keep their built-in source, every door's attempt count stays within its retry limit
plus 1, and a token and a running CALL_DONE limit belong to SPEAKING slots alone, after every step of a
state in which all this holds; no entry comes to count more refusals than hits; every condition that follows
a source keeps its source's value; and the zones are held by the SPEAKING and INTERVAL slots that name them,
and by no other (R36, R38, R40, R41, R118, R139, R143, R151, R163, R165, R167). -/
def Obligations.EveryStepKeepsTheRecordRules : Prop :=
  (∀ s t : State, s.sourcesSafe → s.attemptsSafe → s.slotsSafe → step s = .next t →
    t.sourcesSafe ∧ t.attemptsSafe ∧ t.slotsSafe)
  ∧ (∀ s t : State, s.countsSafe → step s = .next t → t.countsSafe)
  ∧ (∀ s t : State, s.sourcesSafe → s.rampsSafe → s.followsSafe → step s = .next t → t.followsSafe)
  ∧ (∀ s t : State, s.slotsSafe → s.zonesSafe → step s = .next t → t.zonesSafe)

/-! ## REQ -/

/-- The payload of every well-formed request reads back as that request and fits a frame, a payload that
is read as a request is that request's payload, and every other payload is answered as malformed (R3,
R177, R191). The forms of MALFORMED_REQUEST are the model's reading (log 48). -/
def Obligations.RequestPayloadsReadBack : Prop :=
  (∀ (i : Instr) (rq : Requester) (payload : List Byte), i.wf = true →
      requestBytes i = some (rq, payload) → parseRequest rq payload = i ∧ payload.length ≤ 48)
  ∧ (∀ (rq : Requester) (payload : List Byte),
      requestBytes (parseRequest rq payload) = some (rq, payload)
      ∨ parseRequest rq payload = .malformedRequest rq payload)
  ∧ (∀ (s : State) (rq : Requester) (op : Byte) (args : List Byte), s.takesRequests →
      let i := Instr.malformedRequest rq (op :: args)
      let none' := Instr.malformedRequest rq []
      exec none' s = .next ((s.take none').reply rq 0 .badValue [])
      ∧ (op ≠ 0x13 → op ≠ 0x14 → exec i s = .next ((s.take i).reply rq op .badValue []))
      ∧ (op = 0x13 ∨ op = 0x14 → ∀ table index rest, args = table :: index :: rest →
          exec i s = .next ((s.take i).reply rq op
            (if 1 ≤ table.toNat ∧ table.toNat ≤ 18 then .badValue else .badTable)
            [table, index])))

/-- TABLE_READ: the refusals and the entries returned; TABLE_WRITE: the first failing check gives the result and
stores nothing: the codes and references of each table, the BAD_VALUE rules that read other records, the forbidden
jump, and the BUSY rows of SERVICE; the entry of a taken write reads back as it was written, its quantities clamped
and its kept fields as they stood, and nothing changes but the table and what its owner acts on; a condition given
another source takes that source's value; a written scan list acts on the scanner, and a written sensor channel
waits for its slot; BLOCK_WRITE: the first failing entry gives the result and its index, nothing of the block is
stored then, and every entry of a taken block reads back so; entries are judged against the tables as the block
would leave them (R6, R16, R20, R40, R42, R50, R53, R55, R64, R78, R80, R98, R110, R114, R115, R116, R117, R139,
R140, R141, R160, R161, R162, R180, R181, R182, R183, R190, R191, R193). What a taken write of a channel does is in
GateAndForcingActAtAChange, of a term in ChangeIsHandedToEveryWaitingUser, of the scan settings in
BufferReadAndClearRemoveRecords, of DOOR's tables in DoorsFollowTheirLimitSwitches. That the frames of a taken
write are offered before its REPLY, that the entries of a block act in ascending index, that the index of a block
without entries or of a wrong length is its first one, what the entries of a block are judged against where
another one is refused, and the role code 0, are the model's choices (log 44, log 65, log 71, log 73, log 74). That a body which is no image of
the table's size is refused with BAD_VALUE before its check byte is judged is its presumption (log 50), and the 0
of three unused bytes, and that a plan or stage write in SERVICE is held to the whole of R136, its readings (log 33,
log 66, log 31). -/
def Obligations.TablesAreReadAndWritten : Prop :=
  ∀ (s : State) (rq : Requester) (table index count check : Byte) (body : List Byte),
    s.takesRequests →
    let rd := Instr.tableRead rq table index count
    let wr := Instr.tableWrite rq table index body check
    let blk := Instr.blockWrite rq table index count body check
    let w : Written := { index := index.toNat, image := body, check := check }
    let number : Nat := (body.getD 0 0).toNat * 256 + (body.getD 1 0).toNat
    (20 < table.toNat → exec rd s = .next ((s.take rd).reply rq 0x12 .badTable [table, index]))
    ∧ (∀ t, tableOf table = some t →
      t.id = table.toNat
      ∧ (index.toNat < t.first ∨ t.first + t.count ≤ index.toNat →
        exec rd s = .next ((s.take rd).reply rq 0x12 .badIndex [table, index]))
      ∧ (t.first ≤ index.toNat → index.toNat < t.first + t.count →
        ∀ n, n = min count.toNat (min (t.first + t.count - index.toNat) (43 / t.size)) →
          exec rd s = .next ((s.take rd).reply rq 0x12 .done ([table, index, BitVec.ofNat 8 n]
            ++ (List.range n).flatMap (fun j => s.image t (index.toNat + j))))))
    ∧ (table.toNat = 0 ∨ 19 ≤ table.toNat →
      exec wr s = .next ((s.take wr).reply rq 0x13 .badTable [table, index])
      ∧ exec blk s = .next ((s.take blk).reply rq 0x14 .badTable [table, index]))
    ∧ (∀ t, tableOf table = some t → t.writable = true →
      (∃ (code : Code) (u : State),
        exec wr s = .next (u.reply rq 0x13 code (if code = .done then [] else [table, index]))
        ∧ (code ≠ .done → u = s.take wr)
        ∧ (code = .done → u = (s.take wr).takeWrite t [w])
        ∧ (body.length ≠ t.size → code = .badValue)
        ∧ (body.length = t.size →
          (∃ r, s.finds (s.storeAll t [w]) t w r ∧ code = r.getD .done)
          ∧ (code = .done → t.readsBack body (s.image t index.toNat) (u.image t index.toNat)
            ∧ t.changesOnly (s.take wr) u
            ∧ (t ≠ .channels → t ≠ .doors → ∀ k, k ≠ index.toNat → t.inRange k = true →
              u.image t k = s.image t k))
          ∧ (t = .conds → code = .done → ∀ c : Fin 64, index.toNat = c.val →
              let o := s.board.conds.row c
              let n := u.board.conds.row c
              (n.source = o.source → n = o)
              ∧ (n.source ≠ o.source → (n.value = true ↔ s.sourceHolds n.source)
                ∧ u = ((s.take wr).setRecord c
                    { o with source := n.source, holdTime := 0, hold := none }).setCond c n.value))
          ∧ (t = .sensors → code = .done → u.scan = { s.scan with sensors := u.scan.sensors })
          ∧ (t = .list → code = .done →
              (body.getD 0 0 ≠ 0 → s.scan.scanner = .stopped → u.scan.scanner = .idle)
              ∧ (body.getD 0 0 ≠ 0 → s.scan.scanner ≠ .stopped → u.scan.scanner = s.scan.scanner)
              ∧ (body.getD 0 0 = 0 → ∀ x, s.scan.scanner = .trimming x → u.scan.scanner = .trimming x)
              ∧ (body.getD 0 0 = 0 → (∀ x, s.scan.scanner ≠ .trimming x) → u.scan.scanner = .stopped
                ∧ (s.scan.scanner ≠ .stopped → u.cond 1 = false)))
          ∧ (t = .line → code = .done → u = { s.take wr with
              line := { s.line with silenceMs := max 50 (min number 5000) } })
          ∧ (t = .plans → code = .done → ∀ p : Fin 8, index.toNat = p.val →
              u.plan.plans.row p =
                { ramp := BitVec.toFin ((body.getD 0 0).setWidth 2),
                  first := BitVec.toFin ((body.getD 1 0).setWidth 6),
                  count := min (max 1 (min (body.getD 2 0).toNat 16))
                    (64 - (body.getD 1 0).toNat) })))
      ∧ (count = 0 ∨ body.length ≠ count.toNat * (t.size + 1) →
          exec blk s = .next ((s.take blk).reply rq 0x14 .badValue [table, index]))
      ∧ (count ≠ 0 → body.length = count.toNat * (t.size + 1) →
        let entry (j : Nat) : Written := blockEntry t.size index.toNat j body
        let ws := (List.range count.toNat).map entry
        let sum := (ws.map (fun w => w.check)).foldl (· ^^^ ·) 0
        (check ≠ sum → exec blk s = .next ((s.take blk).reply rq 0x14 .badCheck [table, index]))
        ∧ (check = sum → ∃ found : Nat → Option Code,
          (∀ j, j < count.toNat → s.finds (s.storeAll t ws) t (entry j) (found j))
          ∧ (∀ j, j < count.toNat → ∀ code, (∀ j', j' < j → found j' = none) → found j = some code →
            exec blk s = .next ((s.take blk).reply rq 0x14 code
              [table, BitVec.ofNat 8 (index.toNat + j)]))
          ∧ ((∀ j, j < count.toNat → found j = none) →
            let u := (s.take blk).takeWrite t ws
            exec blk s = .next (u.reply rq 0x14 .done []) ∧ t.changesOnly (s.take blk) u
            ∧ ∀ j, j < count.toNat → t.readsBack (entry j).image (s.image t (index.toNat + j))
                (u.image t (index.toNat + j))))))
    ∧ (∀ (t : TableId) (ws : List Written), (ws.map (fun w => w.index)).Nodup →
      (t = .conds ∨ t = .channels ∨ t = .ramps ∨ t = .plans ∨ t = .stages ∨ t = .doors ∨ t = .zones) →
      let after := s.storeAll t ws
      (∀ w ∈ ws, w.image.length = t.size → t.inRange w.index = true → ¬ t.badCodes w.index w.image →
        (t ≠ .conds → t.readsBack w.image (s.image t w.index) (after.image t w.index))
        ∧ (t = .conds → let b (k : Nat) : Byte := w.image.getD k 0
          ((after.image t w.index).drop 1).take 3 =
            [b 1, if b 1 = 0 ∨ b 1 = 6 then 0 else b 2, if b 1 = 4 then b 3 else 0]))
      ∧ (∀ k, t.inRange k = true → (∀ w ∈ ws, w.index = k → t.badCodes k w.image) →
        after.image t k = s.image t k)
      ∧ ∀ t' k, t' ≠ t → after.image t' k = s.image t' k)

/-- MODE_SET by the mode held and the mode named: validation in four passes before the passage to SERVICE, each
pass with the inconsistencies of its rule's table, and the first of them reported; BUSY while the deck moves; and
what each passage does: at the one to SERVICE the doors of every group whose trigger term reads TRUE are
close-requested (R83, R85, R112, R136, R147, R156, R157, R174, R178, R179). Which record a pass reports
first (log 30), and that the frames of the passage are offered before the REPLY (log 29, log 44), are the
model's. -/
def Obligations.ModeSetActsByTheModeHeld : Prop :=
  ∀ (s : State) (rq : Requester) (b : Byte), s.takesRequests →
    let i := Instr.modeSet rq b
    let u := s.take i
    let moving := (∃ r, (s.ramp r).state ≠ .idle)
      ∨ ∃ d, (s.door.doors.row d).state = .warning ∨ (s.door.doors.row d).state = .closing
        ∨ (s.door.doors.row d).state = .backoff ∨ (s.door.doors.row d).state = .opening
    let clean (n : Nat) : Prop := ∀ pass, pass ≤ n → s.passClean pass
    (b ≠ 0 → b ≠ 1 → exec i s = .next (u.reply rq 0x17 .badValue []))
    ∧ (b = 0 ∧ s.req.mode = .setup ∨ b = 1 ∧ s.req.mode = .service →
        exec i s = .next (u.reply rq 0x17 .done []))
    ∧ (b = 1 → s.req.mode = .setup →
      (∀ pass t k, clean pass → s.passReports (pass + 1) t k →
        exec i s = .next (u.reply rq 0x17 .badTable [BitVec.ofNat 8 t.id, BitVec.ofNat 8 k]))
      ∧ (clean 4 ∨ ∃ pass t k, clean pass ∧ s.passReports (pass + 1) t k)
      ∧ (clean 4 → ∃ t : State, exec i s = .next (t.reply rq 0x17 .done [])
            ∧ t.req.mode = .service ∧ (s.sourcesSafe → t.cond 6 = true)
            ∧ t.req.tag = s.req.tag ∧ t.req.node = s.req.node ∧ t.req.enabled = s.req.enabled
            ∧ t.scan = s.scan ∧ t.table = s.table ∧ t.line.sides = s.line.sides
            ∧ ((∀ g, (s.door.groups.row g).trigger = none) →
                t.door = s.door ∧ t.chans = s.chans ∧ t.plan = s.plan ∧ t.call = s.call
                ∧ t.line = s.line ∧ t.req = { s.req with mode := .service })
            ∧ (s.sourcesSafe → (∀ g tm, (s.door.groups.row g).trigger = some tm →
                  s.steady tm ∧ ¬ s.names tm 6) →
                ∀ d, let x := s.door.doors.row d
                  let y := t.door.doors.row d
                  let called := (∃ g tm, x.set.group = some g
                      ∧ (s.door.groups.row g).trigger = some tm ∧ s.term tm = true)
                    ∧ (x.state = .opened ∨ x.state = .opening)
                  (¬ called → y = x)
                  ∧ (called → x.set.warning ≠ 0 → y = { x with
                      state := .warning, attempts := 1,
                      timer := { acc := 0, since := some s.clock },
                      due := some (s.clock + x.set.warning * 100000) })
                  ∧ ∀ c k, called → x.set.warning = 0 → x.set.closedCond = some c →
                      (s.board.conds.row c).source = .threshold k → y.attempts = 1
                      ∧ y.state = (if s.cond c = true then .closed else .closing))))
    ∧ (b = 0 → s.req.mode = .service →
      (moving → exec i s = .next (u.reply rq 0x17 .busy []))
      ∧ (¬ moving → ∃ t : State, exec i s = .next (t.reply rq 0x17 .done [])
        ∧ t.req = { s.req with mode := .setup } ∧ t.cond 6 = false
        ∧ (∀ c : Fin 64, c ≠ 6 → t.board.conds.row c = s.board.conds.row c)
        ∧ (∀ ch, (s.chans.row ch).set.owner ≠ .free → (t.chans.row ch).requested = false)
        ∧ (∀ ch, (s.chans.row ch).set.owner = .free → (t.chans.row ch) = s.chans.row ch)
        ∧ (∀ k, t.call.slots.row k = none)
        ∧ (∀ zn, (t.call.zones.row zn) = { s.call.zones.row zn with holder := none })
        ∧ t.call.token = s.call.token ∧ t.call.arrival = s.call.arrival
        ∧ t.call.paRun = s.call.paRun ∧ t.call.paLate = s.call.paLate
        ∧ t.plan = s.plan ∧ t.door = s.door ∧ t.scan = s.scan ∧ t.table = s.table
        ∧ ((∀ k x, s.call.slots.row k = some x → x.state ≠ .speaking) → t.line = s.line)))

/-- IDENTITY AND INSTALLATION TAG: the identity record is read as directory entry 21; IDENTITY_WRITE stores
the tag once, in either mode; and no step but a power-on reset changes a tag that is written (R184). That the
reset and its completion, whatever state it meets, set the tag to zeros is the model's reading (log 8). -/
def Obligations.TheInstallationTagIsWrittenOnce : Prop :=
  (∀ s : State, s.image .directory 21 =
      [0x0A, 0x3D, 0x0D, 0x24, 0x01] ++ s.req.tag.toList ++ [if s.req.tagWritten then 1 else 0])
  ∧ (∀ (s : State) (rq : Requester) (tag : Vector Byte 8) (check : Byte), s.takesRequests →
      let i := Instr.identityWrite rq tag check
      let sound := check = ~~~ (tag.toList.foldl (· ^^^ ·) 0)
      (s.req.tagWritten = false → sound → exec i s = .next
        (((s.take i).setReq { s.req with tag := tag, tagWritten := true }).reply rq 0x18 .done []))
      ∧ (s.req.tagWritten = false → ¬ sound →
        exec i s = .next ((s.take i).reply rq 0x18 .badCheck []))
      ∧ (s.req.tagWritten = true → exec i s = .next ((s.take i).reply rq 0x18 .locked [])))
  ∧ (∀ (s t : State) (i : Instr), i ≠ .powerOnReset → (∀ straps, i ≠ .powerOnResetCompletion straps) →
      s.req.tagWritten = true → exec i s = .next t →
      t.req.tag = s.req.tag ∧ t.req.tagWritten = true)
  ∧ (∀ (s t : State) (rq : Requester) (mode : Byte) (i : Instr),
      i = .opsReset rq ∨ i = .modeSet rq mode → exec i s = .next t →
      t.req.tag = s.req.tag ∧ t.req.tagWritten = s.req.tagWritten)
  ∧ (∀ (s t : State) (straps : Fin 128) (i : Instr),
      i = .powerOnReset ∨ i = .powerOnResetCompletion straps → exec i s = .next t →
      t.req.tag = Vector.replicate 8 0 ∧ t.req.tagWritten = false)

/-- STATUS_READ returns the status record and changes nothing; FLAGS_CLEAR zeroes the counts and clears the
marks that its masks name; NOTICE_SET stores the settings; and a notice event acts under its pending
mark (R185, R186, R187, R191). -/
def Obligations.StatusFlagsAndNotices : Prop :=
  (∀ (s : State) (rq : Requester), s.takesRequests →
      let word (n : Nat) : List Byte := [BitVec.ofNat 8 (n / 256), BitVec.ofNat 8 n]
      exec (.statusRead rq) s = .next ((s.take (.statusRead rq)).reply rq 0x15 .done
        ((match s.req.mode with | .setup => 0 | .service => 1) :: BitVec.ofNat 8 s.line.strap.val ::
          ([s.line.up.crcCount, s.line.up.normalDrops, s.line.up.safetyDrops,
            s.line.dn.crcCount, s.line.dn.normalDrops, s.line.dn.safetyDrops,
            s.line.clashCount, s.scan.overrun, s.scan.buffer.length, s.scan.overflow,
            s.scan.stored, s.scan.read, s.scan.cleared, s.scan.discarded,
            s.door.warnCallLost, s.call.paLate, s.req.marks.toNat].flatMap word))))
  ∧ (∀ (s : State) (rq : Requester) (counts notices : BitVec 16), s.takesRequests →
      let i := Instr.flagsClear rq counts notices
      let cleared (bit n : Nat) : Nat := if counts.getLsbD bit = true then 0 else n
      ∃ t : State, exec i s = .next (t.reply rq 0x16 .done [])
        ∧ t.line.up = { s.line.up with
            crcCount := cleared 0 s.line.up.crcCount, normalDrops := cleared 2 s.line.up.normalDrops,
            safetyDrops := cleared 4 s.line.up.safetyDrops }
        ∧ t.line.dn = { s.line.dn with
            crcCount := cleared 1 s.line.dn.crcCount, normalDrops := cleared 3 s.line.dn.normalDrops,
            safetyDrops := cleared 5 s.line.dn.safetyDrops }
        ∧ t.line.clashCount = cleared 6 s.line.clashCount
        ∧ t.scan = { s.scan with overrun := cleared 7 s.scan.overrun }
        ∧ t.door = { s.door with warnCallLost := cleared 8 s.door.warnCallLost }
        ∧ t.call = { s.call with paLate := cleared 9 s.call.paLate }
        ∧ t.req = { s.req with marks := t.req.marks }
        ∧ (∀ k, 1 ≤ k → k ≤ 16 → t.req.marks.getLsbD (k - 1) =
            (s.req.marks.getLsbD (k - 1) && !notices.getLsbD (k - 1)))
        ∧ t = { s.take i with
                line := { s.line with
                          up := t.line.up, dn := t.line.dn, clashCount := t.line.clashCount },
                scan := t.scan, door := t.door, call := t.call, req := t.req })
  ∧ (∀ (s : State) (rq : Requester) (node : Byte) (enabled : BitVec 16) (disable : Byte),
      s.takesRequests →
      let i := Instr.noticeSet rq node enabled disable
      (127 < node.toNat ∨ (disable ≠ 0 ∧ disable ≠ 1) →
        exec i s = .next ((s.take i).reply rq 0x19 .badValue []))
      ∧ (node.toNat ≤ 127 → ∀ off : Bool, disable = (if off then 1 else 0) →
        ∃ t : State, exec i s = .next (t.reply rq 0x19 .done [])
          ∧ t = (s.take i).setReq { s.req with
              node := node, enabled := t.req.enabled, disable := off }
          ∧ ∀ k, 1 ≤ k → k ≤ 16 → t.req.enabled.getLsbD (k - 1) =
              (enabled.getLsbD (k - 1) && decide (k ≤ 12))))
  ∧ (∀ (s : State) (k : Fin 13) (subject : Nat), 1 ≤ k.val →
      let mark : BitVec 16 := BitVec.twoPow 16 (k.val - 1)
      let marked := s.setReq { s.req with marks := s.req.marks ||| mark }
      let sends := s.req.enabled.getLsbD (k.val - 1) = true ∧ s.req.disable = false
      (s.req.marks.getLsbD (k.val - 1) = true → s.notice k subject = s)
      ∧ (s.req.marks.getLsbD (k.val - 1) = false →
        (¬ sends → s.notice k subject = marked)
        ∧ (sends → s.notice k subject = marked.emit s.req.node 8 (BitVec.ofNat 8 k.val)
            [BitVec.ofNat 8 k.val, BitVec.ofNat 8 subject,
             (s.req.marks ||| mark).extractLsb' 8 8, (s.req.marks ||| mark).extractLsb' 0 8])))

/-- OPS_RESET: the REPLY of DONE is offered first, then the cancel frame of each SPEAKING call in ascending slot
order, and READY's NOTICE last; the operating state of every block is reset; the written
tables, but the compare A of ramp channels, the scan's records and counts, the sources, the term table, the
PA settings, identity, mode, notice settings and the side map are kept; and READY ends it (R21, R52, R76,
R97, R138, R159, R176, R188). -/
def Obligations.OpsResetResetsOperatingStateAlone : Prop :=
  ∀ (s : State) (rq : Requester), s.takesRequests → s.sourcesSafe →
    let i := Instr.opsReset rq
    ∃ t : State, exec i s = .next t
      ∧ (∀ e, t.table.row e = { s.table.row e with hits := 0, refusals := 0 })
      ∧ (∀ run, s.scan.scanner = .scanning run → t.scan.scanner = .idle)
      ∧ (∀ run, s.scan.scanner = .trimming run → t.scan.trimCode = run.kept
          ∧ t.scan.scanner = if s.scan.list = [] then .stopped else .idle)
      ∧ ((∀ run, s.scan.scanner ≠ .trimming run) → t.scan.trimCode = s.scan.trimCode
          ∧ ((∀ run, s.scan.scanner ≠ .scanning run) → t.scan.scanner = s.scan.scanner))
      ∧ (∀ ch, t.scan.sensors.row ch = { s.scan.sensors.row ch with samples := 0 })
      ∧ t.scan = { s.scan with
          sensors := t.scan.sensors, scanner := t.scan.scanner, trimCode := t.scan.trimCode }
      ∧ (∀ ch, let c := t.chans.row ch
          c.requested = false ∧ c.restart = .none ∧ c.supervision = none ∧ c.cutOffs = 0
          ∧ c.set = { (s.chans.row ch).set with cmpA := c.set.cmpA }
          ∧ ((∀ r, (s.chans.row ch).set.owner ≠ .ramp r) → c.set.cmpA = (s.chans.row ch).set.cmpA))
      ∧ (∀ r, t.ramp r = { s.ramp r with
          state := .idle, plan := none, stage := none, phase := .pending,
          stageTimer := { acc := 0, since := none }, sPrev := 0, travel := .none, result := .none,
          overshoot := 0, callWait := .none, dwell := .stopped, stale := none, retry := none })
      ∧ (∀ d, t.door.doors.row d = { s.door.doors.row d with
          state := .unset, attempts := 0, timer := { acc := 0, since := none }, due := none })
      ∧ (∀ k, t.call.slots.row k = none)
      ∧ (∀ zn, t.call.zones.row zn = { s.call.zones.row zn with holder := none })
      ∧ t.call.paRun = 0 ∧ t.call.token = s.call.token ∧ t.call.paLate = s.call.paLate
      ∧ (∀ c : Fin 64, (s.board.conds.row c).source = .frame →
          t.cond c = false ∧ (t.board.conds.row c).hold = none)
      ∧ t.cond 1 = false ∧ t.cond 5 = false ∧ t.cond 7 = false
      ∧ t.cond 3 = s.faultA ∧ t.cond 4 = s.faultB ∧ t.cond 6 = s.cond 6
      ∧ (∀ c, (t.board.conds.row c).source = (s.board.conds.row c).source)
      ∧ t.board.terms = s.board.terms ∧ t.board.ageDue = s.board.ageDue
      ∧ t.plan.plans = s.plan.plans ∧ t.plan.stages = s.plan.stages
      ∧ t.door.groups = s.door.groups ∧ t.door.warnCallLost = s.door.warnCallLost
      ∧ t.call.templates = s.call.templates ∧ t.call.paNode = s.call.paNode
      ∧ t.call.paLimit = s.call.paLimit ∧ t.call.arrival = s.call.arrival
      ∧ t.line = { s.line with up := t.line.up, dn := t.line.dn }
      ∧ (∀ p, (t.port p).crcCount = (s.port p).crcCount)
      ∧ t.req = { s.req with marks := s.req.marks ||| 0x800 }
      ∧ ∃ js : List (Fin 16), js.Pairwise (fun j k => j < k)
          ∧ (∀ k, k ∈ js ↔ ∃ x, s.call.slots.row k = some x ∧ x.state = .speaking)
          ∧ t.line = ((js.foldl (fun u j => s.cancelOf u j) (s.reply rq 0x1A .done [])).notice 12 1).line

/-- While the part is in power-on reset no command but a reset and a change at a fault pin has any effect;
the completion brings every block to its initial state by the straps and the fault pins (R1, R2, R14,
R21, R39, R51, R75, R96, R137, R158, R175, R188). The forms of the two commands, and that every other command
is lost while the reset is held, are the model's reading (log 8, log 9). -/
def Obligations.PowerOnResetGivesTheInitialState : Prop :=
  (∀ (s : State) (i : Instr), s.inReset = true → i ≠ .powerOnReset →
      (∀ straps, i ≠ .powerOnResetCompletion straps) → (∀ l low, i ≠ .faultLineChange l low) →
      exec i s = .next s)
  ∧ (∀ s : State, ∃ t : State, exec .powerOnReset s = .next t ∧ t.inReset = true
      ∧ t.pending = s.pending ∧ t.handed = [] ∧ t.faultA = s.faultA ∧ t.faultB = s.faultB
      ∧ ∀ ch, (t.chans.row ch).conducting = false ∧ (t.chans.row ch).pin = .passiveLow)
  ∧ (∀ (s : State) (straps : Fin 128), ∃ t : State,
      exec (.powerOnResetCompletion straps) s = .next t ∧ t.inReset = false
      ∧ t.pending = s.pending ∧ t.handed = [] ∧ t.faultA = s.faultA ∧ t.faultB = s.faultB
      ∧ t.clock = 0 ∧ t.line.strap = straps
      ∧ (∀ p, (t.port p).waiting = [] ∧ (t.port p).sending = none ∧ (t.port p).crcCount = 0
          ∧ (t.port p).normalDrops = 0 ∧ (t.port p).safetyDrops = 0)
      ∧ (∀ n, t.line.sides.row n = { side := .unknown, pinned := false })
      ∧ t.line.silence = none ∧ t.line.silenceMs = 500 ∧ t.line.clashCount = 0
      ∧ (∀ e, (t.table.row e).valid = false)
      ∧ (∀ c : Fin 64, (t.cond c = true ↔
            (c = 3 ∧ s.faultA = true) ∨ (c = 4 ∧ s.faultB = true) ∨ (8 ≤ c.val ∧ c.val ≤ 15))
          ∧ (t.board.conds.row c).age = 0 ∧ (t.board.conds.row c).hold = none
          ∧ (t.board.conds.row c).source = (if c.val < 16 then .fixed else .none))
      ∧ (∀ tm, (t.board.terms.row tm).literals = [])
      ∧ t.scan.scanner = .stopped ∧ t.scan.list = [] ∧ t.scan.buffer = [] ∧ t.scan.scanNumber = 0
      ∧ t.scan.trimCode = 512
      ∧ (∀ ch, let c := t.chans.row ch
          c.set.config = .off ∧ c.set.owner = .free ∧ c.set.gate = none ∧ c.set.forcing = .none
          ∧ c.requested = false ∧ c.status = .clear ∧ c.restart = .none ∧ c.supervision = none
          ∧ c.conducting = false ∧ c.pin = .passiveLow ∧ c.cutOffs = 0 ∧ c.count = 0
          ∧ c.timerOut = false ∧ c.set.mode = .steady)
      ∧ (∀ r, (t.ramp r).state = .idle ∧ (t.ramp r).plan = none ∧ (t.ramp r).stage = none
          ∧ (t.ramp r).position = none ∧ (t.ramp r).extend = none ∧ (t.ramp r).retract = none
          ∧ (t.ramp r).staleLimit = 200 ∧ (t.ramp r).result = .none ∧ (t.ramp r).ask = 0)
      ∧ (∀ d, (t.door.doors.row d).state = .unset ∧ (t.door.doors.row d).set.group = none
          ∧ (t.door.doors.row d).attempts = 0)
      ∧ t.door.warnCallLost = 0
      ∧ (∀ m, t.call.templates.row m = { message := 1, zones := 0, priority := 0, repeats := 1,
                                          interval := 1, pattern := 0, allow := none })
      ∧ (∀ zn, t.call.zones.row zn = { lamp := none, holder := none })
      ∧ (∀ k, t.call.slots.row k = none)
      ∧ t.call.paNode = 0 ∧ t.call.paLimit = 30 ∧ t.call.token = 0 ∧ t.call.arrival = 0
      ∧ t.call.paRun = 0 ∧ t.call.paLate = 0
      ∧ t.req = { mode := .setup, tag := Vector.replicate 8 0, tagWritten := false, node := 0,
                  enabled := 0, disable := false, marks := 0x800 })

/-- The state after reset, whatever the straps and the fault pins, keeps every invariant, and none of its
channels conducts (R1, R10, R36, R38, R66, R79, R83, R96, R115, R163; the strap value and the pin levels of
`State.reset` are the model's choice, logs 6 and 7). -/
def Obligations.TheResetStateIsSafe : Prop :=
  (∀ (straps : Fin 128) (a b : Bool), let s := State.powerOn straps a b
      s.queuesSafe ∧ s.outputsSafe ∧ s.setupSafe ∧ s.attemptsSafe ∧ s.accountSafe ∧ s.sourcesSafe
      ∧ s.slotsSafe ∧ s.countsSafe ∧ s.rampsSafe ∧ s.followsSafe ∧ s.zonesSafe
      ∧ ∀ ch, (s.chans.row ch).conducting = false ∧ (s.chans.row ch).pin = .passiveLow)
  ∧ State.reset = State.powerOn 9 false false
end

