-- ==== Sys2Proof/Laws/State.lean ====
section
/-! SUPPORT. One lemma for each field of the state and each named update: what the update leaves there. No
later proof unfolds an update. -/

namespace Sys2Proof.Machine

variable (s : State)

/-! ## setPort -/

@[simp] theorem State.setPort_table (p : Port) (q : PortState) : (s.setPort p q).table = s.table := by
  cases p <;> rfl
@[simp] theorem State.setPort_board (p : Port) (q : PortState) : (s.setPort p q).board = s.board := by
  cases p <;> rfl
@[simp] theorem State.setPort_scan (p : Port) (q : PortState) : (s.setPort p q).scan = s.scan := by
  cases p <;> rfl
@[simp] theorem State.setPort_chans (p : Port) (q : PortState) : (s.setPort p q).chans = s.chans := by
  cases p <;> rfl
@[simp] theorem State.setPort_plan (p : Port) (q : PortState) : (s.setPort p q).plan = s.plan := by
  cases p <;> rfl
@[simp] theorem State.setPort_door (p : Port) (q : PortState) : (s.setPort p q).door = s.door := by
  cases p <;> rfl
@[simp] theorem State.setPort_call (p : Port) (q : PortState) : (s.setPort p q).call = s.call := by
  cases p <;> rfl
@[simp] theorem State.setPort_req (p : Port) (q : PortState) : (s.setPort p q).req = s.req := by
  cases p <;> rfl
@[simp] theorem State.setPort_faultA (p : Port) (q : PortState) : (s.setPort p q).faultA = s.faultA := by
  cases p <;> rfl
@[simp] theorem State.setPort_faultB (p : Port) (q : PortState) : (s.setPort p q).faultB = s.faultB := by
  cases p <;> rfl
@[simp] theorem State.setPort_inReset (p : Port) (q : PortState) : (s.setPort p q).inReset = s.inReset := by
  cases p <;> rfl
@[simp] theorem State.setPort_clock (p : Port) (q : PortState) : (s.setPort p q).clock = s.clock := by
  cases p <;> rfl
@[simp] theorem State.setPort_handed (p : Port) (q : PortState) : (s.setPort p q).handed = s.handed := by
  cases p <;> rfl
@[simp] theorem State.setPort_pending (p : Port) (q : PortState) : (s.setPort p q).pending = s.pending := by
  cases p <;> rfl
@[simp] theorem State.setPort_port_self (p : Port) (q : PortState) : (s.setPort p q).port p = q := by
  cases p <;> rfl
theorem State.setPort_port_ne {p p' : Port} (q : PortState) (h : p ≠ p') :
    (s.setPort p q).port p' = s.port p' := by
  cases p <;> cases p' <;> first | rfl | exact absurd rfl h
@[simp] theorem State.setPort_strap (p : Port) (q : PortState) :
    (s.setPort p q).line.strap = s.line.strap := by
  cases p <;> rfl
@[simp] theorem State.setPort_sides (p : Port) (q : PortState) :
    (s.setPort p q).line.sides = s.line.sides := by
  cases p <;> rfl
@[simp] theorem State.setPort_silence (p : Port) (q : PortState) :
    (s.setPort p q).line.silence = s.line.silence := by
  cases p <;> rfl
@[simp] theorem State.setPort_silenceMs (p : Port) (q : PortState) :
    (s.setPort p q).line.silenceMs = s.line.silenceMs := by
  cases p <;> rfl
@[simp] theorem State.setPort_clashCount (p : Port) (q : PortState) :
    (s.setPort p q).line.clashCount = s.line.clashCount := by
  cases p <;> rfl
@[simp] theorem State.setPort_own (p : Port) (q : PortState) : (s.setPort p q).own = s.own := by
  cases p <;> rfl

/-! ## setEntry -/

@[simp] theorem State.setEntry_line (e : Fin 64) (m : MatchEntry) : (s.setEntry e m).line = s.line := rfl
@[simp] theorem State.setEntry_table (e : Fin 64) (m : MatchEntry) :
    (s.setEntry e m).table = s.table.put e m := rfl
@[simp] theorem State.setEntry_board (e : Fin 64) (m : MatchEntry) : (s.setEntry e m).board = s.board := rfl
@[simp] theorem State.setEntry_scan (e : Fin 64) (m : MatchEntry) : (s.setEntry e m).scan = s.scan := rfl
@[simp] theorem State.setEntry_chans (e : Fin 64) (m : MatchEntry) : (s.setEntry e m).chans = s.chans := rfl
@[simp] theorem State.setEntry_plan (e : Fin 64) (m : MatchEntry) : (s.setEntry e m).plan = s.plan := rfl
@[simp] theorem State.setEntry_door (e : Fin 64) (m : MatchEntry) : (s.setEntry e m).door = s.door := rfl
@[simp] theorem State.setEntry_call (e : Fin 64) (m : MatchEntry) : (s.setEntry e m).call = s.call := rfl
@[simp] theorem State.setEntry_req (e : Fin 64) (m : MatchEntry) : (s.setEntry e m).req = s.req := rfl
@[simp] theorem State.setEntry_faultA (e : Fin 64) (m : MatchEntry) : (s.setEntry e m).faultA = s.faultA := rfl
@[simp] theorem State.setEntry_faultB (e : Fin 64) (m : MatchEntry) : (s.setEntry e m).faultB = s.faultB := rfl
@[simp] theorem State.setEntry_inReset (e : Fin 64) (m : MatchEntry) : (s.setEntry e m).inReset = s.inReset := rfl
@[simp] theorem State.setEntry_clock (e : Fin 64) (m : MatchEntry) : (s.setEntry e m).clock = s.clock := rfl
@[simp] theorem State.setEntry_handed (e : Fin 64) (m : MatchEntry) : (s.setEntry e m).handed = s.handed := rfl
@[simp] theorem State.setEntry_pending (e : Fin 64) (m : MatchEntry) : (s.setEntry e m).pending = s.pending := rfl
@[simp] theorem State.setEntry_own (e : Fin 64) (m : MatchEntry) : (s.setEntry e m).own = s.own := rfl
@[simp] theorem State.setEntry_addressed (e : Fin 64) (m : MatchEntry) :
    (s.setEntry e m).addressed = s.addressed := rfl
@[simp] theorem State.setEntry_cond (e : Fin 64) (m : MatchEntry) (c' : Fin 64) :
    (s.setEntry e m).cond c' = s.cond c' := rfl
@[simp] theorem State.setEntry_term (e : Fin 64) (m : MatchEntry) (t : Fin 32) :
    (s.setEntry e m).term t = s.term t := rfl

/-! ## setRecord -/

@[simp] theorem State.setRecord_line (c : Fin 64) (r : CondRecord) : (s.setRecord c r).line = s.line := rfl
@[simp] theorem State.setRecord_table (c : Fin 64) (r : CondRecord) : (s.setRecord c r).table = s.table := rfl
@[simp] theorem State.setRecord_board (c : Fin 64) (r : CondRecord) :
    (s.setRecord c r).board = { s.board with conds := s.board.conds.put c r } := rfl
@[simp] theorem State.setRecord_scan (c : Fin 64) (r : CondRecord) : (s.setRecord c r).scan = s.scan := rfl
@[simp] theorem State.setRecord_chans (c : Fin 64) (r : CondRecord) : (s.setRecord c r).chans = s.chans := rfl
@[simp] theorem State.setRecord_plan (c : Fin 64) (r : CondRecord) : (s.setRecord c r).plan = s.plan := rfl
@[simp] theorem State.setRecord_door (c : Fin 64) (r : CondRecord) : (s.setRecord c r).door = s.door := rfl
@[simp] theorem State.setRecord_call (c : Fin 64) (r : CondRecord) : (s.setRecord c r).call = s.call := rfl
@[simp] theorem State.setRecord_req (c : Fin 64) (r : CondRecord) : (s.setRecord c r).req = s.req := rfl
@[simp] theorem State.setRecord_faultA (c : Fin 64) (r : CondRecord) : (s.setRecord c r).faultA = s.faultA := rfl
@[simp] theorem State.setRecord_faultB (c : Fin 64) (r : CondRecord) : (s.setRecord c r).faultB = s.faultB := rfl
@[simp] theorem State.setRecord_inReset (c : Fin 64) (r : CondRecord) : (s.setRecord c r).inReset = s.inReset := rfl
@[simp] theorem State.setRecord_clock (c : Fin 64) (r : CondRecord) : (s.setRecord c r).clock = s.clock := rfl
@[simp] theorem State.setRecord_handed (c : Fin 64) (r : CondRecord) : (s.setRecord c r).handed = s.handed := rfl
@[simp] theorem State.setRecord_pending (c : Fin 64) (r : CondRecord) : (s.setRecord c r).pending = s.pending := rfl
@[simp] theorem State.setRecord_own (c : Fin 64) (r : CondRecord) : (s.setRecord c r).own = s.own := rfl
@[simp] theorem State.setRecord_addressed (c : Fin 64) (r : CondRecord) :
    (s.setRecord c r).addressed = s.addressed := rfl

/-! ## setScan -/

@[simp] theorem State.setScan_line (x : Scan) : (s.setScan x).line = s.line := rfl
@[simp] theorem State.setScan_table (x : Scan) : (s.setScan x).table = s.table := rfl
@[simp] theorem State.setScan_board (x : Scan) : (s.setScan x).board = s.board := rfl
@[simp] theorem State.setScan_scan (x : Scan) :
    (s.setScan x).scan = x := rfl
@[simp] theorem State.setScan_chans (x : Scan) : (s.setScan x).chans = s.chans := rfl
@[simp] theorem State.setScan_plan (x : Scan) : (s.setScan x).plan = s.plan := rfl
@[simp] theorem State.setScan_door (x : Scan) : (s.setScan x).door = s.door := rfl
@[simp] theorem State.setScan_call (x : Scan) : (s.setScan x).call = s.call := rfl
@[simp] theorem State.setScan_req (x : Scan) : (s.setScan x).req = s.req := rfl
@[simp] theorem State.setScan_faultA (x : Scan) : (s.setScan x).faultA = s.faultA := rfl
@[simp] theorem State.setScan_faultB (x : Scan) : (s.setScan x).faultB = s.faultB := rfl
@[simp] theorem State.setScan_inReset (x : Scan) : (s.setScan x).inReset = s.inReset := rfl
@[simp] theorem State.setScan_clock (x : Scan) : (s.setScan x).clock = s.clock := rfl
@[simp] theorem State.setScan_handed (x : Scan) : (s.setScan x).handed = s.handed := rfl
@[simp] theorem State.setScan_pending (x : Scan) : (s.setScan x).pending = s.pending := rfl
@[simp] theorem State.setScan_own (x : Scan) : (s.setScan x).own = s.own := rfl
@[simp] theorem State.setScan_addressed (x : Scan) :
    (s.setScan x).addressed = s.addressed := rfl
@[simp] theorem State.setScan_cond (x : Scan) (c' : Fin 64) :
    (s.setScan x).cond c' = s.cond c' := rfl
@[simp] theorem State.setScan_term (x : Scan) (t : Fin 32) :
    (s.setScan x).term t = s.term t := rfl

/-! ## setChan -/

@[simp] theorem State.setChan_line (ch : Fin 16) (c : Channel) : (s.setChan ch c).line = s.line := rfl
@[simp] theorem State.setChan_table (ch : Fin 16) (c : Channel) : (s.setChan ch c).table = s.table := rfl
@[simp] theorem State.setChan_board (ch : Fin 16) (c : Channel) : (s.setChan ch c).board = s.board := rfl
@[simp] theorem State.setChan_scan (ch : Fin 16) (c : Channel) : (s.setChan ch c).scan = s.scan := rfl
@[simp] theorem State.setChan_chans (ch : Fin 16) (c : Channel) :
    (s.setChan ch c).chans = s.chans.put ch c := rfl
@[simp] theorem State.setChan_plan (ch : Fin 16) (c : Channel) : (s.setChan ch c).plan = s.plan := rfl
@[simp] theorem State.setChan_door (ch : Fin 16) (c : Channel) : (s.setChan ch c).door = s.door := rfl
@[simp] theorem State.setChan_call (ch : Fin 16) (c : Channel) : (s.setChan ch c).call = s.call := rfl
@[simp] theorem State.setChan_req (ch : Fin 16) (c : Channel) : (s.setChan ch c).req = s.req := rfl
@[simp] theorem State.setChan_faultA (ch : Fin 16) (c : Channel) : (s.setChan ch c).faultA = s.faultA := rfl
@[simp] theorem State.setChan_faultB (ch : Fin 16) (c : Channel) : (s.setChan ch c).faultB = s.faultB := rfl
@[simp] theorem State.setChan_inReset (ch : Fin 16) (c : Channel) : (s.setChan ch c).inReset = s.inReset := rfl
@[simp] theorem State.setChan_clock (ch : Fin 16) (c : Channel) : (s.setChan ch c).clock = s.clock := rfl
@[simp] theorem State.setChan_handed (ch : Fin 16) (c : Channel) : (s.setChan ch c).handed = s.handed := rfl
@[simp] theorem State.setChan_pending (ch : Fin 16) (c : Channel) : (s.setChan ch c).pending = s.pending := rfl
@[simp] theorem State.setChan_own (ch : Fin 16) (c : Channel) : (s.setChan ch c).own = s.own := rfl
@[simp] theorem State.setChan_addressed (ch : Fin 16) (c : Channel) :
    (s.setChan ch c).addressed = s.addressed := rfl
@[simp] theorem State.setChan_cond (ch : Fin 16) (c : Channel) (c' : Fin 64) :
    (s.setChan ch c).cond c' = s.cond c' := rfl
@[simp] theorem State.setChan_term (ch : Fin 16) (c : Channel) (t : Fin 32) :
    (s.setChan ch c).term t = s.term t := rfl

/-! ## setChans -/

@[simp] theorem State.setChans_line (cs : Tbl Channel 16) : (s.setChans cs).line = s.line := rfl
@[simp] theorem State.setChans_table (cs : Tbl Channel 16) : (s.setChans cs).table = s.table := rfl
@[simp] theorem State.setChans_board (cs : Tbl Channel 16) : (s.setChans cs).board = s.board := rfl
@[simp] theorem State.setChans_scan (cs : Tbl Channel 16) : (s.setChans cs).scan = s.scan := rfl
@[simp] theorem State.setChans_chans (cs : Tbl Channel 16) :
    (s.setChans cs).chans = cs := rfl
@[simp] theorem State.setChans_plan (cs : Tbl Channel 16) : (s.setChans cs).plan = s.plan := rfl
@[simp] theorem State.setChans_door (cs : Tbl Channel 16) : (s.setChans cs).door = s.door := rfl
@[simp] theorem State.setChans_call (cs : Tbl Channel 16) : (s.setChans cs).call = s.call := rfl
@[simp] theorem State.setChans_req (cs : Tbl Channel 16) : (s.setChans cs).req = s.req := rfl
@[simp] theorem State.setChans_faultA (cs : Tbl Channel 16) : (s.setChans cs).faultA = s.faultA := rfl
@[simp] theorem State.setChans_faultB (cs : Tbl Channel 16) : (s.setChans cs).faultB = s.faultB := rfl
@[simp] theorem State.setChans_inReset (cs : Tbl Channel 16) : (s.setChans cs).inReset = s.inReset := rfl
@[simp] theorem State.setChans_clock (cs : Tbl Channel 16) : (s.setChans cs).clock = s.clock := rfl
@[simp] theorem State.setChans_handed (cs : Tbl Channel 16) : (s.setChans cs).handed = s.handed := rfl
@[simp] theorem State.setChans_pending (cs : Tbl Channel 16) : (s.setChans cs).pending = s.pending := rfl
@[simp] theorem State.setChans_own (cs : Tbl Channel 16) : (s.setChans cs).own = s.own := rfl
@[simp] theorem State.setChans_addressed (cs : Tbl Channel 16) :
    (s.setChans cs).addressed = s.addressed := rfl
@[simp] theorem State.setChans_cond (cs : Tbl Channel 16) (c' : Fin 64) :
    (s.setChans cs).cond c' = s.cond c' := rfl
@[simp] theorem State.setChans_term (cs : Tbl Channel 16) (t : Fin 32) :
    (s.setChans cs).term t = s.term t := rfl

/-! ## setRamp -/

@[simp] theorem State.setRamp_line (r : Fin 4) (x : Ramp) : (s.setRamp r x).line = s.line := rfl
@[simp] theorem State.setRamp_table (r : Fin 4) (x : Ramp) : (s.setRamp r x).table = s.table := rfl
@[simp] theorem State.setRamp_board (r : Fin 4) (x : Ramp) : (s.setRamp r x).board = s.board := rfl
@[simp] theorem State.setRamp_scan (r : Fin 4) (x : Ramp) : (s.setRamp r x).scan = s.scan := rfl
@[simp] theorem State.setRamp_chans (r : Fin 4) (x : Ramp) : (s.setRamp r x).chans = s.chans := rfl
@[simp] theorem State.setRamp_plan (r : Fin 4) (x : Ramp) :
    (s.setRamp r x).plan = { s.plan with ramps := s.plan.ramps.put r x } := rfl
@[simp] theorem State.setRamp_door (r : Fin 4) (x : Ramp) : (s.setRamp r x).door = s.door := rfl
@[simp] theorem State.setRamp_call (r : Fin 4) (x : Ramp) : (s.setRamp r x).call = s.call := rfl
@[simp] theorem State.setRamp_req (r : Fin 4) (x : Ramp) : (s.setRamp r x).req = s.req := rfl
@[simp] theorem State.setRamp_faultA (r : Fin 4) (x : Ramp) : (s.setRamp r x).faultA = s.faultA := rfl
@[simp] theorem State.setRamp_faultB (r : Fin 4) (x : Ramp) : (s.setRamp r x).faultB = s.faultB := rfl
@[simp] theorem State.setRamp_inReset (r : Fin 4) (x : Ramp) : (s.setRamp r x).inReset = s.inReset := rfl
@[simp] theorem State.setRamp_clock (r : Fin 4) (x : Ramp) : (s.setRamp r x).clock = s.clock := rfl
@[simp] theorem State.setRamp_handed (r : Fin 4) (x : Ramp) : (s.setRamp r x).handed = s.handed := rfl
@[simp] theorem State.setRamp_pending (r : Fin 4) (x : Ramp) : (s.setRamp r x).pending = s.pending := rfl
@[simp] theorem State.setRamp_own (r : Fin 4) (x : Ramp) : (s.setRamp r x).own = s.own := rfl
@[simp] theorem State.setRamp_addressed (r : Fin 4) (x : Ramp) :
    (s.setRamp r x).addressed = s.addressed := rfl
@[simp] theorem State.setRamp_cond (r : Fin 4) (x : Ramp) (c' : Fin 64) :
    (s.setRamp r x).cond c' = s.cond c' := rfl
@[simp] theorem State.setRamp_term (r : Fin 4) (x : Ramp) (t : Fin 32) :
    (s.setRamp r x).term t = s.term t := rfl

/-! ## setDoor -/

@[simp] theorem State.setDoor_line (d : Fin 24) (x : Door) : (s.setDoor d x).line = s.line := rfl
@[simp] theorem State.setDoor_table (d : Fin 24) (x : Door) : (s.setDoor d x).table = s.table := rfl
@[simp] theorem State.setDoor_board (d : Fin 24) (x : Door) : (s.setDoor d x).board = s.board := rfl
@[simp] theorem State.setDoor_scan (d : Fin 24) (x : Door) : (s.setDoor d x).scan = s.scan := rfl
@[simp] theorem State.setDoor_chans (d : Fin 24) (x : Door) : (s.setDoor d x).chans = s.chans := rfl
@[simp] theorem State.setDoor_plan (d : Fin 24) (x : Door) : (s.setDoor d x).plan = s.plan := rfl
@[simp] theorem State.setDoor_door (d : Fin 24) (x : Door) :
    (s.setDoor d x).door = { s.door with doors := s.door.doors.put d x } := rfl
@[simp] theorem State.setDoor_call (d : Fin 24) (x : Door) : (s.setDoor d x).call = s.call := rfl
@[simp] theorem State.setDoor_req (d : Fin 24) (x : Door) : (s.setDoor d x).req = s.req := rfl
@[simp] theorem State.setDoor_faultA (d : Fin 24) (x : Door) : (s.setDoor d x).faultA = s.faultA := rfl
@[simp] theorem State.setDoor_faultB (d : Fin 24) (x : Door) : (s.setDoor d x).faultB = s.faultB := rfl
@[simp] theorem State.setDoor_inReset (d : Fin 24) (x : Door) : (s.setDoor d x).inReset = s.inReset := rfl
@[simp] theorem State.setDoor_clock (d : Fin 24) (x : Door) : (s.setDoor d x).clock = s.clock := rfl
@[simp] theorem State.setDoor_handed (d : Fin 24) (x : Door) : (s.setDoor d x).handed = s.handed := rfl
@[simp] theorem State.setDoor_pending (d : Fin 24) (x : Door) : (s.setDoor d x).pending = s.pending := rfl
@[simp] theorem State.setDoor_own (d : Fin 24) (x : Door) : (s.setDoor d x).own = s.own := rfl
@[simp] theorem State.setDoor_addressed (d : Fin 24) (x : Door) :
    (s.setDoor d x).addressed = s.addressed := rfl
@[simp] theorem State.setDoor_cond (d : Fin 24) (x : Door) (c' : Fin 64) :
    (s.setDoor d x).cond c' = s.cond c' := rfl
@[simp] theorem State.setDoor_term (d : Fin 24) (x : Door) (t : Fin 32) :
    (s.setDoor d x).term t = s.term t := rfl

/-! ## setCall -/

@[simp] theorem State.setCall_line (x : Call) : (s.setCall x).line = s.line := rfl
@[simp] theorem State.setCall_table (x : Call) : (s.setCall x).table = s.table := rfl
@[simp] theorem State.setCall_board (x : Call) : (s.setCall x).board = s.board := rfl
@[simp] theorem State.setCall_scan (x : Call) : (s.setCall x).scan = s.scan := rfl
@[simp] theorem State.setCall_chans (x : Call) : (s.setCall x).chans = s.chans := rfl
@[simp] theorem State.setCall_plan (x : Call) : (s.setCall x).plan = s.plan := rfl
@[simp] theorem State.setCall_door (x : Call) : (s.setCall x).door = s.door := rfl
@[simp] theorem State.setCall_call (x : Call) :
    (s.setCall x).call = x := rfl
@[simp] theorem State.setCall_req (x : Call) : (s.setCall x).req = s.req := rfl
@[simp] theorem State.setCall_faultA (x : Call) : (s.setCall x).faultA = s.faultA := rfl
@[simp] theorem State.setCall_faultB (x : Call) : (s.setCall x).faultB = s.faultB := rfl
@[simp] theorem State.setCall_inReset (x : Call) : (s.setCall x).inReset = s.inReset := rfl
@[simp] theorem State.setCall_clock (x : Call) : (s.setCall x).clock = s.clock := rfl
@[simp] theorem State.setCall_handed (x : Call) : (s.setCall x).handed = s.handed := rfl
@[simp] theorem State.setCall_pending (x : Call) : (s.setCall x).pending = s.pending := rfl
@[simp] theorem State.setCall_own (x : Call) : (s.setCall x).own = s.own := rfl
@[simp] theorem State.setCall_addressed (x : Call) :
    (s.setCall x).addressed = s.addressed := rfl
@[simp] theorem State.setCall_cond (x : Call) (c' : Fin 64) :
    (s.setCall x).cond c' = s.cond c' := rfl
@[simp] theorem State.setCall_term (x : Call) (t : Fin 32) :
    (s.setCall x).term t = s.term t := rfl

/-! ## setSlot -/

@[simp] theorem State.setSlot_line (k : Fin 16) (x : Option Slot) : (s.setSlot k x).line = s.line := rfl
@[simp] theorem State.setSlot_table (k : Fin 16) (x : Option Slot) : (s.setSlot k x).table = s.table := rfl
@[simp] theorem State.setSlot_board (k : Fin 16) (x : Option Slot) : (s.setSlot k x).board = s.board := rfl
@[simp] theorem State.setSlot_scan (k : Fin 16) (x : Option Slot) : (s.setSlot k x).scan = s.scan := rfl
@[simp] theorem State.setSlot_chans (k : Fin 16) (x : Option Slot) : (s.setSlot k x).chans = s.chans := rfl
@[simp] theorem State.setSlot_plan (k : Fin 16) (x : Option Slot) : (s.setSlot k x).plan = s.plan := rfl
@[simp] theorem State.setSlot_door (k : Fin 16) (x : Option Slot) : (s.setSlot k x).door = s.door := rfl
@[simp] theorem State.setSlot_call (k : Fin 16) (x : Option Slot) :
    (s.setSlot k x).call = { s.call with slots := s.call.slots.put k x } := rfl
@[simp] theorem State.setSlot_req (k : Fin 16) (x : Option Slot) : (s.setSlot k x).req = s.req := rfl
@[simp] theorem State.setSlot_faultA (k : Fin 16) (x : Option Slot) : (s.setSlot k x).faultA = s.faultA := rfl
@[simp] theorem State.setSlot_faultB (k : Fin 16) (x : Option Slot) : (s.setSlot k x).faultB = s.faultB := rfl
@[simp] theorem State.setSlot_inReset (k : Fin 16) (x : Option Slot) : (s.setSlot k x).inReset = s.inReset := rfl
@[simp] theorem State.setSlot_clock (k : Fin 16) (x : Option Slot) : (s.setSlot k x).clock = s.clock := rfl
@[simp] theorem State.setSlot_handed (k : Fin 16) (x : Option Slot) : (s.setSlot k x).handed = s.handed := rfl
@[simp] theorem State.setSlot_pending (k : Fin 16) (x : Option Slot) : (s.setSlot k x).pending = s.pending := rfl
@[simp] theorem State.setSlot_own (k : Fin 16) (x : Option Slot) : (s.setSlot k x).own = s.own := rfl
@[simp] theorem State.setSlot_addressed (k : Fin 16) (x : Option Slot) :
    (s.setSlot k x).addressed = s.addressed := rfl
@[simp] theorem State.setSlot_cond (k : Fin 16) (x : Option Slot) (c' : Fin 64) :
    (s.setSlot k x).cond c' = s.cond c' := rfl
@[simp] theorem State.setSlot_term (k : Fin 16) (x : Option Slot) (t : Fin 32) :
    (s.setSlot k x).term t = s.term t := rfl

/-! ## setHolder -/

@[simp] theorem State.setHolder_line (z : Fin 16) (h : Option (Fin 16)) : (s.setHolder z h).line = s.line := rfl
@[simp] theorem State.setHolder_table (z : Fin 16) (h : Option (Fin 16)) : (s.setHolder z h).table = s.table := rfl
@[simp] theorem State.setHolder_board (z : Fin 16) (h : Option (Fin 16)) : (s.setHolder z h).board = s.board := rfl
@[simp] theorem State.setHolder_scan (z : Fin 16) (h : Option (Fin 16)) : (s.setHolder z h).scan = s.scan := rfl
@[simp] theorem State.setHolder_chans (z : Fin 16) (h : Option (Fin 16)) : (s.setHolder z h).chans = s.chans := rfl
@[simp] theorem State.setHolder_plan (z : Fin 16) (h : Option (Fin 16)) : (s.setHolder z h).plan = s.plan := rfl
@[simp] theorem State.setHolder_door (z : Fin 16) (h : Option (Fin 16)) : (s.setHolder z h).door = s.door := rfl
@[simp] theorem State.setHolder_call (z : Fin 16) (h : Option (Fin 16)) :
    (s.setHolder z h).call = { s.call with
      zones := s.call.zones.put z { s.call.zones.row z with holder := h } } := rfl
@[simp] theorem State.setHolder_req (z : Fin 16) (h : Option (Fin 16)) : (s.setHolder z h).req = s.req := rfl
@[simp] theorem State.setHolder_faultA (z : Fin 16) (h : Option (Fin 16)) : (s.setHolder z h).faultA = s.faultA := rfl
@[simp] theorem State.setHolder_faultB (z : Fin 16) (h : Option (Fin 16)) : (s.setHolder z h).faultB = s.faultB := rfl
@[simp] theorem State.setHolder_inReset (z : Fin 16) (h : Option (Fin 16)) : (s.setHolder z h).inReset = s.inReset := rfl
@[simp] theorem State.setHolder_clock (z : Fin 16) (h : Option (Fin 16)) : (s.setHolder z h).clock = s.clock := rfl
@[simp] theorem State.setHolder_handed (z : Fin 16) (h : Option (Fin 16)) : (s.setHolder z h).handed = s.handed := rfl
@[simp] theorem State.setHolder_pending (z : Fin 16) (h : Option (Fin 16)) : (s.setHolder z h).pending = s.pending := rfl
@[simp] theorem State.setHolder_own (z : Fin 16) (h : Option (Fin 16)) : (s.setHolder z h).own = s.own := rfl
@[simp] theorem State.setHolder_addressed (z : Fin 16) (h : Option (Fin 16)) :
    (s.setHolder z h).addressed = s.addressed := rfl
@[simp] theorem State.setHolder_cond (z : Fin 16) (h : Option (Fin 16)) (c' : Fin 64) :
    (s.setHolder z h).cond c' = s.cond c' := rfl
@[simp] theorem State.setHolder_term (z : Fin 16) (h : Option (Fin 16)) (t : Fin 32) :
    (s.setHolder z h).term t = s.term t := rfl

/-! ## setReq -/

@[simp] theorem State.setReq_line (x : Req) : (s.setReq x).line = s.line := rfl
@[simp] theorem State.setReq_table (x : Req) : (s.setReq x).table = s.table := rfl
@[simp] theorem State.setReq_board (x : Req) : (s.setReq x).board = s.board := rfl
@[simp] theorem State.setReq_scan (x : Req) : (s.setReq x).scan = s.scan := rfl
@[simp] theorem State.setReq_chans (x : Req) : (s.setReq x).chans = s.chans := rfl
@[simp] theorem State.setReq_plan (x : Req) : (s.setReq x).plan = s.plan := rfl
@[simp] theorem State.setReq_door (x : Req) : (s.setReq x).door = s.door := rfl
@[simp] theorem State.setReq_call (x : Req) : (s.setReq x).call = s.call := rfl
@[simp] theorem State.setReq_req (x : Req) :
    (s.setReq x).req = x := rfl
@[simp] theorem State.setReq_faultA (x : Req) : (s.setReq x).faultA = s.faultA := rfl
@[simp] theorem State.setReq_faultB (x : Req) : (s.setReq x).faultB = s.faultB := rfl
@[simp] theorem State.setReq_inReset (x : Req) : (s.setReq x).inReset = s.inReset := rfl
@[simp] theorem State.setReq_clock (x : Req) : (s.setReq x).clock = s.clock := rfl
@[simp] theorem State.setReq_handed (x : Req) : (s.setReq x).handed = s.handed := rfl
@[simp] theorem State.setReq_pending (x : Req) : (s.setReq x).pending = s.pending := rfl
@[simp] theorem State.setReq_own (x : Req) : (s.setReq x).own = s.own := rfl
@[simp] theorem State.setReq_addressed (x : Req) :
    (s.setReq x).addressed = s.addressed := rfl
@[simp] theorem State.setReq_cond (x : Req) (c' : Fin 64) :
    (s.setReq x).cond c' = s.cond c' := rfl
@[simp] theorem State.setReq_term (x : Req) (t : Fin 32) :
    (s.setReq x).term t = s.term t := rfl

/-! ## hand -/

@[simp] theorem State.hand_line (i : Instr) : (s.hand i).line = s.line := rfl
@[simp] theorem State.hand_table (i : Instr) : (s.hand i).table = s.table := rfl
@[simp] theorem State.hand_board (i : Instr) : (s.hand i).board = s.board := rfl
@[simp] theorem State.hand_scan (i : Instr) : (s.hand i).scan = s.scan := rfl
@[simp] theorem State.hand_chans (i : Instr) : (s.hand i).chans = s.chans := rfl
@[simp] theorem State.hand_plan (i : Instr) : (s.hand i).plan = s.plan := rfl
@[simp] theorem State.hand_door (i : Instr) : (s.hand i).door = s.door := rfl
@[simp] theorem State.hand_call (i : Instr) : (s.hand i).call = s.call := rfl
@[simp] theorem State.hand_req (i : Instr) : (s.hand i).req = s.req := rfl
@[simp] theorem State.hand_faultA (i : Instr) : (s.hand i).faultA = s.faultA := rfl
@[simp] theorem State.hand_faultB (i : Instr) : (s.hand i).faultB = s.faultB := rfl
@[simp] theorem State.hand_inReset (i : Instr) : (s.hand i).inReset = s.inReset := rfl
@[simp] theorem State.hand_clock (i : Instr) : (s.hand i).clock = s.clock := rfl
@[simp] theorem State.hand_handed (i : Instr) :
    (s.hand i).handed = s.handed ++ [i] := rfl
@[simp] theorem State.hand_pending (i : Instr) : (s.hand i).pending = s.pending := rfl
@[simp] theorem State.hand_own (i : Instr) : (s.hand i).own = s.own := rfl
@[simp] theorem State.hand_addressed (i : Instr) :
    (s.hand i).addressed = s.addressed := rfl
@[simp] theorem State.hand_cond (i : Instr) (c' : Fin 64) :
    (s.hand i).cond c' = s.cond c' := rfl
@[simp] theorem State.hand_term (i : Instr) (t : Fin 32) :
    (s.hand i).term t = s.term t := rfl

/-! ## handAll -/

@[simp] theorem State.handAll_line (is : List Instr) : (s.handAll is).line = s.line := rfl
@[simp] theorem State.handAll_table (is : List Instr) : (s.handAll is).table = s.table := rfl
@[simp] theorem State.handAll_board (is : List Instr) : (s.handAll is).board = s.board := rfl
@[simp] theorem State.handAll_scan (is : List Instr) : (s.handAll is).scan = s.scan := rfl
@[simp] theorem State.handAll_chans (is : List Instr) : (s.handAll is).chans = s.chans := rfl
@[simp] theorem State.handAll_plan (is : List Instr) : (s.handAll is).plan = s.plan := rfl
@[simp] theorem State.handAll_door (is : List Instr) : (s.handAll is).door = s.door := rfl
@[simp] theorem State.handAll_call (is : List Instr) : (s.handAll is).call = s.call := rfl
@[simp] theorem State.handAll_req (is : List Instr) : (s.handAll is).req = s.req := rfl
@[simp] theorem State.handAll_faultA (is : List Instr) : (s.handAll is).faultA = s.faultA := rfl
@[simp] theorem State.handAll_faultB (is : List Instr) : (s.handAll is).faultB = s.faultB := rfl
@[simp] theorem State.handAll_inReset (is : List Instr) : (s.handAll is).inReset = s.inReset := rfl
@[simp] theorem State.handAll_clock (is : List Instr) : (s.handAll is).clock = s.clock := rfl
@[simp] theorem State.handAll_handed (is : List Instr) :
    (s.handAll is).handed = s.handed ++ is := rfl
@[simp] theorem State.handAll_pending (is : List Instr) : (s.handAll is).pending = s.pending := rfl
@[simp] theorem State.handAll_own (is : List Instr) : (s.handAll is).own = s.own := rfl
@[simp] theorem State.handAll_addressed (is : List Instr) :
    (s.handAll is).addressed = s.addressed := rfl
@[simp] theorem State.handAll_cond (is : List Instr) (c' : Fin 64) :
    (s.handAll is).cond c' = s.cond c' := rfl
@[simp] theorem State.handAll_term (is : List Instr) (t : Fin 32) :
    (s.handAll is).term t = s.term t := rfl

/-! ## take -/

@[simp] theorem State.take_line (i : Instr) : (s.take i).line = s.line := rfl
@[simp] theorem State.take_table (i : Instr) : (s.take i).table = s.table := rfl
@[simp] theorem State.take_board (i : Instr) : (s.take i).board = s.board := rfl
@[simp] theorem State.take_scan (i : Instr) : (s.take i).scan = s.scan := rfl
@[simp] theorem State.take_chans (i : Instr) : (s.take i).chans = s.chans := rfl
@[simp] theorem State.take_plan (i : Instr) : (s.take i).plan = s.plan := rfl
@[simp] theorem State.take_door (i : Instr) : (s.take i).door = s.door := rfl
@[simp] theorem State.take_call (i : Instr) : (s.take i).call = s.call := rfl
@[simp] theorem State.take_req (i : Instr) : (s.take i).req = s.req := rfl
@[simp] theorem State.take_faultA (i : Instr) : (s.take i).faultA = s.faultA := rfl
@[simp] theorem State.take_faultB (i : Instr) : (s.take i).faultB = s.faultB := rfl
@[simp] theorem State.take_inReset (i : Instr) : (s.take i).inReset = s.inReset := rfl
@[simp] theorem State.take_clock (i : Instr) : (s.take i).clock = s.clock := rfl
@[simp] theorem State.take_handed (i : Instr) :
    (s.take i).handed = s.handed.erase i := rfl
@[simp] theorem State.take_pending (i : Instr) : (s.take i).pending = s.pending := rfl
@[simp] theorem State.take_own (i : Instr) : (s.take i).own = s.own := rfl
@[simp] theorem State.take_addressed (i : Instr) :
    (s.take i).addressed = s.addressed := rfl
@[simp] theorem State.take_cond (i : Instr) (c' : Fin 64) :
    (s.take i).cond c' = s.cond c' := rfl
@[simp] theorem State.take_term (i : Instr) (t : Fin 32) :
    (s.take i).term t = s.term t := rfl

end Sys2Proof.Machine
end

