-- ==== Sys2Proof/Laws/Ops.lean ====
section
/-! SUPPORT. What the operations that every block shares can do: taking an event, offering and building
frames, REPLY, notice events, and changing a condition. -/

namespace Sys2Proof.Machine
variable (s : State)

/-- A fold of steps that keep a view keeps the view. -/
theorem foldl_keeps {α β γ : Type} (g : α → γ) (f : α → β → α) (h : ∀ a b, g (f a b) = g a) (l : List β)
    (a : α) : g (l.foldl f a) = g a := by
  induction l generalizing a with
  | nil => rfl
  | cons b l ih => rw [List.foldl_cons, ih, h]

/-- A fold of steps that keep a fact keeps the fact. -/
theorem foldl_holds {α β : Type} (P : α → Prop) (f : α → β → α) (h : ∀ a b, P a → P (f a b)) (l : List β)
    (a : α) (ha : P a) : P (l.foldl f a) := by
  induction l generalizing a with
  | nil => exact ha
  | cons b l ih => exact ih _ (h a b ha)

/-! ## Taking an event -/

theorem event_of_reset (c : Instr) (f : State → State) (h : s.inReset = true) :
    event c f s = .next s := by
  simp [event, h]
theorem event_of_running (c : Instr) (f : State → State) (h : s.inReset = false) :
    event c f s = .next (f (s.take c)) := by
  simp [event, h]
@[simp] theorem asRequest_addressed (f : State → State) (h : s.addressed = true) :
    asRequest f s = f s := by
  simp [asRequest, h]

/-! ## Frames -/

@[simp] theorem State.offer_table (p : Port) (f : Frame) :
    (s.offer p f).table = s.table := by
  simp [State.offer]
@[simp] theorem State.offer_board (p : Port) (f : Frame) :
    (s.offer p f).board = s.board := by
  simp [State.offer]
@[simp] theorem State.offer_scan (p : Port) (f : Frame) :
    (s.offer p f).scan = s.scan := by
  simp [State.offer]
@[simp] theorem State.offer_chans (p : Port) (f : Frame) :
    (s.offer p f).chans = s.chans := by
  simp [State.offer]
@[simp] theorem State.offer_plan (p : Port) (f : Frame) :
    (s.offer p f).plan = s.plan := by
  simp [State.offer]
@[simp] theorem State.offer_door (p : Port) (f : Frame) :
    (s.offer p f).door = s.door := by
  simp [State.offer]
@[simp] theorem State.offer_call (p : Port) (f : Frame) :
    (s.offer p f).call = s.call := by
  simp [State.offer]
@[simp] theorem State.offer_req (p : Port) (f : Frame) :
    (s.offer p f).req = s.req := by
  simp [State.offer]
@[simp] theorem State.offer_faultA (p : Port) (f : Frame) :
    (s.offer p f).faultA = s.faultA := by
  simp [State.offer]
@[simp] theorem State.offer_faultB (p : Port) (f : Frame) :
    (s.offer p f).faultB = s.faultB := by
  simp [State.offer]
@[simp] theorem State.offer_inReset (p : Port) (f : Frame) :
    (s.offer p f).inReset = s.inReset := by
  simp [State.offer]
@[simp] theorem State.offer_clock (p : Port) (f : Frame) :
    (s.offer p f).clock = s.clock := by
  simp [State.offer]
@[simp] theorem State.offer_handed (p : Port) (f : Frame) :
    (s.offer p f).handed = s.handed := by
  simp [State.offer]
@[simp] theorem State.offer_pending (p : Port) (f : Frame) :
    (s.offer p f).pending = s.pending := by
  simp [State.offer]
@[simp] theorem State.offer_line_sides (p : Port) (f : Frame) :
    (s.offer p f).line.sides = s.line.sides := by
  simp [State.offer]
@[simp] theorem State.offer_line_strap (p : Port) (f : Frame) :
    (s.offer p f).line.strap = s.line.strap := by
  simp [State.offer]
@[simp] theorem State.offer_line_silence (p : Port) (f : Frame) :
    (s.offer p f).line.silence = s.line.silence := by
  simp [State.offer]
@[simp] theorem State.offer_line_silenceMs (p : Port) (f : Frame) :
    (s.offer p f).line.silenceMs = s.line.silenceMs := by
  simp [State.offer]
@[simp] theorem State.offer_line_clashCount (p : Port) (f : Frame) :
    (s.offer p f).line.clashCount = s.line.clashCount := by
  simp [State.offer]
@[simp] theorem State.offer_own (p : Port) (f : Frame) :
    (s.offer p f).own = s.own := by
  simp [State.offer]

theorem State.offer_port_self (p : Port) (f : Frame) : (s.offer p f).port p = (s.port p).offer f := by
  simp [State.offer]
theorem State.offer_port_ne {p p' : Port} (f : Frame) (h : p ≠ p') : (s.offer p f).port p' = s.port p' := by
  simp [State.offer, State.setPort_port_ne s _ h]

/-- What holds of a state and survives every offer of a frame holds after the part has built one. -/
theorem State.emit_holds (P : State → Prop) (h : ∀ (s : State) (p : Port) (f : Frame), P s → P (s.offer p f))
    (dst kind tag : Byte) (payload : List Byte) (hs : P s) : P (s.emit dst kind tag payload) := by
  unfold State.emit
  split
  · exact hs
  · exact foldl_holds P _ (fun s p => h s p _) _ _ hs
/-- What every offer of a frame keeps, the building of one keeps. -/
theorem State.emit_keeps {γ : Type} (g : State → γ) (h : ∀ (s : State) (p : Port) (f : Frame), g (s.offer p f) = g s)
    (dst kind tag : Byte) (payload : List Byte) : g (s.emit dst kind tag payload) = g s :=
  s.emit_holds (fun x => g x = g s) (fun x p f e => (h x p f).trans e) dst kind tag payload rfl

@[simp] theorem State.emit_table (dst kind tag : Byte) (payload : List Byte) :
    (s.emit dst kind tag payload).table = s.table :=
  s.emit_keeps (fun x => x.table) (fun _ _ _ => by simp) _ _ _ _
@[simp] theorem State.emit_board (dst kind tag : Byte) (payload : List Byte) :
    (s.emit dst kind tag payload).board = s.board :=
  s.emit_keeps (fun x => x.board) (fun _ _ _ => by simp) _ _ _ _
@[simp] theorem State.emit_scan (dst kind tag : Byte) (payload : List Byte) :
    (s.emit dst kind tag payload).scan = s.scan :=
  s.emit_keeps (fun x => x.scan) (fun _ _ _ => by simp) _ _ _ _
@[simp] theorem State.emit_chans (dst kind tag : Byte) (payload : List Byte) :
    (s.emit dst kind tag payload).chans = s.chans :=
  s.emit_keeps (fun x => x.chans) (fun _ _ _ => by simp) _ _ _ _
@[simp] theorem State.emit_plan (dst kind tag : Byte) (payload : List Byte) :
    (s.emit dst kind tag payload).plan = s.plan :=
  s.emit_keeps (fun x => x.plan) (fun _ _ _ => by simp) _ _ _ _
@[simp] theorem State.emit_door (dst kind tag : Byte) (payload : List Byte) :
    (s.emit dst kind tag payload).door = s.door :=
  s.emit_keeps (fun x => x.door) (fun _ _ _ => by simp) _ _ _ _
@[simp] theorem State.emit_call (dst kind tag : Byte) (payload : List Byte) :
    (s.emit dst kind tag payload).call = s.call :=
  s.emit_keeps (fun x => x.call) (fun _ _ _ => by simp) _ _ _ _
@[simp] theorem State.emit_req (dst kind tag : Byte) (payload : List Byte) :
    (s.emit dst kind tag payload).req = s.req :=
  s.emit_keeps (fun x => x.req) (fun _ _ _ => by simp) _ _ _ _
@[simp] theorem State.emit_faultA (dst kind tag : Byte) (payload : List Byte) :
    (s.emit dst kind tag payload).faultA = s.faultA :=
  s.emit_keeps (fun x => x.faultA) (fun _ _ _ => by simp) _ _ _ _
@[simp] theorem State.emit_faultB (dst kind tag : Byte) (payload : List Byte) :
    (s.emit dst kind tag payload).faultB = s.faultB :=
  s.emit_keeps (fun x => x.faultB) (fun _ _ _ => by simp) _ _ _ _
@[simp] theorem State.emit_inReset (dst kind tag : Byte) (payload : List Byte) :
    (s.emit dst kind tag payload).inReset = s.inReset :=
  s.emit_keeps (fun x => x.inReset) (fun _ _ _ => by simp) _ _ _ _
@[simp] theorem State.emit_clock (dst kind tag : Byte) (payload : List Byte) :
    (s.emit dst kind tag payload).clock = s.clock :=
  s.emit_keeps (fun x => x.clock) (fun _ _ _ => by simp) _ _ _ _
@[simp] theorem State.emit_handed (dst kind tag : Byte) (payload : List Byte) :
    (s.emit dst kind tag payload).handed = s.handed :=
  s.emit_keeps (fun x => x.handed) (fun _ _ _ => by simp) _ _ _ _
@[simp] theorem State.emit_pending (dst kind tag : Byte) (payload : List Byte) :
    (s.emit dst kind tag payload).pending = s.pending :=
  s.emit_keeps (fun x => x.pending) (fun _ _ _ => by simp) _ _ _ _
@[simp] theorem State.emit_line_sides (dst kind tag : Byte) (payload : List Byte) :
    (s.emit dst kind tag payload).line.sides = s.line.sides :=
  s.emit_keeps (fun x => x.line.sides) (fun _ _ _ => by simp) _ _ _ _
@[simp] theorem State.emit_line_strap (dst kind tag : Byte) (payload : List Byte) :
    (s.emit dst kind tag payload).line.strap = s.line.strap :=
  s.emit_keeps (fun x => x.line.strap) (fun _ _ _ => by simp) _ _ _ _
@[simp] theorem State.emit_line_silence (dst kind tag : Byte) (payload : List Byte) :
    (s.emit dst kind tag payload).line.silence = s.line.silence :=
  s.emit_keeps (fun x => x.line.silence) (fun _ _ _ => by simp) _ _ _ _
@[simp] theorem State.emit_line_silenceMs (dst kind tag : Byte) (payload : List Byte) :
    (s.emit dst kind tag payload).line.silenceMs = s.line.silenceMs :=
  s.emit_keeps (fun x => x.line.silenceMs) (fun _ _ _ => by simp) _ _ _ _
@[simp] theorem State.emit_line_clashCount (dst kind tag : Byte) (payload : List Byte) :
    (s.emit dst kind tag payload).line.clashCount = s.line.clashCount :=
  s.emit_keeps (fun x => x.line.clashCount) (fun _ _ _ => by simp) _ _ _ _
@[simp] theorem State.emit_own (dst kind tag : Byte) (payload : List Byte) :
    (s.emit dst kind tag payload).own = s.own :=
  s.emit_keeps (fun x => x.own) (fun _ _ _ => by simp) _ _ _ _

/-! ## REPLY -/

@[simp] theorem State.reply_table (rq : Requester) (op : Byte) (c : Code) (data : List Byte) :
    (s.reply rq op c data).table = s.table := by
  simp [State.reply]
@[simp] theorem State.reply_board (rq : Requester) (op : Byte) (c : Code) (data : List Byte) :
    (s.reply rq op c data).board = s.board := by
  simp [State.reply]
@[simp] theorem State.reply_scan (rq : Requester) (op : Byte) (c : Code) (data : List Byte) :
    (s.reply rq op c data).scan = s.scan := by
  simp [State.reply]
@[simp] theorem State.reply_chans (rq : Requester) (op : Byte) (c : Code) (data : List Byte) :
    (s.reply rq op c data).chans = s.chans := by
  simp [State.reply]
@[simp] theorem State.reply_plan (rq : Requester) (op : Byte) (c : Code) (data : List Byte) :
    (s.reply rq op c data).plan = s.plan := by
  simp [State.reply]
@[simp] theorem State.reply_door (rq : Requester) (op : Byte) (c : Code) (data : List Byte) :
    (s.reply rq op c data).door = s.door := by
  simp [State.reply]
@[simp] theorem State.reply_call (rq : Requester) (op : Byte) (c : Code) (data : List Byte) :
    (s.reply rq op c data).call = s.call := by
  simp [State.reply]
@[simp] theorem State.reply_req (rq : Requester) (op : Byte) (c : Code) (data : List Byte) :
    (s.reply rq op c data).req = s.req := by
  simp [State.reply]
@[simp] theorem State.reply_faultA (rq : Requester) (op : Byte) (c : Code) (data : List Byte) :
    (s.reply rq op c data).faultA = s.faultA := by
  simp [State.reply]
@[simp] theorem State.reply_faultB (rq : Requester) (op : Byte) (c : Code) (data : List Byte) :
    (s.reply rq op c data).faultB = s.faultB := by
  simp [State.reply]
@[simp] theorem State.reply_inReset (rq : Requester) (op : Byte) (c : Code) (data : List Byte) :
    (s.reply rq op c data).inReset = s.inReset := by
  simp [State.reply]
@[simp] theorem State.reply_clock (rq : Requester) (op : Byte) (c : Code) (data : List Byte) :
    (s.reply rq op c data).clock = s.clock := by
  simp [State.reply]
@[simp] theorem State.reply_handed (rq : Requester) (op : Byte) (c : Code) (data : List Byte) :
    (s.reply rq op c data).handed = s.handed := by
  simp [State.reply]
@[simp] theorem State.reply_pending (rq : Requester) (op : Byte) (c : Code) (data : List Byte) :
    (s.reply rq op c data).pending = s.pending := by
  simp [State.reply]
@[simp] theorem State.reply_line_sides (rq : Requester) (op : Byte) (c : Code) (data : List Byte) :
    (s.reply rq op c data).line.sides = s.line.sides := by
  simp [State.reply]
@[simp] theorem State.reply_line_strap (rq : Requester) (op : Byte) (c : Code) (data : List Byte) :
    (s.reply rq op c data).line.strap = s.line.strap := by
  simp [State.reply]
@[simp] theorem State.reply_line_silence (rq : Requester) (op : Byte) (c : Code) (data : List Byte) :
    (s.reply rq op c data).line.silence = s.line.silence := by
  simp [State.reply]
@[simp] theorem State.reply_line_silenceMs (rq : Requester) (op : Byte) (c : Code) (data : List Byte) :
    (s.reply rq op c data).line.silenceMs = s.line.silenceMs := by
  simp [State.reply]
@[simp] theorem State.reply_line_clashCount (rq : Requester) (op : Byte) (c : Code) (data : List Byte) :
    (s.reply rq op c data).line.clashCount = s.line.clashCount := by
  simp [State.reply]
@[simp] theorem State.reply_own (rq : Requester) (op : Byte) (c : Code) (data : List Byte) :
    (s.reply rq op c data).own = s.own := by
  simp [State.reply]

/-! ## Notice events -/

@[simp] theorem State.notice_table (k : Fin 13) (i : Nat) :
    (s.notice k i).table = s.table := by
  simp only [State.notice]; split <;> [rfl; (split <;> simp)]
@[simp] theorem State.notice_board (k : Fin 13) (i : Nat) :
    (s.notice k i).board = s.board := by
  simp only [State.notice]; split <;> [rfl; (split <;> simp)]
@[simp] theorem State.notice_scan (k : Fin 13) (i : Nat) :
    (s.notice k i).scan = s.scan := by
  simp only [State.notice]; split <;> [rfl; (split <;> simp)]
@[simp] theorem State.notice_chans (k : Fin 13) (i : Nat) :
    (s.notice k i).chans = s.chans := by
  simp only [State.notice]; split <;> [rfl; (split <;> simp)]
@[simp] theorem State.notice_plan (k : Fin 13) (i : Nat) :
    (s.notice k i).plan = s.plan := by
  simp only [State.notice]; split <;> [rfl; (split <;> simp)]
@[simp] theorem State.notice_door (k : Fin 13) (i : Nat) :
    (s.notice k i).door = s.door := by
  simp only [State.notice]; split <;> [rfl; (split <;> simp)]
@[simp] theorem State.notice_call (k : Fin 13) (i : Nat) :
    (s.notice k i).call = s.call := by
  simp only [State.notice]; split <;> [rfl; (split <;> simp)]
@[simp] theorem State.notice_faultA (k : Fin 13) (i : Nat) :
    (s.notice k i).faultA = s.faultA := by
  simp only [State.notice]; split <;> [rfl; (split <;> simp)]
@[simp] theorem State.notice_faultB (k : Fin 13) (i : Nat) :
    (s.notice k i).faultB = s.faultB := by
  simp only [State.notice]; split <;> [rfl; (split <;> simp)]
@[simp] theorem State.notice_inReset (k : Fin 13) (i : Nat) :
    (s.notice k i).inReset = s.inReset := by
  simp only [State.notice]; split <;> [rfl; (split <;> simp)]
@[simp] theorem State.notice_clock (k : Fin 13) (i : Nat) :
    (s.notice k i).clock = s.clock := by
  simp only [State.notice]; split <;> [rfl; (split <;> simp)]
@[simp] theorem State.notice_handed (k : Fin 13) (i : Nat) :
    (s.notice k i).handed = s.handed := by
  simp only [State.notice]; split <;> [rfl; (split <;> simp)]
@[simp] theorem State.notice_pending (k : Fin 13) (i : Nat) :
    (s.notice k i).pending = s.pending := by
  simp only [State.notice]; split <;> [rfl; (split <;> simp)]
@[simp] theorem State.notice_line_sides (k : Fin 13) (i : Nat) :
    (s.notice k i).line.sides = s.line.sides := by
  simp only [State.notice]; split <;> [rfl; (split <;> simp)]
@[simp] theorem State.notice_line_strap (k : Fin 13) (i : Nat) :
    (s.notice k i).line.strap = s.line.strap := by
  simp only [State.notice]; split <;> [rfl; (split <;> simp)]
@[simp] theorem State.notice_line_silence (k : Fin 13) (i : Nat) :
    (s.notice k i).line.silence = s.line.silence := by
  simp only [State.notice]; split <;> [rfl; (split <;> simp)]
@[simp] theorem State.notice_line_silenceMs (k : Fin 13) (i : Nat) :
    (s.notice k i).line.silenceMs = s.line.silenceMs := by
  simp only [State.notice]; split <;> [rfl; (split <;> simp)]
@[simp] theorem State.notice_line_clashCount (k : Fin 13) (i : Nat) :
    (s.notice k i).line.clashCount = s.line.clashCount := by
  simp only [State.notice]; split <;> [rfl; (split <;> simp)]
@[simp] theorem State.notice_own (k : Fin 13) (i : Nat) :
    (s.notice k i).own = s.own := by
  simp only [State.notice]; split <;> [rfl; (split <;> simp)]

/-- A notice event changes the marks of REQ alone. -/
theorem State.notice_req (k : Fin 13) (i : Nat) :
    (s.notice k i).req = { s.req with marks := (s.notice k i).req.marks } := by
  simp only [State.notice]
  split <;> [rfl; (split <;> simp)]
/-- The mark of the kind is set after a notice event, and no other mark changes. -/
theorem State.notice_marks (k : Fin 13) (i : Nat) :
    (s.notice k i).req.marks = s.req.marks ||| BitVec.ofNat 16 (2 ^ (k.val - 1)) := by
  simp only [State.notice]
  split
  · rename_i h
    ext j hj
    have e : (BitVec.ofNat 16 (2 ^ (k.val - 1))).getLsbD j = decide (j = k.val - 1) := by
      rw [BitVec.getLsbD_ofNat, Nat.testBit_two_pow]
      simp [hj, eq_comm]
    simp only [BitVec.getElem_or]
    rw [← BitVec.getLsbD_eq_getElem, ← BitVec.getLsbD_eq_getElem, e]
    by_cases hjk : j = k.val - 1
    · subst hjk; simp [h]
    · simp [hjk]
  · split <;> simp

/-! ## Changing a condition (R41, R47) -/

theorem State.setCond_of_eq {c : Fin 64} {v : Bool} (h : s.cond c = v) : s.setCond c v = s := by
  unfold State.setCond
  exact if_pos h
theorem State.setCond_of_ne {c : Fin 64} {v : Bool} (h : s.cond c ≠ v) :
    s.setCond c v =
      let n := s.setRecord c { s.board.conds.row c with value := v, age := 0 }
      n.handAll ((n.users c).map (fun u => .conditionChange c v u)) := by
  unfold State.setCond
  exact if_neg h

@[simp] theorem State.setCond_line (c : Fin 64) (v : Bool) :
    (s.setCond c v).line = s.line := by
  simp only [State.setCond]; split <;> simp
@[simp] theorem State.setCond_table (c : Fin 64) (v : Bool) :
    (s.setCond c v).table = s.table := by
  simp only [State.setCond]; split <;> simp
@[simp] theorem State.setCond_scan (c : Fin 64) (v : Bool) :
    (s.setCond c v).scan = s.scan := by
  simp only [State.setCond]; split <;> simp
@[simp] theorem State.setCond_chans (c : Fin 64) (v : Bool) :
    (s.setCond c v).chans = s.chans := by
  simp only [State.setCond]; split <;> simp
@[simp] theorem State.setCond_plan (c : Fin 64) (v : Bool) :
    (s.setCond c v).plan = s.plan := by
  simp only [State.setCond]; split <;> simp
@[simp] theorem State.setCond_door (c : Fin 64) (v : Bool) :
    (s.setCond c v).door = s.door := by
  simp only [State.setCond]; split <;> simp
@[simp] theorem State.setCond_call (c : Fin 64) (v : Bool) :
    (s.setCond c v).call = s.call := by
  simp only [State.setCond]; split <;> simp
@[simp] theorem State.setCond_req (c : Fin 64) (v : Bool) :
    (s.setCond c v).req = s.req := by
  simp only [State.setCond]; split <;> simp
@[simp] theorem State.setCond_faultA (c : Fin 64) (v : Bool) :
    (s.setCond c v).faultA = s.faultA := by
  simp only [State.setCond]; split <;> simp
@[simp] theorem State.setCond_faultB (c : Fin 64) (v : Bool) :
    (s.setCond c v).faultB = s.faultB := by
  simp only [State.setCond]; split <;> simp
@[simp] theorem State.setCond_inReset (c : Fin 64) (v : Bool) :
    (s.setCond c v).inReset = s.inReset := by
  simp only [State.setCond]; split <;> simp
@[simp] theorem State.setCond_clock (c : Fin 64) (v : Bool) :
    (s.setCond c v).clock = s.clock := by
  simp only [State.setCond]; split <;> simp
@[simp] theorem State.setCond_pending (c : Fin 64) (v : Bool) :
    (s.setCond c v).pending = s.pending := by
  simp only [State.setCond]; split <;> simp
@[simp] theorem State.setCond_own (c : Fin 64) (v : Bool) :
    (s.setCond c v).own = s.own := by
  simp only [State.setCond]; split <;> simp
@[simp] theorem State.setCond_addressed (c : Fin 64) (v : Bool) :
    (s.setCond c v).addressed = s.addressed := by
  simp only [State.setCond]; split <;> simp

@[simp] theorem State.setCond_cond_self (c : Fin 64) (v : Bool) : (s.setCond c v).cond c = v := by
  by_cases h : s.cond c = v
  · rw [s.setCond_of_eq h]; exact h
  · rw [s.setCond_of_ne h]; simp [State.cond]
theorem State.setCond_record_ne {c c' : Fin 64} (v : Bool) (h : c ≠ c') :
    (s.setCond c v).board.conds.row c' = s.board.conds.row c' := by
  by_cases e : s.cond c = v
  · rw [s.setCond_of_eq e]
  · rw [s.setCond_of_ne e]; simp [Tbl.row_put_ne _ _ h]
@[simp] theorem State.setCond_terms (c : Fin 64) (v : Bool) :
    (s.setCond c v).board.terms = s.board.terms := by
  simp only [State.setCond]; split <;> simp
@[simp] theorem State.setCond_ageDue (c : Fin 64) (v : Bool) :
    (s.setCond c v).board.ageDue = s.board.ageDue := by
  simp only [State.setCond]; split <;> simp
/-- A change of a condition keeps the source of every record. -/
@[simp] theorem State.setCond_source (c c' : Fin 64) (v : Bool) :
    ((s.setCond c v).board.conds.row c').source = (s.board.conds.row c').source := by
  by_cases e : s.cond c = v
  · rw [s.setCond_of_eq e]
  · rw [s.setCond_of_ne e]
    by_cases h : c = c'
    · subst h; simp
    · simp [Tbl.row_put_ne _ _ h]
/-- What is handed on at a change of a condition: a CONDITION CHANGE to each waiting user, after the events
handed before. -/
theorem State.setCond_handed (c : Fin 64) (v : Bool) :
    ∃ us : List CondUser, (s.setCond c v).handed = s.handed ++ us.map (fun u => .conditionChange c v u) := by
  by_cases e : s.cond c = v
  · exact ⟨[], by rw [s.setCond_of_eq e]; simp⟩
  · rw [s.setCond_of_ne e]
    exact ⟨_, rfl⟩

/-! ## Following a source (R41) -/

@[simp] theorem State.recompute_line (c : Fin 64) :
    (s.recompute c).line = s.line := by
  simp [State.recompute]
@[simp] theorem State.recompute_table (c : Fin 64) :
    (s.recompute c).table = s.table := by
  simp [State.recompute]
@[simp] theorem State.recompute_scan (c : Fin 64) :
    (s.recompute c).scan = s.scan := by
  simp [State.recompute]
@[simp] theorem State.recompute_chans (c : Fin 64) :
    (s.recompute c).chans = s.chans := by
  simp [State.recompute]
@[simp] theorem State.recompute_plan (c : Fin 64) :
    (s.recompute c).plan = s.plan := by
  simp [State.recompute]
@[simp] theorem State.recompute_door (c : Fin 64) :
    (s.recompute c).door = s.door := by
  simp [State.recompute]
@[simp] theorem State.recompute_call (c : Fin 64) :
    (s.recompute c).call = s.call := by
  simp [State.recompute]
@[simp] theorem State.recompute_req (c : Fin 64) :
    (s.recompute c).req = s.req := by
  simp [State.recompute]
@[simp] theorem State.recompute_faultA (c : Fin 64) :
    (s.recompute c).faultA = s.faultA := by
  simp [State.recompute]
@[simp] theorem State.recompute_faultB (c : Fin 64) :
    (s.recompute c).faultB = s.faultB := by
  simp [State.recompute]
@[simp] theorem State.recompute_inReset (c : Fin 64) :
    (s.recompute c).inReset = s.inReset := by
  simp [State.recompute]
@[simp] theorem State.recompute_clock (c : Fin 64) :
    (s.recompute c).clock = s.clock := by
  simp [State.recompute]
@[simp] theorem State.recompute_pending (c : Fin 64) :
    (s.recompute c).pending = s.pending := by
  simp [State.recompute]
@[simp] theorem State.recompute_board_terms (c : Fin 64) :
    (s.recompute c).board.terms = s.board.terms := by
  simp [State.recompute]
@[simp] theorem State.recompute_board_ageDue (c : Fin 64) :
    (s.recompute c).board.ageDue = s.board.ageDue := by
  simp [State.recompute]
@[simp] theorem State.recompute_own (c : Fin 64) :
    (s.recompute c).own = s.own := by
  simp [State.recompute]

@[simp] theorem State.recompute_source (c c' : Fin 64) :
    ((s.recompute c).board.conds.row c').source = (s.board.conds.row c').source := by
  simp [State.recompute]
/-- What the recomputation of a condition keeps, the following of a source keeps. -/
theorem State.follow_keeps {γ : Type} (g : State → γ) (h : ∀ (s : State) (c : Fin 64), g (s.recompute c) = g s)
    (chosen : Source → Bool) : g (s.follow chosen) = g s := by
  unfold State.follow
  refine foldl_keeps g _ (fun s c => ?_) _ _
  split
  · exact h s c
  · rfl

@[simp] theorem State.follow_line (chosen : Source → Bool) :
    (s.follow chosen).line = s.line :=
  s.follow_keeps (fun x => x.line) (fun _ _ => by simp) _
@[simp] theorem State.follow_table (chosen : Source → Bool) :
    (s.follow chosen).table = s.table :=
  s.follow_keeps (fun x => x.table) (fun _ _ => by simp) _
@[simp] theorem State.follow_scan (chosen : Source → Bool) :
    (s.follow chosen).scan = s.scan :=
  s.follow_keeps (fun x => x.scan) (fun _ _ => by simp) _
@[simp] theorem State.follow_chans (chosen : Source → Bool) :
    (s.follow chosen).chans = s.chans :=
  s.follow_keeps (fun x => x.chans) (fun _ _ => by simp) _
@[simp] theorem State.follow_plan (chosen : Source → Bool) :
    (s.follow chosen).plan = s.plan :=
  s.follow_keeps (fun x => x.plan) (fun _ _ => by simp) _
@[simp] theorem State.follow_door (chosen : Source → Bool) :
    (s.follow chosen).door = s.door :=
  s.follow_keeps (fun x => x.door) (fun _ _ => by simp) _
@[simp] theorem State.follow_call (chosen : Source → Bool) :
    (s.follow chosen).call = s.call :=
  s.follow_keeps (fun x => x.call) (fun _ _ => by simp) _
@[simp] theorem State.follow_req (chosen : Source → Bool) :
    (s.follow chosen).req = s.req :=
  s.follow_keeps (fun x => x.req) (fun _ _ => by simp) _
@[simp] theorem State.follow_faultA (chosen : Source → Bool) :
    (s.follow chosen).faultA = s.faultA :=
  s.follow_keeps (fun x => x.faultA) (fun _ _ => by simp) _
@[simp] theorem State.follow_faultB (chosen : Source → Bool) :
    (s.follow chosen).faultB = s.faultB :=
  s.follow_keeps (fun x => x.faultB) (fun _ _ => by simp) _
@[simp] theorem State.follow_inReset (chosen : Source → Bool) :
    (s.follow chosen).inReset = s.inReset :=
  s.follow_keeps (fun x => x.inReset) (fun _ _ => by simp) _
@[simp] theorem State.follow_clock (chosen : Source → Bool) :
    (s.follow chosen).clock = s.clock :=
  s.follow_keeps (fun x => x.clock) (fun _ _ => by simp) _
@[simp] theorem State.follow_pending (chosen : Source → Bool) :
    (s.follow chosen).pending = s.pending :=
  s.follow_keeps (fun x => x.pending) (fun _ _ => by simp) _
@[simp] theorem State.follow_board_terms (chosen : Source → Bool) :
    (s.follow chosen).board.terms = s.board.terms :=
  s.follow_keeps (fun x => x.board.terms) (fun _ _ => by simp) _
@[simp] theorem State.follow_board_ageDue (chosen : Source → Bool) :
    (s.follow chosen).board.ageDue = s.board.ageDue :=
  s.follow_keeps (fun x => x.board.ageDue) (fun _ _ => by simp) _
@[simp] theorem State.follow_own (chosen : Source → Bool) :
    (s.follow chosen).own = s.own :=
  s.follow_keeps (fun x => x.own) (fun _ _ => by simp) _

@[simp] theorem State.follow_source (chosen : Source → Bool) (c : Fin 64) :
    ((s.follow chosen).board.conds.row c).source = (s.board.conds.row c).source :=
  s.follow_keeps (fun x => (x.board.conds.row c).source) (fun _ _ => by simp) _

@[simp] theorem State.followRamp_line (r : Fin 4) :
    (s.followRamp r).line = s.line := by
  simp [State.followRamp]
@[simp] theorem State.followRamp_table (r : Fin 4) :
    (s.followRamp r).table = s.table := by
  simp [State.followRamp]
@[simp] theorem State.followRamp_scan (r : Fin 4) :
    (s.followRamp r).scan = s.scan := by
  simp [State.followRamp]
@[simp] theorem State.followRamp_chans (r : Fin 4) :
    (s.followRamp r).chans = s.chans := by
  simp [State.followRamp]
@[simp] theorem State.followRamp_plan (r : Fin 4) :
    (s.followRamp r).plan = s.plan := by
  simp [State.followRamp]
@[simp] theorem State.followRamp_door (r : Fin 4) :
    (s.followRamp r).door = s.door := by
  simp [State.followRamp]
@[simp] theorem State.followRamp_call (r : Fin 4) :
    (s.followRamp r).call = s.call := by
  simp [State.followRamp]
@[simp] theorem State.followRamp_req (r : Fin 4) :
    (s.followRamp r).req = s.req := by
  simp [State.followRamp]
@[simp] theorem State.followRamp_faultA (r : Fin 4) :
    (s.followRamp r).faultA = s.faultA := by
  simp [State.followRamp]
@[simp] theorem State.followRamp_faultB (r : Fin 4) :
    (s.followRamp r).faultB = s.faultB := by
  simp [State.followRamp]
@[simp] theorem State.followRamp_inReset (r : Fin 4) :
    (s.followRamp r).inReset = s.inReset := by
  simp [State.followRamp]
@[simp] theorem State.followRamp_clock (r : Fin 4) :
    (s.followRamp r).clock = s.clock := by
  simp [State.followRamp]
@[simp] theorem State.followRamp_pending (r : Fin 4) :
    (s.followRamp r).pending = s.pending := by
  simp [State.followRamp]
@[simp] theorem State.followRamp_board_terms (r : Fin 4) :
    (s.followRamp r).board.terms = s.board.terms := by
  simp [State.followRamp]
@[simp] theorem State.followRamp_board_ageDue (r : Fin 4) :
    (s.followRamp r).board.ageDue = s.board.ageDue := by
  simp [State.followRamp]
@[simp] theorem State.followRamp_own (r : Fin 4) :
    (s.followRamp r).own = s.own := by
  simp [State.followRamp]

@[simp] theorem State.followRamp_source (r : Fin 4) (c' : Fin 64) :
    ((s.followRamp r).board.conds.row c').source = (s.board.conds.row c').source := by
  simp [State.followRamp]

@[simp] theorem State.followThreshold_line (k : Fin 48) :
    (s.followThreshold k).line = s.line := by
  simp [State.followThreshold]
@[simp] theorem State.followThreshold_table (k : Fin 48) :
    (s.followThreshold k).table = s.table := by
  simp [State.followThreshold]
@[simp] theorem State.followThreshold_scan (k : Fin 48) :
    (s.followThreshold k).scan = s.scan := by
  simp [State.followThreshold]
@[simp] theorem State.followThreshold_chans (k : Fin 48) :
    (s.followThreshold k).chans = s.chans := by
  simp [State.followThreshold]
@[simp] theorem State.followThreshold_plan (k : Fin 48) :
    (s.followThreshold k).plan = s.plan := by
  simp [State.followThreshold]
@[simp] theorem State.followThreshold_door (k : Fin 48) :
    (s.followThreshold k).door = s.door := by
  simp [State.followThreshold]
@[simp] theorem State.followThreshold_call (k : Fin 48) :
    (s.followThreshold k).call = s.call := by
  simp [State.followThreshold]
@[simp] theorem State.followThreshold_req (k : Fin 48) :
    (s.followThreshold k).req = s.req := by
  simp [State.followThreshold]
@[simp] theorem State.followThreshold_faultA (k : Fin 48) :
    (s.followThreshold k).faultA = s.faultA := by
  simp [State.followThreshold]
@[simp] theorem State.followThreshold_faultB (k : Fin 48) :
    (s.followThreshold k).faultB = s.faultB := by
  simp [State.followThreshold]
@[simp] theorem State.followThreshold_inReset (k : Fin 48) :
    (s.followThreshold k).inReset = s.inReset := by
  simp [State.followThreshold]
@[simp] theorem State.followThreshold_clock (k : Fin 48) :
    (s.followThreshold k).clock = s.clock := by
  simp [State.followThreshold]
@[simp] theorem State.followThreshold_pending (k : Fin 48) :
    (s.followThreshold k).pending = s.pending := by
  simp [State.followThreshold]
@[simp] theorem State.followThreshold_board_terms (k : Fin 48) :
    (s.followThreshold k).board.terms = s.board.terms := by
  simp [State.followThreshold]
@[simp] theorem State.followThreshold_board_ageDue (k : Fin 48) :
    (s.followThreshold k).board.ageDue = s.board.ageDue := by
  simp [State.followThreshold]
@[simp] theorem State.followThreshold_own (k : Fin 48) :
    (s.followThreshold k).own = s.own := by
  simp [State.followThreshold]

@[simp] theorem State.followThreshold_source (k : Fin 48) (c' : Fin 64) :
    ((s.followThreshold k).board.conds.row c').source = (s.board.conds.row c').source := by
  simp [State.followThreshold]

@[simp] theorem State.followCut_line (ch : Fin 16) :
    (s.followCut ch).line = s.line := by
  simp [State.followCut]
@[simp] theorem State.followCut_table (ch : Fin 16) :
    (s.followCut ch).table = s.table := by
  simp [State.followCut]
@[simp] theorem State.followCut_scan (ch : Fin 16) :
    (s.followCut ch).scan = s.scan := by
  simp [State.followCut]
@[simp] theorem State.followCut_chans (ch : Fin 16) :
    (s.followCut ch).chans = s.chans := by
  simp [State.followCut]
@[simp] theorem State.followCut_plan (ch : Fin 16) :
    (s.followCut ch).plan = s.plan := by
  simp [State.followCut]
@[simp] theorem State.followCut_door (ch : Fin 16) :
    (s.followCut ch).door = s.door := by
  simp [State.followCut]
@[simp] theorem State.followCut_call (ch : Fin 16) :
    (s.followCut ch).call = s.call := by
  simp [State.followCut]
@[simp] theorem State.followCut_req (ch : Fin 16) :
    (s.followCut ch).req = s.req := by
  simp [State.followCut]
@[simp] theorem State.followCut_faultA (ch : Fin 16) :
    (s.followCut ch).faultA = s.faultA := by
  simp [State.followCut]
@[simp] theorem State.followCut_faultB (ch : Fin 16) :
    (s.followCut ch).faultB = s.faultB := by
  simp [State.followCut]
@[simp] theorem State.followCut_inReset (ch : Fin 16) :
    (s.followCut ch).inReset = s.inReset := by
  simp [State.followCut]
@[simp] theorem State.followCut_clock (ch : Fin 16) :
    (s.followCut ch).clock = s.clock := by
  simp [State.followCut]
@[simp] theorem State.followCut_pending (ch : Fin 16) :
    (s.followCut ch).pending = s.pending := by
  simp [State.followCut]
@[simp] theorem State.followCut_board_terms (ch : Fin 16) :
    (s.followCut ch).board.terms = s.board.terms := by
  simp [State.followCut]
@[simp] theorem State.followCut_board_ageDue (ch : Fin 16) :
    (s.followCut ch).board.ageDue = s.board.ageDue := by
  simp [State.followCut]
@[simp] theorem State.followCut_own (ch : Fin 16) :
    (s.followCut ch).own = s.own := by
  simp [State.followCut]

@[simp] theorem State.followCut_source (ch : Fin 16) (c' : Fin 64) :
    ((s.followCut ch).board.conds.row c').source = (s.board.conds.row c').source := by
  simp [State.followCut]

@[simp] theorem State.followLane_line (lane : Option (Fin 8)) :
    (s.followLane lane).line = s.line := by
  cases lane <;> simp [State.followLane]
@[simp] theorem State.followLane_table (lane : Option (Fin 8)) :
    (s.followLane lane).table = s.table := by
  cases lane <;> simp [State.followLane]
@[simp] theorem State.followLane_scan (lane : Option (Fin 8)) :
    (s.followLane lane).scan = s.scan := by
  cases lane <;> simp [State.followLane]
@[simp] theorem State.followLane_chans (lane : Option (Fin 8)) :
    (s.followLane lane).chans = s.chans := by
  cases lane <;> simp [State.followLane]
@[simp] theorem State.followLane_plan (lane : Option (Fin 8)) :
    (s.followLane lane).plan = s.plan := by
  cases lane <;> simp [State.followLane]
@[simp] theorem State.followLane_door (lane : Option (Fin 8)) :
    (s.followLane lane).door = s.door := by
  cases lane <;> simp [State.followLane]
@[simp] theorem State.followLane_call (lane : Option (Fin 8)) :
    (s.followLane lane).call = s.call := by
  cases lane <;> simp [State.followLane]
@[simp] theorem State.followLane_req (lane : Option (Fin 8)) :
    (s.followLane lane).req = s.req := by
  cases lane <;> simp [State.followLane]
@[simp] theorem State.followLane_faultA (lane : Option (Fin 8)) :
    (s.followLane lane).faultA = s.faultA := by
  cases lane <;> simp [State.followLane]
@[simp] theorem State.followLane_faultB (lane : Option (Fin 8)) :
    (s.followLane lane).faultB = s.faultB := by
  cases lane <;> simp [State.followLane]
@[simp] theorem State.followLane_inReset (lane : Option (Fin 8)) :
    (s.followLane lane).inReset = s.inReset := by
  cases lane <;> simp [State.followLane]
@[simp] theorem State.followLane_clock (lane : Option (Fin 8)) :
    (s.followLane lane).clock = s.clock := by
  cases lane <;> simp [State.followLane]
@[simp] theorem State.followLane_pending (lane : Option (Fin 8)) :
    (s.followLane lane).pending = s.pending := by
  cases lane <;> simp [State.followLane]
@[simp] theorem State.followLane_board_terms (lane : Option (Fin 8)) :
    (s.followLane lane).board.terms = s.board.terms := by
  cases lane <;> simp [State.followLane]
@[simp] theorem State.followLane_board_ageDue (lane : Option (Fin 8)) :
    (s.followLane lane).board.ageDue = s.board.ageDue := by
  cases lane <;> simp [State.followLane]
@[simp] theorem State.followLane_own (lane : Option (Fin 8)) :
    (s.followLane lane).own = s.own := by
  cases lane <;> simp [State.followLane]

@[simp] theorem State.followLane_source (lane : Option (Fin 8)) (c' : Fin 64) :
    ((s.followLane lane).board.conds.row c').source = (s.board.conds.row c').source := by
  cases lane <;> simp [State.followLane]

@[simp] theorem State.followGroup_line (g : Option (Fin 8)) :
    (s.followGroup g).line = s.line := by
  cases g <;> simp [State.followGroup]
@[simp] theorem State.followGroup_table (g : Option (Fin 8)) :
    (s.followGroup g).table = s.table := by
  cases g <;> simp [State.followGroup]
@[simp] theorem State.followGroup_scan (g : Option (Fin 8)) :
    (s.followGroup g).scan = s.scan := by
  cases g <;> simp [State.followGroup]
@[simp] theorem State.followGroup_chans (g : Option (Fin 8)) :
    (s.followGroup g).chans = s.chans := by
  cases g <;> simp [State.followGroup]
@[simp] theorem State.followGroup_plan (g : Option (Fin 8)) :
    (s.followGroup g).plan = s.plan := by
  cases g <;> simp [State.followGroup]
@[simp] theorem State.followGroup_door (g : Option (Fin 8)) :
    (s.followGroup g).door = s.door := by
  cases g <;> simp [State.followGroup]
@[simp] theorem State.followGroup_call (g : Option (Fin 8)) :
    (s.followGroup g).call = s.call := by
  cases g <;> simp [State.followGroup]
@[simp] theorem State.followGroup_req (g : Option (Fin 8)) :
    (s.followGroup g).req = s.req := by
  cases g <;> simp [State.followGroup]
@[simp] theorem State.followGroup_faultA (g : Option (Fin 8)) :
    (s.followGroup g).faultA = s.faultA := by
  cases g <;> simp [State.followGroup]
@[simp] theorem State.followGroup_faultB (g : Option (Fin 8)) :
    (s.followGroup g).faultB = s.faultB := by
  cases g <;> simp [State.followGroup]
@[simp] theorem State.followGroup_inReset (g : Option (Fin 8)) :
    (s.followGroup g).inReset = s.inReset := by
  cases g <;> simp [State.followGroup]
@[simp] theorem State.followGroup_clock (g : Option (Fin 8)) :
    (s.followGroup g).clock = s.clock := by
  cases g <;> simp [State.followGroup]
@[simp] theorem State.followGroup_pending (g : Option (Fin 8)) :
    (s.followGroup g).pending = s.pending := by
  cases g <;> simp [State.followGroup]
@[simp] theorem State.followGroup_board_terms (g : Option (Fin 8)) :
    (s.followGroup g).board.terms = s.board.terms := by
  cases g <;> simp [State.followGroup]
@[simp] theorem State.followGroup_board_ageDue (g : Option (Fin 8)) :
    (s.followGroup g).board.ageDue = s.board.ageDue := by
  cases g <;> simp [State.followGroup]
@[simp] theorem State.followGroup_own (g : Option (Fin 8)) :
    (s.followGroup g).own = s.own := by
  cases g <;> simp [State.followGroup]

@[simp] theorem State.followGroup_source (g : Option (Fin 8)) (c' : Fin 64) :
    ((s.followGroup g).board.conds.row c').source = (s.board.conds.row c').source := by
  cases g <;> simp [State.followGroup]

@[simp] theorem State.setFrameCond_line (c : Fin 64) (v : Bool) (t : Nat) (h : Option Nat) :
    (s.setFrameCond c v t h).line = s.line := by
  simp [State.setFrameCond]
@[simp] theorem State.setFrameCond_table (c : Fin 64) (v : Bool) (t : Nat) (h : Option Nat) :
    (s.setFrameCond c v t h).table = s.table := by
  simp [State.setFrameCond]
@[simp] theorem State.setFrameCond_scan (c : Fin 64) (v : Bool) (t : Nat) (h : Option Nat) :
    (s.setFrameCond c v t h).scan = s.scan := by
  simp [State.setFrameCond]
@[simp] theorem State.setFrameCond_chans (c : Fin 64) (v : Bool) (t : Nat) (h : Option Nat) :
    (s.setFrameCond c v t h).chans = s.chans := by
  simp [State.setFrameCond]
@[simp] theorem State.setFrameCond_plan (c : Fin 64) (v : Bool) (t : Nat) (h : Option Nat) :
    (s.setFrameCond c v t h).plan = s.plan := by
  simp [State.setFrameCond]
@[simp] theorem State.setFrameCond_door (c : Fin 64) (v : Bool) (t : Nat) (h : Option Nat) :
    (s.setFrameCond c v t h).door = s.door := by
  simp [State.setFrameCond]
@[simp] theorem State.setFrameCond_call (c : Fin 64) (v : Bool) (t : Nat) (h : Option Nat) :
    (s.setFrameCond c v t h).call = s.call := by
  simp [State.setFrameCond]
@[simp] theorem State.setFrameCond_req (c : Fin 64) (v : Bool) (t : Nat) (h : Option Nat) :
    (s.setFrameCond c v t h).req = s.req := by
  simp [State.setFrameCond]
@[simp] theorem State.setFrameCond_faultA (c : Fin 64) (v : Bool) (t : Nat) (h : Option Nat) :
    (s.setFrameCond c v t h).faultA = s.faultA := by
  simp [State.setFrameCond]
@[simp] theorem State.setFrameCond_faultB (c : Fin 64) (v : Bool) (t : Nat) (h : Option Nat) :
    (s.setFrameCond c v t h).faultB = s.faultB := by
  simp [State.setFrameCond]
@[simp] theorem State.setFrameCond_inReset (c : Fin 64) (v : Bool) (t : Nat) (h : Option Nat) :
    (s.setFrameCond c v t h).inReset = s.inReset := by
  simp [State.setFrameCond]
@[simp] theorem State.setFrameCond_clock (c : Fin 64) (v : Bool) (t : Nat) (h : Option Nat) :
    (s.setFrameCond c v t h).clock = s.clock := by
  simp [State.setFrameCond]
@[simp] theorem State.setFrameCond_pending (c : Fin 64) (v : Bool) (t : Nat) (h : Option Nat) :
    (s.setFrameCond c v t h).pending = s.pending := by
  simp [State.setFrameCond]
@[simp] theorem State.setFrameCond_board_terms (c : Fin 64) (v : Bool) (t : Nat) (h : Option Nat) :
    (s.setFrameCond c v t h).board.terms = s.board.terms := by
  simp [State.setFrameCond]
@[simp] theorem State.setFrameCond_board_ageDue (c : Fin 64) (v : Bool) (t : Nat) (h : Option Nat) :
    (s.setFrameCond c v t h).board.ageDue = s.board.ageDue := by
  simp [State.setFrameCond]
@[simp] theorem State.setFrameCond_own (c : Fin 64) (v : Bool) (t : Nat) (h : Option Nat) :
    (s.setFrameCond c v t h).own = s.own := by
  simp [State.setFrameCond]

@[simp] theorem State.setFrameCond_source (c : Fin 64) (v : Bool) (t : Nat) (h : Option Nat) (c' : Fin 64) :
    ((s.setFrameCond c v t h).board.conds.row c').source = (s.board.conds.row c').source := by
  simp only [State.setFrameCond, State.setCond_source, State.setRecord_board, Tbl.row_put]; split <;> simp_all

end Sys2Proof.Machine
end

