-- ==== Sys2Proof/Laws/Out.lean ====
section
/-! SUPPORT. What the shared operations of OUT can do: recomputing conduction, setting a level, a COMPARE
UPDATE, and judging forcing. -/

namespace Sys2Proof.Machine
variable (s : State)

/-! ## Conduction (R82) -/

@[simp] theorem State.conduct_line (ch : Fin 16) :
    (s.conduct ch).line = s.line := by
  simp only [State.conduct]; split <;> simp
@[simp] theorem State.conduct_table (ch : Fin 16) :
    (s.conduct ch).table = s.table := by
  simp only [State.conduct]; split <;> simp
@[simp] theorem State.conduct_board (ch : Fin 16) :
    (s.conduct ch).board = s.board := by
  simp only [State.conduct]; split <;> simp
@[simp] theorem State.conduct_scan (ch : Fin 16) :
    (s.conduct ch).scan = s.scan := by
  simp only [State.conduct]; split <;> simp
@[simp] theorem State.conduct_plan (ch : Fin 16) :
    (s.conduct ch).plan = s.plan := by
  simp only [State.conduct]; split <;> simp
@[simp] theorem State.conduct_door (ch : Fin 16) :
    (s.conduct ch).door = s.door := by
  simp only [State.conduct]; split <;> simp
@[simp] theorem State.conduct_call (ch : Fin 16) :
    (s.conduct ch).call = s.call := by
  simp only [State.conduct]; split <;> simp
@[simp] theorem State.conduct_req (ch : Fin 16) :
    (s.conduct ch).req = s.req := by
  simp only [State.conduct]; split <;> simp
@[simp] theorem State.conduct_faultA (ch : Fin 16) :
    (s.conduct ch).faultA = s.faultA := by
  simp only [State.conduct]; split <;> simp
@[simp] theorem State.conduct_faultB (ch : Fin 16) :
    (s.conduct ch).faultB = s.faultB := by
  simp only [State.conduct]; split <;> simp
@[simp] theorem State.conduct_inReset (ch : Fin 16) :
    (s.conduct ch).inReset = s.inReset := by
  simp only [State.conduct]; split <;> simp
@[simp] theorem State.conduct_clock (ch : Fin 16) :
    (s.conduct ch).clock = s.clock := by
  simp only [State.conduct]; split <;> simp
@[simp] theorem State.conduct_handed (ch : Fin 16) :
    (s.conduct ch).handed = s.handed := by
  simp only [State.conduct]; split <;> simp
@[simp] theorem State.conduct_pending (ch : Fin 16) :
    (s.conduct ch).pending = s.pending := by
  simp only [State.conduct]; split <;> simp
@[simp] theorem State.conduct_own (ch : Fin 16) :
    (s.conduct ch).own = s.own := by
  simp only [State.conduct]; split <;> simp
@[simp] theorem State.conduct_addressed (ch : Fin 16) :
    (s.conduct ch).addressed = s.addressed := by
  simp only [State.conduct]; split <;> simp

theorem State.conduct_chan_ne {ch ch' : Fin 16} (h : ch ≠ ch') :
    (s.conduct ch).chans.row ch' = s.chans.row ch' := by
  simp only [State.conduct]; split <;> simp [Tbl.row_put_ne _ _ h]
/-- The recomputation gives the channel the conduction that its inputs call for, and a pin to match. -/
theorem State.conduct_chan (ch : Fin 16) :
    ((s.conduct ch).chans.row ch).conducting = s.conducts ch
    ∧ ((s.conduct ch).chans.row ch).pin =
        pinDrive (s.chans.row ch).set.config (s.conducts ch) (effectiveLevel s.chans ch) := by
  simp only [State.conduct]; split <;> simp_all

@[simp] theorem State.conduct_set (ch ch' : Fin 16) :
    ((s.conduct ch).chans.row ch').set = (s.chans.row ch').set := by
  by_cases h : ch = ch'
  · subst h; simp only [State.conduct]; split <;> simp
  · rw [s.conduct_chan_ne h]
@[simp] theorem State.conduct_requested (ch ch' : Fin 16) :
    ((s.conduct ch).chans.row ch').requested = (s.chans.row ch').requested := by
  by_cases h : ch = ch'
  · subst h; simp only [State.conduct]; split <;> simp
  · rw [s.conduct_chan_ne h]
@[simp] theorem State.conduct_status (ch ch' : Fin 16) :
    ((s.conduct ch).chans.row ch').status = (s.chans.row ch').status := by
  by_cases h : ch = ch'
  · subst h; simp only [State.conduct]; split <;> simp
  · rw [s.conduct_chan_ne h]
@[simp] theorem State.conduct_restart (ch ch' : Fin 16) :
    ((s.conduct ch).chans.row ch').restart = (s.chans.row ch').restart := by
  by_cases h : ch = ch'
  · subst h; simp only [State.conduct]; split <;> simp
  · rw [s.conduct_chan_ne h]
@[simp] theorem State.conduct_cutOffs (ch ch' : Fin 16) :
    ((s.conduct ch).chans.row ch').cutOffs = (s.chans.row ch').cutOffs := by
  by_cases h : ch = ch'
  · subst h; simp only [State.conduct]; split <;> simp
  · rw [s.conduct_chan_ne h]
@[simp] theorem State.conduct_count (ch ch' : Fin 16) :
    ((s.conduct ch).chans.row ch').count = (s.chans.row ch').count := by
  by_cases h : ch = ch'
  · subst h; simp only [State.conduct]; split <;> simp
  · rw [s.conduct_chan_ne h]
@[simp] theorem State.conduct_timerOut (ch ch' : Fin 16) :
    ((s.conduct ch).chans.row ch').timerOut = (s.chans.row ch').timerOut := by
  by_cases h : ch = ch'
  · subst h; simp only [State.conduct]; split <;> simp
  · rw [s.conduct_chan_ne h]
@[simp] theorem State.conduct_aInForce (ch ch' : Fin 16) :
    ((s.conduct ch).chans.row ch').aInForce = (s.chans.row ch').aInForce := by
  by_cases h : ch = ch'
  · subst h; simp only [State.conduct]; split <;> simp
  · rw [s.conduct_chan_ne h]
@[simp] theorem State.conduct_phase (ch ch' : Fin 16) :
    ((s.conduct ch).chans.row ch').phase = (s.chans.row ch').phase := by
  by_cases h : ch = ch'
  · subst h; simp only [State.conduct]; split <;> simp
  · rw [s.conduct_chan_ne h]
@[simp] theorem State.conduct_running (ch ch' : Fin 16) :
    ((s.conduct ch).chans.row ch').running = (s.chans.row ch').running := by
  by_cases h : ch = ch'
  · subst h; simp only [State.conduct]; split <;> simp
  · rw [s.conduct_chan_ne h]

/-- A channel that is cut off or not active does not conduct after its recomputation (R82). -/
theorem State.conduct_safe (ch : Fin 16) (h : ((s.conduct ch).chans.row ch).conducting = true) :
    ((s.conduct ch).chans.row ch).cutOff = false
    ∧ ((s.conduct ch).chans.row ch).set.config.active = true := by
  rw [(s.conduct_chan ch).1] at h
  simp only [State.conducts, Bool.and_eq_true, Bool.not_eq_true'] at h
  simp only [Channel.cutOff, State.conduct_restart, State.conduct_set]
  exact ⟨h.1.1.2, h.1.1.1⟩

@[simp] theorem State.conductAll_line (chs : List (Fin 16)) : (s.conductAll chs).line = s.line :=
  foldl_keeps (fun x : State => x.line) _ (fun _ _ => by simp) _ _
@[simp] theorem State.conductAll_table (chs : List (Fin 16)) : (s.conductAll chs).table = s.table :=
  foldl_keeps (fun x : State => x.table) _ (fun _ _ => by simp) _ _
@[simp] theorem State.conductAll_board (chs : List (Fin 16)) : (s.conductAll chs).board = s.board :=
  foldl_keeps (fun x : State => x.board) _ (fun _ _ => by simp) _ _
@[simp] theorem State.conductAll_scan (chs : List (Fin 16)) : (s.conductAll chs).scan = s.scan :=
  foldl_keeps (fun x : State => x.scan) _ (fun _ _ => by simp) _ _
@[simp] theorem State.conductAll_plan (chs : List (Fin 16)) : (s.conductAll chs).plan = s.plan :=
  foldl_keeps (fun x : State => x.plan) _ (fun _ _ => by simp) _ _
@[simp] theorem State.conductAll_door (chs : List (Fin 16)) : (s.conductAll chs).door = s.door :=
  foldl_keeps (fun x : State => x.door) _ (fun _ _ => by simp) _ _
@[simp] theorem State.conductAll_call (chs : List (Fin 16)) : (s.conductAll chs).call = s.call :=
  foldl_keeps (fun x : State => x.call) _ (fun _ _ => by simp) _ _
@[simp] theorem State.conductAll_req (chs : List (Fin 16)) : (s.conductAll chs).req = s.req :=
  foldl_keeps (fun x : State => x.req) _ (fun _ _ => by simp) _ _
@[simp] theorem State.conductAll_faultA (chs : List (Fin 16)) : (s.conductAll chs).faultA = s.faultA :=
  foldl_keeps (fun x : State => x.faultA) _ (fun _ _ => by simp) _ _
@[simp] theorem State.conductAll_faultB (chs : List (Fin 16)) : (s.conductAll chs).faultB = s.faultB :=
  foldl_keeps (fun x : State => x.faultB) _ (fun _ _ => by simp) _ _
@[simp] theorem State.conductAll_inReset (chs : List (Fin 16)) : (s.conductAll chs).inReset = s.inReset :=
  foldl_keeps (fun x : State => x.inReset) _ (fun _ _ => by simp) _ _
@[simp] theorem State.conductAll_clock (chs : List (Fin 16)) : (s.conductAll chs).clock = s.clock :=
  foldl_keeps (fun x : State => x.clock) _ (fun _ _ => by simp) _ _
@[simp] theorem State.conductAll_handed (chs : List (Fin 16)) : (s.conductAll chs).handed = s.handed :=
  foldl_keeps (fun x : State => x.handed) _ (fun _ _ => by simp) _ _
@[simp] theorem State.conductAll_pending (chs : List (Fin 16)) : (s.conductAll chs).pending = s.pending :=
  foldl_keeps (fun x : State => x.pending) _ (fun _ _ => by simp) _ _
@[simp] theorem State.conductAll_own (chs : List (Fin 16)) : (s.conductAll chs).own = s.own :=
  foldl_keeps (fun x : State => x.own) _ (fun _ _ => by simp) _ _

@[simp] theorem State.conductAll_set (chs : List (Fin 16)) (ch : Fin 16) :
    ((s.conductAll chs).chans.row ch).set = (s.chans.row ch).set :=
  foldl_keeps (fun x : State => (x.chans.row ch).set) _ (fun _ _ => by simp) _ _
@[simp] theorem State.conductAll_requested (chs : List (Fin 16)) (ch : Fin 16) :
    ((s.conductAll chs).chans.row ch).requested = (s.chans.row ch).requested :=
  foldl_keeps (fun x : State => (x.chans.row ch).requested) _ (fun _ _ => by simp) _ _
@[simp] theorem State.conductAll_status (chs : List (Fin 16)) (ch : Fin 16) :
    ((s.conductAll chs).chans.row ch).status = (s.chans.row ch).status :=
  foldl_keeps (fun x : State => (x.chans.row ch).status) _ (fun _ _ => by simp) _ _
@[simp] theorem State.conductAll_restart (chs : List (Fin 16)) (ch : Fin 16) :
    ((s.conductAll chs).chans.row ch).restart = (s.chans.row ch).restart :=
  foldl_keeps (fun x : State => (x.chans.row ch).restart) _ (fun _ _ => by simp) _ _
@[simp] theorem State.conductAll_cutOffs (chs : List (Fin 16)) (ch : Fin 16) :
    ((s.conductAll chs).chans.row ch).cutOffs = (s.chans.row ch).cutOffs :=
  foldl_keeps (fun x : State => (x.chans.row ch).cutOffs) _ (fun _ _ => by simp) _ _

/-! ## Requested levels (R83) -/

@[simp] theorem State.setLevel_line (ch : Fin 16) (on : Bool) :
    (s.setLevel ch on).line = s.line := by
  simp [State.setLevel]
@[simp] theorem State.setLevel_table (ch : Fin 16) (on : Bool) :
    (s.setLevel ch on).table = s.table := by
  simp [State.setLevel]
@[simp] theorem State.setLevel_board (ch : Fin 16) (on : Bool) :
    (s.setLevel ch on).board = s.board := by
  simp [State.setLevel]
@[simp] theorem State.setLevel_scan (ch : Fin 16) (on : Bool) :
    (s.setLevel ch on).scan = s.scan := by
  simp [State.setLevel]
@[simp] theorem State.setLevel_plan (ch : Fin 16) (on : Bool) :
    (s.setLevel ch on).plan = s.plan := by
  simp [State.setLevel]
@[simp] theorem State.setLevel_door (ch : Fin 16) (on : Bool) :
    (s.setLevel ch on).door = s.door := by
  simp [State.setLevel]
@[simp] theorem State.setLevel_call (ch : Fin 16) (on : Bool) :
    (s.setLevel ch on).call = s.call := by
  simp [State.setLevel]
@[simp] theorem State.setLevel_req (ch : Fin 16) (on : Bool) :
    (s.setLevel ch on).req = s.req := by
  simp [State.setLevel]
@[simp] theorem State.setLevel_faultA (ch : Fin 16) (on : Bool) :
    (s.setLevel ch on).faultA = s.faultA := by
  simp [State.setLevel]
@[simp] theorem State.setLevel_faultB (ch : Fin 16) (on : Bool) :
    (s.setLevel ch on).faultB = s.faultB := by
  simp [State.setLevel]
@[simp] theorem State.setLevel_inReset (ch : Fin 16) (on : Bool) :
    (s.setLevel ch on).inReset = s.inReset := by
  simp [State.setLevel]
@[simp] theorem State.setLevel_clock (ch : Fin 16) (on : Bool) :
    (s.setLevel ch on).clock = s.clock := by
  simp [State.setLevel]
@[simp] theorem State.setLevel_handed (ch : Fin 16) (on : Bool) :
    (s.setLevel ch on).handed = s.handed := by
  simp [State.setLevel]
@[simp] theorem State.setLevel_pending (ch : Fin 16) (on : Bool) :
    (s.setLevel ch on).pending = s.pending := by
  simp [State.setLevel]
@[simp] theorem State.setLevel_own (ch : Fin 16) (on : Bool) :
    (s.setLevel ch on).own = s.own := by
  simp [State.setLevel]

theorem State.setLevel_chan_ne {ch ch' : Fin 16} (on : Bool) (h : ch ≠ ch') :
    (s.setLevel ch on).chans.row ch' = s.chans.row ch' := by
  simp [State.setLevel, State.conduct_chan_ne _ h, Tbl.row_put_ne _ _ h]
@[simp] theorem State.setLevel_requested (ch : Fin 16) (on : Bool) :
    ((s.setLevel ch on).chans.row ch).requested = on := by
  simp [State.setLevel]
@[simp] theorem State.setLevel_set (ch ch' : Fin 16) (on : Bool) :
    ((s.setLevel ch on).chans.row ch').set = (s.chans.row ch').set := by
  simp only [State.setLevel, State.conduct_set, State.setChan_chans, Tbl.row_put]
  split <;> simp_all

@[simp] theorem State.ownerLevel_line (o : Owner) (ch : Option (Fin 16)) (on : Bool) :
    (s.ownerLevel o ch on).line = s.line := by
  cases ch <;> simp only [State.ownerLevel]; split <;> simp
@[simp] theorem State.ownerLevel_table (o : Owner) (ch : Option (Fin 16)) (on : Bool) :
    (s.ownerLevel o ch on).table = s.table := by
  cases ch <;> simp only [State.ownerLevel]; split <;> simp
@[simp] theorem State.ownerLevel_board (o : Owner) (ch : Option (Fin 16)) (on : Bool) :
    (s.ownerLevel o ch on).board = s.board := by
  cases ch <;> simp only [State.ownerLevel]; split <;> simp
@[simp] theorem State.ownerLevel_scan (o : Owner) (ch : Option (Fin 16)) (on : Bool) :
    (s.ownerLevel o ch on).scan = s.scan := by
  cases ch <;> simp only [State.ownerLevel]; split <;> simp
@[simp] theorem State.ownerLevel_plan (o : Owner) (ch : Option (Fin 16)) (on : Bool) :
    (s.ownerLevel o ch on).plan = s.plan := by
  cases ch <;> simp only [State.ownerLevel]; split <;> simp
@[simp] theorem State.ownerLevel_door (o : Owner) (ch : Option (Fin 16)) (on : Bool) :
    (s.ownerLevel o ch on).door = s.door := by
  cases ch <;> simp only [State.ownerLevel]; split <;> simp
@[simp] theorem State.ownerLevel_call (o : Owner) (ch : Option (Fin 16)) (on : Bool) :
    (s.ownerLevel o ch on).call = s.call := by
  cases ch <;> simp only [State.ownerLevel]; split <;> simp
@[simp] theorem State.ownerLevel_req (o : Owner) (ch : Option (Fin 16)) (on : Bool) :
    (s.ownerLevel o ch on).req = s.req := by
  cases ch <;> simp only [State.ownerLevel]; split <;> simp
@[simp] theorem State.ownerLevel_faultA (o : Owner) (ch : Option (Fin 16)) (on : Bool) :
    (s.ownerLevel o ch on).faultA = s.faultA := by
  cases ch <;> simp only [State.ownerLevel]; split <;> simp
@[simp] theorem State.ownerLevel_faultB (o : Owner) (ch : Option (Fin 16)) (on : Bool) :
    (s.ownerLevel o ch on).faultB = s.faultB := by
  cases ch <;> simp only [State.ownerLevel]; split <;> simp
@[simp] theorem State.ownerLevel_inReset (o : Owner) (ch : Option (Fin 16)) (on : Bool) :
    (s.ownerLevel o ch on).inReset = s.inReset := by
  cases ch <;> simp only [State.ownerLevel]; split <;> simp
@[simp] theorem State.ownerLevel_clock (o : Owner) (ch : Option (Fin 16)) (on : Bool) :
    (s.ownerLevel o ch on).clock = s.clock := by
  cases ch <;> simp only [State.ownerLevel]; split <;> simp
@[simp] theorem State.ownerLevel_handed (o : Owner) (ch : Option (Fin 16)) (on : Bool) :
    (s.ownerLevel o ch on).handed = s.handed := by
  cases ch <;> simp only [State.ownerLevel]; split <;> simp
@[simp] theorem State.ownerLevel_pending (o : Owner) (ch : Option (Fin 16)) (on : Bool) :
    (s.ownerLevel o ch on).pending = s.pending := by
  cases ch <;> simp only [State.ownerLevel]; split <;> simp
@[simp] theorem State.ownerLevel_own (o : Owner) (ch : Option (Fin 16)) (on : Bool) :
    (s.ownerLevel o ch on).own = s.own := by
  cases ch <;> simp only [State.ownerLevel]; split <;> simp

@[simp] theorem State.ownerLevel_set (o : Owner) (ch : Option (Fin 16)) (on : Bool) (ch' : Fin 16) :
    ((s.ownerLevel o ch on).chans.row ch').set = (s.chans.row ch').set := by
  cases ch <;> simp only [State.ownerLevel]; split <;> simp
/-- A level that its owner sets and the mode admits is the channel's requested level. -/
theorem State.ownerLevel_of_owner {o : Owner} {ch : Fin 16} {on : Bool}
    (h : (s.chans.row ch).set.owner = o) (m : ¬ (on = true ∧ s.req.mode = .setup)) :
    s.ownerLevel o (some ch) on = s.setLevel ch on := by
  unfold State.ownerLevel
  exact if_pos ⟨h, m⟩
/-- A block that is not the owner changes nothing. -/
theorem State.ownerLevel_of_other {o : Owner} {ch : Fin 16} {on : Bool}
    (h : (s.chans.row ch).set.owner ≠ o) : s.ownerLevel o (some ch) on = s := by
  unfold State.ownerLevel
  exact if_neg (fun x => h x.1)
theorem State.ownerLevel_chan_ne {ch ch' : Fin 16} (o : Owner) (on : Bool) (h : ch ≠ ch') :
    (s.ownerLevel o (some ch) on).chans.row ch' = s.chans.row ch' := by
  simp only [State.ownerLevel]
  split
  · exact s.setLevel_chan_ne on h
  · rfl

/-! ## COMPARE UPDATE (R105) -/

@[simp] theorem State.compareUpdate_line (o : Owner) (ch : Option (Fin 16)) (a : Nat) :
    (s.compareUpdate o ch a).line = s.line := by
  cases ch <;> simp only [State.compareUpdate]; split <;> simp
@[simp] theorem State.compareUpdate_table (o : Owner) (ch : Option (Fin 16)) (a : Nat) :
    (s.compareUpdate o ch a).table = s.table := by
  cases ch <;> simp only [State.compareUpdate]; split <;> simp
@[simp] theorem State.compareUpdate_board (o : Owner) (ch : Option (Fin 16)) (a : Nat) :
    (s.compareUpdate o ch a).board = s.board := by
  cases ch <;> simp only [State.compareUpdate]; split <;> simp
@[simp] theorem State.compareUpdate_scan (o : Owner) (ch : Option (Fin 16)) (a : Nat) :
    (s.compareUpdate o ch a).scan = s.scan := by
  cases ch <;> simp only [State.compareUpdate]; split <;> simp
@[simp] theorem State.compareUpdate_plan (o : Owner) (ch : Option (Fin 16)) (a : Nat) :
    (s.compareUpdate o ch a).plan = s.plan := by
  cases ch <;> simp only [State.compareUpdate]; split <;> simp
@[simp] theorem State.compareUpdate_door (o : Owner) (ch : Option (Fin 16)) (a : Nat) :
    (s.compareUpdate o ch a).door = s.door := by
  cases ch <;> simp only [State.compareUpdate]; split <;> simp
@[simp] theorem State.compareUpdate_call (o : Owner) (ch : Option (Fin 16)) (a : Nat) :
    (s.compareUpdate o ch a).call = s.call := by
  cases ch <;> simp only [State.compareUpdate]; split <;> simp
@[simp] theorem State.compareUpdate_req (o : Owner) (ch : Option (Fin 16)) (a : Nat) :
    (s.compareUpdate o ch a).req = s.req := by
  cases ch <;> simp only [State.compareUpdate]; split <;> simp
@[simp] theorem State.compareUpdate_faultA (o : Owner) (ch : Option (Fin 16)) (a : Nat) :
    (s.compareUpdate o ch a).faultA = s.faultA := by
  cases ch <;> simp only [State.compareUpdate]; split <;> simp
@[simp] theorem State.compareUpdate_faultB (o : Owner) (ch : Option (Fin 16)) (a : Nat) :
    (s.compareUpdate o ch a).faultB = s.faultB := by
  cases ch <;> simp only [State.compareUpdate]; split <;> simp
@[simp] theorem State.compareUpdate_inReset (o : Owner) (ch : Option (Fin 16)) (a : Nat) :
    (s.compareUpdate o ch a).inReset = s.inReset := by
  cases ch <;> simp only [State.compareUpdate]; split <;> simp
@[simp] theorem State.compareUpdate_clock (o : Owner) (ch : Option (Fin 16)) (a : Nat) :
    (s.compareUpdate o ch a).clock = s.clock := by
  cases ch <;> simp only [State.compareUpdate]; split <;> simp
@[simp] theorem State.compareUpdate_handed (o : Owner) (ch : Option (Fin 16)) (a : Nat) :
    (s.compareUpdate o ch a).handed = s.handed := by
  cases ch <;> simp only [State.compareUpdate]; split <;> simp
@[simp] theorem State.compareUpdate_pending (o : Owner) (ch : Option (Fin 16)) (a : Nat) :
    (s.compareUpdate o ch a).pending = s.pending := by
  cases ch <;> simp only [State.compareUpdate]; split <;> simp
@[simp] theorem State.compareUpdate_own (o : Owner) (ch : Option (Fin 16)) (a : Nat) :
    (s.compareUpdate o ch a).own = s.own := by
  cases ch <;> simp only [State.compareUpdate]; split <;> simp

/-! ## Forcing (R88, R89) -/

@[simp] theorem State.handOwner_line (mk : Owner → Fin 16 → Instr) (ch : Fin 16) :
    (s.handOwner mk ch).line = s.line := by
  simp only [State.handOwner]; split <;> simp
@[simp] theorem State.handOwner_table (mk : Owner → Fin 16 → Instr) (ch : Fin 16) :
    (s.handOwner mk ch).table = s.table := by
  simp only [State.handOwner]; split <;> simp
@[simp] theorem State.handOwner_board (mk : Owner → Fin 16 → Instr) (ch : Fin 16) :
    (s.handOwner mk ch).board = s.board := by
  simp only [State.handOwner]; split <;> simp
@[simp] theorem State.handOwner_scan (mk : Owner → Fin 16 → Instr) (ch : Fin 16) :
    (s.handOwner mk ch).scan = s.scan := by
  simp only [State.handOwner]; split <;> simp
@[simp] theorem State.handOwner_chans (mk : Owner → Fin 16 → Instr) (ch : Fin 16) :
    (s.handOwner mk ch).chans = s.chans := by
  simp only [State.handOwner]; split <;> simp
@[simp] theorem State.handOwner_plan (mk : Owner → Fin 16 → Instr) (ch : Fin 16) :
    (s.handOwner mk ch).plan = s.plan := by
  simp only [State.handOwner]; split <;> simp
@[simp] theorem State.handOwner_door (mk : Owner → Fin 16 → Instr) (ch : Fin 16) :
    (s.handOwner mk ch).door = s.door := by
  simp only [State.handOwner]; split <;> simp
@[simp] theorem State.handOwner_call (mk : Owner → Fin 16 → Instr) (ch : Fin 16) :
    (s.handOwner mk ch).call = s.call := by
  simp only [State.handOwner]; split <;> simp
@[simp] theorem State.handOwner_req (mk : Owner → Fin 16 → Instr) (ch : Fin 16) :
    (s.handOwner mk ch).req = s.req := by
  simp only [State.handOwner]; split <;> simp
@[simp] theorem State.handOwner_faultA (mk : Owner → Fin 16 → Instr) (ch : Fin 16) :
    (s.handOwner mk ch).faultA = s.faultA := by
  simp only [State.handOwner]; split <;> simp
@[simp] theorem State.handOwner_faultB (mk : Owner → Fin 16 → Instr) (ch : Fin 16) :
    (s.handOwner mk ch).faultB = s.faultB := by
  simp only [State.handOwner]; split <;> simp
@[simp] theorem State.handOwner_inReset (mk : Owner → Fin 16 → Instr) (ch : Fin 16) :
    (s.handOwner mk ch).inReset = s.inReset := by
  simp only [State.handOwner]; split <;> simp
@[simp] theorem State.handOwner_clock (mk : Owner → Fin 16 → Instr) (ch : Fin 16) :
    (s.handOwner mk ch).clock = s.clock := by
  simp only [State.handOwner]; split <;> simp
@[simp] theorem State.handOwner_pending (mk : Owner → Fin 16 → Instr) (ch : Fin 16) :
    (s.handOwner mk ch).pending = s.pending := by
  simp only [State.handOwner]; split <;> simp
@[simp] theorem State.handOwner_own (mk : Owner → Fin 16 → Instr) (ch : Fin 16) :
    (s.handOwner mk ch).own = s.own := by
  simp only [State.handOwner]; split <;> simp

@[simp] theorem State.releaseIfStill_line (ch : Fin 16) :
    (s.releaseIfStill ch).line = s.line := by
  simp only [State.releaseIfStill]; split <;> simp
@[simp] theorem State.releaseIfStill_table (ch : Fin 16) :
    (s.releaseIfStill ch).table = s.table := by
  simp only [State.releaseIfStill]; split <;> simp
@[simp] theorem State.releaseIfStill_board (ch : Fin 16) :
    (s.releaseIfStill ch).board = s.board := by
  simp only [State.releaseIfStill]; split <;> simp
@[simp] theorem State.releaseIfStill_scan (ch : Fin 16) :
    (s.releaseIfStill ch).scan = s.scan := by
  simp only [State.releaseIfStill]; split <;> simp
@[simp] theorem State.releaseIfStill_plan (ch : Fin 16) :
    (s.releaseIfStill ch).plan = s.plan := by
  simp only [State.releaseIfStill]; split <;> simp
@[simp] theorem State.releaseIfStill_door (ch : Fin 16) :
    (s.releaseIfStill ch).door = s.door := by
  simp only [State.releaseIfStill]; split <;> simp
@[simp] theorem State.releaseIfStill_call (ch : Fin 16) :
    (s.releaseIfStill ch).call = s.call := by
  simp only [State.releaseIfStill]; split <;> simp
@[simp] theorem State.releaseIfStill_req (ch : Fin 16) :
    (s.releaseIfStill ch).req = s.req := by
  simp only [State.releaseIfStill]; split <;> simp
@[simp] theorem State.releaseIfStill_faultA (ch : Fin 16) :
    (s.releaseIfStill ch).faultA = s.faultA := by
  simp only [State.releaseIfStill]; split <;> simp
@[simp] theorem State.releaseIfStill_faultB (ch : Fin 16) :
    (s.releaseIfStill ch).faultB = s.faultB := by
  simp only [State.releaseIfStill]; split <;> simp
@[simp] theorem State.releaseIfStill_inReset (ch : Fin 16) :
    (s.releaseIfStill ch).inReset = s.inReset := by
  simp only [State.releaseIfStill]; split <;> simp
@[simp] theorem State.releaseIfStill_clock (ch : Fin 16) :
    (s.releaseIfStill ch).clock = s.clock := by
  simp only [State.releaseIfStill]; split <;> simp
@[simp] theorem State.releaseIfStill_handed (ch : Fin 16) :
    (s.releaseIfStill ch).handed = s.handed := by
  simp only [State.releaseIfStill]; split <;> simp
@[simp] theorem State.releaseIfStill_pending (ch : Fin 16) :
    (s.releaseIfStill ch).pending = s.pending := by
  simp only [State.releaseIfStill]; split <;> simp
@[simp] theorem State.releaseIfStill_own (ch : Fin 16) :
    (s.releaseIfStill ch).own = s.own := by
  simp only [State.releaseIfStill]; split <;> simp

@[simp] theorem State.judgeForcing_line (ch : Fin 16) :
    (s.judgeForcing ch).line = s.line := by
  simp only [State.judgeForcing]; repeat' split
  all_goals simp
@[simp] theorem State.judgeForcing_table (ch : Fin 16) :
    (s.judgeForcing ch).table = s.table := by
  simp only [State.judgeForcing]; repeat' split
  all_goals simp
@[simp] theorem State.judgeForcing_board (ch : Fin 16) :
    (s.judgeForcing ch).board = s.board := by
  simp only [State.judgeForcing]; repeat' split
  all_goals simp
@[simp] theorem State.judgeForcing_scan (ch : Fin 16) :
    (s.judgeForcing ch).scan = s.scan := by
  simp only [State.judgeForcing]; repeat' split
  all_goals simp
@[simp] theorem State.judgeForcing_plan (ch : Fin 16) :
    (s.judgeForcing ch).plan = s.plan := by
  simp only [State.judgeForcing]; repeat' split
  all_goals simp
@[simp] theorem State.judgeForcing_door (ch : Fin 16) :
    (s.judgeForcing ch).door = s.door := by
  simp only [State.judgeForcing]; repeat' split
  all_goals simp
@[simp] theorem State.judgeForcing_call (ch : Fin 16) :
    (s.judgeForcing ch).call = s.call := by
  simp only [State.judgeForcing]; repeat' split
  all_goals simp
@[simp] theorem State.judgeForcing_req (ch : Fin 16) :
    (s.judgeForcing ch).req = s.req := by
  simp only [State.judgeForcing]; repeat' split
  all_goals simp
@[simp] theorem State.judgeForcing_faultA (ch : Fin 16) :
    (s.judgeForcing ch).faultA = s.faultA := by
  simp only [State.judgeForcing]; repeat' split
  all_goals simp
@[simp] theorem State.judgeForcing_faultB (ch : Fin 16) :
    (s.judgeForcing ch).faultB = s.faultB := by
  simp only [State.judgeForcing]; repeat' split
  all_goals simp
@[simp] theorem State.judgeForcing_inReset (ch : Fin 16) :
    (s.judgeForcing ch).inReset = s.inReset := by
  simp only [State.judgeForcing]; repeat' split
  all_goals simp
@[simp] theorem State.judgeForcing_clock (ch : Fin 16) :
    (s.judgeForcing ch).clock = s.clock := by
  simp only [State.judgeForcing]; repeat' split
  all_goals simp
@[simp] theorem State.judgeForcing_pending (ch : Fin 16) :
    (s.judgeForcing ch).pending = s.pending := by
  simp only [State.judgeForcing]; repeat' split
  all_goals simp
@[simp] theorem State.judgeForcing_own (ch : Fin 16) :
    (s.judgeForcing ch).own = s.own := by
  simp only [State.judgeForcing]; repeat' split
  all_goals simp

end Sys2Proof.Machine
end

