-- ==== Sys2Proof/Laws/Deck.lean ====
section
/-! SUPPORT. What the shared operations of PLAN, DOOR and CALL can do: stopping and faulting a ramp, moving a
door, and ending a CALL event. -/

namespace Sys2Proof.Machine
variable (s : State)

/-! ## PLAN -/

@[simp] theorem State.stopValves_line (r : Fin 4) :
    (s.stopValves r).line = s.line := by
  simp [State.stopValves]
@[simp] theorem State.stopValves_table (r : Fin 4) :
    (s.stopValves r).table = s.table := by
  simp [State.stopValves]
@[simp] theorem State.stopValves_board (r : Fin 4) :
    (s.stopValves r).board = s.board := by
  simp [State.stopValves]
@[simp] theorem State.stopValves_scan (r : Fin 4) :
    (s.stopValves r).scan = s.scan := by
  simp [State.stopValves]
@[simp] theorem State.stopValves_plan (r : Fin 4) :
    (s.stopValves r).plan = s.plan := by
  simp [State.stopValves]
@[simp] theorem State.stopValves_door (r : Fin 4) :
    (s.stopValves r).door = s.door := by
  simp [State.stopValves]
@[simp] theorem State.stopValves_call (r : Fin 4) :
    (s.stopValves r).call = s.call := by
  simp [State.stopValves]
@[simp] theorem State.stopValves_req (r : Fin 4) :
    (s.stopValves r).req = s.req := by
  simp [State.stopValves]
@[simp] theorem State.stopValves_faultA (r : Fin 4) :
    (s.stopValves r).faultA = s.faultA := by
  simp [State.stopValves]
@[simp] theorem State.stopValves_faultB (r : Fin 4) :
    (s.stopValves r).faultB = s.faultB := by
  simp [State.stopValves]
@[simp] theorem State.stopValves_inReset (r : Fin 4) :
    (s.stopValves r).inReset = s.inReset := by
  simp [State.stopValves]
@[simp] theorem State.stopValves_clock (r : Fin 4) :
    (s.stopValves r).clock = s.clock := by
  simp [State.stopValves]
@[simp] theorem State.stopValves_handed (r : Fin 4) :
    (s.stopValves r).handed = s.handed := by
  simp [State.stopValves]
@[simp] theorem State.stopValves_pending (r : Fin 4) :
    (s.stopValves r).pending = s.pending := by
  simp [State.stopValves]
@[simp] theorem State.stopValves_own (r : Fin 4) :
    (s.stopValves r).own = s.own := by
  simp [State.stopValves]

@[simp] theorem State.restRamp_line (r : Fin 4) (x : Ramp) :
    (s.restRamp r x).line = s.line := by
  simp [State.restRamp]
@[simp] theorem State.restRamp_table (r : Fin 4) (x : Ramp) :
    (s.restRamp r x).table = s.table := by
  simp [State.restRamp]
@[simp] theorem State.restRamp_scan (r : Fin 4) (x : Ramp) :
    (s.restRamp r x).scan = s.scan := by
  simp [State.restRamp]
@[simp] theorem State.restRamp_door (r : Fin 4) (x : Ramp) :
    (s.restRamp r x).door = s.door := by
  simp [State.restRamp]
@[simp] theorem State.restRamp_call (r : Fin 4) (x : Ramp) :
    (s.restRamp r x).call = s.call := by
  simp [State.restRamp]
@[simp] theorem State.restRamp_req (r : Fin 4) (x : Ramp) :
    (s.restRamp r x).req = s.req := by
  simp [State.restRamp]
@[simp] theorem State.restRamp_faultA (r : Fin 4) (x : Ramp) :
    (s.restRamp r x).faultA = s.faultA := by
  simp [State.restRamp]
@[simp] theorem State.restRamp_faultB (r : Fin 4) (x : Ramp) :
    (s.restRamp r x).faultB = s.faultB := by
  simp [State.restRamp]
@[simp] theorem State.restRamp_inReset (r : Fin 4) (x : Ramp) :
    (s.restRamp r x).inReset = s.inReset := by
  simp [State.restRamp]
@[simp] theorem State.restRamp_clock (r : Fin 4) (x : Ramp) :
    (s.restRamp r x).clock = s.clock := by
  simp [State.restRamp]
@[simp] theorem State.restRamp_pending (r : Fin 4) (x : Ramp) :
    (s.restRamp r x).pending = s.pending := by
  simp [State.restRamp]
@[simp] theorem State.restRamp_own (r : Fin 4) (x : Ramp) :
    (s.restRamp r x).own = s.own := by
  simp [State.restRamp]

/-- A ramp that stops has command 0, and no other ramp changes (R118). -/
theorem State.restRamp_plan (r : Fin 4) (x : Ramp) :
    (s.restRamp r x).plan = { s.plan with ramps := s.plan.ramps.put r { x with sPrev := 0 } } := by
  simp [State.restRamp]

@[simp] theorem State.pauseRamp_line (r : Fin 4) :
    (s.pauseRamp r).line = s.line := by
  simp [State.pauseRamp]
@[simp] theorem State.pauseRamp_table (r : Fin 4) :
    (s.pauseRamp r).table = s.table := by
  simp [State.pauseRamp]
@[simp] theorem State.pauseRamp_scan (r : Fin 4) :
    (s.pauseRamp r).scan = s.scan := by
  simp [State.pauseRamp]
@[simp] theorem State.pauseRamp_door (r : Fin 4) :
    (s.pauseRamp r).door = s.door := by
  simp [State.pauseRamp]
@[simp] theorem State.pauseRamp_call (r : Fin 4) :
    (s.pauseRamp r).call = s.call := by
  simp [State.pauseRamp]
@[simp] theorem State.pauseRamp_req (r : Fin 4) :
    (s.pauseRamp r).req = s.req := by
  simp [State.pauseRamp]
@[simp] theorem State.pauseRamp_faultA (r : Fin 4) :
    (s.pauseRamp r).faultA = s.faultA := by
  simp [State.pauseRamp]
@[simp] theorem State.pauseRamp_faultB (r : Fin 4) :
    (s.pauseRamp r).faultB = s.faultB := by
  simp [State.pauseRamp]
@[simp] theorem State.pauseRamp_inReset (r : Fin 4) :
    (s.pauseRamp r).inReset = s.inReset := by
  simp [State.pauseRamp]
@[simp] theorem State.pauseRamp_clock (r : Fin 4) :
    (s.pauseRamp r).clock = s.clock := by
  simp [State.pauseRamp]
@[simp] theorem State.pauseRamp_pending (r : Fin 4) :
    (s.pauseRamp r).pending = s.pending := by
  simp [State.pauseRamp]
@[simp] theorem State.pauseRamp_own (r : Fin 4) :
    (s.pauseRamp r).own = s.own := by
  simp [State.pauseRamp]

@[simp] theorem State.holdRamp_line (r : Fin 4) :
    (s.holdRamp r).line = s.line := by
  simp [State.holdRamp]
@[simp] theorem State.holdRamp_table (r : Fin 4) :
    (s.holdRamp r).table = s.table := by
  simp [State.holdRamp]
@[simp] theorem State.holdRamp_scan (r : Fin 4) :
    (s.holdRamp r).scan = s.scan := by
  simp [State.holdRamp]
@[simp] theorem State.holdRamp_door (r : Fin 4) :
    (s.holdRamp r).door = s.door := by
  simp [State.holdRamp]
@[simp] theorem State.holdRamp_call (r : Fin 4) :
    (s.holdRamp r).call = s.call := by
  simp [State.holdRamp]
@[simp] theorem State.holdRamp_req (r : Fin 4) :
    (s.holdRamp r).req = s.req := by
  simp [State.holdRamp]
@[simp] theorem State.holdRamp_faultA (r : Fin 4) :
    (s.holdRamp r).faultA = s.faultA := by
  simp [State.holdRamp]
@[simp] theorem State.holdRamp_faultB (r : Fin 4) :
    (s.holdRamp r).faultB = s.faultB := by
  simp [State.holdRamp]
@[simp] theorem State.holdRamp_inReset (r : Fin 4) :
    (s.holdRamp r).inReset = s.inReset := by
  simp [State.holdRamp]
@[simp] theorem State.holdRamp_clock (r : Fin 4) :
    (s.holdRamp r).clock = s.clock := by
  simp [State.holdRamp]
@[simp] theorem State.holdRamp_pending (r : Fin 4) :
    (s.holdRamp r).pending = s.pending := by
  simp [State.holdRamp]
@[simp] theorem State.holdRamp_own (r : Fin 4) :
    (s.holdRamp r).own = s.own := by
  simp [State.holdRamp]

@[simp] theorem State.faultRamp_table (r : Fin 4) (reason : FaultReason) :
    (s.faultRamp r reason).table = s.table := by
  simp [State.faultRamp]
@[simp] theorem State.faultRamp_scan (r : Fin 4) (reason : FaultReason) :
    (s.faultRamp r reason).scan = s.scan := by
  simp [State.faultRamp]
@[simp] theorem State.faultRamp_door (r : Fin 4) (reason : FaultReason) :
    (s.faultRamp r reason).door = s.door := by
  simp [State.faultRamp]
@[simp] theorem State.faultRamp_call (r : Fin 4) (reason : FaultReason) :
    (s.faultRamp r reason).call = s.call := by
  simp [State.faultRamp]
@[simp] theorem State.faultRamp_faultA (r : Fin 4) (reason : FaultReason) :
    (s.faultRamp r reason).faultA = s.faultA := by
  simp [State.faultRamp]
@[simp] theorem State.faultRamp_faultB (r : Fin 4) (reason : FaultReason) :
    (s.faultRamp r reason).faultB = s.faultB := by
  simp [State.faultRamp]
@[simp] theorem State.faultRamp_inReset (r : Fin 4) (reason : FaultReason) :
    (s.faultRamp r reason).inReset = s.inReset := by
  simp [State.faultRamp]
@[simp] theorem State.faultRamp_clock (r : Fin 4) (reason : FaultReason) :
    (s.faultRamp r reason).clock = s.clock := by
  simp [State.faultRamp]
@[simp] theorem State.faultRamp_pending (r : Fin 4) (reason : FaultReason) :
    (s.faultRamp r reason).pending = s.pending := by
  simp [State.faultRamp]
@[simp] theorem State.faultRamp_line_sides (r : Fin 4) (reason : FaultReason) :
    (s.faultRamp r reason).line.sides = s.line.sides := by
  simp [State.faultRamp]
@[simp] theorem State.faultRamp_line_strap (r : Fin 4) (reason : FaultReason) :
    (s.faultRamp r reason).line.strap = s.line.strap := by
  simp [State.faultRamp]
@[simp] theorem State.faultRamp_line_silence (r : Fin 4) (reason : FaultReason) :
    (s.faultRamp r reason).line.silence = s.line.silence := by
  simp [State.faultRamp]
@[simp] theorem State.faultRamp_line_silenceMs (r : Fin 4) (reason : FaultReason) :
    (s.faultRamp r reason).line.silenceMs = s.line.silenceMs := by
  simp [State.faultRamp]
@[simp] theorem State.faultRamp_line_clashCount (r : Fin 4) (reason : FaultReason) :
    (s.faultRamp r reason).line.clashCount = s.line.clashCount := by
  simp [State.faultRamp]
@[simp] theorem State.faultRamp_own (r : Fin 4) (reason : FaultReason) :
    (s.faultRamp r reason).own = s.own := by
  simp [State.faultRamp]

@[simp] theorem State.idleRamp_line (r : Fin 4) (result : LastResult) :
    (s.idleRamp r result).line = s.line := by
  simp [State.idleRamp]
@[simp] theorem State.idleRamp_table (r : Fin 4) (result : LastResult) :
    (s.idleRamp r result).table = s.table := by
  simp [State.idleRamp]
@[simp] theorem State.idleRamp_scan (r : Fin 4) (result : LastResult) :
    (s.idleRamp r result).scan = s.scan := by
  simp [State.idleRamp]
@[simp] theorem State.idleRamp_door (r : Fin 4) (result : LastResult) :
    (s.idleRamp r result).door = s.door := by
  simp [State.idleRamp]
@[simp] theorem State.idleRamp_call (r : Fin 4) (result : LastResult) :
    (s.idleRamp r result).call = s.call := by
  simp [State.idleRamp]
@[simp] theorem State.idleRamp_req (r : Fin 4) (result : LastResult) :
    (s.idleRamp r result).req = s.req := by
  simp [State.idleRamp]
@[simp] theorem State.idleRamp_faultA (r : Fin 4) (result : LastResult) :
    (s.idleRamp r result).faultA = s.faultA := by
  simp [State.idleRamp]
@[simp] theorem State.idleRamp_faultB (r : Fin 4) (result : LastResult) :
    (s.idleRamp r result).faultB = s.faultB := by
  simp [State.idleRamp]
@[simp] theorem State.idleRamp_inReset (r : Fin 4) (result : LastResult) :
    (s.idleRamp r result).inReset = s.inReset := by
  simp [State.idleRamp]
@[simp] theorem State.idleRamp_clock (r : Fin 4) (result : LastResult) :
    (s.idleRamp r result).clock = s.clock := by
  simp [State.idleRamp]
@[simp] theorem State.idleRamp_pending (r : Fin 4) (result : LastResult) :
    (s.idleRamp r result).pending = s.pending := by
  simp [State.idleRamp]
@[simp] theorem State.idleRamp_own (r : Fin 4) (result : LastResult) :
    (s.idleRamp r result).own = s.own := by
  simp [State.idleRamp]

/-! ## DOOR -/

@[simp] theorem State.doorTo_table (d : Fin 24) (st : DoorState) (due : Option Nat) :
    (s.doorTo d st due).table = s.table := by
  simp only [State.doorTo]; split <;> [skip; split] <;> simp
@[simp] theorem State.doorTo_scan (d : Fin 24) (st : DoorState) (due : Option Nat) :
    (s.doorTo d st due).scan = s.scan := by
  simp only [State.doorTo]; split <;> [skip; split] <;> simp
@[simp] theorem State.doorTo_chans (d : Fin 24) (st : DoorState) (due : Option Nat) :
    (s.doorTo d st due).chans = s.chans := by
  simp only [State.doorTo]; split <;> [skip; split] <;> simp
@[simp] theorem State.doorTo_plan (d : Fin 24) (st : DoorState) (due : Option Nat) :
    (s.doorTo d st due).plan = s.plan := by
  simp only [State.doorTo]; split <;> [skip; split] <;> simp
@[simp] theorem State.doorTo_call (d : Fin 24) (st : DoorState) (due : Option Nat) :
    (s.doorTo d st due).call = s.call := by
  simp only [State.doorTo]; split <;> [skip; split] <;> simp
@[simp] theorem State.doorTo_faultA (d : Fin 24) (st : DoorState) (due : Option Nat) :
    (s.doorTo d st due).faultA = s.faultA := by
  simp only [State.doorTo]; split <;> [skip; split] <;> simp
@[simp] theorem State.doorTo_faultB (d : Fin 24) (st : DoorState) (due : Option Nat) :
    (s.doorTo d st due).faultB = s.faultB := by
  simp only [State.doorTo]; split <;> [skip; split] <;> simp
@[simp] theorem State.doorTo_inReset (d : Fin 24) (st : DoorState) (due : Option Nat) :
    (s.doorTo d st due).inReset = s.inReset := by
  simp only [State.doorTo]; split <;> [skip; split] <;> simp
@[simp] theorem State.doorTo_clock (d : Fin 24) (st : DoorState) (due : Option Nat) :
    (s.doorTo d st due).clock = s.clock := by
  simp only [State.doorTo]; split <;> [skip; split] <;> simp
@[simp] theorem State.doorTo_pending (d : Fin 24) (st : DoorState) (due : Option Nat) :
    (s.doorTo d st due).pending = s.pending := by
  simp only [State.doorTo]; split <;> [skip; split] <;> simp
@[simp] theorem State.doorTo_line_sides (d : Fin 24) (st : DoorState) (due : Option Nat) :
    (s.doorTo d st due).line.sides = s.line.sides := by
  simp only [State.doorTo]; split <;> [skip; split] <;> simp
@[simp] theorem State.doorTo_line_strap (d : Fin 24) (st : DoorState) (due : Option Nat) :
    (s.doorTo d st due).line.strap = s.line.strap := by
  simp only [State.doorTo]; split <;> [skip; split] <;> simp
@[simp] theorem State.doorTo_line_silence (d : Fin 24) (st : DoorState) (due : Option Nat) :
    (s.doorTo d st due).line.silence = s.line.silence := by
  simp only [State.doorTo]; split <;> [skip; split] <;> simp
@[simp] theorem State.doorTo_line_silenceMs (d : Fin 24) (st : DoorState) (due : Option Nat) :
    (s.doorTo d st due).line.silenceMs = s.line.silenceMs := by
  simp only [State.doorTo]; split <;> [skip; split] <;> simp
@[simp] theorem State.doorTo_line_clashCount (d : Fin 24) (st : DoorState) (due : Option Nat) :
    (s.doorTo d st due).line.clashCount = s.line.clashCount := by
  simp only [State.doorTo]; split <;> [skip; split] <;> simp
@[simp] theorem State.doorTo_own (d : Fin 24) (st : DoorState) (due : Option Nat) :
    (s.doorTo d st due).own = s.own := by
  simp only [State.doorTo]; split <;> [skip; split] <;> simp

/-- A door that changes its state: its record is what the change says, and no other record of DOOR changes
(R142). -/
theorem State.doorTo_door (d : Fin 24) (st : DoorState) (due : Option Nat) :
    (s.doorTo d st due).door =
      { s.door with
        doors := s.door.doors.put d
          { s.door.doors.row d with state := st, timer := st.timer s.clock, due := due } } := by
  simp only [State.doorTo]
  split <;> [skip; split] <;> simp

@[simp] theorem State.setAttempts_line (d : Fin 24) (n : Nat) :
    (s.setAttempts d n).line = s.line := by
  simp [State.setAttempts]
@[simp] theorem State.setAttempts_table (d : Fin 24) (n : Nat) :
    (s.setAttempts d n).table = s.table := by
  simp [State.setAttempts]
@[simp] theorem State.setAttempts_board (d : Fin 24) (n : Nat) :
    (s.setAttempts d n).board = s.board := by
  simp [State.setAttempts]
@[simp] theorem State.setAttempts_scan (d : Fin 24) (n : Nat) :
    (s.setAttempts d n).scan = s.scan := by
  simp [State.setAttempts]
@[simp] theorem State.setAttempts_chans (d : Fin 24) (n : Nat) :
    (s.setAttempts d n).chans = s.chans := by
  simp [State.setAttempts]
@[simp] theorem State.setAttempts_plan (d : Fin 24) (n : Nat) :
    (s.setAttempts d n).plan = s.plan := by
  simp [State.setAttempts]
@[simp] theorem State.setAttempts_call (d : Fin 24) (n : Nat) :
    (s.setAttempts d n).call = s.call := by
  simp [State.setAttempts]
@[simp] theorem State.setAttempts_req (d : Fin 24) (n : Nat) :
    (s.setAttempts d n).req = s.req := by
  simp [State.setAttempts]
@[simp] theorem State.setAttempts_faultA (d : Fin 24) (n : Nat) :
    (s.setAttempts d n).faultA = s.faultA := by
  simp [State.setAttempts]
@[simp] theorem State.setAttempts_faultB (d : Fin 24) (n : Nat) :
    (s.setAttempts d n).faultB = s.faultB := by
  simp [State.setAttempts]
@[simp] theorem State.setAttempts_inReset (d : Fin 24) (n : Nat) :
    (s.setAttempts d n).inReset = s.inReset := by
  simp [State.setAttempts]
@[simp] theorem State.setAttempts_clock (d : Fin 24) (n : Nat) :
    (s.setAttempts d n).clock = s.clock := by
  simp [State.setAttempts]
@[simp] theorem State.setAttempts_handed (d : Fin 24) (n : Nat) :
    (s.setAttempts d n).handed = s.handed := by
  simp [State.setAttempts]
@[simp] theorem State.setAttempts_pending (d : Fin 24) (n : Nat) :
    (s.setAttempts d n).pending = s.pending := by
  simp [State.setAttempts]
@[simp] theorem State.setAttempts_own (d : Fin 24) (n : Nat) :
    (s.setAttempts d n).own = s.own := by
  simp [State.setAttempts]

@[simp] theorem State.doorLevels_line (d : Fin 24) :
    (s.doorLevels d).line = s.line := by
  simp [State.doorLevels]
@[simp] theorem State.doorLevels_table (d : Fin 24) :
    (s.doorLevels d).table = s.table := by
  simp [State.doorLevels]
@[simp] theorem State.doorLevels_board (d : Fin 24) :
    (s.doorLevels d).board = s.board := by
  simp [State.doorLevels]
@[simp] theorem State.doorLevels_scan (d : Fin 24) :
    (s.doorLevels d).scan = s.scan := by
  simp [State.doorLevels]
@[simp] theorem State.doorLevels_plan (d : Fin 24) :
    (s.doorLevels d).plan = s.plan := by
  simp [State.doorLevels]
@[simp] theorem State.doorLevels_door (d : Fin 24) :
    (s.doorLevels d).door = s.door := by
  simp [State.doorLevels]
@[simp] theorem State.doorLevels_call (d : Fin 24) :
    (s.doorLevels d).call = s.call := by
  simp [State.doorLevels]
@[simp] theorem State.doorLevels_req (d : Fin 24) :
    (s.doorLevels d).req = s.req := by
  simp [State.doorLevels]
@[simp] theorem State.doorLevels_faultA (d : Fin 24) :
    (s.doorLevels d).faultA = s.faultA := by
  simp [State.doorLevels]
@[simp] theorem State.doorLevels_faultB (d : Fin 24) :
    (s.doorLevels d).faultB = s.faultB := by
  simp [State.doorLevels]
@[simp] theorem State.doorLevels_inReset (d : Fin 24) :
    (s.doorLevels d).inReset = s.inReset := by
  simp [State.doorLevels]
@[simp] theorem State.doorLevels_clock (d : Fin 24) :
    (s.doorLevels d).clock = s.clock := by
  simp [State.doorLevels]
@[simp] theorem State.doorLevels_handed (d : Fin 24) :
    (s.doorLevels d).handed = s.handed := by
  simp [State.doorLevels]
@[simp] theorem State.doorLevels_pending (d : Fin 24) :
    (s.doorLevels d).pending = s.pending := by
  simp [State.doorLevels]
@[simp] theorem State.doorLevels_own (d : Fin 24) :
    (s.doorLevels d).own = s.own := by
  simp [State.doorLevels]

/-! ## CALL -/

@[simp] theorem State.setLamp_line (z : Fin 16) :
    (s.setLamp z).line = s.line := by
  simp [State.setLamp]
@[simp] theorem State.setLamp_table (z : Fin 16) :
    (s.setLamp z).table = s.table := by
  simp [State.setLamp]
@[simp] theorem State.setLamp_board (z : Fin 16) :
    (s.setLamp z).board = s.board := by
  simp [State.setLamp]
@[simp] theorem State.setLamp_scan (z : Fin 16) :
    (s.setLamp z).scan = s.scan := by
  simp [State.setLamp]
@[simp] theorem State.setLamp_plan (z : Fin 16) :
    (s.setLamp z).plan = s.plan := by
  simp [State.setLamp]
@[simp] theorem State.setLamp_door (z : Fin 16) :
    (s.setLamp z).door = s.door := by
  simp [State.setLamp]
@[simp] theorem State.setLamp_call (z : Fin 16) :
    (s.setLamp z).call = s.call := by
  simp [State.setLamp]
@[simp] theorem State.setLamp_req (z : Fin 16) :
    (s.setLamp z).req = s.req := by
  simp [State.setLamp]
@[simp] theorem State.setLamp_faultA (z : Fin 16) :
    (s.setLamp z).faultA = s.faultA := by
  simp [State.setLamp]
@[simp] theorem State.setLamp_faultB (z : Fin 16) :
    (s.setLamp z).faultB = s.faultB := by
  simp [State.setLamp]
@[simp] theorem State.setLamp_inReset (z : Fin 16) :
    (s.setLamp z).inReset = s.inReset := by
  simp [State.setLamp]
@[simp] theorem State.setLamp_clock (z : Fin 16) :
    (s.setLamp z).clock = s.clock := by
  simp [State.setLamp]
@[simp] theorem State.setLamp_handed (z : Fin 16) :
    (s.setLamp z).handed = s.handed := by
  simp [State.setLamp]
@[simp] theorem State.setLamp_pending (z : Fin 16) :
    (s.setLamp z).pending = s.pending := by
  simp [State.setLamp]
@[simp] theorem State.setLamp_own (z : Fin 16) :
    (s.setLamp z).own = s.own := by
  simp [State.setLamp]

@[simp] theorem State.callFrames_table (r : CallRun) : (s.callFrames r).table = s.table :=
  foldl_keeps (fun x : State => x.table) _ (fun _ _ => by simp) _ _
@[simp] theorem State.callFrames_board (r : CallRun) : (s.callFrames r).board = s.board :=
  foldl_keeps (fun x : State => x.board) _ (fun _ _ => by simp) _ _
@[simp] theorem State.callFrames_scan (r : CallRun) : (s.callFrames r).scan = s.scan :=
  foldl_keeps (fun x : State => x.scan) _ (fun _ _ => by simp) _ _
@[simp] theorem State.callFrames_chans (r : CallRun) : (s.callFrames r).chans = s.chans :=
  foldl_keeps (fun x : State => x.chans) _ (fun _ _ => by simp) _ _
@[simp] theorem State.callFrames_plan (r : CallRun) : (s.callFrames r).plan = s.plan :=
  foldl_keeps (fun x : State => x.plan) _ (fun _ _ => by simp) _ _
@[simp] theorem State.callFrames_door (r : CallRun) : (s.callFrames r).door = s.door :=
  foldl_keeps (fun x : State => x.door) _ (fun _ _ => by simp) _ _
@[simp] theorem State.callFrames_call (r : CallRun) : (s.callFrames r).call = s.call :=
  foldl_keeps (fun x : State => x.call) _ (fun _ _ => by simp) _ _
@[simp] theorem State.callFrames_req (r : CallRun) : (s.callFrames r).req = s.req :=
  foldl_keeps (fun x : State => x.req) _ (fun _ _ => by simp) _ _
@[simp] theorem State.callFrames_faultA (r : CallRun) : (s.callFrames r).faultA = s.faultA :=
  foldl_keeps (fun x : State => x.faultA) _ (fun _ _ => by simp) _ _
@[simp] theorem State.callFrames_faultB (r : CallRun) : (s.callFrames r).faultB = s.faultB :=
  foldl_keeps (fun x : State => x.faultB) _ (fun _ _ => by simp) _ _
@[simp] theorem State.callFrames_inReset (r : CallRun) : (s.callFrames r).inReset = s.inReset :=
  foldl_keeps (fun x : State => x.inReset) _ (fun _ _ => by simp) _ _
@[simp] theorem State.callFrames_clock (r : CallRun) : (s.callFrames r).clock = s.clock :=
  foldl_keeps (fun x : State => x.clock) _ (fun _ _ => by simp) _ _
@[simp] theorem State.callFrames_handed (r : CallRun) : (s.callFrames r).handed = s.handed :=
  foldl_keeps (fun x : State => x.handed) _ (fun _ _ => by simp) _ _
@[simp] theorem State.callFrames_pending (r : CallRun) : (s.callFrames r).pending = s.pending :=
  foldl_keeps (fun x : State => x.pending) _ (fun _ _ => by simp) _ _
@[simp] theorem State.callFrames_line_sides (r : CallRun) : (s.callFrames r).line.sides = s.line.sides :=
  foldl_keeps (fun x : State => x.line.sides) _ (fun _ _ => by simp) _ _
@[simp] theorem State.callFrames_line_strap (r : CallRun) : (s.callFrames r).line.strap = s.line.strap :=
  foldl_keeps (fun x : State => x.line.strap) _ (fun _ _ => by simp) _ _
@[simp] theorem State.callFrames_line_silence (r : CallRun) : (s.callFrames r).line.silence = s.line.silence :=
  foldl_keeps (fun x : State => x.line.silence) _ (fun _ _ => by simp) _ _
@[simp] theorem State.callFrames_line_silenceMs (r : CallRun) : (s.callFrames r).line.silenceMs = s.line.silenceMs :=
  foldl_keeps (fun x : State => x.line.silenceMs) _ (fun _ _ => by simp) _ _
@[simp] theorem State.callFrames_line_clashCount (r : CallRun) : (s.callFrames r).line.clashCount = s.line.clashCount :=
  foldl_keeps (fun x : State => x.line.clashCount) _ (fun _ _ => by simp) _ _
@[simp] theorem State.callFrames_own (r : CallRun) : (s.callFrames r).own = s.own :=
  foldl_keeps (fun x : State => x.own) _ (fun _ _ => by simp) _ _

@[simp] theorem State.endCall_table (r : CallRun) : (s.endCall r).table = s.table := by
  unfold State.endCall
  exact (foldl_keeps (fun x : State => x.table) _ (fun _ _ => by simp) _ _).trans (by simp)
@[simp] theorem State.endCall_board (r : CallRun) : (s.endCall r).board = s.board := by
  unfold State.endCall
  exact (foldl_keeps (fun x : State => x.board) _ (fun _ _ => by simp) _ _).trans (by simp)
@[simp] theorem State.endCall_scan (r : CallRun) : (s.endCall r).scan = s.scan := by
  unfold State.endCall
  exact (foldl_keeps (fun x : State => x.scan) _ (fun _ _ => by simp) _ _).trans (by simp)
@[simp] theorem State.endCall_plan (r : CallRun) : (s.endCall r).plan = s.plan := by
  unfold State.endCall
  exact (foldl_keeps (fun x : State => x.plan) _ (fun _ _ => by simp) _ _).trans (by simp)
@[simp] theorem State.endCall_door (r : CallRun) : (s.endCall r).door = s.door := by
  unfold State.endCall
  exact (foldl_keeps (fun x : State => x.door) _ (fun _ _ => by simp) _ _).trans (by simp)
@[simp] theorem State.endCall_req (r : CallRun) : (s.endCall r).req = s.req := by
  unfold State.endCall
  exact (foldl_keeps (fun x : State => x.req) _ (fun _ _ => by simp) _ _).trans (by simp)
@[simp] theorem State.endCall_faultA (r : CallRun) : (s.endCall r).faultA = s.faultA := by
  unfold State.endCall
  exact (foldl_keeps (fun x : State => x.faultA) _ (fun _ _ => by simp) _ _).trans (by simp)
@[simp] theorem State.endCall_faultB (r : CallRun) : (s.endCall r).faultB = s.faultB := by
  unfold State.endCall
  exact (foldl_keeps (fun x : State => x.faultB) _ (fun _ _ => by simp) _ _).trans (by simp)
@[simp] theorem State.endCall_inReset (r : CallRun) : (s.endCall r).inReset = s.inReset := by
  unfold State.endCall
  exact (foldl_keeps (fun x : State => x.inReset) _ (fun _ _ => by simp) _ _).trans (by simp)
@[simp] theorem State.endCall_clock (r : CallRun) : (s.endCall r).clock = s.clock := by
  unfold State.endCall
  exact (foldl_keeps (fun x : State => x.clock) _ (fun _ _ => by simp) _ _).trans (by simp)
@[simp] theorem State.endCall_handed (r : CallRun) : (s.endCall r).handed = s.handed := by
  unfold State.endCall
  exact (foldl_keeps (fun x : State => x.handed) _ (fun _ _ => by simp) _ _).trans (by simp)
@[simp] theorem State.endCall_pending (r : CallRun) : (s.endCall r).pending = s.pending := by
  unfold State.endCall
  exact (foldl_keeps (fun x : State => x.pending) _ (fun _ _ => by simp) _ _).trans (by simp)
@[simp] theorem State.endCall_line_sides (r : CallRun) : (s.endCall r).line.sides = s.line.sides := by
  unfold State.endCall
  exact (foldl_keeps (fun x : State => x.line.sides) _ (fun _ _ => by simp) _ _).trans (by simp)
@[simp] theorem State.endCall_line_strap (r : CallRun) : (s.endCall r).line.strap = s.line.strap := by
  unfold State.endCall
  exact (foldl_keeps (fun x : State => x.line.strap) _ (fun _ _ => by simp) _ _).trans (by simp)
@[simp] theorem State.endCall_line_silence (r : CallRun) : (s.endCall r).line.silence = s.line.silence := by
  unfold State.endCall
  exact (foldl_keeps (fun x : State => x.line.silence) _ (fun _ _ => by simp) _ _).trans (by simp)
@[simp] theorem State.endCall_line_silenceMs (r : CallRun) : (s.endCall r).line.silenceMs = s.line.silenceMs := by
  unfold State.endCall
  exact (foldl_keeps (fun x : State => x.line.silenceMs) _ (fun _ _ => by simp) _ _).trans (by simp)
@[simp] theorem State.endCall_line_clashCount (r : CallRun) : (s.endCall r).line.clashCount = s.line.clashCount := by
  unfold State.endCall
  exact (foldl_keeps (fun x : State => x.line.clashCount) _ (fun _ _ => by simp) _ _).trans (by simp)
@[simp] theorem State.endCall_own (r : CallRun) : (s.endCall r).own = s.own := by
  unfold State.endCall
  exact (foldl_keeps (fun x : State => x.own) _ (fun _ _ => by simp) _ _).trans (by simp)

/-- A CALL event leaves the records that it worked out. -/
@[simp] theorem State.endCall_call (r : CallRun) : (s.endCall r).call = r.call := by
  unfold State.endCall
  exact (foldl_keeps (fun x : State => x.call) _ (fun _ _ => by simp) _ _).trans (by simp)

end Sys2Proof.Machine
end

