-- ==== Sys2Proof/Laws/Records.lean ====
section
/-! SUPPORT. What the record operations of MATCH and SCAN can do: counting a refusal, and beginning a slot. -/

namespace Sys2Proof.Machine

/-! ## A refusal (R28, R36) -/

@[simp] theorem MatchEntry.refused_hits (m : MatchEntry) : m.refused.hits = m.hits := by
  unfold MatchEntry.refused; split <;> rfl
/-- A refusal moves the refusal count alone. -/
theorem MatchEntry.refused_eq (m : MatchEntry) :
    m.refused = { m with refusals := if m.refusals < m.hits then min (m.refusals + 1) 255 else m.refusals } := by
  unfold MatchEntry.refused satAdd; split <;> rfl
/-- A refusal never counts past the hits. -/
theorem MatchEntry.refused_le (m : MatchEntry) (h : m.refusals ≤ m.hits) : m.refused.refusals ≤ m.hits := by
  rw [MatchEntry.refused_eq]
  dsimp only
  split <;> omega
/-- A refusal never counts past 255. -/
theorem MatchEntry.refused_byte (m : MatchEntry) (h : m.refusals ≤ 255) : m.refused.refusals ≤ 255 := by
  rw [MatchEntry.refused_eq]
  dsimp only
  split <;> omega

/-! ## A slot begins (R53, R60) -/

variable (x : Scan) (r : ScanRun)

/-- A slot that begins moves the scanner and the kind and wetting in effect alone. -/
theorem Scan.beginSlot_eq : x.beginSlot r =
    { x with frontEnds := (x.beginSlot r).frontEnds, scanner := (x.beginSlot r).scanner } := by
  unfold Scan.beginSlot; split <;> rfl
@[simp] theorem Scan.beginSlot_sensors : (x.beginSlot r).sensors = x.sensors := by
  rw [Scan.beginSlot_eq]
@[simp] theorem Scan.beginSlot_thresholds : (x.beginSlot r).thresholds = x.thresholds := by
  rw [Scan.beginSlot_eq]
@[simp] theorem Scan.beginSlot_buffer : (x.beginSlot r).buffer = x.buffer := by
  rw [Scan.beginSlot_eq]
@[simp] theorem Scan.beginSlot_list : (x.beginSlot r).list = x.list := by
  rw [Scan.beginSlot_eq]
@[simp] theorem Scan.beginSlot_stored : (x.beginSlot r).stored = x.stored := by
  rw [Scan.beginSlot_eq]
@[simp] theorem Scan.beginSlot_read : (x.beginSlot r).read = x.read := by
  rw [Scan.beginSlot_eq]
@[simp] theorem Scan.beginSlot_cleared : (x.beginSlot r).cleared = x.cleared := by
  rw [Scan.beginSlot_eq]
/-- The scan stands in the slot's dwell, wetted as its channel's record stands. -/
theorem Scan.beginSlot_scanner : (x.beginSlot r).scanner = .scanning { r with
    converting := false, wetted := (r.channel.map (fun ch => (x.sensors.row ch).frontEnd.wets)).getD false } := by
  unfold Scan.beginSlot; split <;> simp_all
/-- The channel of the slot takes its kind and wetting as they stand; every other keeps what is in effect. -/
theorem Scan.beginSlot_frontEnds (ch : Fin 24) : (x.beginSlot r).frontEnds.row ch =
    if r.channel = some ch then (x.sensors.row ch).frontEnd else x.frontEnds.row ch := by
  unfold Scan.beginSlot
  split
  · simp_all
  · rename_i c h
    by_cases e : c = ch
    · subst e; simp [h]
    · simp [h, e, Tbl.row_put_ne _ _ e]

end Sys2Proof.Machine
end

