-- ==== Sys2Proof/Tests/Slice0.lean ====
section
/-! SUPPORT. Tests of the model: the smoke test of well-formedness, worked cases of spec/, and for every
statement with hypotheses a concrete state and operands that meet them together. Expected results are
taken from spec/, or worked out by hand from its rules. -/

namespace Sys2Proof.Tests
open Sys2Proof Sys2Proof.Machine

set_option Elab.async false

/-! ## Helpers -/

/-- The state that a command leaves. -/
def after (o : Host.Outcome State Fault Refusal) : State :=
  match o with
  | .next t => t
  | _ => State.reset

/-- The state that a command leaves after the part has taken it. -/
def run (i : Instr) (s : State) : State := after (exec i s)

/-- The bridge console, node 1, with tag 7. -/
def bridge : Requester := { node := 1, tag := 7 }

/-- The part after reset, in SERVICE. -/
def inService (s : State) : State :=
  { s with
    req := { s.req with mode := .service },
    board := { s.board with conds := s.board.conds.put 6 { s.board.conds.row 6 with value := true } } }

/-- A condition with a source and a value. -/
def withCond (s : State) (c : Fin 64) (src : Source) (v : Bool) : State :=
  s.setRecord c { s.board.conds.row c with source := src, value := v }

/-- A term. -/
def withTerm (s : State) (t : Fin 32) (l : List (Fin 64 × Bool)) : State :=
  { s with board := { s.board with terms := s.board.terms.put t { literals := l } } }

/-- The payload of the frame that port UP is sending. -/
def sent (s : State) : Option (List Byte) := s.line.up.sending.map (fun f => f.payload)

/-! ## Well-formedness: each check refuses an ill-formed command -/

theorem test_wf_sender : Instr.wf (.statusRead { node := 0, tag := 0 }) = false := by decide
theorem test_wf_sender_high : Instr.wf (.trimStart { node := 127, tag := 0 }) = false := by decide
theorem test_wf_action_condition : Instr.wf (.setCond 0 15 0) = false := by decide
theorem test_wf_action_condition_high : Instr.wf (.clearCond 0 64) = false := by decide
theorem test_wf_hold : Instr.wf (.setCond 0 16 65536) = false := by decide
theorem test_wf_request_hold : Instr.wf (.condSet bridge 16 65536) = false := by decide
theorem test_wf_plan : Instr.wf (.startPlan 0 0 8) = false := by decide
theorem test_wf_groups : Instr.wf (.closeGroup 0 0 1) = false := by decide
theorem test_wf_flag : Instr.wf (.closeGroup 0 1 2) = false := by decide
theorem test_wf_release : Instr.wf (.releaseGroup 0 0) = false := by decide
theorem test_wf_override : Instr.wf (.queueCall 0 3 (some 0)) = false := by decide
theorem test_wf_template : Instr.wf (.callQueue (.warning 0) 32 none) = false := by decide
theorem test_wf_cancel : Instr.wf (.callCancel .release 0 3) = false := by decide
theorem test_wf_scan_now : Instr.wf (.scanNow (.request { node := 0, tag := 0 })) = false := by decide
theorem test_wf_position : Instr.wf (.positionSample 0 32768) = false := by decide
theorem test_wf_owner : Instr.wf (.forcedEvent .free 0) = false := by decide
theorem test_wf_payload : Instr.wf (.callDoneReception 1 9 0 (List.replicate 49 0)) = false := by decide
theorem test_wf_image : Instr.wf (.tableWrite bridge 1 0 (List.replicate 45 0) 0) = false := by decide
theorem test_wf_body : Instr.wf (.blockWrite bridge 1 0 1 (List.replicate 44 0) 0) = false := by decide
theorem test_wf_malformed : Instr.wf (.malformedRequest bridge [0x15]) = false := by decide
theorem test_wf_sound : Instr.wf (.malformedRequest bridge [0x1B]) = true := by decide

/-! ## Reading requests (R191) -/

/-- No row of the table has bits. -/
theorem test_no_word : decodeTableWord 8 0x15 = none := by decide
theorem test_parse_plan_start : parseRequest bridge [0x01, 2, 5] = .planStart bridge 2 5 := by decide
/-- A CALL_QUEUE of 4 bytes carries an override zone set, high byte first. -/
theorem test_parse_call_queue :
    parseRequest bridge [0x06, 6, 0x01, 0x02] = .callQueue (.request bridge) 6 (some 0x0102) := by
  decide
theorem test_parse_cond_set : parseRequest bridge [0x0C, 20, 1, 0] = .condSet bridge 20 256 := by
  decide
/-- A length that is not the form's makes the request malformed. -/
theorem test_parse_short : parseRequest bridge [0x06, 6, 1] = .malformedRequest bridge [0x06, 6, 1] := by
  decide
theorem test_parse_unknown : parseRequest bridge [0x1B] = .malformedRequest bridge [0x1B] := by decide
/-- The worked TABLE_WRITE of term 5 (R193): 13 bytes in all. -/
theorem test_parse_term_write :
    parseRequest bridge [0x13, 5, 5, 2, 10, 1, 20, 0, 0, 0, 0, 0, 0xE2]
      = .tableWrite bridge 5 5 [2, 10, 1, 20, 0, 0, 0, 0, 0] 0xE2 := by
  decide
/-- An empty REQUEST is answered with operation code 00h and BAD_VALUE (R191). -/
theorem test_malformed_empty :
    sent (run (.malformedRequest bridge []) State.reset) = some [0, 6] := by decide

/-! ## LINE -/

/-- The check value of the CRC of R189 over the digits 1 to 9, worked out by hand. -/
theorem test_crc :
    crc16 [0x31, 0x32, 0x33, 0x34, 0x35, 0x36, 0x37, 0x38, 0x39] = 0x29B1 := by decide +kernel
/-- A frame of the least length, 7 bytes, passes FRAME CHECK (R189). -/
theorem test_frame_check :
    frameCheck (buildFrame 9 1 6 7 []).toBytes = some (buildFrame 9 1 6 7 []) := by decide +kernel
/-- A source of 127 fails FRAME CHECK (R3). -/
theorem test_frame_source : frameCheck (buildFrame 9 127 6 7 []).toBytes = none := by decide

/-- A NORMAL frame of the congestion sequence (section 1.5), told apart by its tag. -/
def norm (tag : Byte) : Frame := buildFrame 20 5 2 tag []
/-- An ALARM of the congestion sequence. -/
def alarm (tag : Byte) : Frame := buildFrame 20 5 3 tag []
/-- Port DN at the start of the congestion sequence: N2..N8 behind N1. -/
def congested : PortState :=
  { waiting := [norm 2, norm 3, norm 4, norm 5, norm 6, norm 7, norm 8], sending := some (norm 1),
    crcCount := 0, normalDrops := 0, safetyDrops := 0 }
/-- Port DN when the ALARMs A1 to A4 have joined. -/
def alarmed : PortState :=
  (((congested.offer (alarm 1)).offer (alarm 2)).offer (alarm 3)).offer (alarm 4)

theorem test_congestion_drop : (congested.offer (norm 9)).normalDrops = 1 := by decide
theorem test_congestion_displace :
    (alarmed.offer (buildFrame 5 9 9 0 [])).waiting.map (fun f => (f.kind, f.tag))
      = [(2, 3), (2, 4), (2, 5), (2, 6), (2, 7), (2, 8), (3, 1), (3, 2), (3, 3), (3, 4), (9, 0)] := by
  decide +kernel
theorem test_congestion_next : alarmed.complete.sending = some (alarm 1) := by decide +kernel

/-- A side-map entry learns the port of a passing frame (R5). -/
theorem test_learn :
    (run (.reception .dn (buildFrame 30 12 2 0 []).toBytes) State.reset).line.sides.row 11
      = { side := .dn, pinned := false } := by decide +kernel
/-- A passing frame is forwarded on the opposite port (R9). -/
theorem test_forward :
    (run (.reception .dn (buildFrame 30 12 2 0 []).toBytes) State.reset).line.up.sending
      = some (buildFrame 30 12 2 0 []) := by decide +kernel
/-- The expiry of the bridge-silence timer sets the mark of BRIDGE_SILENT (R15, R187). -/
theorem test_bridge_silent :
    (run .bridgeSilenceExpiry { State.reset with line := { State.reset.line with silence := some 5 } }).req.marks
      = 0x0802 := by decide

/-! ## MATCH -/

/-- A match entry with its stop flag clear. -/
def entryOf (kind position mask value : Byte) (a : Action) : MatchEntry :=
  { MatchEntry.reset with
    valid := true, kind := kind, position := position, mask := mask, value := value, action := a }

/-- A test at position 0 fails on an empty payload (R24). -/
theorem test_payload_empty :
    (entryOf 3 0 0x0F 0 .scanNow).accepts (buildFrame 127 5 3 0 []) .up = false := by decide
/-- Bits outside the mask are not compared (R24). -/
theorem test_payload_mask :
    (entryOf 3 1 0x0F 0xA3 .scanNow).accepts (buildFrame 127 5 3 0 [9, 0x53]) .dn = true := by decide

/-- A part that holds ALARMs while condition 0, BRIDGE_LINK, is FALSE. -/
def holding : State :=
  (withTerm State.reset 4 [(0, true)]).setEntry 2 (entryOf 3 0 0 0 (.holdForward 4))

/-- A held frame is not forwarded, and a HOLD_NOTE goes back to its source (R26, R35, R192). -/
theorem test_hold :
    ((run (.reception .dn (buildFrame 30 12 3 6 []).toBytes) holding).line.up.sending,
     (run (.reception .dn (buildFrame 30 12 3 6 []).toBytes) holding).line.dn.sending)
      = (none, some (buildFrame 12 9 9 2 [4, 30, 3, 6])) := by decide +kernel

/-! ## COND -/

/-- Condition 20 is a FRAME condition. -/
def framed (v : Bool) : State := withCond State.reset 20 .frame v

theorem test_cond_set_hold :
    ((run (.condSet bridge 20 5) (framed false)).board.conds.row 20).hold = some 50000 := by decide
/-- COND_SET of a TRUE condition keeps its age (R43). -/
theorem test_cond_set_true :
    ((run (.condSet bridge 20 0)
      ((framed true).setRecord 20 { (framed true).board.conds.row 20 with age := 9 })).board.conds.row
        20).age = 9 := by decide
/-- A fixed condition refuses COND_CLEAR with BAD_VALUE (R44). -/
theorem test_cond_clear_fixed : sent (run (.condClear bridge 3) State.reset) = some [0x0D, 6] := by
  decide
theorem test_fault_line : (run (.faultLineChange .b true) State.reset).cond 4 = true := by decide +kernel
theorem test_age : ((run .ageIntervalExpiry State.reset).board.conds.row 63).age = 1 := by decide +kernel
/-- The empty term is TRUE (R49). -/
theorem test_empty_term : State.reset.term 0 = true := by decide

/-! ## SCAN -/

/-- The scaling cases of R61. -/
theorem test_scale :
    [(1650, 410, 2048), (1000, 0, 256), (2001, 2000, 1), (4095, 0, 4096), (660, 410, 2048)].map
      (fun c => ({ kind := .loop, zero := c.2.1, gain := c.2.2, wetting := false, logged := false,
                   last := 0, samples := 0 } : Sensor).scale c.1)
      = [9920, 1000, 0, 32767, 2000] := by decide

/-- The threshold record of the worked sequence of section 4.4, after a run of samples. -/
def doorSwitch (vs : List Nat) : Bool × Nat :=
  let t := vs.foldl Threshold.advance { channel := 7, direction := .high, level := 2000,
                                        hysteresis := 500, debounce := 3, tripped := false,
                                        agreement := 0 }
  (t.tripped, t.agreement)

theorem test_threshold_five : doorSwitch [2500, 2600, 1900, 2400, 2450] = (false, 2) := by decide
theorem test_threshold_six : doorSwitch [2500, 2600, 1900, 2400, 2450, 2300] = (true, 0) := by decide
theorem test_threshold_ten :
    doorSwitch [2500, 2600, 1900, 2400, 2450, 2300, 1600, 1400, 1450, 1300] = (false, 0) := by decide

/-- A scan list of 20 slots under the settings of power-on reset, just started: a slot interval of
5000 µs, and a first dwell of 4980 µs (section 4.3). -/
def scanning20 : Scan := { Scan.reset with list := List.replicate 20 2, scanner := .idle }.begin 0
theorem test_slot :
    (match scanning20.scanner with
      | .scanning r => (r.interval, r.dwellEnd)
      | _ => (0, 0)) = (5000, 4980) := by decide
theorem test_last_slot :
    (match scanning20.scanner with
      | .scanning r => { r with slot := 19 }.dwellEnd
      | _ => 0) = 99960 := by decide

/-- A part that samples channel `ch`, the one slot of its list, with the sensor record given. -/
def sampling (ch : Fin 24) (x : Sensor) : State :=
  State.reset.setScan { State.reset.scan with
    sensors := State.reset.scan.sensors.put ch x, list := [ch],
    scanner := .scanning { list := [ch], slot := 0, interval := 5000, start := 0, converting := true,
                           wetted := false } }

/-- A logged channel of gain 256. -/
def logged : Sensor :=
  { kind := .voltage, zero := 0, gain := 256, wetting := false, logged := true, last := 0,
    samples := 0 }

theorem test_sample_stored :
    (run (.sample 1000) (sampling 5 logged)).scan.buffer = [{ channel := 5, value := 1000, scan := 0 }] := by
  decide +kernel
theorem test_scan_complete : (run (.sample 1000) (sampling 5 logged)).handed = [.doorDerivation] := by
  decide +kernel
/-- A record of the buffer leaves in the REPLY of BUFFER_READ (R68, R191). -/
theorem test_buffer_read :
    sent (run (.bufferRead bridge) (run (.sample 1000) (sampling 5 logged)))
      = some [0x10, 0, 1, 5, 0x03, 0xE8, 0] := by decide +kernel

/-! ## OUT -/

/-- Channel 12 with its record. -/
def withChan (s : State) (ch : Fin 16) (c : Channel) : State := s.setChan ch c
/-- A FREE SINK channel with its level ON, conducting. -/
def sinkOn : Channel :=
  { Channel.reset with
    set := { ChannelSettings.reset with config := .sink }, requested := true, timerOut := true,
    conducting := true, pin := .lowSideOn }

/-- CHANNEL_SET of a FREE SINK channel makes it conduct (R82, R84). -/
theorem test_channel_set :
    ((run (.channelSet bridge 3 1)
      (withChan State.reset 3 { Channel.reset with set := { ChannelSettings.reset with config := .sink } })).chans.row
        3).pin = .lowSideOn := by decide
/-- A cut-off of channel 4 gives a NOTICE of tag 6 and subject 4 (worked sequence of chapter 10). -/
theorem test_cut_off :
    ((run (.cutOffDelayExpiry 4) (withChan ((inService State.reset).setReq
        { (inService State.reset).req with node := 1, enabled := 0x0FFF, marks := 0 }) 4
        { sinkOn with supervision := some 9 })).line.up.sending.map (fun f => (f.kind, f.tag, f.payload)))
      = some (8, 6, [6, 4, 0, 0x20]) := by decide +kernel
/-- A gate that is FALSE stops its channel (R86). -/
theorem test_gate :
    ((run (.conditionChange 3 false (.gate 2)) (withChan State.reset 2
      { sinkOn with set := { sinkOn.set with gate := some 3 } })).chans.row 2).conducting = false := by
  decide

/-- Channel 11 of the worked sequence of the pulse modes (section 6.2), at a count and a phase. -/
def pulsing (mode : TimerMode) (count : Nat) (phase : PulsePhase) (out : Bool) : State :=
  { withChan State.reset 11
      { sinkOn with
        set := { sinkOn.set with tick := .ms1, period := 10, cmpA := 6, cmpB := 2, mode := mode },
        count := count, phase := phase, timerOut := out } with
    clock := 999 }
/-- What the next tick leaves of channel 11. -/
def pulsed (s : State) : Nat × PulsePhase × Bool :=
  let c := (run .timerStep s).chans.row 11
  (c.count, c.phase, c.timerOut)

theorem test_pulse_before : pulsed (pulsing .pulseOnce 1 .waitA false) = (2, .waitA, false) := by
  decide +kernel
theorem test_pulse_begins : pulsed (pulsing .pulseOnce 5 .waitA false) = (6, .waitB, true) := by
  decide +kernel
theorem test_pulse_wraps : pulsed (pulsing .pulseOnce 9 .waitB true) = (0, .waitB, true) := by
  decide +kernel
theorem test_pulse_once_ends : pulsed (pulsing .pulseOnce 1 .waitB true) = (2, .finished, false) := by
  decide +kernel
theorem test_pulse_repeat_ends : pulsed (pulsing .pulseRepeat 1 .waitB true) = (2, .waitA, false) := by
  decide +kernel

/-! ## PLAN -/

/-- Stage 2 of the worked sequence of chapter 7. -/
def berthing : Drive :=
  { target := 16000, vMin := 150, vMax := 850, slowdown := 4000, deadBand := 40, allow := 200,
    rise := 200, fall := 250 }

/-- The speeds of the worked sequence at the distances 14000, 3600, 560 and 96. -/
theorem test_speed : [14000, 3600, 560, 96].map berthing.speed = [850, 780, 248, 166] := by decide
/-- Its commands: from rest, in the climb, and in the fall from 276. -/
theorem test_command :
    [berthing.command 0 14000, berthing.command 800 12960, berthing.command 276 560]
      = [200, 850, 248] := by decide

/-- A valve channel of ramp 0: PUSH_PULL in PWM of period 2000. -/
def valve : Channel :=
  { Channel.reset with
    set := { ChannelSettings.reset with
             config := .pushPull, owner := .ramp 0, mode := .pwm, period := 2000 } }
/-- A stage of the kind given, on the empty term 0. -/
def stageOf (k : StageKind) (timeout : Nat) : Stage :=
  { kind := k, permit := 0, lanes := 0, needsBridge := false, timeout := timeout }
/-- The bow ramp at rest: channels 0 and 1, plan 0 of one stage. -/
def bowRamp (st : Stage) : State :=
  let s := withChan (withChan (inService State.reset) 0 valve) 1 valve
  { s with
    plan := { ramps := s.plan.ramps.put 0 { Ramp.reset with
                         position := some 2, extend := some 0, retract := some 1, lastPos := 2000 },
              plans := s.plan.plans, stages := s.plan.stages.put 0 st } }
/-- The bow ramp RUNNING at its stage. -/
def running (st : Stage) (phase : Phase) (x : Ramp → Ramp) : State :=
  let s := bowRamp st
  s.setRamp 0 (x { s.ramp 0 with
    state := .running, plan := some 0, stage := some 0, phase := phase, travel := .extend,
    stageTimer := Stopwatch.start 0 })
/-- The bow ramp at the ENTERED DRIVE stage of the worked sequence, SCAN_VALID TRUE. -/
def approaching : State :=
  withCond (running (stageOf (.drive berthing) 900) .entered (fun x => { x with stale := some 100000 }))
    1 .fixed true

/-- The sample at 4225: command 200, compare 400, the extend channel ON. -/
theorem test_position :
    (((run (.positionSample 0 2000) approaching).ramp 0).sPrev,
     ((run (.positionSample 0 2000) approaching).chans.row 0).set.cmpA,
     ((run (.positionSample 0 2000) approaching).chans.row 0).requested) = (200, 400, true) := by
  decide +kernel
/-- The sample at 9600 arrives: the plan of one stage is complete. -/
theorem test_arrival :
    ((run (.positionSample 0 15984) approaching).ramp 0).result = .complete := by decide +kernel
/-- A CALL stage asks CALL with ask number 1 (R124). -/
theorem test_call_stage :
    (run (.planStart bridge 0 0) (bowRamp (stageOf (.call 4) 50))).handed
      = [.callQueue (.stage 0 1) 4 none] := by decide +kernel
/-- A stale watch faults the ramp with POSITION_LOST (R130). -/
theorem test_position_lost :
    ((run (.staleWatchExpiry 0) approaching).ramp 0).result = .fault .positionLost := by decide +kernel

/-! ## DOOR -/

/-- Door 8 of group 3 in a state, with limit switches 30 and 31 and a warning of 5 s. -/
def doorOf (st : DoorState) (n : Nat) : Door :=
  { set := { DoorSettings.reset with
             group := some 3, closedCond := some 30, openCond := some 31, warning := 50,
             rewarning := 20, closeTimeout := 100, openTimeout := 100, backoff := 10,
             retryLimit := 2 },
    state := st, attempts := n, timer := Stopwatch.zero,
    due := match st with | .warning | .closing | .backoff | .opening => some 7 | _ => none }
/-- The part in SERVICE with that door, its switches from thresholds 0 and 1. -/
def doored (x : Door) : State :=
  (withCond (withCond (inService State.reset) 30 (.threshold 0) false) 31 (.threshold 1) false).setDoor 8 x

theorem test_group_close :
    ((run (.groupClose bridge 0x08 0) (doored (doorOf .opened 0))).door.doors.row 8).due
      = some 5000000 := by decide +kernel
theorem test_obstruction :
    ((run (.doorStateTimerExpiry 8) (doored (doorOf .closing 1))).door.doors.row 8).state = .backoff := by
  decide +kernel
/-- The fourth attempt would pass the retry limit of 2 (R151). -/
theorem test_jammed :
    ((run (.doorStateTimerExpiry 8) (doored (doorOf .backoff 3))).door.doors.row 8).state = .jammed := by
  decide +kernel
/-- A fitted door is derived at a SCAN COMPLETION (R144). -/
theorem test_derived :
    ((run .doorDerivation (doored (doorOf .unset 0))).door.doors.row 8).state = .opened := by
  decide +kernel

/-! ## CALL -/

/-- Template 2 of the worked sequence of chapter 9. -/
def drivers : Template :=
  { message := 31, zones := 0x0007, priority := 2, repeats := 3, interval := 20, pattern := 0x0001,
    allow := some 0 }
/-- Template 6 of that sequence. -/
def doorsClosing : Template :=
  { message := 12, zones := 0x0070, priority := 6, repeats := 0, interval := 5, pattern := 0x0003,
    allow := some 0 }
/-- The part at the start of that sequence: PA node 60 beyond DN, token 17, arrival 41. -/
def calling : State :=
  let s := inService State.reset
  { s with
    line := { s.line with sides := s.line.sides.put 59 { side := .dn, pinned := false } },
    call := { s.call with
              templates := (s.call.templates.put 2 drivers).put 6 doorsClosing, paNode := 60,
              token := 17, arrival := 41 } }
/-- At 0: the drivers' call is queued. -/
def called : State := run (.callQueue (.request bridge) 2 none) calling
/-- At 29: the warning call of a door takes zone 1 from it. -/
def preempted : State := run (.callQueue (.warning 8) 6 (some 0x0002)) called

theorem test_call_speaks :
    (called.call.slots.row 0).map (fun x => (x.state, x.token, x.left, x.arrival))
      = some (.speaking, some 17, 3, 41) := by decide +kernel
theorem test_call_frame :
    called.line.dn.sending.map (fun f => (f.kind, f.tag, f.payload)) = some (4, 17, [31, 0, 7, 2]) := by
  decide +kernel
theorem test_preempted :
    ((preempted.call.slots.row 0).map (fun x => (x.state, x.token)),
     (preempted.call.slots.row 1).map (fun x => (x.state, x.token)))
      = (some (.waiting, none), some (.speaking, some 18)) := by decide +kernel
/-- The cancel frame goes before the call that displaced it. -/
theorem test_cancel_first :
    (preempted.line.dn.waiting.filter (fun f => f.kind == 4)).map (fun f => (f.tag, f.payload))
      = [(17, [0, 0, 7, 2]), (18, [12, 0, 2, 6])] := by
  decide +kernel
/-- The answer to a displaced call is PA_LATE. -/
theorem test_pa_late : (run (.callDoneReception 60 9 17 [1]) preempted).call.paLate = 1 := by
  decide +kernel
/-- An answer counts the repetition and rests the call for its interval of 20 s. -/
theorem test_answer :
    ((run (.callDoneReception 60 9 17 [1]) called).call.slots.row 0).map
      (fun x => (x.state, x.left, x.interval, x.lastAnswer)) = some (.interval, 2, some 20000000, .played) := by
  decide +kernel

/-! ## REQ -/

/-- The worked TABLE_WRITE of term 5 is answered 13h, DONE (R193). -/
theorem test_term_write :
    sent (run (.tableWrite bridge 5 5 [2, 10, 1, 20, 0, 0, 0, 0, 0] 0xE2) State.reset) = some [0x13, 0] := by
  decide +kernel
theorem test_term_check : checkByte [2, 10, 1, 20, 0, 0, 0, 0, 0] = 0xE2 := by decide
/-- A plan of first stage 60 and count 16 is stored with count 4 (R115). -/
theorem test_plan_write :
    ((run (.tableWrite bridge 12 0 [0, 60, 16] (checkByte [0, 60, 16])) State.reset).plan.plans.row 0).count
      = 4 := by decide
/-- Entry 5 of a block with a wrong check byte is BAD_CHECK with index 5, and entry 4 keeps its image
(worked sequence of chapter 10, on the plan table). -/
theorem test_block_write :
    sent (run (.blockWrite bridge 12 4 2 [0, 1, 2, checkByte [0, 1, 2], 0, 3, 2, 0]
      (checkByte [0, 1, 2])) State.reset) = some [0x14, 5, 12, 5] := by decide
/-- The directory's first entry (R180, R193). -/
theorem test_directory :
    sent (run (.tableRead bridge 0 0 1) State.reset)
      = some ([0x12, 0, 0, 0, 1] ++ [0, 14, 22, 0, 0, 1] ++ List.replicate 8 0) := by decide
/-- A ramp that lacks the position channel of its DRIVE stage refuses SERVICE: table 11, index 0
(worked sequence of chapter 10). -/
theorem test_validation :
    sent (run (.modeSet bridge 1) { State.reset with plan := { State.reset.plan with
      stages := State.reset.plan.stages.put 0 (stageOf (.drive berthing) 0) } }) = some [0x17, 3, 11, 0] := by
  decide +kernel
theorem test_locked :
    sent (run (.identityWrite bridge (Vector.replicate 8 1) 0xFF)
      (State.reset.setReq { State.reset.req with tagWritten := true })) = some [0x18, 8] := by decide
/-- The status record of the reset state: 36 bytes after the two of the REPLY (R191). -/
theorem test_status :
    sent (run (.statusRead bridge) State.reset)
      = some ([0x15, 0, 0, 9] ++ List.replicate 32 0 ++ [0x08, 0]) := by decide
theorem test_notice_set :
    (run (.noticeSet bridge 1 0xFFFF 0) State.reset).req.enabled = 0x0FFF := by decide
/-- READY of an operations reset stands last (R188). -/
theorem test_ops_reset :
    (run (.opsReset bridge) (State.reset.setReq
      { State.reset.req with node := 1, enabled := 0x0FFF, marks := 0x20 })).line.up.waiting.map
        (fun f => (f.tag, f.payload)) = [(12, [12, 1, 0x08, 0x20])] := by decide +kernel

/-! ## Witnesses: a concrete state and operands that meet the hypotheses of each statement together.
`EveryCommandAnswersANextState`, `FrameCheckReadsExactlyTheSoundFrames`, `TestOfAFrameFollowsIndexOrder`,
`ConductionAndPinFollowTheInputs` and `TheResetStateIsSafe` have none. -/

/-- A part that is addressed and not in reset takes requests. -/
theorem reset_takes : State.reset.takesRequests := ⟨rfl, rfl⟩
theorem service_takes : (inService State.reset).takesRequests := ⟨rfl, rfl⟩

theorem witness_StepRunsTheFrontCommand :
    ({ State.reset with pending := [.timerStep, .dwellEnd] } : State).pending = .timerStep :: [.dwellEnd] := rfl

theorem witness_StepOnAnEmptyQueue :
    (State.reset.pending = [] ∧ State.reset.inReset = false ∧ State.reset.handed = []
      ∧ State.reset.dueEvent = none)
    ∧ ({ State.reset with clock := 10000 } : State).dueEvent = some .ageIntervalExpiry
    ∧ ({ State.reset with handed := [.dwellEnd] } : State).handed = .dwellEnd :: []
    ∧ ({ State.reset with inReset := true } : State).inReset = true := by
  decide +kernel

/-- A REQUEST from the bridge to a destination. -/
def frameTo (dst src kind : Byte) : Frame := buildFrame dst src kind 7 []
theorem buildFrame_sound (dst src kind tag : Byte) (payload : List Byte) (n : payload.length ≤ 48)
    (h : 1 ≤ src.toNat ∧ src.toNat ≤ 126) : (buildFrame dst src kind tag payload).sound :=
  ⟨n, h.1, h.2, rfl⟩
theorem frameTo_sound (dst src kind : Byte) (h : 1 ≤ src.toNat ∧ src.toNat ≤ 126) :
    (frameTo dst src kind).sound := buildFrame_sound dst src kind 7 [] (Nat.zero_le _) h

theorem witness_DiscardedFramesAreCounted :
    (State.reset.inReset = false ∧ ∀ f : Frame, f.sound → f.toBytes ≠ [])
    ∧ ((frameTo 30 9 6).sound ∧ State.reset.own = some (frameTo 30 9 6).src)
    ∧ (withCond State.reset 0 .fixed true).cond 0 = true :=
  ⟨⟨rfl, fun f _ h => by simp [Frame.toBytes, headerAndPayload] at h⟩,
   ⟨frameTo_sound 30 9 6 (by decide), by decide +kernel⟩, by decide +kernel⟩

theorem witness_OwnFrameIsConsumed :
    (frameTo 9 1 6).sound ∧ State.reset.inReset = false ∧ State.reset.own ≠ some (frameTo 9 1 6).src
    ∧ State.reset.own = some (frameTo 9 1 6).dst
    ∧ ownOperation (.planAbort bridge 0) = none ∧ (ownOperation (.statusRead bridge)).isSome = true :=
  ⟨frameTo_sound 9 1 6 (by decide), rfl, by decide +kernel, by decide +kernel, rfl, rfl⟩

theorem witness_PassingFrameIsLearnedAndForwardedOrHeld :
    ((buildFrame 30 12 3 6 []).sound ∧ holding.inReset = false ∧ holding.own ≠ some 12
      ∧ holding.own ≠ some 30)
    ∧ (holding.testFrame (buildFrame 30 12 3 6 []) .dn).held = some (2, 4)
    ∧ (holding.testFrame (buildFrame 30 12 2 6 []) .dn).held = none :=
  ⟨⟨buildFrame_sound 30 12 3 6 [] (by decide) (by decide), rfl, by decide +kernel, by decide +kernel⟩,
   by decide +kernel, by decide +kernel⟩

/-- The strap 9 gives an own address, and the strap 127 none; node 60 is reached by DN. -/
theorem witness_OwnFramesGoOutBySideMap :
    State.reset.own = some 9 ∧ (State.powerOn 127 false false).addressed = false
    ∧ (calling.line.sides.row 59).side = .dn ∧ (calling.line.sides.row 0).side = .unknown := by
  decide +kernel

/-- Seven NORMAL frames behind one being sent are the bound of 8; with four ALARMs there are 12 frames. -/
theorem witness_OfferedFrameIsAdmittedDisplacesOrIsDropped :
    ((PortState.reset.sending = none → PortState.reset.waiting = []) ∧ PortState.reset.normals < 8
      ∧ PortState.reset.total < 12)
    ∧ ((congested.sending = none → congested.waiting = []) ∧ 8 ≤ congested.normals
      ∧ congested.total < 12 ∧ (norm 9).normal = true ∧ (alarm 1).safety = true)
    ∧ (12 ≤ alarmed.total
      ∧ alarmed.waiting = [] ++ norm 2 :: ([norm 3, norm 4, norm 5, norm 6, norm 7, norm 8, alarm 1,
          alarm 2, alarm 3, alarm 4] : List Frame) ∧ (norm 2).normal = true)
    ∧ (∀ g ∈ (List.replicate 11 (alarm 1)), g.safety = true) := by
  decide +kernel

theorem witness_TransmitCompletionSendsTheNextFrame :
    (({ State.reset with line := { State.reset.line with dn := alarmed } } : State).inReset = false
      ∧ alarmed.sending = some (norm 1)
      ∧ alarmed.waiting = [norm 2, norm 3, norm 4, norm 5, norm 6, norm 7, norm 8] ++ alarm 1 ::
          ([alarm 2, alarm 3, alarm 4] : List Frame))
    ∧ (congested.sending = some (norm 1) ∧ ∀ g ∈ congested.waiting, g.normal = true) := by
  decide +kernel

theorem witness_BridgeSilenceExpiryDropsTheLink :
    ({ State.reset with line := { State.reset.line with silence := some 5 } } : State).line.silence = some 5
    ∧ State.reset.inReset = false := by
  decide

/-- A state with nothing pending and no event of its own idles. -/
theorem step_idle (s : State) (h : s.pending = []) (e : s.ownEvent = none) : step s = .next s := by
  unfold step
  rw [h, e]

/-- The state after reset meets the invariants, and a step from it answers a next state. -/
theorem witness_invariants :
    State.reset.queuesSafe ∧ State.reset.outputsSafe ∧ State.reset.setupSafe ∧ State.reset.attemptsSafe
    ∧ State.reset.accountSafe ∧ State.reset.sourcesSafe ∧ State.reset.slotsSafe
    ∧ step State.reset = .next State.reset := by
  refine ⟨⟨by unfold PortState.bounded; decide, by unfold PortState.bounded; decide, fun _ => rfl,
    fun _ => rfl⟩, ?_, ?_, ?_, ?_, ?_, ?_, step_idle _ rfl (by decide +kernel)⟩
  · unfold State.outputsSafe Channel.safe; decide +kernel
  · unfold State.setupSafe; decide +kernel
  · unfold State.attemptsSafe; decide +kernel
  · unfold State.accountSafe State.bufferSafe; decide +kernel
  · unfold State.sourcesSafe; decide +kernel
  · intro k x h
    have e : ∀ k, State.reset.call.slots.row k = none := by decide +kernel
    simp [e k] at h

theorem witness_EntryMatchesByHeaderAndMaskedByte :
    (entryOf 3 47 0x80 0 .scanNow).valid = true ∧ (entryOf 3 47 0x80 0 .scanNow).mask ≠ 0
    ∧ MatchEntry.reset.mask = 0 := by
  decide

/-- A FRAME condition at the low end, 16, and the refusals at 15 and above 63. -/
theorem witness_CondSetActsByTheConditionsValue :
    (State.reset.takesRequests ∧ ((withCond State.reset 16 .frame false).board.conds.row 16).source = .frame
      ∧ (16 : Byte).toNat = (16 : Fin 64).val)
    ∧ (∀ c : Fin 64, (15 : Byte).toNat = c.val → c.val < 16)
    ∧ (∀ c : Fin 64, (64 : Byte).toNat = c.val → c.val < 16) :=
  ⟨⟨reset_takes, by decide, by decide⟩, by decide, by decide⟩

theorem witness_CondClearAndHoldExpiryMakeAConditionFalse :
    (framed true).takesRequests ∧ (framed true).cond 20 = true
    ∧ ((run (.condSet bridge 20 1) (framed false)).board.conds.row 20).hold = some 10000
    ∧ (run (.condSet bridge 20 1) (framed false)).cond 20 = true :=
  ⟨⟨rfl, rfl⟩, by decide, by decide +kernel, by decide +kernel⟩

theorem witness_FaultLinesAndAgesFollowTheirEvents :
    State.reset.inReset = false ∧ State.reset.cond 3 ≠ true
    ∧ ∀ c : Fin 64, (State.reset.board.conds.row c).age ≤ 65535 := by
  decide +kernel

theorem witness_ChangeIsHandedToEveryWaitingUser :
    State.reset.cond 8 = true ∧ State.reset.cond 8 ≠ false := by decide

/-- A scan in its first slot, and in its last. -/
theorem witness_TriggerStartsAScanOfTimedSlots :
    (State.reset.inReset = false ∧ State.reset.scan.settings.trigger = .rateB
      ∧ State.reset.scan.scanner = .stopped)
    ∧ (sampling 5 logged).scan.scanner = .scanning
        { list := [5], slot := 0, interval := 5000, start := 0, converting := true, wetted := false }
    ∧ ((0 : Nat) + 1 = [5].length ∧ 50 ≤ 5000)
    ∧ (match scanning20.scanner with
        | .scanning r => decide (r.slot + 1 < r.list.length)
        | _ => false) = true := by
  decide +kernel

theorem witness_ScanNowActsByTheScannerState :
    State.reset.takesRequests ∧ State.reset.scan.settings.trigger ≠ .frame
    ∧ ({ Scan.reset with settings := { Scan.reset.settings with trigger := .frame } } : Scan).scanner
        = .stopped :=
  ⟨reset_takes, by decide, rfl⟩

/-- A record of debounce 3: two samples are short of it, the third reaches it. -/
theorem witness_ThresholdChangesAfterItsDebounce :
    let t : Threshold := { channel := 7, direction := .high, level := 2000, hysteresis := 500,
                           debounce := 3, tripped := false, agreement := 0 }
    t.calls 2000 = true ∧ t.calls 1999 = false ∧ t.agreement + 2 < t.debounce
    ∧ t.agreement + 3 = t.debounce := by
  decide

theorem witness_SampleIsHandedOn :
    (sampling 5 logged).inReset = false
    ∧ (sampling 5 logged).scan.scanner = .scanning
        { list := [5], slot := 0, interval := 5000, start := 0, converting := true, wetted := false }
    ∧ ScanRun.channel { list := [5], slot := 0, interval := 5000, start := 0, converting := true,
                        wetted := false } = some 5
    ∧ ((sampling 5 logged).scan.sensors.row 5).logged = true
    ∧ (sampling 5 logged).scan.buffer.length < 512 := by
  decide

/-- The buffer's fill falls below a threshold of 1 when its one record is read. -/
theorem witness_BufferReadAndClearRemoveRecords :
    let s := State.reset.setScan { State.reset.scan with
      buffer := [{ channel := 0, value := 1, scan := 0 }], above := true, stored := 1,
      settings := { State.reset.scan.settings with bufferThreshold := 1 } }
    s.takesRequests ∧ 1 ≤ s.scan.settings.bufferThreshold ∧ s.scan.above = true
    ∧ s.scan.buffer.length - 8 < s.scan.settings.bufferThreshold :=
  ⟨⟨rfl, rfl⟩, by decide, rfl, by decide⟩

/-- A trim at bit 9, at bit 0 and at its FINAL CHECK; and a part in which none runs. -/
theorem witness_TrimStartsTriesItsBitsAndIsJudged :
    let s (code left : Nat) := State.reset.setScan { State.reset.scan with
      trimCode := code, scanner := .trimming { kept := 512, stepsLeft := left } }
    ((s 512 10).takesRequests ∧ (512 : Nat) % 2 ^ (9 + 1) = 2 ^ 9)
    ∧ ((s 513 1).inReset = false ∧ (513 : Nat) % 2 ^ (0 + 1) = 2 ^ 0)
    ∧ (s 513 0).scan.scanner = .trimming { kept := 512, stepsLeft := 0 }
    ∧ (State.reset.scan.scanner = .stopped ∧ ∀ r, (State.reset.ramp r).state = .idle) :=
  ⟨⟨⟨rfl, rfl⟩, by decide⟩, ⟨rfl, by decide⟩, rfl, rfl, by decide⟩

theorem witness_GateAndForcingActAtAChange :
    let s := withChan State.reset 2
      { sinkOn with set := { sinkOn.set with gate := some 3, forcing := .faultA }, status := .engaged }
    s.inReset = false ∧ (s.chans.row 2).set.gate = some 3
    ∧ s.forcingNames (s.chans.row 2).set.forcing 3 = true
    ∧ s.forcingActive (s.chans.row 2).set.forcing = false ∧ (s.chans.row 2).status = .engaged
    ∧ (s.chans.row 2).set.latched = false := by
  decide

/-- An active channel stays active over a step. -/
theorem witness_NoStepJumpsBetweenActiveConfigurations :
    ((withChan State.reset 3 sinkOn).chans.row 3).set.config.active = true
    ∧ step (withChan State.reset 3 sinkOn) = .next (withChan State.reset 3 sinkOn) :=
  ⟨by decide, step_idle _ rfl (by decide +kernel)⟩

theorem witness_ChannelSetSetsAFreeChannel :
    State.reset.takesRequests ∧ (State.reset.chans.row 15).set.owner = .free
    ∧ ((withChan State.reset 0 valve).chans.row 0).set.owner ≠ .free ∧ 16 ≤ (16 : Byte).toNat :=
  ⟨reset_takes, by decide, by decide, by decide⟩

theorem witness_ForceClearAndTriggerClearRelease :
    let s := withChan State.reset 2
      { sinkOn with set := { sinkOn.set with sync := .trigger 3, mode := .pwm, period := 5 },
                    status := .engaged, running := true }
    s.takesRequests ∧ (s.chans.row 2).status = .engaged
    ∧ s.forcingActive (s.chans.row 2).set.forcing = false
    ∧ head s.chans 2 = 2 ∧ (s.chans.row 2).set.sync = .trigger 3 ∧ (s.chans.row 2).running = true :=
  ⟨⟨rfl, rfl⟩, by decide, by decide, by decide, by decide, by decide⟩

theorem witness_OverCurrentCutsTheChannelOff :
    let s := withChan State.reset 2 sinkOn
    (s.inReset = false ∧ (s.chans.row 2).conducting = true ∧ (s.chans.row 2).supervision = none
      ∧ (s.chans.row 2).set.limit.milliamps < 251)
    ∧ ((withChan State.reset 2 { sinkOn with supervision := some 9 }).chans.row 2).supervision = some 9
    ∧ 250 ≤ (s.chans.row 2).set.limit.milliamps := by
  decide

theorem witness_ChannelLeavesCutOff :
    let s := withChan State.reset 2 { Channel.reset with restart := .running 9, status := .engaged }
    s.takesRequests ∧ (2 : Byte).toNat = (2 : Fin 16).val ∧ (s.chans.row 2).cutOff = true
    ∧ (s.chans.row 2).status = .engaged :=
  ⟨⟨rfl, rfl⟩, by decide, by decide, by decide⟩

/-- A tick of 1 ms is due at step 1000, and not at step 999. -/
theorem witness_TimerStepCountsAndCompares :
    let s := pulsing .pulseOnce 9 .waitB true
    s.inReset = false ∧ head s.chans 11 = 11 ∧ paired s.chans 11 = false
    ∧ (s.chans.row 11).set.sync = .free ∧ (s.chans.row 11).set.period ≠ 0
    ∧ (s.clock + 1) % (s.chans.row 11).set.tick.micros = 0
    ∧ (998 + 1) % (s.chans.row 11).set.tick.micros ≠ 0 := by
  decide

theorem witness_RateGeneratorsCountTheReference :
    State.reset.inReset = false ∧ ¬ State.reset.scan.genA.divisor ≤ State.reset.scan.genA.count + 1
    ∧ (1000 : Nat) ≤ 999 + 1 := by
  decide

theorem witness_PlanStartArrivesAtTheFirstStage :
    let s := bowRamp (stageOf (.dwell 20) 0)
    s.takesRequests ∧ (s.plan.plans.row 0).ramp = 0 ∧ s.req.mode = .service
    ∧ (s.ramp 0).state = .idle
    ∧ (State.reset.plan.plans.row 7).ramp ≠ 1 ∧ State.reset.req.mode = .setup :=
  ⟨⟨rfl, rfl⟩, by decide, by decide, by decide, by decide, by decide⟩

theorem witness_SpeedFollowsDistanceWithinTheLimits : (96 : Nat) ≤ 14000 := by decide

/-- The ramp of the worked sequence: a sample that continues, one in the dead band, one in the overshoot
allowance and one beyond it. -/
theorem witness_PositionSampleRunsTheApproachLaw :
    approaching.inReset = false ∧ approaching.driving 0 = some berthing
    ∧ (approaching.ramp 0).travel = .extend ∧ (approaching.ramp 0).extend = some 0
    ∧ (approaching.ramp 0).retract = some 1 ∧ (approaching.chans.row 0).set.owner = .ramp 0
    ∧ (approaching.chans.row 1).set.owner = .ramp 0 ∧ approaching.req.mode = .service
    ∧ (approaching.ramp 0).stage = some 0 ∧ (approaching.ramp 0).plan = some 0
    ∧ (approaching.plan.plans.row 0).first.val + (approaching.plan.plans.row 0).count = (0 : Fin 64).val + 1
    ∧ distance 16000 16200 ≤ berthing.allow ∧ berthing.allow < distance 16000 16201
    ∧ State.reset.driving 0 = none := by
  decide +kernel

theorem witness_FaultsStopTheRampAndKeepItsPlace :
    approaching.inReset = false ∧ (approaching.ramp 0).state = .running
    ∧ (approaching.stage 0).timeout ≠ 0 ∧ (approaching.ramp 0).phase = .entered
    ∧ (approaching.ramp 0).stale ≠ none ∧ (approaching.stage 0).kind = .drive berthing
    ∧ (approaching.ramp 0).extend = some 0 := by
  decide +kernel

/-- A DWELL stage with its timer running, and a CALL stage that has asked with ask number 1. -/
theorem witness_DwellAndCallStagesComplete :
    let d := running (stageOf (.dwell 20) 0) .entered (fun x => { x with dwell := .running 5 })
    let c := running (stageOf (.call 4) 50) .entered
      (fun x => { x with callWait := .asked, ask := 1, retry := some 9 })
    (d.inReset = false ∧ (d.ramp 0).stage = some 0 ∧ (d.ramp 0).phase = .entered
      ∧ (d.ramp 0).plan = some 0 ∧ (d.ramp 0).state = .running ∧ (d.ramp 0).dwell = .running 5
      ∧ (d.plan.plans.row 0).first.val + (d.plan.plans.row 0).count = (0 : Fin 64).val + 1)
    ∧ ((c.ramp 0).callWait = .asked ∧ (c.ramp 0).ask = 1 ∧ (c.stage 0).kind = .call 4
      ∧ (c.ramp 0).retry = some 9 ∧ (c.ramp 0).state = .running) := by
  decide +kernel

/-- The bow ramp HELD at its DRIVE stage with every condition TRUE, and held by a forced valve. -/
def heldRamp : State := approaching.setRamp 0 { approaching.ramp 0 with state := .held }
theorem witness_AbortAndResumeActByTheRampState :
    heldRamp.takesRequests ∧ heldRamp.req.mode = .service ∧ (heldRamp.ramp 0).state = .held
    ∧ (heldRamp.ramp 0).stage = some 0 ∧ (heldRamp.ramp 0).phase = .entered
    ∧ (heldRamp.stage 0).kind = .drive berthing ∧ heldRamp.driveHolds (heldRamp.stage 0) = true
    ∧ heldRamp.holdCause 0 = false
    ∧ ((withChan heldRamp 0 { valve with status := .engaged }).chans.row 0).state = .forced :=
  ⟨⟨rfl, rfl⟩, by decide +kernel, by decide +kernel, by decide +kernel, by decide +kernel,
   by decide +kernel, by decide +kernel, by decide +kernel, by decide +kernel⟩

theorem witness_DriveStagePausesHoldsAndResumes :
    approaching.inReset = false ∧ approaching.rampWaits 0 1 = true ∧ approaching.rampWaits 0 30 = false
    ∧ (approaching.ramp 0).stage = some 0 ∧ (approaching.ramp 0).phase = .entered
    ∧ (approaching.stage 0).kind = .drive berthing ∧ (approaching.ramp 0).state = .running
    ∧ approaching.driveHolds (approaching.stage 0) = true
    ∧ (withCond approaching 1 .fixed false).driveHolds (approaching.stage 0) = false := by
  decide +kernel

theorem witness_DoorTimersAndCutOffsMoveTheDoor :
    let s := doored { doorOf .closing 1 with set := { (doorOf .closing 1).set with closeCh := some 4 } }
    s.inReset = false ∧ (s.door.doors.row 8).due ≠ none ∧ (s.door.doors.row 8).state = .closing
    ∧ (s.door.doors.row 8).set.closeCh = some 4 ∧ (s.door.doors.row 8).set.backoff ≠ 0
    ∧ (doorOf .backoff 2).attempts < (doorOf .backoff 2).set.retryLimit + 1
    ∧ (doorOf .backoff 3).set.retryLimit + 1 ≤ (doorOf .backoff 3).attempts := by
  decide +kernel

theorem witness_GroupCloseMovesTheDoorsOfEachGroup :
    let s := doored (doorOf .opened 0)
    s.takesRequests ∧ s.req.mode = .service ∧ (8 : Byte).getLsbD (3 : Fin 8).val = true
    ∧ (∀ d, (s.door.doors.row d).set.group = some 3 → (s.door.doors.row d).state ≠ .unset)
    ∧ (s.door.doors.row 8).set.closedCond = some 30
    ∧ (s.board.conds.row 30).source = .threshold 0 ∧ (s.door.doors.row 8).set.warning ≠ 0 :=
  ⟨⟨rfl, rfl⟩, by decide +kernel, by decide +kernel, by decide +kernel, by decide +kernel,
   by decide +kernel, by decide +kernel⟩

theorem witness_GroupReleaseReopensTheDoors :
    let s := doored (doorOf .closed 1)
    s.takesRequests ∧ (8 : Byte).toNat = 2 ^ (3 : Fin 8).val ∧ s.req.mode = .service
    ∧ (s.door.groups.row 3).trigger = none ∧ (s.door.groups.row 3).release = none
    ∧ (s.door.doors.row 8).state = .closed ∧ (s.door.doors.row 8).set.openCond = some 31
    ∧ (s.board.conds.row 31).source = .threshold 1 :=
  ⟨⟨rfl, rfl⟩, by decide +kernel, by decide +kernel, by decide +kernel, by decide +kernel,
   by decide +kernel, by decide +kernel, by decide +kernel⟩

theorem witness_DoorsFollowTheirLimitSwitches :
    let s := doored (doorOf .unset 0)
    s.inReset = false ∧ (∀ g, (s.door.groups.row g).trigger = none)
    ∧ (s.door.doors.row 8).set.group = some 3 ∧ (s.door.doors.row 8).state = .unset
    ∧ (s.door.doors.row 8).set.closedCond = some 30 ∧ (s.door.doors.row 8).set.openCond ≠ some 30
    ∧ (s.board.conds.row 30).source = .threshold 0 := by
  decide +kernel

/-- The drivers' call: accepted with its zones free, merged while it speaks, blocked below the warning. -/
theorem witness_QueueRequestsAreRefusedMergedOrAccepted :
    calling.takesRequests ∧ calling.req.mode = .service
    ∧ (drivers.allow = some 0 ∧ calling.term 0 = true) ∧ calling.call.slots.row 0 = none
    ∧ calling.call.arrival < 65535
    ∧ (∀ zn, (calling.call.zones.row zn).holder = none)
    ∧ (called.call.slots.row 0).isSome = true
    ∧ ((called.call.zones.row 1).holder = some 0 ∧ (called.call.slots.row 1) = none) :=
  ⟨⟨rfl, rfl⟩, by decide +kernel, by decide +kernel, by decide +kernel, by decide +kernel,
   by decide +kernel, by decide +kernel, by decide +kernel⟩

theorem witness_CallCancelFreesTheNamedSlots :
    called.takesRequests ∧ (called.call.slots.row 0).map (fun x => (x.state, x.template, x.token))
      = some (.speaking, 2, some 17)
    ∧ (called.call.zones.row 0).holder = some 0
    ∧ (∀ j : Fin 16, j ≠ 0 → called.call.slots.row j = none) :=
  ⟨⟨by decide +kernel, by decide +kernel⟩, by decide +kernel, by decide +kernel, by decide +kernel⟩

theorem witness_AnswersAndLimitsEndARepetition :
    called.inReset = false ∧ called.call.paNode = 60 ∧ called.own = some 9
    ∧ (called.call.slots.row 0).map (fun x => (x.state, x.token, x.limit))
        = some (.speaking, some 17, some 30000000)
    ∧ (∀ j : Fin 16, j ≠ 0 → called.call.slots.row j = none) := by
  decide +kernel

theorem witness_IntervalExpirySpeaksAgainAndLampsStep :
    let s := run (.callDoneReception 60 9 17 [1]) called
    s.inReset = false ∧ (s.call.slots.row 0).map (fun x => (x.interval, x.lampDue))
      = some (some 20000000, some 62500) := by
  decide +kernel

theorem witness_RequestPayloadsReadBack :
    (Instr.condSet bridge 20 65535).wf = true
    ∧ requestBytes (.condSet bridge 20 65535) = some (bridge, [0x0C, 20, 0xFF, 0xFF])
    ∧ State.reset.takesRequests :=
  ⟨by decide, by decide, reset_takes⟩

/-- The line settings and the tables at the ends of the writable ids, 1 and 18. -/
theorem witness_TablesAreReadAndWritten :
    State.reset.takesRequests ∧ tableOf 1 = some .line ∧ tableOf 18 = some .pa ∧ tableOf 20 = some .notices
    ∧ TableId.line.writable = true ∧ ([0, 49] : List Byte).length = TableId.line.size
    ∧ TableId.line.inWritable 0 = true ∧ TableId.conds.inWritable 15 = false
    ∧ TableId.conds.inWritable 16 = true
    ∧ (State.reset.judgeEntry State.reset .line
        { index := 0, image := [0, 49], check := checkByte [0, 49] }) = none :=
  ⟨reset_takes, by decide, by decide, by decide, by decide, by decide, by decide, by decide, by decide,
   by decide⟩

theorem witness_ModeSetActsByTheModeHeld :
    (State.reset.takesRequests ∧ State.reset.req.mode = .setup ∧ State.reset.ownership = none
      ∧ State.reset.timerUse = none ∧ State.reset.planAgreement = none
      ∧ State.reset.doorAgreement = none)
    ∧ ((inService State.reset).req.mode = .service
      ∧ (∀ r, ((inService State.reset).ramp r).state = .idle)
      ∧ ∀ d, ((inService State.reset).door.doors.row d).state = .unset)
    ∧ (approaching.ramp 0).state ≠ .idle :=
  ⟨⟨reset_takes, by decide +kernel, by decide +kernel, by decide +kernel, by decide +kernel,
    by decide +kernel⟩, by decide +kernel, by decide +kernel⟩

theorem witness_TheInstallationTagIsWrittenOnce :
    State.reset.takesRequests ∧ State.reset.req.tagWritten = false
    ∧ (run (.identityWrite bridge (Vector.replicate 8 1) 0xFF) State.reset).req.tagWritten = true
    ∧ (0xFF : Byte) = ~~~ ((Vector.replicate 8 (1 : Byte)).toList.foldl (· ^^^ ·) 0) :=
  ⟨reset_takes, rfl, by decide +kernel, by decide +kernel⟩

theorem witness_StatusFlagsAndNotices :
    State.reset.takesRequests ∧ (127 : Byte).toNat ≤ 127 ∧ 127 < (128 : Byte).toNat
    ∧ State.reset.req.marks.getLsbD ((12 : Fin 13).val - 1) = true
    ∧ State.reset.req.marks.getLsbD ((1 : Fin 13).val - 1) = false :=
  ⟨reset_takes, by decide, by decide, by decide, by decide⟩

theorem witness_OpsResetResetsOperatingStateAlone :
    State.reset.takesRequests ∧ State.reset.sourcesSafe :=
  ⟨reset_takes, witness_invariants.2.2.2.2.2.1⟩

theorem witness_PowerOnResetGivesTheInitialState :
    (run .powerOnReset State.reset).inReset = true := by decide

/-! ## Witnesses of single clauses: the forms that a statement of several clauses tells apart. -/

/-- The link is up, and BRIDGE_SILENT is marked already. -/
theorem witness_BridgeSilenceExpiryDropsTheLink_marked :
    let s := (withCond State.reset 0 .fixed true).setReq { State.reset.req with marks := 2 }
    s.inReset = false ∧ s.cond 0 = true ∧ s.req.marks.getLsbD 1 = true := by
  decide +kernel

/-- A trigger in IDLE, under either generator; the first slot of a list wets its channel; and a list of one
slot whose interval is below 50 µs. -/
theorem witness_TriggerStartsAScanOfTimedSlots_begin :
    let x : Scan := { Scan.reset with
      list := [2, 7], scanner := .idle,
      sensors := Scan.reset.sensors.put 2 { kind := .contact, zero := 0, gain := 256, wetting := true,
                                            logged := false, last := 0, samples := 0 } }
    x.scanner = .idle ∧ x.settings.trigger = .rateB ∧ x.settings.bInput = .a
    ∧ x.list.head? = some 2 ∧ x.list.head? ≠ some 7
    ∧ (x.sensors.row 2).kind = .contact ∧ (x.sensors.row 2).wetting = true
    ∧ ({ x.settings with trigger := .rateA } : ScanSettings).trigger = .rateA := by
  decide

/-- A record of debounce 1 on the channel sampled, a condition that follows it, and a ramp that names the
channel: the sample of 1000 trips the record. -/
def tripping : State :=
  let s := (withCond (sampling 5 logged) 20 (.threshold 3) false).setRamp 1
    { Ramp.reset with position := some 5 }
  let x : Threshold := { channel := 5, direction := .high, level := 900, hysteresis := 0, debounce := 1,
                         tripped := false, agreement := 0 }
  s.setScan { s.scan with thresholds := s.scan.thresholds.put 3 x }
theorem witness_SampleIsHandedOn_threshold :
    (tripping.board.conds.row 20).source = .threshold 3 ∧ (tripping.scan.thresholds.row 3).channel = 5
    ∧ ((tripping.scan.thresholds.row 3).advance 1000).tripped ≠ (tripping.scan.thresholds.row 3).tripped
    ∧ (tripping.plan.ramps.row 1).position = some 5 ∧ (tripping.plan.ramps.row 0).position ≠ some 5 := by
  decide +kernel
/-- The condition follows, and the ramp gets its one sample (R41, R63). -/
theorem test_threshold_condition :
    ((run (.sample 1000) tripping).cond 20, (run (.sample 1000) tripping).handed)
      = (true, [.positionSample 1 1000, .doorDerivation]) := by
  decide +kernel

/-- Channel 3 is ON already; channel 15 is OFF, and not asked to be otherwise. -/
theorem witness_ChannelSetSetsAFreeChannel_repeat :
    ((withChan State.reset 3 sinkOn).chans.row 3).set.owner = .free
    ∧ ((withChan State.reset 3 sinkOn).chans.row 3).requested = true
    ∧ (State.reset.chans.row 15).requested ≠ true := by
  decide

/-- An AWAITING_WRAP channel whose source is ACTIVE again. -/
theorem witness_ForceClearAndTriggerClearRelease_active :
    let s := withChan { State.reset with
        board := (withCond State.reset 3 .fixed true).board } 2
      { sinkOn with set := { sinkOn.set with forcing := .faultA }, status := .awaitingWrap }
    (s.chans.row 2).status ≠ .engaged ∧ s.forcingActive (s.chans.row 2).set.forcing = true := by
  decide +kernel

/-- Channel 11 about to wrap, with timers that follow it: 2 under SYNC, 3 HELD under TRIGGER, and an
AWAITING_WRAP forcing on 11; 5 RUNNING under TRIGGER, one tick short of B; 8 and 9 a joined pair at the
end of both periods. -/
def timers : State :=
  let s := pulsing .pwm 9 .waitA true
  let s := s.setChan 11 { s.chans.row 11 with status := .awaitingWrap }
  let pwm : ChannelSettings :=
    { sinkOn.set with tick := .ms1, period := 5, cmpA := 3, cmpB := 2, mode := .pwm }
  let s := withChan s 2 { sinkOn with set := { pwm with sync := .sync 11 }, count := 2, aInForce := 1 }
  let s := withChan s 3 { sinkOn with set := { pwm with sync := .trigger 11 }, timerOut := false }
  let s := withChan s 5 { sinkOn with
    set := { pwm with sync := .trigger 6, stopAtB := true }, running := true, count := 1, aInForce := 3 }
  let s := withChan s 8 { sinkOn with set := { pwm with joined := true }, count := 4 }
  withChan s 9 { sinkOn with set := pwm, count := 4 }
theorem witness_TimerStepCountsAndCompares_chains :
    timers.inReset = false
    ∧ (∀ h : Fin 16, h = 2 ∨ h = 3 ∨ h = 5 ∨ h = 8 ∨ h = 11 → head timers.chans h = h)
    ∧ (paired timers.chans 8 = true ∧ partner 8 = 9 ∧ members timers.chans 8 = [8, 9]
      ∧ (timers.chans.row 8).set.period ≤ (timers.chans.row 8).count + 1
      ∧ (timers.chans.row 9).set.period ≤ (timers.chans.row 9).count + 1)
    ∧ (timers.clock + 1) % (timers.chans.row 9).set.tick.micros = 0
    ∧ (timers.chans.row 11).set.period ≤ (timers.chans.row 11).count + 1
    ∧ ((timers.chans.row 11).status = .awaitingWrap ∧ (timers.chans.row 11).cutOff = false)
    ∧ ((timers.chans.row 2).set.sync = .sync 11 ∧ head timers.chans 11 = 11)
    ∧ ((timers.chans.row 3).set.sync = .trigger 11 ∧ (timers.chans.row 3).running = false)
    ∧ ((timers.chans.row 5).running = true ∧ (timers.chans.row 5).set.stopAtB = true
      ∧ (timers.chans.row 5).count + 1 = (timers.chans.row 5).set.cmpB
      ∧ (timers.chans.row 5).set.cmpB < (timers.chans.row 5).set.period) := by
  decide +kernel
/-- The wrap of 11 returns 2, starts 3 and releases the forcing; 5 stops at B; the pair wraps and takes its
written A (R89, R104, R106, R107, R111). -/
theorem test_timer_chain :
    let c (ch : Fin 16) := (run .timerStep timers).chans.row ch
    ((c 11).status, (c 2).count, (c 2).aInForce, (c 3).running) = (.clear, 0, 3, true)
    ∧ ((c 5).running, (c 5).count, (c 8).count, (c 9).count, (c 8).aInForce, (c 9).aInForce)
        = (false, 0, 0, 0, 3, 3) := by
  decide +kernel

/-- The bow ramp may enter a stage on the empty term that is not a DRIVE stage. -/
theorem enters_of_plain (s : State) (st : Stage) (p : s.term st.permit = true)
    (k : ∀ d, st.kind ≠ .drive d) : s.enters st := ⟨p, fun d e => absurd e (k d)⟩

/-- A ramp that arrives at a WAIT on a term that is TRUE, at a DWELL of time 0, at a DWELL that stands, and at a
SET stage; and at a DRIVE stage far from its target and in its dead band. -/
theorem witness_PlanStartArrivesAtTheFirstStage_kinds :
    let s := bowRamp (stageOf (.wait 0) 0)
    let far := withCond (bowRamp (stageOf (.drive berthing) 0)) 1 .fixed true
    (s.enters (stageOf (.wait 0) 0) ∧ s.passes (stageOf (.wait 0) 0) 2000)
    ∧ s.passes (stageOf (.dwell 0) 0) 2000 ∧ ¬ s.passes (stageOf (.dwell 20) 0) 2000
    ∧ s.passes (stageOf (.set .extend true .retract false) 0) 2000
    ∧ (far.enters (stageOf (.drive berthing) 0) ∧ ¬ far.passes (stageOf (.drive berthing) 0) 2000
      ∧ far.passes (stageOf (.drive berthing) 0) 15960)
    ∧ ¬ s.enters (stageOf (.drive berthing) 0) := by
  refine ⟨⟨enters_of_plain _ _ (by decide +kernel) (fun d h => by simp [stageOf] at h), ?_⟩, ?_, ?_, ?_,
    ⟨⟨by decide +kernel, fun d _ => ⟨⟨by decide +kernel, by decide +kernel, by decide +kernel⟩,
      fun h => absurd h (by decide)⟩⟩, ?_, ?_⟩, ?_⟩
  · exact .inr (.inr (.inl ⟨0, rfl, by decide +kernel⟩))
  · exact .inr (.inl rfl)
  · rintro (⟨a, b, c, d, h⟩ | h | ⟨w, h, -⟩ | ⟨d, h, -⟩) <;> simp [stageOf] at h
  · exact .inl ⟨_, _, _, _, rfl⟩
  · rintro (⟨a, b, c, d, h⟩ | h | ⟨w, h, -⟩ | ⟨d, h, n⟩) <;> simp [stageOf] at h
    subst h
    simp [berthing] at n
  · exact .inr (.inr (.inr ⟨berthing, rfl, by decide⟩))
  · intro h
    have e := (h.2 berthing rfl).1.2.1
    revert e
    decide +kernel

/-- The ramp of the worked sequence keeps its rules, and drives, over a step. -/
theorem witness_SpeedFollowsDistanceWithinTheLimits_step :
    approaching.rampsSafe ∧ step approaching = .next approaching ∧ approaching.driving 0 = some berthing := by
  refine ⟨⟨by decide +kernel, fun r => ?_⟩, step_idle _ rfl (by decide +kernel), by decide +kernel⟩
  have rest : ∀ r, r ≠ 0 → (approaching.ramp r).state = .idle := by decide +kernel
  have zero : ∀ r, (approaching.ramp r).sPrev = 0 ∧ (approaching.ramp r).dwell = .stopped := by
    decide +kernel
  refine ⟨?_, ?_, fun h => absurd h (by simp [(zero r).1]), fun h => absurd (zero r).2 h⟩
  · revert r
    decide +kernel
  · intro h
    by_cases e : r = 0
    · subst e
      exact ⟨by decide +kernel, 0, 0, by decide +kernel, by decide +kernel, by unfold State.inPlan; decide +kernel⟩
    · exact absurd (rest r e) h

/-- A WAIT stage whose term is on condition 20: TRUE, and FALSE. -/
def awaiting (v : Bool) : State :=
  withTerm (withCond (running (stageOf (.wait 2) 0) .entered id) 20 .frame v) 2 [(20, true)]
theorem witness_DwellAndCallStagesComplete_wait :
    let w := awaiting true
    (w.inReset = false ∧ (w.ramp 0).stage = some 0 ∧ (w.ramp 0).phase = .entered
      ∧ (w.ramp 0).plan = some 0 ∧ (w.ramp 0).state = .running ∧ (w.stage 0).kind = .wait 2
      ∧ w.term 2 = true) ∧ (awaiting false).term 2 = false ∧ w.names 2 20 :=
  ⟨by decide +kernel, by decide +kernel, ⟨true, by decide +kernel⟩⟩

/-- A ramp HELD at a PENDING stage, at a WAIT stage, and at a CALL stage whose call was refused. -/
theorem witness_AbortAndResumeActByTheRampState_stages :
    let held (st : Stage) (phase : Phase) := running st phase (fun x => { x with
      state := .held, callWait := .refused })
    let p := held (stageOf (.dwell 20) 0) .pending
    (p.takesRequests ∧ p.req.mode = .service ∧ (p.ramp 0).state = .held ∧ (p.ramp 0).phase = .pending
      ∧ (p.ramp 0).stage = some 0 ∧ (p.ramp 0).plan = some 0 ∧ p.holdCause 0 = false)
    ∧ (let w := held (stageOf (.wait 0) 0) .entered
      (w.ramp 0).phase = .entered ∧ (w.stage 0).kind = .wait 0 ∧ w.term 0 = true ∧ w.holdCause 0 = false)
    ∧ (let c := held (stageOf (.call 4) 0) .entered
      (c.stage 0).kind = .call 4 ∧ (c.ramp 0).callWait = .refused ∧ c.holdCause 0 = false) :=
  ⟨⟨⟨rfl, rfl⟩, by decide +kernel, by decide +kernel, by decide +kernel, by decide +kernel,
    by decide +kernel, by decide +kernel⟩, by decide +kernel, by decide +kernel⟩

/-- A ramp PENDING on a permit term of condition 20, and one at a DRIVE stage that waits on SCAN_VALID. -/
theorem witness_DriveStagePausesHoldsAndResumes_pending :
    let st : Stage := { stageOf (.dwell 20) 0 with permit := 2 }
    let s := withTerm (withCond (running st .pending id) 20 .frame true) 2 [(20, true)]
    (s.inReset = false ∧ (s.ramp 0).stage = some 0 ∧ (s.ramp 0).plan = some 0
      ∧ (s.ramp 0).state = .running ∧ (s.ramp 0).phase = .pending)
    ∧ s.waitsOn 0 20 ∧ s.enters (s.stage 0) ∧ approaching.waitsOn 0 1 := by
  have k : ∀ d, StageKind.dwell 20 ≠ .drive d := fun d h => by cases h
  refine ⟨by decide +kernel, ?_, ?_, ?_⟩
  · exact ⟨0, by decide +kernel, .inr (.inl ⟨k, by decide +kernel, by decide +kernel,
      ⟨true, by decide +kernel⟩⟩)⟩
  · exact enters_of_plain _ _ (by decide +kernel) k
  · exact ⟨0, by decide +kernel, .inl ⟨⟨berthing, by decide +kernel⟩, by decide +kernel,
      .inr (.inl rfl)⟩⟩

/-- Group 3 has a warning template, so its OPEN door hands a warning call. -/
theorem witness_GroupCloseMovesTheDoorsOfEachGroup_warning :
    let s := doored (doorOf .opened 0)
    let g := { s.door.groups.row 3 with template := some 6 }
    let s := { s with door := { s.door with groups := s.door.groups.put 3 g } }
    s.callOf 8 = some (.callQueue (.warning 8) 6 none)
    ∧ (run (.groupClose bridge 0x08 0) s).queuedSince s = [.callQueue (.warning 8) 6 none] := by
  decide +kernel

/-- Two groups named at once: group 3 with a trigger term on the FRAME condition 20, FALSE, and a door in
WARNING; group 4 with no door. -/
def triggering (v : Bool) (x : Door) : State :=
  let s := withTerm (withCond (doored x) 20 .frame v) 2 [(20, true)]
  let g := { s.door.groups.row 3 with trigger := some 2, template := some 6 }
  { s with door := { s.door with groups := s.door.groups.put 3 g } }
theorem witness_GroupReleaseReopensTheDoors_groups :
    let s := triggering false (doorOf .warning 1)
    (s.takesRequests ∧ s.req.mode = .service ∧ (0x18 : Byte).getLsbD (3 : Fin 8).val = true
      ∧ (0x18 : Byte).getLsbD (4 : Fin 8).val = true ∧ (s.door.groups.row 3).trigger = some 2
      ∧ s.term 2 = false ∧ (s.door.groups.row 4).trigger = none ∧ (s.door.groups.row 4).release = none
      ∧ (s.door.doors.row 8).state = .warning) ∧ s.steady 2
    ∧ (run (.groupRelease bridge 0x18) s).handed.getLast? = some (.callCancel .release 1 6) := by
  refine ⟨⟨⟨rfl, rfl⟩, by decide +kernel, by decide +kernel, by decide +kernel, by decide +kernel,
    by decide +kernel, by decide +kernel, by decide +kernel, by decide +kernel⟩, ?_, by decide +kernel⟩
  intro l h
  have e : (triggering false (doorOf .warning 1)).board.terms.row 2 = { literals := [(20, true)] } := by
    decide +kernel
  rw [e] at h
  simp at h
  subst h
  exact .inr (.inl (by decide +kernel))

/-- The trigger term of group 3 reads TRUE when condition 20 does, and its OPEN door is close-requested. -/
theorem witness_DoorsFollowTheirLimitSwitches_trigger :
    let s := triggering true (doorOf .opened 0)
    (s.inReset = false ∧ s.req.mode = .service ∧ (s.door.groups.row 3).trigger = some 2
      ∧ s.term 2 = true ∧ (s.door.doors.row 8).set.group = some 3 ∧ (s.door.doors.row 8).state = .opened
      ∧ (∀ d, (s.door.doors.row d).set.group = some 3 → (s.door.doors.row d).set.closedCond ≠ some 20
        ∧ (s.door.doors.row d).set.openCond ≠ some 20)) ∧ s.names 2 20
    ∧ ((run (.conditionChange 20 true .doors) s).door.doors.row 8).state = .warning :=
  ⟨by decide +kernel, ⟨true, by decide +kernel⟩, by decide +kernel⟩

/-- A fact of every occupied slot, by a check of the 16 slots. -/
theorem forall_slot (s : State) (P : Fin 16 → Slot → Prop) [∀ k x, Decidable (P k x)]
    (h : ∀ k, (s.call.slots.row k).all (fun x => decide (P k x)) = true) :
    ∀ k x, s.call.slots.row k = some x → P k x := by
  intro k x e
  have c := h k
  rw [e] at c
  simpa using c

/-- A slot of equal or higher priority holds a zone of a set, by a check of the 16 zones. -/
theorem barred (s : State) (zones : BitVec 16) (p : Nat)
    (h : ∃ z j : Fin 16, zones.getLsbD z.val = true ∧ (s.call.zones.row z).holder = some j
      ∧ (s.call.slots.row j).any (fun y => decide (p ≤ y.priority)) = true) :
    ∃ (z j : Fin 16) (y : Slot), zones.getLsbD z.val = true ∧ (s.call.zones.row z).holder = some j
      ∧ s.call.slots.row j = some y ∧ p ≤ y.priority := by
  obtain ⟨z, j, a, b, c⟩ := h
  revert c
  cases e : s.call.slots.row j with
  | none => exact fun c => by cases c
  | some y => exact fun c => ⟨z, j, y, a, b, e, of_decide_eq_true c⟩

/-- The holding rules of a state, by checks of its slots and zones. -/
theorem zonesSafe_of (s : State)
    (free : ∀ k, s.call.slots.row k = none → ∀ z, (s.call.zones.row z).holder ≠ some k)
    (slots : ∀ k, (s.call.slots.row k).all (fun x => decide (
      (x.state = .waiting → ∀ z, (s.call.zones.row z).holder ≠ some k)
      ∧ (x.state ≠ .waiting → ∀ z : Fin 16,
          (s.call.zones.row z).holder = some k ↔ x.zones.getLsbD z.val = true)
      ∧ (x.state = .waiting → ∃ z j : Fin 16, x.zones.getLsbD z.val = true
          ∧ (s.call.zones.row z).holder = some j
          ∧ (s.call.slots.row j).any (fun y => decide (x.priority ≤ y.priority)) = true)
      ∧ ((x.interval ≠ none ↔ x.state = .interval) ∧ (x.lampDue ≠ none ↔ x.state ≠ .waiting))
      ∧ x.zones ≠ 0)) = true)
    (templates : ∀ m : Fin 32, (s.call.templates.row m).allow ≠ none →
      (s.call.templates.row m).zones ≠ 0) : s.zonesSafe := by
  have c := forall_slot s _ slots
  exact ⟨free, fun k x e => (c k x e).1, fun k x e => (c k x e).2.1,
    fun k x e w => barred s _ _ ((c k x e).2.2.1 w), fun k x e => (c k x e).2.2.2.1,
    fun k x e => (c k x e).2.2.2.2, templates⟩

/-- The token and limit rule of a state's slots, by a check of them. -/
theorem slotsSafe_of (s : State) (h : ∀ k, (s.call.slots.row k).all (fun x => decide (
      (x.state = .speaking → x.token.isSome = true ∧ x.limit.isSome = true)
      ∧ (x.state ≠ .speaking → x.token = none ∧ x.limit = none))) = true) : s.slotsSafe :=
  forall_slot s (fun _ x => (x.state = .speaking → x.token.isSome = true ∧ x.limit.isSome = true)
    ∧ (x.state ≠ .speaking → x.token = none ∧ x.limit = none)) h

/-- The worked sequence of chapter 9 keeps the rules while the drivers' call speaks, and after the warning
call has displaced it. -/
theorem called_safe : called.slotsSafe ∧ called.zonesSafe :=
  ⟨slotsSafe_of _ (by decide +kernel), zonesSafe_of _ (by decide +kernel) (by decide +kernel)
    (by decide +kernel)⟩
theorem preempted_safe : preempted.slotsSafe ∧ preempted.zonesSafe :=
  ⟨slotsSafe_of _ (by decide +kernel), zonesSafe_of _ (by decide +kernel) (by decide +kernel)
    (by decide +kernel)⟩

/-- The warning call of zone 1 and priority 6 is not barred by the drivers' call, which holds that zone at
priority 2, and no other call waits; and a counter at 65535. -/
theorem witness_QueueRequestsAreRefusedMergedOrAccepted_preempts :
    (called.slotsSafe ∧ called.zonesSafe) ∧ called.call.slots.row 1 = none
    ∧ (called.call.slots.row 0).map (fun x => (x.state, x.zones, x.priority)) = some (.speaking, 7, 2)
    ∧ (∀ zn : Fin 16, (0x0002 : BitVec 16).getLsbD zn.val = true →
        (called.call.zones.row zn).holder = some 0)
    ∧ doorsClosing.priority = 6 ∧ called.call.arrival < 65535
    ∧ (called.setCall { called.call with arrival := 65535 }).call.arrival = 65535 :=
  ⟨called_safe, by decide +kernel, by decide +kernel, by decide +kernel, rfl, by decide +kernel, rfl⟩

/-- The drivers' call waits behind the warning call in slot 1, and can win when that is cancelled. -/
theorem witness_CallCancelFreesTheNamedSlots_winner :
    (preempted.slotsSafe ∧ preempted.zonesSafe) ∧ preempted.takesRequests
    ∧ (preempted.call.slots.row 0).map (fun x => x.state) = some .waiting
    ∧ (preempted.call.slots.row 1).map (fun x => x.state) = some .speaking
    ∧ (∀ zn h : Fin 16, (7 : BitVec 16).getLsbD zn.val = true →
        (preempted.call.zones.row zn).holder = some h → h = 1)
    ∧ ((run (.callCancel .release 0 1) preempted).call.slots.row 0).map (fun x => (x.state, x.token))
        = some (.speaking, some 19) :=
  ⟨preempted_safe, ⟨by decide +kernel, by decide +kernel⟩, by decide +kernel, by decide +kernel,
   by decide +kernel, by decide +kernel⟩

/-- A taken TABLE_WRITE of a term, and a state in which every check of it passes. -/
theorem witness_TablesAreReadAndWritten_taken :
    tableOf 5 = some .terms ∧ TableId.terms.writable = true
    ∧ State.reset.judgeEntry State.reset .terms
        { index := 5, image := [2, 10, 1, 20, 0, 0, 0, 0, 0], check := 0xE2 } = none
    ∧ ((run (.tableWrite bridge 5 5 [2, 10, 1, 20, 0, 0, 0, 0, 0] 0xE2) State.reset).board.terms.row
        5).literals = [(10, true), (20, false)] :=
  ⟨by decide, by decide, by decide +kernel, by decide +kernel⟩

/-- The state after reset counts, follows and holds as the rules say. -/
theorem witness_EveryStepKeepsTheRecordRules :
    State.reset.countsSafe ∧ State.reset.rampsSafe ∧ State.reset.followsSafe ∧ State.reset.zonesSafe
    ∧ step State.reset = .next State.reset := by
  have src : ∀ c : Fin 64, (State.reset.board.conds.row c).source
      = if c.val < 16 then .fixed else .none := by decide +kernel
  have no : ∀ (c : Fin 64) (x : Source), x ≠ .fixed → x ≠ .none →
      (State.reset.board.conds.row c).source ≠ x := by
    intro c x f n
    rw [src c]
    split
    · exact fun h => f h.symm
    · exact fun h => n h.symm
  have idle : ∀ r, (State.reset.ramp r).state = .idle := by decide +kernel
  refine ⟨by unfold State.countsSafe; decide +kernel, ⟨by decide +kernel, fun r => ⟨?_, ?_, ?_, ?_⟩⟩,
    ⟨by decide +kernel, by decide +kernel, by decide +kernel, ?_, by decide +kernel, by decide +kernel,
      fun c k h => absurd h (no c _ (by simp) (by simp)), fun c g h => absurd h (no c _ (by simp) (by simp)),
      fun c g h => absurd h (no c _ (by simp) (by simp)),
      fun c r p h => absurd h (no c _ (by simp) (by simp)),
      fun c ch h => absurd h (no c _ (by simp) (by simp)), by decide +kernel⟩,
    zonesSafe_of _ (by decide +kernel) (by decide +kernel) (by decide +kernel),
    step_idle _ rfl (by decide +kernel)⟩
  · revert r; decide +kernel
  · exact fun h => absurd (idle r) h
  · have z : ∀ r, (State.reset.ramp r).sPrev = 0 := by decide +kernel
    exact fun h => absurd h (by simp [z r])
  · have z : ∀ r, (State.reset.ramp r).dwell = .stopped := by decide +kernel
    exact fun h => absurd (z r) h
  · have f : State.reset.cond 7 = false := by decide +kernel
    rw [f]
    refine ⟨fun h => (by cases h), ?_⟩
    rintro ⟨r, k, d, h, -⟩
    rw [idle r] at h
    cases h

/-- Nothing speaks, and READY is marked. -/
theorem witness_OpsResetResetsOperatingStateAlone_quiet :
    (∀ k, State.reset.call.slots.row k = none) ∧ State.reset.req.marks.getLsbD 11 = true := by
  decide +kernel

/-! ## Tests of rules that a review has read again -/

/-- A refusal counts below the hits of its entry alone (R36). -/
theorem test_refusals_within_hits :
    [0, 1].map (fun n => ((run (.setCond 2 3 0) (State.reset.setEntry 2
      { entryOf 3 0 0 0 (.setCond 3 0) with hits := n })).table.row 2).refusals) = [0, 1] := by
  decide +kernel
/-- A level already requested changes nothing, though the channel's gate has fallen since (R84). -/
theorem test_channel_repeat :
    let s := withChan State.reset 3 { sinkOn with set := { sinkOn.set with gate := some 3 } }
    (run (.channelSet bridge 3 1) s).chans = s.chans := by
  decide +kernel
/-- A kind and wetting written in a slot act at the channel's next slot (R53); on a channel outside the list
they act at once (log 52). -/
theorem test_wetting_next_slot :
    let x := { logged with kind := .contact, wetting := true }
    let s := sampling 5 logged
    let s := s.setScan { s.scan with sensors := (s.scan.sensors.put 5 x).put 6 x,
                                     settings := { s.scan.settings with wettingTest := true } }
    (s.scan.wetting 5, s.scan.wetting 6) = (false, true) := by
  decide +kernel
/-- SCAN_NOW under a RATE source is BAD_VALUE in TRIMMING too (R58). -/
theorem test_scan_now_trimming :
    sent (run (.scanNow (.request bridge)) (State.reset.setScan { State.reset.scan with
      scanner := .trimming { kept := 512, stepsLeft := 3 } })) = some [0x0E, 6] := by
  decide +kernel
/-- One block that writes the records of groups 3 and 4, each with the empty trigger term: the doors 8 and 2
hand their warning calls in door order (R148, R183). -/
theorem test_block_warnings :
    let s := (doored (doorOf .opened 0)).setDoor 2
      { doorOf .opened 0 with set := { (doorOf .opened 0).set with group := some 4 } }
    let img : List Byte := [0, 0xFF, 6]
    (run (.blockWrite bridge 15 3 2 (img ++ [checkByte img] ++ img ++ [checkByte img]) 0) s).queuedSince s
      = [.callQueue (.warning 2) 6 none, .callQueue (.warning 8) 6 none] := by
  decide +kernel
/-- A door that a write takes out of its group stands UNSET with its state timer restarted (R140, R142). -/
theorem test_door_taken_out :
    let s := (State.reset.setDoor 8 { doorOf .opened 0 with set := DoorSettings.reset })
    let s := s.setDoor 8 { s.door.doors.row 8 with set := { DoorSettings.reset with group := some 3 } }
    let img := s.image .doors 9
    ((run (.tableWrite bridge 14 8 img (checkByte img)) { s with clock := 500 }).door.doors.row 8)
      = { State.reset.door.doors.row 8 with timer := { acc := 0, since := some 500 } } := by
  decide +kernel

/-! ## Witnesses: passing CALL_DONEs, parts without an address, the buffer's ends, readings of triggers -/

/-- A broadcast CALL_DONE, dst 127, meets the part of own address 9, and one to node 30 passes it: each is handed
to CALL before the actions of its matched entries (R8; log 2). -/
theorem witness_PassingFrameIsLearnedAndForwardedOrHeld_callDone :
    ((frameTo 127 60 5).sound ∧ (frameTo 30 60 5).sound ∧ State.reset.inReset = false
      ∧ State.reset.own ≠ some 60 ∧ State.reset.own ≠ some 127 ∧ State.reset.own ≠ some 30)
    ∧ ((run (.reception .dn (frameTo 127 60 5).toBytes) State.reset).handed
        = [.callDoneReception 60 127 7 []]
      ∧ (run (.reception .dn (frameTo 30 60 5).toBytes) State.reset).handed
        = [.callDoneReception 60 30 7 []]) :=
  ⟨⟨frameTo_sound 127 60 5 (by decide), frameTo_sound 30 60 5 (by decide), rfl, by decide +kernel,
    by decide +kernel, by decide +kernel⟩, by decide +kernel, by decide +kernel⟩

/-- A part without an own address, in SERVICE, with a FRAME condition 20 and an OPEN door 8 of group 3. -/
def unaddressed : State :=
  (withCond (withCond (inService (State.powerOn 127 false false)) 20 .frame false) 30 (.threshold 0)
    false).setDoor 8 (doorOf .opened 0)
/-- It is no receiver of requests, and the match actions act in it all the same (R17, R29, R31). -/
theorem witness_actions_unaddressed :
    (unaddressed.inReset = false ∧ unaddressed.addressed = false ∧ unaddressed.req.mode = .service)
    ∧ (unaddressed.board.conds.row 20).source = .frame ∧ unaddressed.cond 20 = false
    ∧ (unaddressed.door.doors.row 8).state = .opened
    ∧ ((run (.setCond 2 20 0) unaddressed).cond 20 = true
      ∧ (run (.condSet bridge 20 0) unaddressed).cond 20 = false)
    ∧ ((run (.closeGroup 2 8 0) unaddressed).door.doors.row 8).state = .warning := by
  decide +kernel

/-- A logged sample meets a buffer of `n` records. -/
def filled (n : Nat) : State :=
  let s := sampling 5 logged
  s.setScan { s.scan with buffer := List.replicate n { channel := 5, value := 0, scan := 0 } }
/-- A logged sample will raise the fill to a threshold of 1, under the pending marks given. -/
def belowThreshold (marks : BitVec 16) : State :=
  let s := sampling 5 logged
  (s.setScan { s.scan with settings := { s.scan.settings with bufferThreshold := 1 } }).setReq
    { s.req with marks := marks }
/-- The 512th record is stored, and the next one is discarded (R66). -/
theorem witness_SampleIsHandedOn_buffer :
    ((filled 511).scan.buffer.length < 512 ∧ 512 ≤ (filled 512).scan.buffer.length
      ∧ (filled 512).scan.overflowing = false)
    ∧ (((run (.sample 1000) (filled 511)).scan.buffer.length, (run (.sample 1000) (filled 511)).scan.discarded)
        = (512, 0)
      ∧ ((run (.sample 1000) (filled 512)).scan.buffer.length,
          (run (.sample 1000) (filled 512)).scan.discarded) = (512, 1)) := by
  decide +kernel
/-- BUFFER_ABOVE is marked as kind 3, bit 2 (R67, R186). -/
theorem witness_SampleIsHandedOn_above :
    ((belowThreshold 0).scan.above = false ∧ (belowThreshold 0).req.marks.getLsbD 2 = false
      ∧ (belowThreshold 4).req.marks.getLsbD 2 = true)
    ∧ (run (.sample 1000) (belowThreshold 0)).scan.above = true
    ∧ (run (.sample 1000) (belowThreshold 0)).req.marks = 4 := by
  decide +kernel

/-- No event of DOOR moves the term of `triggering`. -/
theorem triggering_steady (v : Bool) (x : Door) : (triggering v x).steady 2 := by
  intro l h
  have e : (triggering v x).board.terms.row 2 = { literals := [(20, true)] } := rfl
  rw [e] at h
  simp only [List.mem_singleton] at h
  subst h
  exact .inr (.inl rfl)
/-- The first sixteen conditions of `triggering` keep their fixed sources. -/
theorem witness_GroupReleaseReopensTheDoors_sources :
    (triggering false (doorOf .warning 1)).sourcesSafe := by
  unfold State.sourcesSafe
  decide +kernel

/-- The readings of the triggers: every trigger term is steady, and no door names condition 20. -/
theorem witness_DoorsFollowTheirLimitSwitches_steady :
    let s := triggering true (doorOf .opened 0)
    s.sourcesSafe
    ∧ (∀ d g, (s.door.doors.row d).set.group = some g →
      (s.door.doors.row d).set.closedCond ≠ some 20 ∧ (s.door.doors.row d).set.openCond ≠ some 20)
    ∧ ∀ g tm, (s.door.groups.row g).trigger = some tm → s.steady tm := by
  have t : ∀ g, ((triggering true (doorOf .opened 0)).door.groups.row g).trigger
      = if g = 3 then some 2 else none := by decide +kernel
  refine ⟨by unfold State.sourcesSafe; decide +kernel, ?_, fun g tm h => ?_⟩
  · have n : ∀ d, ((triggering true (doorOf .opened 0)).door.doors.row d).set.closedCond ≠ some 20
        ∧ ((triggering true (doorOf .opened 0)).door.doors.row d).set.openCond ≠ some 20 := by
      decide +kernel
    exact fun d g _ => n d
  · rw [t g] at h
    split at h
    · cases h
      exact triggering_steady true (doorOf .opened 0)
    · cases h

/-- A derivation under a TRUE trigger term: the UNSET door is derived OPEN, and closes at once (R144, R147). -/
theorem witness_DoorsFollowTheirLimitSwitches_derived :
    let s := triggering true (doorOf .unset 0)
    (s.inReset = false ∧ s.sourcesSafe ∧ s.steady 2 ∧ s.req.mode = .service ∧ s.term 2 = true)
    ∧ ((∀ d, (s.door.doors.row d).set.group ≠ none → d = 8) ∧ (s.door.doors.row 8).state = .unset
      ∧ (s.door.doors.row 8).set.closedCond = some 30
      ∧ (s.board.conds.row 30).source = .threshold 0 ∧ s.cond 30 = false)
    ∧ ((run .doorDerivation s).door.doors.row 8).state = .warning
    ∧ (run .doorDerivation s).queuedSince s = [.callQueue (.warning 8) 6 none] :=
  ⟨⟨rfl, by unfold State.sourcesSafe; decide +kernel, triggering_steady _ _, rfl, by decide +kernel⟩,
   by decide +kernel, by decide +kernel, by decide +kernel⟩

/-- The part with door 8 in a state, in SETUP. -/
def inSetup (st : DoorState) : State :=
  let s := doored (doorOf st 0)
  s.setReq { s.req with mode := .setup }
/-- In SETUP a CLOSED and a JAMMED door are OPEN when the closed condition becomes FALSE, and in SERVICE both
stand; a warning call that is FULL is lost, and one that is DONE is not (R148, R155). -/
theorem witness_DoorsFollowTheirLimitSwitches_setup :
    ((inSetup .closed).inReset = false ∧ (inSetup .closed).req.mode = .setup
      ∧ ((inSetup .closed).door.doors.row 8).set.closedCond = some 30)
    ∧ ([DoorState.closed, .jammed].map (fun st =>
        ((run (.conditionChange 30 false .doors) (inSetup st)).door.doors.row 8).state)
          = [.opened, .opened]
      ∧ [DoorState.closed, .jammed].map (fun st =>
        ((run (.conditionChange 30 false .doors) (doored (doorOf st 0))).door.doors.row 8).state)
          = [.closed, .jammed])
    ∧ [Code.full, .done].map (fun c => (run (.warningCallResult 8 c) State.reset).door.warnCallLost)
        = [1, 0] := by
  decide +kernel

/-- The reset state's fixed sources, which the passage to SERVICE asks for. -/
theorem witness_ModeSetActsByTheModeHeld_sources :
    State.reset.sourcesSafe ∧ (run (.modeSet bridge 1) State.reset).cond 6 = true :=
  ⟨witness_invariants.2.2.2.2.2.1, by decide +kernel⟩
/-- A trigger term that is TRUE in SETUP closes the group's OPEN door at the passage to SERVICE (R156). -/
theorem witness_ModeSetActsByTheModeHeld_trigger :
    let t := triggering true (doorOf .opened 0)
    let s := t.setReq { t.req with mode := .setup }
    (s.takesRequests ∧ s.req.mode = .setup ∧ s.validate = none ∧ s.sourcesSafe ∧ s.steady 2)
    ∧ ((s.board.terms.row 2).literals = [(20, true)] ∧ s.term 2 = true
      ∧ (s.door.groups.row 3).trigger = some 2 ∧ (s.door.doors.row 8).set.group = some 3
      ∧ (s.door.doors.row 8).state = .opened)
    ∧ ((run (.modeSet bridge 1) s).door.doors.row 8).state = .warning :=
  ⟨⟨⟨rfl, by decide +kernel⟩, rfl, by decide +kernel, by unfold State.sourcesSafe; decide +kernel,
    triggering_steady _ _⟩, by decide +kernel, by decide +kernel⟩

/-! ## Witnesses: front ends, refusals, times of 0, and entries that read back -/

/-- The REPLY to the bridge, node 1 with tag 7, goes out with the result BAD_VALUE, 6 (R177, R190). -/
theorem test_reply :
    ((State.reset.reply bridge 0x0C .badValue []).line.up.sending.map
      (fun f => (f.dst, f.src, f.kind, f.tag, f.payload))) = some (1, 9, 7, 7, [0x0C, 6]) := by
  decide +kernel

/-- A LOOP channel in the scan list keeps its shunt when its record is written CONTACT with wetting on, until its
next slot; outside the list the write acts at once (R53, R54; log 52). -/
def shunted (list : List (Fin 24)) : State :=
  let x : Sensor := { logged with kind := .contact, wetting := true }
  State.reset.setScan { State.reset.scan with
    list := list, scanner := .idle, sensors := State.reset.scan.sensors.put 5 x,
    frontEnds := State.reset.scan.frontEnds.put 5 { kind := .loop, wetting := false } }
theorem witness_TriggerStartsAScanOfTimedSlots_frontEnd :
    ((shunted [5]).scan.list = [5] ∧ (shunted [6]).scan.list = [6])
    ∧ ((shunted [5]).scan.shunt 5, (shunted [6]).scan.shunt 5) = (true, false)
    ∧ (((shunted [5]).scan.begin 0).shunt 5, ((shunted [5]).scan.begin 0).wetting 5) = (false, true) := by
  decide +kernel
/-- The second slot of a list begins at the first one's SAMPLE. -/
theorem witness_SampleIsHandedOn_next :
    let r : ScanRun := { list := [5, 6], slot := 0, interval := 5000, start := 0, converting := true,
                         wetted := false }
    let s := sampling 5 logged
    let s := s.setScan { s.scan with scanner := .scanning r }
    (r.slot + 1 < r.list.length ∧ r.list[r.slot + 1]? = some 6)
    ∧ (run (.sample 1000) s).scan.scanner = .scanning { r with slot := 1, converting := false } := by
  decide +kernel

/-- The refusal of an action counts where the entry has been hit, and not at its hits (R28, R36; log 16). -/
theorem witness_CondSetActsByTheConditionsValue_refused :
    let s := State.reset.setEntry 2 { entryOf 3 0 0 0 (.setCond 3 0) with hits := 1 }
    s.inReset = false ∧ (s.table.row 2).refusals < (s.table.row 2).hits
    ∧ ((run (.setCond 2 3 0) s).table.row 2).refusals = 1
    ∧ ¬ (State.reset.table.row 2).refusals < (State.reset.table.row 2).hits := by
  decide +kernel

/-- A back-off time of 0 ends at the obstruction in a new WARNING, and a re-warning time of 0 goes on to CLOSING;
past the retry limit the door is JAMMED (R142, R150, R151). -/
theorem witness_DoorTimersAndCutOffsMoveTheDoor_zero :
    let x := doorOf .closing 1
    let at0 := doored { x with set := { x.set with backoff := 0 } }
    let both := doored { x with set := { x.set with backoff := 0, rewarning := 0 } }
    let past := doored { x with set := { x.set with backoff := 0 }, attempts := 3 }
    ((at0.door.doors.row 8).due ≠ none ∧ (at0.door.doors.row 8).state = .closing
      ∧ (at0.door.doors.row 8).set.closedCond = some 30 ∧ (at0.board.conds.row 30).source = .threshold 0)
    ∧ ([at0, both, past].map (fun s =>
        let y := (run (.doorStateTimerExpiry 8) s).door.doors.row 8
        (y.state, y.attempts))) = [(.warning, 2), (.closing, 2), (.jammed, 3)] := by
  decide +kernel
/-- A warning time of 0 sends the OPEN door to CLOSING in the event of the request (R146). -/
theorem witness_GroupCloseMovesTheDoorsOfEachGroup_zero :
    let x := doorOf .opened 0
    let s := doored { x with set := { x.set with warning := 0 } }
    (s.door.doors.row 8).set.warning = 0
    ∧ ((run (.groupClose bridge 0x08 0) s).door.doors.row 8).state = .closing := by
  decide +kernel

/-- A taken write of a sensor channel with a gain of 0, which is stored as 1, of a scan list, and of a block of
two groups (R53, R55, R183). -/
theorem witness_TablesAreReadAndWritten_readsBack :
    let img : List Byte := [1, 0x01, 0x9A, 0, 0, 0, 1, 9, 9, 9]
    let l : List Byte := 1 :: 5 :: List.replicate 31 0
    let g : List Byte := [0, 0xFF, 6]
    let s := run (.tableWrite bridge 6 5 img (checkByte img)) State.reset
    let u := run (.tableWrite bridge 7 0 l (checkByte l)) State.reset
    let v := run (.blockWrite bridge 15 3 2 (g ++ [checkByte g] ++ g ++ [checkByte g]) 0) State.reset
    (tableOf 6 = some .sensors ∧ tableOf 7 = some .list ∧ tableOf 15 = some .groups)
    ∧ s.image .sensors 5 = [1, 0x01, 0x9A, 0, 1, 0, 1, 0, 0, 0] ∧ s.scan.shunt 5 = true
    ∧ (u.image .list 0 = l ∧ u.scan.scanner = .idle)
    ∧ (v.image .groups 3 = g ∧ v.image .groups 4 = g) := by
  decide +kernel

/-! ## Witnesses: the checks of a write, what a taken write does, and the passes of the validation -/

/-- The entry `i` of a table as it stands, with some of its bytes set, its check byte with it. -/
def rewrite (s : State) (t : TableId) (i : Nat) (bytes : List (Nat × Byte)) : Written :=
  let img := bytes.foldl (fun l b => l.set b.1 b.2) (s.image t i)
  { index := i, image := img, check := checkByte img }
/-- The result code of the REPLY to a write of one entry. -/
def codeOf (s : State) (t : TableId) (w : Written) : Option Byte :=
  (sent (run (.tableWrite bridge (u8 t.id) (u8 w.index) w.image w.check) s)).bind (fun p => p[1]?)

/-- Boundary codes: a zone of 16, a source of 127, a first stage of 64, a role of FFh, a PA node of 127 and a
template with an allow term and no zone are BAD_VALUE, 6; a source of 126, a first stage of 63 and a PA node of 126
are taken (R20, R78, R115, R116, R160, R162). -/
theorem test_bad_codes :
    let r := State.reset
    ([(TableId.channels, 3, [(2, 3), (3, 16)]), (.entries, 3, [(1, 127)]), (.plans, 3, [(1, 64)]),
      (.stages, 3, [(0, 1), (6, 0xFF)]), (.pa, 0, [(0, 127)]), (.templates, 3, [(8, 0)]),
      (.entries, 3, [(10, 16), (1, 126)]), (.plans, 3, [(1, 63)]), (.pa, 0, [(0, 126)])].map
        (fun x => codeOf r x.1 (rewrite r x.1 x.2.1 x.2.2)))
      = [some 6, some 6, some 6, some 6, some 6, some 6, some 0, some 0, some 0] := by
  decide +kernel
/-- In SERVICE: the limit-switch condition 30 of door 8 takes no other source, and the door no switch of NONE,
BAD_VALUE; its closing moves it to another lane, BUSY; and a channel's change of owner is BUSY. A passage from SINK
to SOURCE is FORBIDDEN_JUMP, 7 (R42, R78, R80, R140). -/
theorem test_service_checks :
    let s := withChan (doored (doorOf .opened 0)) 3 sinkOn
    let c := doored (doorOf .closing 1)
    ([codeOf s .conds (rewrite s .conds 30 [(1, 0)]), codeOf s .doors (rewrite s .doors 8 [(4, 0xFF)]),
      codeOf c .doors (rewrite c .doors 8 [(1, 2)]), codeOf s .channels (rewrite s .channels 3 [(2, 3)]),
      codeOf s .channels (rewrite s .channels 3 [(0, 3)])])
      = [some 6, some 6, some 2, some 2, some 7] := by
  decide +kernel
/-- A condition given another source takes its value, and a block of two channels is judged as it leaves the pair:
channel 2 JOINED beside a RAMP owner of channel 3 is BAD_VALUE (R42, R110, R183). -/
theorem witness_TablesAreReadAndWritten_checks :
    let s := withCond State.reset 20 .frame true
    let w := rewrite s .conds 20 [(1, 4), (2, 0), (3, 0)]
    let u := s.takeWrite .conds [w]
    let e := rewrite s .channels 2 [(23, 1)]
    let o := rewrite s .channels 3 [(2, 1)]
    let b := s.storeAll .channels [e, o]
    (s.takesRequests ∧ codeOf s .conds w = some 0
      ∧ (u.board.conds.row 20).source ≠ (s.board.conds.row 20).source ∧ u.cond 20 = false)
    ∧ ¬ TableId.channels.badCodes 2 e.image ∧ b.joins 2 3 ∧ (b.chans.row 3).set.owner = .ramp 0
    ∧ codeOf s .channels e = some 0
    ∧ (s.judgeAll .channels [e, o]) = some (.badValue, 2) := by
  refine ⟨⟨⟨rfl, by decide +kernel⟩, by decide +kernel⟩, by unfold TableId.badCodes; decide +kernel,
    by unfold State.joins; decide +kernel, by decide +kernel⟩

/-- The written buffer threshold judges the fill: 1 record against 1 is ABOVE, and against 2 BELOW (R67). -/
theorem witness_BufferReadAndClearRemoveRecords_settings :
    let s (above : Bool) := State.reset.setScan { State.reset.scan with
      buffer := [{ channel := 0, value := 1, scan := 0 }], above := above, stored := 1 }
    let w (n : Byte) := rewrite State.reset .settings 0 [(7, 0), (8, n)]
    (¬ TableId.settings.badCodes 0 (w 1).image ∧ (s false).scan.above = false)
    ∧ ((s false).takeWrite .settings [w 1]).req.marks = 0x804
    ∧ ((s true).takeWrite .settings [w 2]).req.marks = 0x808
    ∧ (s true).takeWrite .settings [w 1] = (s true).setScan
        { (s true).scan with settings := { (s true).scan.settings with bufferThreshold := 1 } } := by
  refine ⟨⟨by unfold TableId.badCodes; decide +kernel, rfl⟩, by decide +kernel⟩

/-- A channel entry write: a new owner sets the level OFF, a source of FAULT_A that is ACTIVE forces the channel and
tells the new owner, and a cascade write sets both counts to 0; a PULSE_ONCE written again starts a new pulse, and a
limit class below the current in the switch starts the cut-off delay (R78, R91, R95, R102, R110). -/
theorem witness_GateAndForcingActAtAChange_written :
    let c := { sinkOn with count := 5, current := 700, set := { sinkOn.set with limit := .a100 } }
    let s := withChan (withChan (withCond State.reset 3 .fixed true) 2 c) 3 { c with phase := .waitB }
    let w := rewrite s .channels 2 [(2, 3), (5, 1), (23, 1)]
    let u := s.takeWrite .channels [w]
    let p := rewrite s .channels 2 [(19, 4)]
    let v := s.takeWrite .channels [rewrite s .channels 2 [(9, 0)]]
    (w.index = (2 : Fin 16).val ∧ ¬ TableId.channels.badCodes 2 w.image)
    ∧ ((u.chans.row 2).requested = false ∧ (u.chans.row 2).status = .engaged
      ∧ u.handed = [.forcedEvent (.lamp 0) 2] ∧ ((u.chans.row 2).count, (u.chans.row 3).count) = (0, 0)
      ∧ (u.chans.row 3).phase = .waitA)
    ∧ ((s.takeWrite .channels [p]).chans.row 2).timerOut = false
    ∧ (v.chans.row 2).supervision = some 100 := by
  refine ⟨⟨rfl, by unfold TableId.badCodes; decide +kernel⟩, by decide +kernel⟩

/-- Term 2 rewritten to the empty term completes a WAIT stage; rewritten to one that asks for FAULT_A it forces a
channel of `TERM 2 false` (R50, R88). -/
theorem witness_ChangeIsHandedToEveryWaitingUser_term :
    let s := awaiting false
    let w : Written := { index := 2, image := List.replicate 9 0, check := 0 }
    let c := withChan State.reset 3 { sinkOn with set := { sinkOn.set with forcing := .termFalse 2 } }
    let f : Written := { index := 2, image := [1, 3, 1, 0, 0, 0, 0, 0, 0], check := 0 }
    (¬ TableId.terms.badCodes 2 w.image ∧ s.readsTerm 0 0 2 ∧ (s.ramp 0).plan = some 0
      ∧ (∀ ch, (s.chans.row ch).set.forcing ≠ .termFalse 2) ∧ (∀ r, r ≠ 0 → (s.ramp r).stage = none)
      ∧ ∀ g, (s.door.groups.row g).trigger ≠ some 2)
    ∧ (((s.takeWrite .terms [w]).ramp 0).stage ≠ (s.ramp 0).stage)
    ∧ ¬ TableId.terms.badCodes 2 f.image
    ∧ ((c.takeWrite .terms [f]).chans.row 3).status = .engaged := by
  refine ⟨⟨by unfold TableId.badCodes; decide +kernel, ⟨by decide +kernel, .inr (.inr (by decide +kernel))⟩,
    by decide +kernel⟩, by decide +kernel, by unfold TableId.badCodes; decide +kernel, by decide +kernel⟩

/-- DOOR's writes: door 8, OPEN in group 4, put into group 3, whose trigger term is TRUE, goes to WARNING; so does it
in group 3 when the group's trigger or the term is rewritten to a TRUE one; taken out of its group it is UNSET
(R50, R140, R147). -/
theorem witness_DoorsFollowTheirLimitSwitches_writes :
    let in4 := { doorOf .opened 3 with set := { (doorOf .opened 0).set with group := some 4 } }
    let s := triggering true in4
    let d := rewrite s .doors 8 [(0, 3)]
    let t := triggering false (doorOf .opened 0)
    let g := rewrite t .groups 3 [(0, 1)]
    let e : Written := { index := 2, image := List.replicate 9 0, check := 0 }
    let state (u : State) := (u.door.doors.row 8).state
    (¬ TableId.doors.badCodes 8 d.image ∧ s.sourcesSafe ∧ s.steady 2 ∧ s.req.mode = .service)
    ∧ (¬ TableId.groups.badCodes 3 g.image ∧ t.sourcesSafe ∧ TableId.groups.inRange 3 = true
      ∧ (∀ r, (t.ramp r).stage = none) ∧ ((t.takeWrite .groups [g]).board.terms.row 1).literals = [])
    ∧ ¬ TableId.terms.badCodes 2 e.image
    ∧ [s.takeWrite .doors [d], t.takeWrite .groups [g], t.takeWrite .terms [e],
        t.takeWrite .doors [rewrite t .doors 8 [(0, 0xFF)]]].map state
      = [.warning, .warning, .warning, .unset] := by
  refine ⟨⟨by unfold TableId.badCodes; decide +kernel, by unfold State.sourcesSafe; decide +kernel,
    triggering_steady _ _, rfl⟩, ⟨by unfold TableId.badCodes; decide +kernel,
    by unfold State.sourcesSafe; decide +kernel, by decide +kernel⟩,
    by unfold TableId.badCodes; decide +kernel, by decide +kernel⟩

/-- The tables of the reset state are consistent: every pass of the validation finds nothing (R179). -/
theorem reset_clean (pass : Nat) : State.reset.passClean pass := by
  have ramps : ∀ r, (State.reset.ramp r).extend = none ∧ (State.reset.ramp r).retract = none := by
    decide +kernel
  have doors : ∀ d, (State.reset.door.doors.row d).set = DoorSettings.reset := by decide +kernel
  have lamps : ∀ z, (State.reset.call.zones.row z).lamp = none := by decide +kernel
  have owners : ∀ ch, (State.reset.chans.row ch).set.owner = .free := by decide +kernel
  have kinds : ∀ k, (State.reset.stage k).kind = .dwell 0 := by decide +kernel
  have names : ∀ t i ch, ¬ State.reset.namesChannel t i ch := by
    rintro t i ch (⟨-, r, -, h⟩ | ⟨-, d, -, h⟩ | ⟨-, z, -, h⟩)
    · simp [ramps r] at h
    · simp [doors d, DoorSettings.reset] at h
    · simp [lamps z] at h
  intro row t i h
  unfold State.inconsistent at h
  split at h
  · obtain ⟨ch, h, -⟩ := h; exact names _ _ _ h
  · obtain ⟨ch, ⟨-, r, -, h, -⟩ | ⟨-, d, -, h, -⟩⟩ := h
    · simp [ramps r] at h
    · simp [doors d, DoorSettings.reset] at h
  · obtain ⟨ch, -, -, h, -⟩ := h; exact names _ _ _ h
  · obtain ⟨-, ch, -, h, -⟩ := h; exact h (owners ch)
  · obtain ⟨-, ch, -, ⟨r, h⟩, -⟩ := h; simp [owners ch] at h
  · obtain ⟨-, ch, -, ⟨r, h⟩, -⟩ := h; simp [owners ch] at h
  · obtain ⟨-, ch, -, ⟨r, h⟩, -⟩ := h; simp [owners ch] at h
  · obtain ⟨-, r, -, ⟨k, p, d, -, -, h⟩, -⟩ := h; simp [kinds k] at h
  · obtain ⟨-, k, -, p, r1, a, r2, b, -, h, -⟩ := h; simp [kinds k] at h
  · obtain ⟨-, ch, -, r, h, -⟩ := h; simp [ramps r] at h
  · obtain ⟨-, d, -, h, -⟩ := h; simp [doors d, DoorSettings.reset] at h
  · obtain ⟨-, d, -, h, -⟩ := h; simp [doors d, DoorSettings.reset] at h
  · obtain ⟨-, d, -, -, h⟩ := h; simp [doors d, DoorSettings.reset] at h
  · exact h

/-- Channel 3 owned by RAMP 0, which does not name it: the first pass reports table 10, index 3 (R85). -/
theorem witness_ModeSetActsByTheModeHeld_passes :
    let s := withChan State.reset 3 { sinkOn with set := { sinkOn.set with owner := .ramp 0 } }
    (∀ pass, pass ≤ 4 → State.reset.passClean pass)
    ∧ ((∀ pass, pass ≤ 0 → s.passClean pass) ∧ s.passReports 1 .channels 3)
    ∧ sent (run (.modeSet bridge 1) s) = some [0x17, 3, 10, 3] := by
  intro s
  have names : ∀ t i ch, ¬ s.namesChannel t i ch := by
    rintro t i ch (⟨-, r, -, h⟩ | ⟨-, d, -, h⟩ | ⟨-, z, -, h⟩)
    · exact absurd h (by revert r ch; decide +kernel)
    · exact absurd h (by revert d ch; decide +kernel)
    · exact absurd h (by revert z ch; decide +kernel)
  have owned : ∀ ch, (s.chans.row ch).set.owner ≠ .free → ch = 3 := by decide +kernel
  refine ⟨fun pass _ => reset_clean pass, ⟨fun pass h row t i c => ?_, 3,
    ⟨rfl, 3, rfl, by decide +kernel, fun t i _ => names t i 3⟩, fun row t i lt h => ?_, ?_⟩,
    by decide +kernel⟩
  · obtain rfl : pass = 0 := by omega
    exact c
  · match row, lt with
    | 0, _ => obtain ⟨ch, h, -⟩ := h; exact names _ _ _ h
    | 1, _ =>
      obtain ⟨ch, ⟨-, r, -, h, -⟩ | ⟨-, d, -, h, -⟩⟩ := h
      · exact absurd h (by revert r ch; decide +kernel)
      · exact absurd h (by revert d ch; decide +kernel)
    | 2, _ => obtain ⟨ch, t', i', h, -⟩ := h; exact names _ _ _ h
  · rintro t i ⟨rfl, ch, rfl, h, -⟩
    exact .inr ⟨rfl, by rw [owned ch h]; decide⟩

end Sys2Proof.Tests
end

section
/-! PROOFS. HEADER MATCH, PAYLOAD TEST and the test of a frame (R23 to R26). -/

namespace Sys2Proof.Machine

/-! ## HEADER MATCH and PAYLOAD TEST (R23, R24) -/

theorem PortMatch.accepts_iff (m : PortMatch) (p : Port) :
    m.accepts p = true ↔ m = .either ∨ (m = .up ∧ p = .up) ∨ (m = .dn ∧ p = .dn) := by
  cases m <;> cases p <;> simp [PortMatch.accepts]

theorem MatchEntry.accepts_iff (m : MatchEntry) (f : Frame) (p : Port) :
    m.accepts f p = true ↔
      m.valid = true ∧ (m.source = none ∨ m.source = some f.src) ∧ m.kind = f.kind
      ∧ m.tagLow.toNat ≤ f.tag.toNat ∧ f.tag.toNat ≤ m.tagHigh.toNat
      ∧ (m.port = .either ∨ (m.port = .up ∧ p = .up) ∨ (m.port = .dn ∧ p = .dn))
      ∧ m.payloadTest f.payload = true := by
  rw [← PortMatch.accepts_iff]
  unfold MatchEntry.accepts
  cases m.source <;> simp [BitVec.le_def, and_assoc]

/-- Two bytes agree under a mask where they agree at every bit the mask sets. -/
theorem and_mask_eq_iff (b v mask : Byte) :
    b &&& mask = v &&& mask ↔ ∀ i : Fin 8, mask.getLsbD i = true → b.getLsbD i = v.getLsbD i := by
  constructor
  · intro h i set
    have bit : (b &&& mask).getLsbD i = (v &&& mask).getLsbD i := by rw [h]
    simpa only [BitVec.getLsbD_and, set, Bool.and_true] using bit
  · intro h
    refine BitVec.eq_of_getLsbD_eq fun i lt => ?_
    cases set : mask.getLsbD i with
    | false => simp [set]
    | true => simpa [set] using h ⟨i, lt⟩ set

theorem MatchEntry.payloadTest_of_mask_zero {m : MatchEntry} (payload : List Byte) (h : m.mask = 0) :
    m.payloadTest payload = true := by
  simp [MatchEntry.payloadTest, h]

theorem MatchEntry.payloadTest_iff {m : MatchEntry} (payload : List Byte) (h : m.mask ≠ 0) :
    m.payloadTest payload = true ↔
      ∃ b, payload[m.position.toNat]? = some b
        ∧ ∀ i : Fin 8, m.mask.getLsbD i = true → b.getLsbD i = m.value.getLsbD i := by
  have set : (m.mask == 0) = false := beq_eq_false_iff_ne.mpr h
  simp only [← and_mask_eq_iff, MatchEntry.payloadTest, set, Bool.false_or]
  cases payload[m.position.toNat]? <;> simp

/-! ## Lists in index order -/

theorem val_lt_succ_iff {n : Nat} {i j : Fin n} : i.val < j.val + 1 ↔ i.val < j.val ∨ i = j := by
  rw [Nat.lt_succ_iff_lt_or_eq, Fin.ext_iff]

/-- Induction over a fold in index order: what each index `i` carries from `i` to `i + 1` holds after all `n`. -/
theorem foldl_finRange_induction {α : Type} {n : Nat} (P : Nat → α → Prop) (f : α → Fin n → α) (a : α)
    (start : P 0 a) (next : ∀ (i : Fin n) a, P i a → P (i + 1) (f a i)) :
    P n ((List.finRange n).foldl f a) := by
  induction n with
  | zero => exact start
  | succ n ih =>
    rw [List.finRange_succ_last, List.foldl_append, List.foldl_map]
    exact next (Fin.last n) _ (ih (fun a i => f a i.castSucc) fun i a h => next i.castSucc a h)

/-- In an ascending list the first element with an answer is the one below which none has an answer. -/
theorem findSome?_eq_some_iff_of_ascending {n : Nat} {β : Type} {l : List (Fin n)}
    (ascending : l.Pairwise (· < ·)) (g : Fin n → Option β) (b : β) :
    l.findSome? g = some b ↔ ∃ e ∈ l, g e = some b ∧ ∀ e' ∈ l, e' < e → g e' = none := by
  induction l with
  | nil => simp
  | cons e l ih =>
    obtain ⟨above, ascending⟩ := List.pairwise_cons.mp ascending
    cases answer : g e with
    | some c =>
      simp only [List.findSome?_cons, answer, Option.some.injEq]
      constructor
      · rintro rfl
        refine ⟨e, List.mem_cons_self, answer, fun e' mem lt => ?_⟩
        rcases List.mem_cons.mp mem with rfl | mem
        · exact absurd lt (lt_irrefl _)
        · exact absurd lt (lt_asymm (above _ mem))
      · rintro ⟨e', mem, answer', first⟩
        rcases List.mem_cons.mp mem with rfl | mem
        · simpa [answer] using answer'
        · simpa [answer] using first e List.mem_cons_self (above _ mem)
    | none =>
      simp only [List.findSome?_cons, answer, ih ascending]
      simp [answer]

/-! ## The test of a frame (R25, R26) -/

/-- The holding entry and its term, when entry `e` holds a frame that it matches (R26). -/
def State.holdsAt (s : State) (e : Fin 64) : Option (Fin 64 × Fin 32) :=
  (s.failingHold (s.table.row e).action).map (fun t => (e, t))

theorem State.holdsAt_eq_none_iff (s : State) (e : Fin 64) :
    s.holdsAt e = none ↔ s.failingHold (s.table.row e).action = none := by
  simp [State.holdsAt]

theorem State.holdsAt_eq_some_iff (s : State) (e e' : Fin 64) (t : Fin 32) :
    s.holdsAt e' = some (e, t) ↔ e' = e ∧ s.failingHold (s.table.row e).action = some t := by
  simp only [State.holdsAt, Option.map_eq_some_iff, Prod.mk.injEq]
  constructor
  · rintro ⟨t, h, rfl, rfl⟩; exact ⟨rfl, h⟩
  · rintro ⟨rfl, h⟩; exact ⟨t, h, rfl, rfl⟩

/-- A term is read from COND, whatever the counts of the table. -/
theorem State.failingHold_of_table {s x : State} (h : x = { s with table := x.table }) (a : Action) :
    x.failingHold a = s.failingHold a := by
  rw [h]; rfl

theorem MatchEntry.hit_eq (m : MatchEntry) (held : Bool) :
    m.hit held = { m with
      hits := min (m.hits + 1) 65535,
      refusals := if held then min (m.refusals + 1) 255 else m.refusals } := by
  simp only [MatchEntry.hit, satAdd]

theorem Test.entry_of_skipped {f : Frame} {p : Port} {x : Test} {e : Fin 64}
    (h : ¬((x.s.table.row e).accepts f p = true ∧ x.stopped = false)) : x.entry f p e = x := by
  have skips : (x.stopped || !(x.s.table.row e).accepts f p) = true := by
    cases st : x.stopped <;> simp_all
  simp [Test.entry, skips]

theorem Test.entry_of_tested {f : Frame} {p : Port} {x : Test} {e : Fin 64}
    (accepts : (x.s.table.row e).accepts f p = true) (goesOn : x.stopped = false) :
    x.entry f p e =
      { s := x.s.setEntry e
          ((x.s.table.row e).hit (x.s.failingHold (x.s.table.row e).action).isSome),
        matched := x.matched ++ [e],
        held := x.held.or ((x.s.failingHold (x.s.table.row e).action).map (fun t => (e, t))),
        stopped := (x.s.table.row e).stop } := by
  cases held : x.held <;> simp [Test.entry, accepts, goesOn, held]

/-- What the test of a frame has done when it has passed the entries below `n`. -/
structure Test.Passed (s : State) (f : Frame) (p : Port) (n : Nat) (x : Test) : Prop where
  goesOn    : x.stopped = false ↔
    ∀ e : Fin 64, e.val < n → (s.table.row e).accepts f p = true → (s.table.row e).stop = false
  matched   : ∀ e, e ∈ x.matched ↔ e.val < n ∧ s.matches f p e
  ascending : x.matched.Pairwise (· < ·)
  held      : x.held = x.matched.findSome? s.holdsAt
  counted   : ∀ e ∈ x.matched, x.s.table.row e =
    (s.table.row e).hit (s.failingHold (s.table.row e).action).isSome
  kept      : ∀ e ∉ x.matched, x.s.table.row e = s.table.row e
  frame     : x.s = { s with table := x.s.table }

section Entry
variable {s : State} {f : Frame} {p : Port} {x : Test} {e : Fin 64}

theorem Test.passed_none (s : State) (f : Frame) (p : Port) :
    Test.Passed s f p 0 { s := s, matched := [], held := none, stopped := false } := by
  constructor <;> simp

theorem Test.Passed.not_mem (h : Test.Passed s f p e x) : e ∉ x.matched := fun mem =>
  lt_irrefl _ ((h.matched e).mp mem).1

/-- Entry `e` is tested and matches exactly when it is a matched entry of the frame. -/
theorem Test.Passed.tested_iff (h : Test.Passed s f p e x) :
    (x.s.table.row e).accepts f p = true ∧ x.stopped = false ↔ s.matches f p e := by
  rw [h.kept e h.not_mem, h.goesOn]; rfl

theorem Test.Passed.entry_of_not_matches (h : Test.Passed s f p e x) (no : ¬ s.matches f p e) :
    Test.Passed s f p (e + 1) (x.entry f p e) := by
  rw [Test.entry_of_skipped (mt h.tested_iff.mp no)]
  refine { h with goesOn := ⟨fun st e' lt acc => ?_, fun all => ?_⟩, matched := fun e' => ?_ }
  · rcases val_lt_succ_iff.mp lt with lt | rfl
    · exact h.goesOn.mp st e' lt acc
    · exact absurd ⟨acc, h.goesOn.mp st⟩ no
  · exact h.goesOn.mpr fun e' lt => all e' (Nat.lt_succ_of_lt lt)
  · rw [h.matched, val_lt_succ_iff, or_and_right, iff_self_or]
    rintro ⟨rfl, yes⟩
    exact absurd yes no

theorem Test.Passed.entry_of_matches (h : Test.Passed s f p e x) (yes : s.matches f p e) :
    Test.Passed s f p (e + 1) (x.entry f p e) := by
  obtain ⟨accepts, goesOn⟩ := h.tested_iff.mpr yes
  rw [Test.entry_of_tested accepts goesOn, h.kept e h.not_mem, State.failingHold_of_table h.frame]
  constructor
  case goesOn =>
    refine ⟨fun stop e' lt acc => ?_, fun all => all e (Nat.lt_succ_self _) yes.1⟩
    rcases val_lt_succ_iff.mp lt with lt | rfl
    · exact yes.2 e' lt acc
    · exact stop
  case matched =>
    intro e'
    rw [List.mem_append, List.mem_singleton, h.matched, val_lt_succ_iff, or_and_right]
    exact or_congr_right ⟨fun eq => ⟨eq, eq ▸ yes⟩, And.left⟩
  case ascending =>
    exact List.pairwise_append.mpr ⟨h.ascending, List.pairwise_singleton _ _, fun e' mem e'' mem' =>
      List.mem_singleton.mp mem' ▸ ((h.matched e').mp mem).1⟩
  case held =>
    rw [List.findSome?_append, List.findSome?_singleton, h.held]
    rfl
  case counted =>
    intro e' mem
    rcases List.mem_append.mp mem with mem | mem
    · have ne : e ≠ e' := by rintro rfl; exact h.not_mem mem
      rw [State.setEntry_table, Tbl.row_put_ne _ _ ne, h.counted e' mem]
    · obtain rfl := List.mem_singleton.mp mem
      rw [State.setEntry_table, Tbl.row_put_self]
  case kept =>
    intro e' out
    obtain ⟨old, ne⟩ : e' ∉ x.matched ∧ e' ≠ e := by simpa using out
    rw [State.setEntry_table, Tbl.row_put_ne _ _ ne.symm, h.kept e' old]
  case frame => rw [h.frame]; rfl

end Entry

theorem State.testFrame_passed (s : State) (f : Frame) (p : Port) :
    Test.Passed s f p 64 (s.testFrame f p) := by
  refine foldl_finRange_induction (n := 64) (Test.Passed s f p) (Test.entry f p) _
    (Test.passed_none s f p) fun e x h => ?_
  by_cases m : s.matches f p e
  · exact h.entry_of_matches m
  · exact h.entry_of_not_matches m

theorem State.mem_testFrame_matched (s : State) (f : Frame) (p : Port) (e : Fin 64) :
    e ∈ (s.testFrame f p).matched ↔ s.matches f p e := by
  simp [(s.testFrame_passed f p).matched]

theorem State.testFrame_held_eq_none_iff (s : State) (f : Frame) (p : Port) :
    (s.testFrame f p).held = none ↔
      ∀ e, s.matches f p e → s.failingHold (s.table.row e).action = none := by
  simp only [(s.testFrame_passed f p).held, List.findSome?_eq_none_iff, s.mem_testFrame_matched,
    State.holdsAt_eq_none_iff]

theorem State.testFrame_held_eq_some_iff (s : State) (f : Frame) (p : Port) (e : Fin 64) (t : Fin 32) :
    (s.testFrame f p).held = some (e, t) ↔
      s.matches f p e ∧ s.failingHold (s.table.row e).action = some t
      ∧ ∀ e', e' < e → s.matches f p e' → s.failingHold (s.table.row e').action = none := by
  have passed := s.testFrame_passed f p
  simp only [passed.held, findSome?_eq_some_iff_of_ascending passed.ascending,
    s.mem_testFrame_matched, State.holdsAt_eq_none_iff, State.holdsAt_eq_some_iff]
  constructor
  · rintro ⟨_, m, ⟨rfl, hold⟩, first⟩
    exact ⟨m, hold, fun e' lt m' => first e' m' lt⟩
  · rintro ⟨m, hold, first⟩
    exact ⟨e, m, ⟨rfl, hold⟩, fun e' m' lt => first e' lt m'⟩

theorem State.testFrame_row_of_matches {s : State} {f : Frame} {p : Port} {e : Fin 64}
    (m : s.matches f p e) :
    (s.testFrame f p).s.table.row e =
      { s.table.row e with
        hits := min ((s.table.row e).hits + 1) 65535,
        refusals := if (s.failingHold (s.table.row e).action).isSome
          then min ((s.table.row e).refusals + 1) 255 else (s.table.row e).refusals } := by
  rw [(s.testFrame_passed f p).counted e ((s.mem_testFrame_matched f p e).mpr m), MatchEntry.hit_eq]

/-! ## The statements -/

/-- Settles O13. -/
theorem entryMatchesByHeaderAndMaskedByte : Obligations.EntryMatchesByHeaderAndMaskedByte :=
  ⟨fun m f p valid => by simp only [m.accepts_iff, valid, true_and],
   fun _ payload => ⟨MatchEntry.payloadTest_of_mask_zero payload, MatchEntry.payloadTest_iff payload⟩⟩

/-- Settles O14: the invariant `Test.Passed`, carried over the entries in index order, at entry 64. -/
theorem testOfAFrameFollowsIndexOrder : Obligations.TestOfAFrameFollowsIndexOrder := by
  intro s f p
  have passed := s.testFrame_passed f p
  have mem := s.mem_testFrame_matched f p
  exact ⟨mem, passed.ascending, s.testFrame_held_eq_none_iff f p, s.testFrame_held_eq_some_iff f p,
    fun _ => State.testFrame_row_of_matches, fun e no => passed.kept e (mt (mem e).mp no),
    passed.frame⟩

end Sys2Proof.Machine
end

section
/-! PROOFS. The step, and the transmit queue of one port (R9 to R13). -/

namespace Sys2Proof.Machine

/-! ## The step -/

/-- Settles O1: the first branch of `step`. -/
theorem stepRunsTheFrontCommand : Obligations.StepRunsTheFrontCommand := by
  intro s c rest pending
  simp only [step, pending]

theorem step_of_ownEvent {s : State} {c : Instr} (empty : s.pending = []) (own : s.ownEvent = some c) :
    step s = exec c s := by
  simp only [step, empty, own]

theorem step_of_idle {s : State} (empty : s.pending = []) (idle : s.ownEvent = none) :
    step s = .next s := by
  simp only [step, empty, idle]

/-- Settles O2: what `State.ownEvent` answers in each case. -/
theorem stepOnAnEmptyQueue : Obligations.StepOnAnEmptyQueue := by
  intro s empty
  refine ⟨fun held => step_of_idle empty (by simp [State.ownEvent, held]), fun running => ⟨?_, ?_, ?_⟩⟩
  · intro c rest handed
    exact step_of_ownEvent empty (by simp [State.ownEvent, running, handed])
  · intro handed due
    exact step_of_idle empty (by simp [State.ownEvent, running, handed, due])
  · intro c handed due
    exact step_of_ownEvent empty (by simp [State.ownEvent, running, handed, due])

/-- Settles O3: each arm of `exec` is an `event`, a pin change or a reset, and each of these answers `.next`. -/
theorem everyCommandAnswersANextState : Obligations.EveryCommandAnswersANextState := by
  intro i s
  cases i <;> exact ⟨_, rfl⟩

/-! ## TRANSMIT (R13) -/

namespace PortState
variable (q : PortState)

theorem start_of_sending {f : Frame} (h : q.sending = some f) : q.start = q := by
  simp only [start, h]

theorem start_of_noWaiting (h : q.waiting = []) : q.start = q := by
  cases sending : q.sending with
  | some f => exact q.start_of_sending sending
  | none => simp [start, sending, h]

theorem safety_of_not_normal {f : Frame} : f.normal = false ↔ f.safety = true := by
  simp [Frame.normal]

/-- The oldest SAFETY frame is sent first. -/
theorem start_of_safety {older younger : List Frame} {f : Frame} (idle : q.sending = none)
    (waiting : q.waiting = older ++ f :: younger) (normal : ∀ g ∈ older, g.normal = true)
    (safety : f.safety = true) :
    q.start = { q with sending := some f, waiting := older ++ younger } := by
  have none_older : ∀ g ∈ older, ¬ g.safety = true := fun g mem => by
    simpa [Frame.normal] using normal g mem
  have found : q.waiting.find? Frame.safety = some f := by
    rw [waiting, List.find?_append, List.find?_eq_none.mpr none_older, List.find?_cons_of_pos safety]
    rfl
  have erased : q.waiting.eraseP Frame.safety = older ++ younger := by
    rw [waiting, List.eraseP_append_right _ none_older, List.eraseP_cons_of_pos safety]
  simp only [start, idle, found, erased]

/-- Without a SAFETY frame the oldest NORMAL frame is sent. -/
theorem start_of_normal {younger : List Frame} {f : Frame} (idle : q.sending = none)
    (waiting : q.waiting = f :: younger) (normal : ∀ g ∈ q.waiting, g.normal = true) :
    q.start = { q with sending := some f, waiting := younger } := by
  have none_safety : q.waiting.find? Frame.safety = none :=
    List.find?_eq_none.mpr fun g mem => by simpa [Frame.normal] using normal g mem
  rw [waiting] at none_safety
  simp only [start, idle, waiting, none_safety]

theorem start_single {f : Frame} (idle : q.sending = none) (waiting : q.waiting = [f]) :
    q.start = { q with sending := some f, waiting := [] } := by
  cases class_ : f.safety with
  | true => exact q.start_of_safety (older := []) (younger := []) idle waiting (by simp) class_
  | false =>
    exact q.start_of_normal idle waiting (by simp [waiting, Frame.normal, class_])

theorem complete_of_sending {f : Frame} (h : q.sending = some f) :
    q.complete = PortState.start { q with sending := none } := by
  simp only [complete, h]

/-! ## ADMISSION (R11, R12) -/

theorem offer_of_normal {f : Frame} (h : f.normal = true) : q.offer f = (q.admitNormal f).start := by
  have : f.safety = false := by simpa [Frame.normal] using h
  simp [offer, this]

theorem offer_of_safety {f : Frame} (h : f.safety = true) : q.offer f = (q.admitSafety f).start := by
  simp [offer, h]

/-- A transmitter that rests over no waiting frame has nothing to start. -/
theorem start_of_busySending (h : q.busySending) : q.start = q := by
  cases sending : q.sending with
  | some f => exact q.start_of_sending sending
  | none => exact q.start_of_noWaiting (h sending)

/-- A frame that joins is sent at once by an IDLE transmitter, and waits behind a frame being sent. -/
theorem start_of_join (f : Frame) (h : q.busySending) :
    (q.sending = none → PortState.start { q with waiting := q.waiting ++ [f] } = { q with sending := some f })
    ∧ ∀ g, q.sending = some g →
      PortState.start { q with waiting := q.waiting ++ [f] } = { q with waiting := q.waiting ++ [f] } := by
  constructor
  · intro idle
    have empty := h idle
    rw [start_single (f := f) { q with waiting := q.waiting ++ [f] } idle (by simp [empty])]
    simp [← empty]
  · intro g sending
    exact start_of_sending _ sending

theorem total_of_idle (h : q.busySending) (idle : q.sending = none) : q.total = 0 := by
  simp [total, frames, idle, h idle]

end PortState

/-- Settles O10: the three cases of `PortState.start` over a freed slot. -/
theorem transmitCompletionSendsTheNextFrame : Obligations.TransmitCompletionSendsTheNextFrame := by
  intro p s sent running sending u q
  have port : u.port p = q := by cases p <;> rfl
  have completes : exec (.transmitCompletion p) s =
      .next (u.setPort p (PortState.start { q with sending := none })) := by
    rw [← PortState.complete_of_sending q sending, ← port]
    exact event_of_running s _ (fun s => s.setPort p (s.port p).complete) running
  let free : PortState := { q with sending := none }
  rw [completes]
  refine ⟨fun empty => ?_, fun older f younger waiting normal safety => ?_,
    fun f younger waiting normal => ?_⟩
  · rw [free.start_of_noWaiting empty]
  · rw [free.start_of_safety rfl waiting normal safety]
  · rw [free.start_of_normal rfl waiting normal]

/-- Settles O9. -/
theorem offeredFrameIsAdmittedDisplacesOrIsDropped :
    Obligations.OfferedFrameIsAdmittedDisplacesOrIsDropped := by
  refine ⟨fun q f busy normal => ?_, fun q f busy safety => ?_⟩
  · rw [q.offer_of_normal normal]
    refine ⟨fun full => ?_, fun normals total => ?_⟩
    · rw [PortState.admitNormal, if_pos full]
      exact PortState.start_of_busySending { q with normalDrops := _ } busy
    · have room : ¬ (8 ≤ q.normals ∨ 12 ≤ q.total) := by omega
      rw [PortState.admitNormal, if_neg room]
      exact q.start_of_join f busy
  · rw [q.offer_of_safety safety]
    refine ⟨fun room => ?_, fun full => ⟨?_, ?_⟩⟩
    · rw [PortState.admitSafety, if_pos room]
      exact q.start_of_join f busy
    all_goals
      have noRoom : ¬ q.total < 12 := by omega
      rw [PortState.admitSafety, if_neg noRoom]
    · intro older oldest younger waiting safe normal
      have none_older : ∀ g ∈ older, ¬ g.normal = true := fun g mem => by
        simp [Frame.normal, safe g mem]
      have some_normal : q.waiting.any Frame.normal = true := by
        rw [waiting]; simp [normal]
      have erased : q.waiting.eraseP Frame.normal = older ++ younger := by
        rw [waiting, List.eraseP_append_right _ none_older, List.eraseP_cons_of_pos normal]
      rw [if_pos some_normal, erased]
      cases sending : q.sending with
      | none => exact absurd (q.total_of_idle busy sending) (by omega)
      | some g => exact PortState.start_of_sending _ rfl
    · intro safe
      have no_normal : ¬ q.waiting.any Frame.normal = true := by
        simp only [List.any_eq_true, not_exists, not_and]
        intro g mem
        simp [Frame.normal, safe g mem]
      rw [if_neg no_normal]
      exact PortState.start_of_busySending { q with safetyDrops := _ } busy

end Sys2Proof.Machine
end

section
/-! PROOFS. FRAME CHECK, own frames, reception and bridge silence (R3 to R9, R15, R35, R189). -/

namespace Sys2Proof.Machine

/-! ## FRAME CHECK (R3, R189) -/

theorem bytesOf16_append (hi lo : Byte) : bytesOf16 (hi ++ lo) = [hi, lo] := by
  rw [bytesOf16, BitVec.extractLsb'_append_eq_left, BitVec.extractLsb'_append_eq_right]

theorem take_append_last_two {n : Nat} {rest : List Byte} (h : rest.length = n + 2) :
    rest.take n ++ [rest.getD n 0, rest.getD (n + 1) 0] = rest := by
  refine List.ext_getElem (by simp; omega) fun i h₁ h₂ => ?_
  rw [List.getElem_append]
  split
  · simp
  · rename_i lt
    have : i = n ∨ i = n + 1 := by simp at lt; omega
    rcases this with rfl | rfl <;> simp [h]

theorem frameCheck_toBytes {f : Frame} (h : f.sound) : frameCheck f.toBytes = some f := by
  obtain ⟨length, low, high, crc⟩ := h
  have len : (BitVec.ofNat 8 f.payload.length).toNat = f.payload.length := by
    rw [BitVec.toNat_ofNat]; omega
  have first : ((f.payload ++ bytesOf16 f.crc).getD f.payload.length 0) ++
      ((f.payload ++ bytesOf16 f.crc).getD (f.payload.length + 1) 0) = f.crc := by
    simpa [bytesOf16] using BitVec.extractLsb'_append_extractLsb' (w := 8) (len := 8) (x := f.crc)
  simp only [Frame.toBytes, headerAndPayload, List.cons_append, frameCheck, len]
  rw [if_pos ⟨by simp [bytesOf16], length, low, high⟩, List.take_left' rfl, first,
    if_pos (by rw [crc]; rfl)]

theorem sound_of_frameCheck {bytes : List Byte} {f : Frame} (h : frameCheck bytes = some f) :
    f.sound ∧ f.toBytes = bytes := by
  unfold frameCheck at h
  split at h
  case h_2 => exact absurd h (by simp)
  case h_1 dst src kind tag len rest =>
    dsimp only at h
    split at h
    case isFalse => exact absurd h (by simp)
    case isTrue fits =>
      obtain ⟨length, short, low, high⟩ := fits
      split at h
      case isFalse => exact absurd h (by simp)
      case isTrue crc =>
        obtain rfl := Option.some.inj h
        have taken : (rest.take len.toNat).length = len.toNat := by simp [length]
        refine ⟨⟨by rw [taken]; exact short, low, high, crc.symm⟩, ?_⟩
        simp only [Frame.toBytes, headerAndPayload, taken, bytesOf16_append, List.cons_append,
          take_append_last_two length, BitVec.ofNat_toNat, BitVec.setWidth_eq]

/-- Settles O4. -/
theorem frameCheckReadsExactlyTheSoundFrames : Obligations.FrameCheckReadsExactlyTheSoundFrames :=
  fun _ _ => ⟨sound_of_frameCheck, fun ⟨sound, layout⟩ => layout ▸ frameCheck_toBytes sound⟩

/-! ## Own frames (R7) -/

theorem buildFrame_sound {dst own kind tag : Byte} {payload : List Byte} (low : 1 ≤ own.toNat)
    (high : own.toNat ≤ 126) (h : payload.length ≤ 48) : (buildFrame dst own kind tag payload).sound :=
  ⟨h, low, high, rfl⟩

variable (s : State)

theorem State.own_eq_some {own : Byte} (h : s.own = some own) :
    s.addressed = true ∧ 1 ≤ own.toNat ∧ own.toNat ≤ 126 := by
  unfold State.own at h
  split at h
  case isFalse => exact absurd h (by simp)
  case isTrue addressed =>
    obtain rfl := Option.some.inj h
    have range : s.line.strap.val ≠ 0 ∧ s.line.strap.val ≠ 127 := by
      simpa [State.addressed] using addressed
    have lt := s.line.strap.isLt
    refine ⟨addressed, ?_⟩
    rw [BitVec.toNat_ofNat]
    omega

theorem State.own_isSome : s.own.isSome = s.addressed := by
  cases h : s.addressed <;> simp [State.own, h]

theorem State.emit_of_unaddressed (dst kind tag : Byte) (payload : List Byte) (h : s.addressed = false) :
    s.emit dst kind tag payload = s := by
  simp [State.emit, State.own, h]

theorem State.emit_of_own {own : Byte} (dst kind tag : Byte) (payload : List Byte) (h : s.own = some own) :
    s.emit dst kind tag payload =
      (s.portsTo own dst).foldl (fun s p => s.offer p (buildFrame dst own kind tag payload)) s := by
  simp only [State.emit, h]

theorem State.sideOf_of_range {dst : Byte} {i : Fin 126} (h : dst.toNat = i.val + 1) :
    s.sideOf dst = some (s.line.sides.row i).side := by
  have range : 1 ≤ dst.toNat ∧ dst.toNat ≤ 126 := by omega
  have index : (⟨dst.toNat - 1, by omega⟩ : Fin 126) = i := Fin.ext (by simp [h])
  rw [State.sideOf, dif_pos range, index]

/-- Settles O8. -/
theorem ownFramesGoOutBySideMap : Obligations.OwnFramesGoOutBySideMap := by
  refine ⟨fun s rq op code data => by cases code <;> rfl, fun s dst kind tag payload =>
    ⟨s.emit_of_unaddressed dst kind tag payload, fun own hown => ?_⟩⟩
  obtain ⟨-, low, high⟩ := s.own_eq_some hown
  have emits := s.emit_of_own dst kind tag payload hown
  refine ⟨⟨rfl, rfl, rfl, rfl, rfl, buildFrame_sound low high⟩, ?_, ?_, ?_⟩
  · rintro (rfl | rfl)
    · rw [emits, State.portsTo, if_pos rfl]
      rfl
    · have other : (0 : Byte) ≠ own := by rintro rfl; simp at low
      rw [emits, State.portsTo, if_neg other, if_neg (by decide)]
      rfl
  · rintro rfl
    have other : (127 : Byte) ≠ own := by rintro rfl; simp at high
    rw [emits, State.portsTo, if_neg other, if_pos rfl]
    rfl
  · intro i node other
    have individual : dst ≠ 127 := by rintro rfl; simp at node; omega
    rw [emits, State.portsTo, if_neg other, if_neg individual, s.sideOf_of_range node]
    cases (s.line.sides.row i).side <;> rfl

/-! ## Reception (R1, R3 to R5, R15) -/

theorem exec_reception (p : Port) (bytes : List Byte) (h : s.inReset = false) :
    exec (.reception p bytes) s = .next ((s.take (.reception p bytes)).receive p bytes) :=
  event_of_running s _ (fun s => s.receive p bytes) h

theorem State.receive_toBytes {f : Frame} (p : Port) (h : f.sound) :
    s.receive p f.toBytes = s.checkedFrame p f := by
  simp only [State.receive, frameCheck_toBytes h]

theorem exec_reception_toBytes {f : Frame} (p : Port) (running : s.inReset = false) (h : f.sound) :
    exec (.reception p f.toBytes) s = .next ((s.take (.reception p f.toBytes)).checkedFrame p f) := by
  rw [exec_reception s p _ running, State.receive_toBytes _ p h]

@[simp] theorem State.take_port (c : Instr) (p : Port) : (s.take c).port p = s.port p := rfl

theorem State.learn_eq (node : Byte) (p : Port) :
    s.learn node p = { s with line := { s.line with sides := (s.learn node p).line.sides } } := by
  unfold State.learn
  split
  · dsimp only
    split <;> rfl
  · rfl

@[simp] theorem State.learn_own (node : Byte) (p : Port) : (s.learn node p).own = s.own := by
  rw [State.learn_eq]; rfl
@[simp] theorem State.learn_port (node : Byte) (p q : Port) : (s.learn node p).port q = s.port q := by
  rw [State.learn_eq]; cases q <;> rfl
@[simp] theorem State.learn_inReset (node : Byte) (p : Port) : (s.learn node p).inReset = s.inReset := by
  rw [State.learn_eq]

/-- Only a heard frame's own node is learned, and only where its entry is not pinned. -/
theorem State.learn_sides {node : Byte} (p : Port) (low : 1 ≤ node.toNat) (high : node.toNat ≤ 126)
    (i : Fin 126) :
    (s.learn node p).line.sides.row i =
      if i.val + 1 = node.toNat ∧ (s.line.sides.row i).pinned = false then
        { side := portSide p, pinned := false }
      else s.line.sides.row i := by
  have index : (⟨node.toNat - 1, by omega⟩ : Fin 126) = i ↔ i.val + 1 = node.toNat := by
    rw [Fin.ext_iff]; simp; omega
  rw [State.learn, dif_pos ⟨low, high⟩]
  dsimp only
  by_cases same : i.val + 1 = node.toNat
  · rw [index.mpr same]
    cases pin : (s.line.sides.row i).pinned <;> simp [same]
  · simp only [same, false_and, if_false]
    split
    · rfl
    · exact Tbl.row_put_ne _ _ (mt index.mp same)

@[simp] theorem State.bridgeHeard_own (p : Port) : (s.bridgeHeard p).own = s.own := by
  cases p with
  | up => exact State.setCond_own _ _ _
  | dn => rfl
@[simp] theorem State.bridgeHeard_inReset (p : Port) : (s.bridgeHeard p).inReset = s.inReset := by
  cases p <;> simp [State.bridgeHeard]
@[simp] theorem State.bridgeHeard_port (p q : Port) : (s.bridgeHeard p).port q = s.port q := by
  cases p <;> cases q <;> simp [State.bridgeHeard, State.port]
@[simp] theorem State.bridgeHeard_sides (p : Port) : (s.bridgeHeard p).line.sides = s.line.sides := by
  cases p <;> simp [State.bridgeHeard]
@[simp] theorem State.bridgeHeard_clashCount (p : Port) :
    (s.bridgeHeard p).line.clashCount = s.line.clashCount := by
  cases p <;> simp [State.bridgeHeard]
@[simp] theorem State.bridgeHeard_table (p : Port) : (s.bridgeHeard p).table = s.table := by
  cases p <;> simp [State.bridgeHeard]
@[simp] theorem State.bridgeHeard_call (p : Port) : (s.bridgeHeard p).call = s.call := by
  cases p <;> simp [State.bridgeHeard]
@[simp] theorem State.bridgeHeard_req (p : Port) : (s.bridgeHeard p).req = s.req := by
  cases p <;> simp [State.bridgeHeard]

/-! ## Discarded frames (R3, R4, R18) -/

theorem State.port_up : s.port .up = s.line.up := rfl
theorem State.port_dn : s.port .dn = s.line.dn := rfl

/-- Settles O5. -/
theorem discardedFramesAreCounted : Obligations.DiscardedFramesAreCounted := by
  refine ⟨?_, ?_⟩
  · intro p bytes s running noFrame u
    have failed : frameCheck bytes = none := by
      cases check : frameCheck bytes with
      | none => rfl
      | some f =>
        obtain ⟨sound, layout⟩ := sound_of_frameCheck check
        exact absurd layout (noFrame f sound)
    rw [exec_reception s p bytes running, State.receive, failed]
    rfl
  · intro p f s running sound own u n
    have clash : u.checkedFrame p f = n.bridgeHeard p := by
      unfold State.checkedFrame
      rw [if_pos (show u.own = some f.src from own)]
      rfl
    have kept : n.board = s.board := by simp [n, u]
    have handed : n.handed = u.handed := by simp [n]
    refine ⟨n.bridgeHeard p, by rw [exec_reception_toBytes s p running sound, clash], ?_⟩
    refine ⟨by simp [n], ?_, by simp [n, u], by simp [n, u], by simp [n, u], ?_, ?_, ?_, ?_⟩
    · rw [State.bridgeHeard_req, State.notice_marks]
      rfl
    · simpa only [State.port_up] using n.bridgeHeard_port p .up
    · simpa only [State.port_dn] using n.bridgeHeard_port p .dn
    · rintro rfl
      exact ⟨handed, kept, by simp [State.bridgeHeard, n, u]⟩
    · rintro rfl
      refine ⟨by simp [State.bridgeHeard, condBridge], by simp [State.bridgeHeard, ms, n, u], ?_⟩
      intro link
      have held : ({ n with line := { n.line with silence := some (n.clock + ms n.line.silenceMs) } } :
          State).cond condBridge = true := by
        simpa [State.cond, kept, condBridge] using link
      rw [State.bridgeHeard, State.setCond_of_eq _ held]
      exact ⟨handed, kept⟩

/-! ## The own frame (R8, R177) -/

/-- An operation of REQ itself acts in the reception as its own command does. -/
theorem exec_of_ownOperation {i : Instr} {act : State → State} (h : ownOperation i = some act) :
    exec i s = event i (asRequest act) s := by
  cases i <;> simp only [ownOperation, Option.some.injEq, reduceCtorEq] at h <;> subst h <;> rfl

theorem State.take_of_not_mem {c : Instr} (h : c ∉ s.handed) : s.take c = s := by
  simp only [State.take, List.erase_of_not_mem h]

theorem State.checkedFrame_of_other {f : Frame} (p : Port) (h : s.own ≠ some f.src) :
    s.checkedFrame p f = ((s.learn f.src p).bridgeHeard p).route p f := by
  rw [State.checkedFrame, if_neg h]

/-- Settles O6: the three branches of `State.route` for the own address. -/
theorem ownFrameIsConsumed : Obligations.OwnFrameIsConsumed := by
  intro p f s running sound other own u i
  have own' : u.own = some f.dst := by simp [u, own]
  have received : exec (.reception p f.toBytes) s = .next (u.route p f) := by
    rw [exec_reception_toBytes s p running sound]
    exact congrArg _ (State.checkedFrame_of_other _ p other)
  rw [received, State.route, if_pos own']
  refine ⟨fun kind handed => ?_, fun kind acts fresh => ?_, fun kind => ?_, fun notDone notRequest => ?_⟩
  · rw [if_pos (show f.kind = kindRequest from kind), State.takeRequest, handed]
  · obtain ⟨act, acts⟩ := Option.isSome_iff_exists.mp acts
    have addressed : u.addressed = true := (u.own_eq_some own').1
    rw [if_pos (show f.kind = kindRequest from kind), State.takeRequest, acts, exec_of_ownOperation u acts,
      event_of_running u _ _ (by simp [u, running]), u.take_of_not_mem fresh,
      asRequest_addressed u act addressed]
  · rw [if_neg (by rw [kind]; decide), if_pos (show f.kind = kindCallDone from kind)]
    rfl
  · rw [if_neg (show f.kind ≠ kindRequest from notRequest), if_neg (show f.kind ≠ kindCallDone from notDone)]

/-! ## The passing frame (R5, R8, R9, R27, R28, R35) -/

theorem State.holdNote_of_own {own : Byte} (p : Port) (f : Frame) (e : Fin 64) (t : Fin 32)
    (h : s.own = some own) : s.holdNote p f e t =
      s.offer p (buildFrame f.src own kindHoldNote (u8 e.val) [u8 t.val, f.dst, f.kind, f.tag]) := by
  simp only [State.holdNote, h]

theorem State.holdNote_of_noOwn (p : Port) (f : Frame) (e : Fin 64) (t : Fin 32) (h : s.own = none) :
    s.holdNote p f e t = s := by
  simp only [State.holdNote, h]

/-- A hold note is a frame of the arrival port alone. -/
theorem State.holdNote_keeps {γ : Type} (g : State → γ)
    (h : ∀ (s : State) (p : Port) (f : Frame), g (s.offer p f) = g s)
    (p : Port) (f : Frame) (e : Fin 64) (t : Fin 32) : g (s.holdNote p f e t) = g s := by
  cases own : s.own with
  | none => rw [s.holdNote_of_noOwn p f e t own]
  | some n => rw [s.holdNote_of_own p f e t own, h]

theorem State.holdNote_port_other (p : Port) (f : Frame) (e : Fin 64) (t : Fin 32) :
    (s.holdNote p f e t).port (otherPort p) = s.port (otherPort p) := by
  cases own : s.own with
  | none => rw [s.holdNote_of_noOwn p f e t own]
  | some n =>
    rw [s.holdNote_of_own p f e t own, State.offer_port_ne]
    cases p <;> simp [otherPort]

namespace Test
variable {s : State} {f : Frame} {p : Port} {n : Nat} {x : Test}

/-- A test leaves the actions of the entries as they are. -/
theorem Passed.action (h : Test.Passed s f p n x) (e : Fin 64) :
    (x.s.table.row e).action = (s.table.row e).action := by
  by_cases mem : e ∈ x.matched
  · rw [h.counted e mem, MatchEntry.hit_eq]
  · rw [h.kept e mem]

theorem Passed.own (h : Test.Passed s f p n x) : x.s.own = s.own := by rw [h.frame]; rfl
theorem Passed.port (h : Test.Passed s f p n x) (q : Port) : x.s.port q = s.port q := by
  rw [h.frame]; cases q <;> rfl
theorem Passed.handed (h : Test.Passed s f p n x) : x.s.handed = s.handed := by rw [h.frame]
theorem Passed.sides (h : Test.Passed s f p n x) : x.s.line.sides = s.line.sides := by rw [h.frame]

/-- LINE forwards a tested frame or discards it with a HOLD_NOTE, on the verdict (R9, R27, R35). -/
def verdict (x : Test) (p : Port) (f : Frame) : State :=
  match x.held with
  | none => x.s.offer (otherPort p) f
  | some h => x.s.holdNote p f h.1 h.2

theorem verdict_keeps {γ : Type} (g : State → γ)
    (h : ∀ (s : State) (p : Port) (f : Frame), g (s.offer p f) = g s) (x : Test) (p : Port) (f : Frame) :
    g (x.verdict p f) = g x.s := by
  unfold verdict
  split
  · exact h _ _ _
  · exact State.holdNote_keeps _ g h _ _ _ _

/-- The test with a further event handed on. -/
def hand (x : Test) (c : Instr) : Test := { x with s := x.s.hand c }

theorem entry_hand (f : Frame) (p : Port) (x : Test) (c : Instr) (e : Fin 64) :
    Test.entry f p (x.hand c) e = (Test.entry f p x e).hand c := by
  have hold (a : Action) : (x.s.hand c).failingHold a = x.s.failingHold a := by
    cases a <;> rfl
  simp only [Test.entry, Test.hand, hold, State.hand_table]
  split <;> rfl

theorem verdict_hand (x : Test) (p : Port) (f : Frame) (c : Instr) :
    (x.hand c).verdict p f = (x.verdict p f).hand c := by
  unfold verdict Test.hand
  dsimp only
  split
  · cases p <;> rfl
  · unfold State.holdNote
    cases own : x.s.own <;> simp only [State.hand_own, own]
    cases p <;> rfl

end Test

/-- The test of a frame reads and writes nothing of the events handed on. -/
theorem State.testFrame_hand (c : Instr) (f : Frame) (p : Port) :
    (s.hand c).testFrame f p = (s.testFrame f p).hand c := by
  unfold State.testFrame
  exact List.foldl_hom (fun x : Test => x.hand c) (g₁ := Test.entry f p) (g₂ := Test.entry f p)
    (l := List.finRange 64) (init := { s := s, matched := [], held := none, stopped := false })
    (fun x e => Test.entry_hand f p x c e)

@[simp] theorem State.handAll_port (cs : List Instr) (p : Port) : (s.handAll cs).port p = s.port p := by
  cases p <;> rfl

theorem State.matchFrame_eq (p : Port) (f : Frame) :
    s.matchFrame p f = ((s.testFrame f p).verdict p f).handAll
      ((s.testFrame f p).matched.filterMap (fun e => (s.table.row e).action.handed e)) := by
  have passed := s.testFrame_passed f p
  unfold State.matchFrame
  generalize s.testFrame f p = x at passed ⊢
  have action (e : Fin 64) : ((x.verdict p f).table.row e).action = (s.table.row e).action := by
    rw [x.verdict_keeps State.table (fun s => s.offer_table), passed.action]
  simp only [← action]
  rfl

/-- What a passing frame hands on: itself when it is a CALL_DONE, then the actions of its matched entries. -/
def State.passed (s : State) (p : Port) (f : Frame) : List Instr :=
  (if f.kind = 5 then [.callDoneReception f.src f.dst f.tag f.payload] else [])
  ++ (s.testFrame f p).matched.filterMap (fun e => (s.table.row e).action.handed e)

theorem State.route_of_passing {f : Frame} (p : Port) (h : s.own ≠ some f.dst) :
    s.route p f = ((s.testFrame f p).verdict p f).handAll (s.passed p f) := by
  rw [State.route, if_neg h, State.passed]
  dsimp only
  split
  · rename_i kind
    rw [State.matchFrame_eq, State.handCallDone, State.testFrame_hand, Test.verdict_hand,
      if_pos (show f.kind = 5 from kind)]
    generalize s.testFrame f p = x
    simp [State.hand, State.handAll, Test.hand]
  · rename_i kind
    rw [State.matchFrame_eq, if_neg (show ¬ f.kind = 5 from kind), List.nil_append]

/-- The part at the test of a received frame: the event taken, the source learned, the bridge heard. -/
def State.heard (s : State) (p : Port) (f : Frame) : State :=
  ((s.take (.reception p f.toBytes)).learn f.src p).bridgeHeard p

theorem State.heard_port (p : Port) (f : Frame) (q : Port) : (s.heard p f).port q = s.port q := by
  simp [State.heard]

theorem exec_reception_of_passing {p : Port} {f : Frame} (running : s.inReset = false) (sound : f.sound)
    (other : s.own ≠ some f.src) (passing : s.own ≠ some f.dst) :
    exec (.reception p f.toBytes) s =
      .next ((((s.heard p f).testFrame f p).verdict p f).handAll ((s.heard p f).passed p f)) := by
  rw [exec_reception_toBytes s p running sound,
    State.checkedFrame_of_other _ p (show (s.take _).own ≠ _ from other)]
  refine congrArg _ ((s.heard p f).route_of_passing p ?_)
  simpa [State.heard] using passing

/-- Settles O7. -/
theorem passingFrameIsLearnedAndForwardedOrHeld : Obligations.PassingFrameIsLearnedAndForwardedOrHeld := by
  refine ⟨?_, ?_⟩
  · intro p f s running sound other passing
    refine ⟨_, exec_reception_of_passing s running sound other passing, fun i => ?_⟩
    obtain ⟨-, low, high, -⟩ := sound
    rw [State.handAll_line, Test.verdict_keeps (fun x => x.line.sides) (fun s => s.offer_line_sides),
      ((s.heard p f).testFrame_passed f p).sides, State.heard,
      State.bridgeHeard_sides, State.learn_sides _ p low high i]
    cases p <;> rfl
  · intro p f s running sound other passing u x
    refine ⟨_, exec_reception_of_passing s running sound other passing, ?_⟩
    have passed : Test.Passed u f p 64 x := u.testFrame_passed f p
    have test : (s.heard p f).testFrame f p = x := rfl
    simp only [State.handAll_table, State.handAll_handed, State.handAll_port, test]
    have own : x.s.own = s.own := by rw [passed.own]; simp [u]
    have port (q : Port) : x.s.port q = s.port q := by rw [passed.port]; exact s.heard_port p f q
    refine ⟨x.verdict_keeps State.table (fun s => s.offer_table) p f, ?_, fun forwarded => ?_,
      fun e tm held => ?_⟩
    · rw [x.verdict_keeps State.handed (fun s => s.offer_handed), passed.handed, State.passed,
        List.append_assoc]
      rfl
    · have verdict : x.verdict p f = x.s.offer (otherPort p) f := by simp only [Test.verdict, forwarded]
      have apart : otherPort p ≠ p := by cases p <;> simp [otherPort]
      rw [verdict, State.offer_port_self, State.offer_port_ne _ _ apart, port, port]
      exact ⟨rfl, rfl⟩
    · have verdict : x.verdict p f = x.s.holdNote p f e tm := by simp only [Test.verdict, held]
      rw [verdict]
      refine ⟨by rw [State.holdNote_port_other, port], fun noOwn => ?_, fun n hown => ?_⟩
      · rw [State.holdNote_of_noOwn _ p f e tm (own.trans noOwn), port]
      · rw [State.holdNote_of_own _ p f e tm (own.trans hown), State.offer_port_self, port]
        rfl

/-! ## What a frame, a notice event and a change leave unchanged -/

/-- The part builds a frame by moving its two ports alone. -/
theorem State.emit_frame (dst kind tag : Byte) (payload : List Byte) :
    s.emit dst kind tag payload = { s with line := { s.line with
      up := (s.emit dst kind tag payload).line.up, dn := (s.emit dst kind tag payload).line.dn } } := by
  refine s.emit_holds (fun x => x = { s with line := { s.line with up := x.line.up, dn := x.line.dn } })
    (fun x p f h => ?_) dst kind tag payload rfl
  rw [h]
  cases p <;> rfl

theorem State.notice_of_marked {k : Fin 13} (i : Nat) (h : s.req.marks.getLsbD (k.val - 1) = true) :
    s.notice k i = s := by
  simp only [State.notice, h, if_true]

/-- A notice event moves the two ports and the marks alone. -/
theorem State.notice_frame (k : Fin 13) (i : Nat) :
    s.notice k i = { s with
      line := { s.line with up := (s.notice k i).line.up, dn := (s.notice k i).line.dn },
      req := { s.req with marks := (s.notice k i).req.marks } } := by
  cases marked : s.req.marks.getLsbD (k.val - 1) with
  | true => rw [s.notice_of_marked i marked]
  | false =>
    simp only [State.notice, marked, Bool.false_eq_true, if_false]
    split
    · rw [State.emit_frame]; rfl
    · rfl

/-- A change of a condition moves its record and the events handed on alone. -/
theorem State.setCond_frame (c : Fin 64) (v : Bool) :
    s.setCond c v = { s with
      board := { s.board with conds := (s.setCond c v).board.conds }, handed := (s.setCond c v).handed } := by
  by_cases h : s.cond c = v
  · rw [s.setCond_of_eq h]
  · rw [s.setCond_of_ne h]; rfl

/-- The users of a condition do not depend on what its record holds. -/
theorem State.setRecord_users (c c' : Fin 64) (r : CondRecord) : (s.setRecord c r).users c' = s.users c' := rfl

theorem State.setCond_handed_eq (c : Fin 64) (v : Bool) :
    (s.setCond c v).handed =
      s.handed ++ if s.cond c = v then [] else (s.users c).map (fun u => .conditionChange c v u) := by
  by_cases h : s.cond c = v
  · rw [s.setCond_of_eq h, if_pos h, List.append_nil]
  · rw [s.setCond_of_ne h, if_neg h]; rfl

theorem State.setCond_record_self (c : Fin 64) (v : Bool) :
    (s.setCond c v).board.conds.row c =
      if s.cond c = v then s.board.conds.row c
      else { s.board.conds.row c with value := v, age := 0 } := by
  by_cases h : s.cond c = v
  · rw [s.setCond_of_eq h, if_pos h]
  · rw [s.setCond_of_ne h, if_neg h]
    exact Tbl.row_put_self _ _ _

theorem PortState.start_crcCount (q : PortState) : q.start.crcCount = q.crcCount := by
  unfold PortState.start
  split
  · rfl
  · split
    · rfl
    · split <;> rfl

@[simp] theorem PortState.offer_crcCount (q : PortState) (f : Frame) : (q.offer f).crcCount = q.crcCount := by
  rw [PortState.offer, PortState.start_crcCount]
  unfold PortState.admitSafety PortState.admitNormal
  split_ifs <;> rfl

theorem State.offer_crcCount (p q : Port) (f : Frame) :
    ((s.offer p f).port q).crcCount = (s.port q).crcCount := by
  cases p <;> cases q <;> simp [State.offer, State.setPort, State.port]

theorem State.notice_crcCount (k : Fin 13) (i : Nat) (p : Port) :
    ((s.notice k i).port p).crcCount = (s.port p).crcCount := by
  cases marked : s.req.marks.getLsbD (k.val - 1) with
  | true => rw [s.notice_of_marked i marked]
  | false =>
    simp only [State.notice, marked, Bool.false_eq_true, if_false]
    split
    · exact State.emit_keeps _ (fun x => (x.port p).crcCount) (fun s q f => s.offer_crcCount q p f) _ _ _ _
    · rfl

/-! ## Bridge silence (R15) -/

/-- Settles O11. -/
theorem bridgeSilenceExpiryDropsTheLink : Obligations.BridgeSilenceExpiryDropsTheLink := by
  intro s due running silence
  let u : State := { s.take .bridgeSilenceExpiry with line := { s.line with silence := none } }
  let n := u.setCond condBridge false
  have expires : exec .bridgeSilenceExpiry s = .next (n.notice noticeSilent 0) := by
    change event _ (fun s => if s.line.silence.isSome then s.bridgeSilent else s) s = _
    rw [event_of_running s _ _ running, if_pos (by simp [silence])]
    rfl
  have cond : u.cond condBridge = s.cond 0 := rfl
  have handed : n.handed = (s.take .bridgeSilenceExpiry).handed ++ (if s.cond 0 = true then
      (s.users 0).map (fun user => .conditionChange 0 false user) else []) := by
    rw [State.setCond_handed_eq, cond]
    cases s.cond 0 <;> rfl
  have link : (n.notice noticeSilent 0).cond 0 = false := by
    rw [State.cond, State.notice_board]
    exact u.setCond_cond_self condBridge false
  refine ⟨_, expires, by simp [n, u], link, ?_, ?_, ?_,
    by simp [handed], ?_, ?_, ?_⟩
  · rw [State.notice_marks]
    simp [n, u, noticeSilent]
  · intro link
    rw [State.notice_board]
    have := u.setCond_record_self condBridge false
    rw [cond, link] at this
    rw [show n.board.conds.row 0 = _ from this]
    rfl
  · intro c other
    rw [State.notice_board]
    exact u.setCond_record_ne false (Ne.symm other)
  · intro marked
    rw [State.notice_of_marked _ _ (by simpa [n, u, noticeSilent] using marked)]
    simp [n, u]
  · intro p
    rw [State.notice_crcCount]
    cases p <;> simp [n, u, State.port]
  · rw [State.notice_frame]
    have frame : n = _ := u.setCond_frame condBridge false
    generalize n.notice noticeSilent 0 = m at *
    rw [frame]
    rfl

end Sys2Proof.Machine
end

section
/-! PROOFS. The FRAME conditions, the fault lines and ageing (R39, R43 to R46). -/

namespace Sys2Proof.Machine
variable (s : State)

/-! ## Results of a request and of a match action (R28, R177) -/

theorem fin?_eq_some_iff {n : Nat} (b : Byte) (i : Fin n) : fin? n b = some i ↔ b.toNat = i.val := by
  unfold fin?
  split
  · simp [Fin.ext_iff]
  · have := i.isLt
    simp only [reduceCtorEq, false_iff]
    omega

theorem fin?_eq_none_iff {n : Nat} (b : Byte) : fin? n b = none ↔ n ≤ b.toNat := by
  unfold fin?
  split <;> simp <;> omega

@[simp] theorem State.countRefusal_done (e : Fin 64) : s.countRefusal e .done = s := rfl

theorem State.countRefusal_of_ne {c : Code} (e : Fin 64) (h : c ≠ .done) : s.countRefusal e c = s.refuse e := by
  rw [State.countRefusal, if_neg h, State.refuse, MatchEntry.refused_eq]

theorem State.refuse_row_self (e : Fin 64) : (s.refuse e).table.row e = { s.table.row e with
    refusals := if (s.table.row e).refusals < (s.table.row e).hits then min ((s.table.row e).refusals + 1) 255
      else (s.table.row e).refusals } := by
  simp [State.refuse]

theorem State.refuse_row_ne {e other : Fin 64} (h : other ≠ e) :
    (s.refuse e).table.row other = s.table.row other := by
  simp [State.refuse, Tbl.row_put_ne _ _ h.symm]

theorem State.refuse_frame (e : Fin 64) : s.refuse e = { s with table := (s.refuse e).table } := rfl

/-- A request is taken by an addressed part outside power-on reset (R17, R177). -/
theorem event_of_request {c : Instr} {f : State → State} (running : s.inReset = false)
    (addressed : s.addressed = true) : event c (asRequest f) s = .next (f (s.take c)) := by
  rw [event_of_running s c _ running, asRequest_addressed (s.take c) f addressed]

theorem asAction_of_done {f : State → Code × State} {t : State} (e : Fin 64) (h : f s = (.done, t)) :
    asAction e f s = t := by
  simp [asAction, h]

theorem asAction_of_refused {f : State → Code × State} {c : Code} {t : State} (e : Fin 64)
    (h : f s = (c, t)) (refused : c ≠ .done) : asAction e f s = t.refuse e := by
  simp [asAction, h, State.countRefusal_of_ne _ e refused]

theorem answered_of_eq {f : State → Code × State} {c : Code} {t : State} (rq : Requester) (op : Byte)
    (h : f s = (c, t)) : answered rq op f s = t.reply rq op c [] := by
  simp [answered, h]

/-! ## A condition changed with its hold (R43 to R45) -/

theorem State.setFrameCond_record_self (c : Fin 64) (v : Bool) (time : Nat) (hold : Option Nat) :
    (s.setFrameCond c v time hold).board.conds.row c =
      { s.board.conds.row c with
        value := v, holdTime := time, hold := hold,
        age := if s.cond c = v then (s.board.conds.row c).age else 0 } := by
  rw [State.setFrameCond, State.setCond_record_self]
  by_cases h : s.cond c = v
  · have h' : (s.board.conds.row c).value = v := h
    simp [State.cond, h']
  · have h' : (s.board.conds.row c).value ≠ v := h
    simp [State.cond, h']

theorem State.setFrameCond_record_ne {c c' : Fin 64} (v : Bool) (time : Nat) (hold : Option Nat) (h : c' ≠ c) :
    (s.setFrameCond c v time hold).board.conds.row c' = s.board.conds.row c' := by
  rw [State.setFrameCond, State.setCond_record_ne _ v h.symm]
  exact Tbl.row_put_ne _ _ h.symm

theorem State.setFrameCond_handed_eq (c : Fin 64) (v : Bool) (time : Nat) (hold : Option Nat) :
    (s.setFrameCond c v time hold).handed =
      s.handed ++ if s.cond c = v then [] else (s.users c).map (fun u => .conditionChange c v u) := by
  have value : (s.setRecord c { s.board.conds.row c with holdTime := time, hold := hold }).cond c = s.cond c := by
    simp [State.cond]
  rw [State.setFrameCond, State.setCond_handed_eq, value]
  rfl

theorem State.setFrameCond_frame (c : Fin 64) (v : Bool) (time : Nat) (hold : Option Nat) :
    s.setFrameCond c v time hold = { s with
      board := { s.board with conds := (s.setFrameCond c v time hold).board.conds },
      handed := (s.setFrameCond c v time hold).handed } := by
  unfold State.setFrameCond
  rw [State.setCond_frame]
  rfl

/-! ## COND_SET and COND_CLEAR (R43, R44) -/

theorem State.frameCond_of_frame {b : Byte} {c : Fin 64} (names : b.toNat = c.val) (id : 16 ≤ c.val)
    (frame : (s.board.conds.row c).source = .frame) : s.frameCond b = some c := by
  simp [State.frameCond, (fin?_eq_some_iff b c).mpr names, id, frame]

theorem State.frameCond_of_other {b : Byte}
    (h : ∀ c : Fin 64, b.toNat = c.val → c.val < 16 ∨ (s.board.conds.row c).source ≠ .frame) :
    s.frameCond b = none := by
  unfold State.frameCond
  split
  · rfl
  · rename_i c named
    have other := h c ((fin?_eq_some_iff b c).mp named)
    exact if_neg fun ⟨id, frame⟩ => other.elim (by omega) (fun ne => ne frame)

theorem condSet_of_frameCond {b : Byte} {c : Fin 64} (hold : Nat) (h : s.frameCond b = some c) :
    condSet b hold s = (.done, s.setFrameCond c true (min hold 65535)
      (if hold = 0 then none else some (s.clock + min hold 65535 * 10000))) := by
  have zero : min hold 65535 = 0 ↔ hold = 0 := by omega
  simp only [condSet, h, zero]

theorem condSet_of_none {b : Byte} (hold : Nat) (h : s.frameCond b = none) :
    condSet b hold s = (.badValue, s) := by
  simp only [condSet, h]

theorem condClear_of_frameCond {b : Byte} {c : Fin 64} (h : s.frameCond b = some c) :
    condClear b s = (.done, if s.cond c = true then s.setFrameCond c false 0 none else s) := by
  simp only [condClear, h]
  split <;> rfl

theorem condClear_of_none {b : Byte} (h : s.frameCond b = none) : condClear b s = (.badValue, s) := by
  simp only [condClear, h]

theorem exec_condSet (rq : Requester) (b : Byte) (hold : Nat) (running : s.inReset = false)
    (addressed : s.addressed = true) : exec (.condSet rq b hold) s =
      .next (answered rq 0x0C (condSet b hold) (s.take (.condSet rq b hold))) :=
  event_of_request s running addressed

theorem exec_setCond (e : Fin 64) (b : Byte) (hold : Nat) (running : s.inReset = false) :
    exec (.setCond e b hold) s = .next (asAction e (condSet b hold) (s.take (.setCond e b hold))) :=
  event_of_running s (.setCond e b hold) (asAction e (condSet b hold)) running

theorem exec_condClear (rq : Requester) (b : Byte) (running : s.inReset = false)
    (addressed : s.addressed = true) : exec (.condClear rq b) s =
      .next (answered rq 0x0D (condClear b) (s.take (.condClear rq b))) :=
  event_of_request s running addressed

theorem exec_clearCond (e : Fin 64) (b : Byte) (running : s.inReset = false) :
    exec (.clearCond e b) s = .next (asAction e (condClear b) (s.take (.clearCond e b))) :=
  event_of_running s (.clearCond e b) (asAction e (condClear b)) running

/-- Settles O15. -/
theorem condSetActsByTheConditionsValue : Obligations.CondSetActsByTheConditionsValue := by
  intro s rq e b hold running
  refine ⟨fun c names id frame i u form hu => ?_, fun other => ?_⟩
  · have named : u.frameCond b = some c := by
      rw [hu]; exact State.frameCond_of_frame _ names id frame
    have board : u.board = s.board := by rw [hu]; rfl
    have value : u.cond c = s.cond c := by rw [hu]; rfl
    have clock : u.clock = s.clock := by rw [hu]; rfl
    have users : u.users c = s.users c := by rw [hu]; rfl
    have done := condSet_of_frameCond u hold named
    refine ⟨u.setFrameCond c true (min hold 65535)
      (if hold = 0 then none else some (u.clock + min hold 65535 * 10000)), ?_, ?_, ?_, ?_, ?_, ?_⟩
    · rintro rfl addressed
      rw [exec_condSet s rq b hold running addressed, ← hu, answered_of_eq u rq 0x0C done]
    · rintro rfl
      rw [exec_setCond s e b hold running, ← hu, asAction_of_done u e done]
    · rw [State.setFrameCond_record_self, value, board, clock]
      simp only [frame]
    · intro c' other
      rw [State.setFrameCond_record_ne _ _ _ _ other, board]
    · rw [State.setFrameCond_handed_eq, value, users]
    · rw [← board]
      exact u.setFrameCond_frame _ _ _ _
  · refine ⟨fun addressed => ?_, ?_⟩
    · rw [exec_condSet s rq b hold running addressed,
        answered_of_eq _ rq 0x0C (condSet_of_none (s.take _) hold (State.frameCond_of_other _ other))]
    · intro u m
      refine ⟨?_, u.refuse_row_self e, fun other ne => u.refuse_row_ne ne, u.refuse_frame e⟩
      rw [exec_setCond s e b hold running,
        asAction_of_refused _ e (condSet_of_none u hold (State.frameCond_of_other _ other)) (by decide)]

/-- Settles O16. -/
theorem condClearAndHoldExpiryMakeAConditionFalse :
    Obligations.CondClearAndHoldExpiryMakeAConditionFalse := by
  refine ⟨fun s rq e b running => ⟨fun c names id frame i u form hu => ?_, fun other => ⟨fun addressed => ?_, ?_⟩⟩, ?_⟩
  · have named : u.frameCond b = some c := by
      rw [hu]; exact State.frameCond_of_frame _ names id frame
    have board : u.board = s.board := by rw [hu]; rfl
    have value : u.cond c = s.cond c := by rw [hu]; rfl
    have users : u.users c = s.users c := by rw [hu]; rfl
    have done := condClear_of_frameCond u named
    refine ⟨if u.cond c = true then u.setFrameCond c false 0 none else u, ?_, ?_, ?_⟩
    · rintro rfl addressed
      rw [exec_condClear s rq b running addressed, ← hu, answered_of_eq u rq 0x0D done]
    · rintro rfl
      rw [exec_clearCond s e b running, ← hu, asAction_of_done u e done]
    · rw [value]
      cases held : s.cond c with
      | false => exact ⟨fun _ => rfl, fun h => absurd h (by simp), fun c' _ => by simp [board], by simp,
          by rw [← board]; rfl⟩
      | true =>
        have was : u.cond c ≠ false := by simp [value, held]
        simp only [if_true]
        refine ⟨by simp, fun _ => ?_, fun c' other => ?_, ?_, ?_⟩
        · rw [State.setFrameCond_record_self, if_neg was, board]
          simp only [frame]
        · rw [State.setFrameCond_record_ne _ _ _ _ other, board]
        · rw [State.setFrameCond_handed_eq, if_neg was, users]
        · rw [← board]
          exact u.setFrameCond_frame _ _ _ _
  · rw [exec_condClear s rq b running addressed,
      answered_of_eq _ rq 0x0D (condClear_of_none (s.take _) (State.frameCond_of_other _ other))]
  · rw [exec_clearCond s e b running,
      asAction_of_refused _ e (condClear_of_none (s.take _) (State.frameCond_of_other _ other)) (by decide)]
  · intro s c due running hold value u
    have was : u.cond c ≠ false := by
      change s.cond c ≠ false
      simp [value]
    have expires : exec (.holdExpiry c) s = .next (u.setFrameCond c false 0 none) := by
      refine (event_of_running s (.holdExpiry c) (fun s => if (s.board.conds.row c).hold.isSome then
        s.setFrameCond c false 0 none else s) running).trans ?_
      rw [if_pos (by simp [hold])]
    refine ⟨_, expires, ?_, fun c' other => ?_, ?_, u.setFrameCond_frame _ _ _ _⟩
    · rw [State.setFrameCond_record_self, if_neg was]
      rfl
    · rw [State.setFrameCond_record_ne _ _ _ _ other]
      rfl
    · rw [State.setFrameCond_handed_eq, if_neg was]
      rfl

/-! ## Fault lines and ages (R39, R46) -/

theorem Board.ageAll_row (b : Board) (c : Fin 64) :
    b.ageAll.conds.row c = { b.conds.row c with age := min ((b.conds.row c).age + 1) 65535 } := by
  simp [Board.ageAll, Tbl.row, satAdd]

/-- What a fault pin's change leaves, where the pin is stored first and its condition follows. -/
theorem State.setCond_of_pin {u : State} (c : Fin 64) (low : Bool) (board : u.board = s.board)
    (users : u.users c = s.users c) :
    (u.setCond c low).cond c = low
    ∧ (∀ c' : Fin 64, c' ≠ c → (u.setCond c low).board.conds.row c' = s.board.conds.row c')
    ∧ (s.cond c = low → (u.setCond c low).handed = u.handed)
    ∧ (s.cond c ≠ low → ((u.setCond c low).board.conds.row c).age = 0 ∧ (u.setCond c low).handed =
        u.handed ++ (s.users c).map (fun user => .conditionChange c low user)) := by
  have value : u.cond c = s.cond c := by simp [State.cond, board]
  refine ⟨u.setCond_cond_self c low, fun c' other => ?_, fun held => ?_, fun moved => ⟨?_, ?_⟩⟩
  · rw [State.setCond_record_ne _ low other.symm, board]
  · rw [State.setCond_of_eq _ (value.trans held)]
  · rw [State.setCond_record_self, value, if_neg moved]
  · rw [State.setCond_handed_eq, value, if_neg moved, users]

/-- Settles O17. -/
theorem faultLinesAndAgesFollowTheirEvents : Obligations.FaultLinesAndAgesFollowTheirEvents := by
  have taken (s : State) (l : FaultLine) (low : Bool) (running : s.inReset = false) :
      exec (.faultLineChange l low) s = .next ((s.take (.faultLineChange l low)).faultLine l low) := by
    change Host.Outcome.next _ = _
    rw [running]
    rfl
  refine ⟨fun s low running => ⟨?_, ?_⟩, fun s running => ?_⟩
  · let u : State := { s.take (.faultLineChange .a low) with faultA := low }
    exact ⟨u.setCond condFaultA low, taken s .a low running, by simp [u], by simp [u],
      s.setCond_of_pin (u := u) condFaultA low rfl rfl⟩
  · let u : State := { s.take (.faultLineChange .b low) with faultB := low }
    exact ⟨u.setCond condFaultB low, taken s .b low running, by simp [u], by simp [u],
      s.setCond_of_pin (u := u) condFaultB low rfl rfl⟩
  · refine ⟨{ s.take .ageIntervalExpiry with board := s.board.ageAll },
      event_of_running s .ageIntervalExpiry (fun s => { s with board := s.board.ageAll }) running,
      fun c bound => ?_, rfl, rfl⟩
    have age : min ((s.board.conds.row c).age + 1) 65535 =
        if (s.board.conds.row c).age < 65535 then (s.board.conds.row c).age + 1 else 65535 := by
      split <;> omega
    rw [← age]
    exact s.board.ageAll_row c

end Sys2Proof.Machine
end

section
/-! PROOFS. The facts that every step keeps, one name for each, and what the updates of the shared operations do
to them. A fact that an event suspends is dropped from the watch, and watched again when the event restores it. -/

namespace Sys2Proof.Machine

/-! ## The facts -/

/-- The queue rules of one port (R10, R13). -/
def PortState.ruled (q : PortState) : Prop := q.bounded ∧ q.busySending

/-- The sample account (R66, R70). -/
def Scan.accounted (x : Scan) : Prop :=
  x.buffer.length ≤ 512 ∧ (x.stored < 65535 → x.stored = x.read + x.cleared + x.buffer.length)

/-- In SETUP an owned channel has its requested level OFF (R83). -/
def Channel.levelOk (m : Mode) (c : Channel) : Prop :=
  m = .setup → c.set.owner ≠ .free → c.requested = false

/-- An entry counts no more refusals than hits, within its ranges (R36). -/
def MatchEntry.counted (m : MatchEntry) : Prop := m.refusals ≤ m.hits ∧ m.refusals ≤ 255 ∧ m.hits ≤ 65535

/-- The attempt count of a door is within its bound (R139, R151). -/
def Door.tries (x : Door) : Prop := x.attempts ≤ x.set.retryLimit + 1

/-- Every occupied slot keeps a rule. -/
def Call.each (P : Slot → Prop) (c : Call) : Prop := ∀ (k : Fin 16) (x : Slot), c.slots.row k = some x → P x

/-- The interval timer runs in INTERVAL alone, the lamp step timer in SPEAKING and INTERVAL alone, and the zone set
is not empty (R163, R164, R173). -/
def Slot.timed (x : Slot) : Prop :=
  (x.interval ≠ none ↔ x.state = .interval) ∧ (x.lampDue ≠ none ↔ x.state ≠ .waiting) ∧ x.zones ≠ 0

/-- A SPEAKING or INTERVAL slot holds exactly the zones of its zone set, and no other slot holds one; the slots
keep their timers; a template that may be queued has zones (R160, R163, R165, R173). -/
structure Call.held (c : Call) : Prop where
  holder : ∀ z k : Fin 16, (c.zones.row z).holder = some k ↔
    ∃ x, c.slots.row k = some x ∧ x.state ≠ .waiting ∧ x.zones.getLsbD z.val = true
  timed : c.each Slot.timed
  templates : ∀ m : Fin 32, (c.templates.row m).allow ≠ none → (c.templates.row m).zones ≠ 0

/-- A slot of equal or higher priority holds a zone of the call (R165). -/
def Call.barred (c : Call) (x : Slot) : Prop :=
  ∃ (z j : Fin 16) (y : Slot), x.zones.getLsbD z.val = true ∧ (c.zones.row z).holder = some j
    ∧ c.slots.row j = some y ∧ x.priority ≤ y.priority

/-- The holding rules of CALL, as a fact of its records alone (R160, R163, R165, R173). -/
structure Call.zonesRuled (c : Call) : Prop where
  held : c.held
  blocked : ∀ k x, c.slots.row k = some x → x.state = .waiting → c.barred x

/-- Stage `k` is a stage of plan `p` (R115). -/
def Plan.has (n : Plan) (p : Fin 8) (k : Fin 64) : Prop :=
  (n.plans.row p).first.val ≤ k.val ∧ k.val < (n.plans.row p).first.val + (n.plans.row p).count

/-- What the rules promise of a ramp's record, among the plans and stages of PLAN and in a mode (R118, R120, R123,
R131, R134, R179). -/
structure Plan.rampRuled (n : Plan) (m : Mode) (x : Ramp) : Prop where
  atRest : x.state = .idle → x.stage = none ∧ x.phase = .pending ∧ x.dwell = .stopped
  placed : x.state ≠ .idle → m = .service ∧ ∃ p k, x.plan = some p ∧ x.stage = some k ∧ n.has p k
  command : 0 < x.sPrev → x.state = .running ∧ x.phase = .entered
    ∧ ∃ k d, x.stage = some k ∧ (n.stages.row k).kind = .drive d ∧ x.sPrev ≤ min d.vMax 1000
  dwells : x.dwell ≠ .stopped → x.phase = .entered
    ∧ ∃ k t, x.stage = some k ∧ (n.stages.row k).kind = .dwell t

/-- Every plan lies in the stage pool, and every ramp keeps its rules (R115). -/
structure Plan.ruled (n : Plan) (m : Mode) : Prop where
  plans : ∀ p : Fin 8, 1 ≤ (n.plans.row p).count ∧ (n.plans.row p).first.val + (n.plans.row p).count ≤ 64
  ramps : ∀ r : Fin 4, n.rampRuled m (n.ramps.row r)

/-- A fact that the rules promise of every state. -/
inductive Fact where
  | queues
  | account
  | output (ch : Fin 16)
  | level (ch : Fin 16)
  /-- The level rule, where the owner of the channel is `o`. -/
  | levelIf (ch : Fin 16) (o : Owner)
  /-- The configuration of a channel is `c`. -/
  | config (ch : Fin 16) (c : Configuration)
  /-- The configuration of a channel is no active one but `c`. -/
  | noJump (ch : Fin 16) (c : Configuration)
  | tagIs (tag : Vector Byte 8) (written : Bool)
  | counts
  | attempts
  | sources
  | slots
  | zones
  | ramps
  | bridge
  | paFault
  | service
  | moving
  | lane (n : Fin 8)
  /-- Condition `c`, where it has source `src`, has its source's value. -/
  | follows (c : Fin 64) (src : Source)
  /-- Condition `c`, where it has source `src`, other than FRAME, has no hold. -/
  | hold (c : Fin 64) (src : Source)
  /-- The written part of a door's record is `x`. -/
  | doorSet (d : Fin 24) (x : DoorSettings)

/-- The fact holds in a state. -/
def State.keeps (s : State) : Fact → Prop
  | .queues => s.line.up.ruled ∧ s.line.dn.ruled
  | .account => s.scan.accounted
  | .output ch => (s.chans.row ch).safe
  | .level ch => (s.chans.row ch).levelOk s.req.mode
  | .levelIf ch o => (s.chans.row ch).set.owner = o → (s.chans.row ch).levelOk s.req.mode
  | .config ch c => (s.chans.row ch).set.config = c
  | .noJump ch c => c.active = true → (s.chans.row ch).set.config.active = true → (s.chans.row ch).set.config = c
  | .tagIs tag written => s.req.tag = tag ∧ s.req.tagWritten = written
  | .counts => ∀ e, (s.table.row e).counted
  | .attempts => ∀ d, (s.door.doors.row d).tries
  | .sources => ∀ c : Fin 64, c.val < 16 → (s.board.conds.row c).source = .fixed
  | .slots => s.call.each Slot.safe
  | .zones => s.call.zonesRuled
  | .ramps => s.plan.ruled s.req.mode
  | .bridge => s.cond condBridge = s.line.silence.isSome
  | .paFault => s.cond condPaFault = decide (2 ≤ s.call.paRun)
  | .service => s.cond condService = decide (s.req.mode = .service)
  | .moving => s.cond condMoving = s.anyMoving
  | .lane n => s.cond (condLane n) = s.laneClear n
  | .follows c src => (s.board.conds.row c).source = src → s.cond c = s.sourceValue src (s.cond c)
  | .hold c src => (s.board.conds.row c).source = src → src ≠ .frame → (s.board.conds.row c).hold = none
  | .doorSet d x => (s.door.doors.row d).set = x

/-- The facts on which the keeping of a fact rests. -/
def Fact.needs : Fact → Fact → Prop
  | .bridge, g => g = .sources ∨ g = .hold condBridge .fixed
  | .paFault, g => g = .sources ∨ g = .hold condPaFault .fixed
  | .service, g => g = .sources ∨ g = .hold condService .fixed
  | .lane n, g => g = .sources ∨ g = .hold (condLane n) .fixed
  | .follows c src, g => g = .sources ∨ g = .hold c src
  | .moving, g => g = .sources ∨ g = .ramps ∨ g = .hold condMoving .fixed
  | .zones, g => g = .slots
  | _, _ => False

/-- The facts under watch: with a fact, the facts on which it rests. -/
structure Watch where
  on : Fact → Prop
  closed : ∀ f g, f.needs g → on f → on g

/-- The set names every fact that rests on one it names. -/
def Droppable (d : Fact → Prop) : Prop := ∀ f g : Fact, f.needs g → d g → d f

/-- The watch without the facts that an event suspends. -/
def Watch.drop (w : Watch) (d : Fact → Prop) (h : Droppable d) : Watch where
  on f := w.on f ∧ ¬ d f
  closed f g needs on := ⟨w.closed f g needs on.1, fun dg => on.2 (h f g needs dg)⟩

/-- Every watched fact holds. -/
def State.Holds (s : State) (w : Watch) : Prop := ∀ f, w.on f → s.keeps f

variable {s t : State} {w : Watch}

theorem State.Holds.of_keeps (h : s.Holds w) (keeps : ∀ f, s.keeps f → t.keeps f) : t.Holds w :=
  fun f on => keeps f (h f on)

theorem State.Holds.drop (h : s.Holds w) (d : Fact → Prop) (hd : Droppable d) : s.Holds (w.drop d hd) :=
  fun f on => h f on.1

/-- An event that keeps every fact but the suspended ones. -/
theorem State.Holds.drop_of_keeps (h : s.Holds w) {d : Fact → Prop} (hd : Droppable d)
    (keeps : ∀ f, ¬ d f → s.keeps f → t.keeps f) : t.Holds (w.drop d hd) :=
  fun f on => keeps f on.2 (h f on.1)

/-- The suspended facts hold again. -/
theorem State.Holds.restore {d : Fact → Prop} {hd : Droppable d} (h : s.Holds (w.drop d hd))
    (again : ∀ f, d f → w.on f → s.keeps f) : s.Holds w := fun f on =>
  Classical.byCases (fun df : d f => again f df on) (fun nd => h f ⟨on, nd⟩)

theorem State.Holds.sources_of (h : s.Holds w) {f : Fact} (on : w.on f) (needs : f.needs .sources) :
    s.keeps .sources := h _ (w.closed f _ needs on)

/-! ## Updates of what no fact names -/

theorem State.Holds.handed (h : s.Holds w) (cs : List Instr) : { s with handed := cs }.Holds w :=
  h.of_keeps fun f hf => by cases f <;> exact hf
theorem State.Holds.pending (h : s.Holds w) (cs : List Instr) : { s with pending := cs }.Holds w :=
  h.of_keeps fun f hf => by cases f <;> exact hf
theorem State.Holds.take (h : s.Holds w) (c : Instr) : (s.take c).Holds w := h.handed _
theorem State.Holds.hand (h : s.Holds w) (c : Instr) : (s.hand c).Holds w := h.handed _
theorem State.Holds.handAll (h : s.Holds w) (cs : List Instr) : (s.handAll cs).Holds w := h.handed _
theorem State.Holds.clock (h : s.Holds w) (n : Nat) : { s with clock := n }.Holds w :=
  h.of_keeps fun f hf => by cases f <;> exact hf
theorem State.Holds.marks (h : s.Holds w) (m : BitVec 16) : (s.setReq { s.req with marks := m }).Holds w :=
  h.of_keeps fun f hf => by cases f <;> exact hf
theorem State.Holds.notices (h : s.Holds w) (node : Byte) (enabled : BitVec 16) (off : Bool) :
    (s.setReq { s.req with node := node, enabled := enabled, disable := off }).Holds w :=
  h.of_keeps fun f hf => by cases f <;> exact hf
theorem State.Holds.sides (h : s.Holds w) (m : Tbl SideEntry 126) :
    { s with line := { s.line with sides := m } }.Holds w :=
  h.of_keeps fun f hf => by cases f <;> exact hf
theorem State.Holds.silenceMs (h : s.Holds w) (n : Nat) :
    { s with line := { s.line with silenceMs := n } }.Holds w :=
  h.of_keeps fun f hf => by cases f <;> exact hf
theorem State.Holds.clashCount (h : s.Holds w) (n : Nat) :
    { s with line := { s.line with clashCount := n } }.Holds w :=
  h.of_keeps fun f hf => by cases f <;> exact hf
theorem State.Holds.faultPin (h : s.Holds w) (l : FaultLine) (low : Bool) : (s.faultPin l low).Holds w := by
  cases l <;> exact h.of_keeps fun f hf => by cases f <;> exact hf
theorem State.Holds.warnCallLost (h : s.Holds w) (n : Nat) :
    { s with door := { s.door with warnCallLost := n } }.Holds w :=
  h.of_keeps fun f hf => by cases f <;> exact hf

/-! ## Queues and frames (R10 to R13) -/

namespace PortState
variable {q : PortState}

theorem countP_eraseP_lt {α : Type} (p : α → Bool) {l : List α} (h : l.any p = true) :
    (l.eraseP p).countP p + 1 = l.countP p := by
  induction l with
  | nil => simp at h
  | cons a l ih =>
    cases pa : p a with
    | true => rw [List.eraseP_cons_of_pos pa, List.countP_cons_of_pos pa]
    | false =>
      have : l.any p = true := by simpa [pa] using h
      rw [List.eraseP_cons_of_neg (by simp [pa]), List.countP_cons_of_neg (by simp [pa]),
        List.countP_cons_of_neg (by simp [pa]), ih this]

/-- TRANSMIT moves one frame from the queue to the transmitter: the queue holds the same frames. -/
theorem start_frames (q : PortState) : q.start.frames.Perm q.frames := by
  unfold start
  split
  · exact List.Perm.refl _
  · rename_i idle
    split
    · rename_i f found
      obtain ⟨safety, older, younger, split_, none_older⟩ := List.find?_eq_some_iff_append.mp found
      have erased : q.waiting.eraseP Frame.safety = older ++ younger := by
        rw [split_, List.eraseP_append_right _ (by simpa using none_older), List.eraseP_cons_of_pos safety]
      simp only [frames, idle, erased]
      rw [split_]
      exact (List.perm_middle (a := f) (l₁ := older) (l₂ := younger)).symm
    · split
      · exact List.Perm.refl _
      · rename_i f rest waiting
        simp [frames, idle, waiting]

theorem start_bounded (h : q.bounded) : q.start.bounded := by
  unfold bounded total normals at *
  rwa [q.start_frames.length_eq, q.start_frames.countP_eq]

theorem start_busySending (q : PortState) : q.start.busySending := by
  intro idle
  unfold start at idle ⊢
  cases sending : q.sending with
  | some f => simp [sending] at idle
  | none =>
    cases found : q.waiting.find? Frame.safety with
    | some f => simp [sending, found] at idle
    | none =>
      cases waiting : q.waiting with
      | nil => simp [waiting]
      | cons f rest =>
        rw [waiting] at found
        simp [sending, found, waiting] at idle

theorem start_ruled (h : q.bounded) : q.start.ruled := ⟨start_bounded h, start_busySending q⟩

theorem total_join (q : PortState) (f : Frame) :
    total { q with waiting := q.waiting ++ [f] } = q.total + 1 := by
  simp [total, frames]; omega

theorem normals_join (q : PortState) (f : Frame) :
    normals { q with waiting := q.waiting ++ [f] } = q.normals + if f.normal then 1 else 0 := by
  simp [normals, frames, List.countP_cons]; omega

theorem admitNormal_bounded {f : Frame} (h : q.bounded) : (q.admitNormal f).bounded := by
  unfold admitNormal
  split
  · exact h
  · obtain ⟨total, normals⟩ := h
    constructor
    · rw [total_join]; omega
    · rw [normals_join]; split <;> omega

theorem admitSafety_bounded {f : Frame} (safety : f.safety = true) (h : q.bounded) :
    (q.admitSafety f).bounded := by
  have notNormal : f.normal = false := by simp [Frame.normal, safety]
  obtain ⟨total_, normals_⟩ := h
  unfold admitSafety
  split
  · constructor
    · rw [total_join]; omega
    · rw [normals_join, notNormal]; simpa using normals_
  · split
    · rename_i some_normal
      have length : (q.waiting.eraseP Frame.normal).length + 1 = q.waiting.length := by
        obtain ⟨g, mem, normal⟩ := List.any_eq_true.mp some_normal
        have := List.length_pos_of_mem mem
        rw [List.length_eraseP_of_mem mem normal]
        omega
      have count := countP_eraseP_lt Frame.normal some_normal
      constructor
      · simp only [total, frames, List.length_append, List.length_singleton] at total_ ⊢; omega
      · simp only [normals, frames, List.countP_append, List.countP_singleton, notNormal] at normals_ ⊢
        simp only [Bool.false_eq_true, if_false]
        omega
    · exact ⟨total_, normals_⟩

theorem offer_ruled (f : Frame) (h : q.ruled) : (q.offer f).ruled := by
  unfold offer
  refine start_ruled ?_
  split
  · rename_i safety; exact admitSafety_bounded safety h.1
  · exact admitNormal_bounded h.1

theorem complete_ruled (h : q.ruled) : q.complete.ruled := by
  cases sending : q.sending with
  | none => simpa only [complete, sending] using h
  | some f =>
    rw [q.complete_of_sending sending]
    obtain ⟨⟨total_, normals_⟩, -⟩ := h
    refine start_ruled ⟨?_, ?_⟩
    · simp only [total, frames, sending, Option.toList, List.length_append, List.length_nil] at total_ ⊢
      omega
    · simp only [normals, frames, sending, Option.toList, List.countP_append, List.countP_nil] at normals_ ⊢
      omega

end PortState

/-- A port is replaced by one that keeps the queue rules. -/
theorem State.Holds.setPort (h : s.Holds w) (p : Port) {q : PortState}
    (ruled : (s.port p).ruled → q.ruled) : (s.setPort p q).Holds w := by
  refine h.of_keeps fun f hf => ?_
  cases p with
  | up =>
    cases f with
    | queues => exact ⟨ruled hf.1, hf.2⟩
    | _ => exact hf
  | dn =>
    cases f with
    | queues => exact ⟨hf.1, ruled hf.2⟩
    | _ => exact hf

theorem State.Holds.offer (h : s.Holds w) (p : Port) (f : Frame) : (s.offer p f).Holds w :=
  h.setPort p (PortState.offer_ruled f)

theorem State.Holds.emit (h : s.Holds w) (dst kind tag : Byte) (payload : List Byte) :
    (s.emit dst kind tag payload).Holds w :=
  s.emit_holds (fun s => s.Holds w) (fun _ p f h => h.offer p f) dst kind tag payload h

theorem State.Holds.reply (h : s.Holds w) (rq : Requester) (op : Byte) (c : Code) (data : List Byte) :
    (s.reply rq op c data).Holds w := h.emit _ _ _ _

theorem State.Holds.notice (h : s.Holds w) (k : Fin 13) (subject : Nat) : (s.notice k subject).Holds w := by
  unfold State.notice
  dsimp only
  split
  · exact h
  · split
    · exact (h.marks _).emit _ _ _ _
    · exact h.marks _

theorem State.Holds.holdNote (h : s.Holds w) (p : Port) (f : Frame) (e : Fin 64) (n : Fin 32) :
    (s.holdNote p f e n).Holds w := by
  unfold State.holdNote
  split
  · exact h
  · exact h.offer _ _

end Sys2Proof.Machine
end

section
/-! PROOFS. Changing a condition and following a source: the values they leave, and the facts they keep or restore
(R38 to R47). -/

namespace Sys2Proof.Machine
variable {s t : State} {w : Watch}

theorem State.Holds.mono (h : s.Holds w) {w' : Watch} (less : ∀ f, w'.on f → w.on f) : s.Holds w' :=
  fun f on => h f (less f on)

/-! ## Values after a change -/

theorem State.cond_setCond (s : State) (c c' : Fin 64) (v : Bool) :
    (s.setCond c v).cond c' = if c = c' then v else s.cond c' := by
  split
  · rename_i same; subst same; exact s.setCond_cond_self c v
  · rename_i other; rw [State.cond, s.setCond_record_ne v other]; rfl

theorem State.setCond_hold (s : State) (c c' : Fin 64) (v : Bool) :
    ((s.setCond c v).board.conds.row c').hold = (s.board.conds.row c').hold := by
  by_cases other : c = c'
  · subst other; rw [s.setCond_record_self]; split <;> rfl
  · rw [s.setCond_record_ne v other]

theorem State.sourceValue_setCond (s : State) (c : Fin 64) (v : Bool) (src : Source) (held : Bool) :
    (s.setCond c v).sourceValue src held = s.sourceValue src held := by
  rw [State.setCond_frame]; cases src <;> rfl

/-- A source's value does not depend on the value held, but for the sources that keep it. -/
theorem State.sourceValue_idem (s : State) (src : Source) (held : Bool) :
    s.sourceValue src (s.sourceValue src held) = s.sourceValue src held := by
  cases src <;> rfl

theorem State.cond_recompute (s : State) (c c' : Fin 64) :
    (s.recompute c).cond c' =
      if c = c' then s.sourceValue (s.board.conds.row c').source (s.cond c') else s.cond c' := by
  rw [State.recompute, State.cond_setCond]
  split
  · rename_i same; subst same; rfl
  · rfl

theorem State.sourceValue_recompute (s : State) (c : Fin 64) (src : Source) (held : Bool) :
    (s.recompute c).sourceValue src held = s.sourceValue src held := s.sourceValue_setCond c _ src held

/-- One condition of `State.follow`. -/
def State.followOne (chosen : Source → Bool) (s : State) (c : Fin 64) : State :=
  if chosen (s.board.conds.row c).source then s.recompute c else s

theorem State.follow_eq_foldl (s : State) (chosen : Source → Bool) :
    s.follow chosen = (List.finRange 64).foldl (State.followOne chosen) s := rfl

theorem State.followOne_source (s : State) (chosen : Source → Bool) (c c' : Fin 64) :
    ((s.followOne chosen c).board.conds.row c').source = (s.board.conds.row c').source := by
  unfold State.followOne; split <;> simp

theorem State.sourceValue_followOne (s : State) (chosen : Source → Bool) (c : Fin 64) (src : Source) (held : Bool) :
    (s.followOne chosen c).sourceValue src held = s.sourceValue src held := by
  unfold State.followOne; split
  · exact s.sourceValue_recompute c src held
  · rfl

theorem State.cond_followOne (s : State) (chosen : Source → Bool) (c c' : Fin 64) :
    (s.followOne chosen c).cond c' =
      if c = c' ∧ chosen (s.board.conds.row c').source = true then
        s.sourceValue (s.board.conds.row c').source (s.cond c')
      else s.cond c' := by
  unfold State.followOne
  by_cases same : c = c'
  · subst same
    split <;> rename_i yes <;> simp [yes, State.cond_recompute]
  · split <;> simp [same, State.cond_recompute]

theorem State.cond_foldl_followOne (chosen : Source → Bool) (l : List (Fin 64)) (s : State) (c : Fin 64) :
    (l.foldl (State.followOne chosen) s).cond c =
      if c ∈ l ∧ chosen (s.board.conds.row c).source = true then
        s.sourceValue (s.board.conds.row c).source (s.cond c)
      else s.cond c := by
  induction l generalizing s with
  | nil => simp
  | cons a l ih =>
    rw [List.foldl_cons, ih, State.followOne_source, State.sourceValue_followOne, State.cond_followOne]
    by_cases yes : chosen (s.board.conds.row c).source = true
    · by_cases same : a = c
      · simp [yes, same, State.sourceValue_idem]
      · simp [yes, same, Ne.symm same]
    · simp [yes]

/-- Every condition whose source is chosen takes its source's value, and no other moves (R41). -/
theorem State.cond_follow (s : State) (chosen : Source → Bool) (c : Fin 64) :
    (s.follow chosen).cond c =
      if chosen (s.board.conds.row c).source = true then
        s.sourceValue (s.board.conds.row c).source (s.cond c)
      else s.cond c := by
  rw [State.follow_eq_foldl, State.cond_foldl_followOne]
  simp

/-- A change of conditions moves records of the board and the events handed on alone. -/
def State.boardMoves (s t : State) : Prop :=
  t = { s with board := { s.board with conds := t.board.conds }, handed := t.handed }
  ∧ ∀ c, (t.board.conds.row c).source = (s.board.conds.row c).source
    ∧ (t.board.conds.row c).hold = (s.board.conds.row c).hold

theorem State.boardMoves.refl (s : State) : s.boardMoves s := ⟨rfl, fun _ => ⟨rfl, rfl⟩⟩

theorem State.boardMoves.trans {u : State} (h : s.boardMoves t) (g : t.boardMoves u) : s.boardMoves u := by
  obtain ⟨ht, hs⟩ := h
  obtain ⟨hu, gs⟩ := g
  refine ⟨?_, fun c => ⟨(gs c).1.trans (hs c).1, (gs c).2.trans (hs c).2⟩⟩
  rw [hu, ht]

theorem State.setCond_boardMoves (s : State) (c : Fin 64) (v : Bool) : s.boardMoves (s.setCond c v) :=
  ⟨s.setCond_frame c v, fun c' => ⟨s.setCond_source c c' v, s.setCond_hold c c' v⟩⟩

theorem State.follow_boardMoves (s : State) (chosen : Source → Bool) : s.boardMoves (s.follow chosen) := by
  refine foldl_holds (fun t => s.boardMoves t) (State.followOne chosen) (fun t c h => ?_) _ s (.refl s)
  unfold State.followOne
  split
  · exact h.trans (t.setCond_boardMoves c _)
  · exact h

theorem State.boardMoves.sourceValue (h : s.boardMoves t) (src : Source) (held : Bool) :
    t.sourceValue src held = s.sourceValue src held := by
  rw [h.1]; cases src <;> rfl

/-! ## Facts after a change -/

/-- The fact reads the value of condition `c` or of a condition whose value the event may move. -/
def Fact.reads (moves : Fin 64 → Prop) : Fact → Prop
  | .bridge => moves condBridge
  | .paFault => moves condPaFault
  | .service => moves condService
  | .moving => moves condMoving
  | .lane n => moves (condLane n)
  | .follows c _ => moves c
  | _ => False

/-- A fact is kept by a change of conditions that moves none of those it reads. -/
theorem State.boardMoves.keeps (h : s.boardMoves t) {moves : Fin 64 → Prop}
    (still : ∀ c, ¬ moves c → t.cond c = s.cond c) (f : Fact) (hf : ¬ f.reads moves) (k : s.keeps f) : t.keeps f := by
  have frame := h.1
  have rest := h.2
  cases f with
  | sources => exact fun c lt => (rest c).1.trans (k c lt)
  | hold c src =>
    intro source
    rw [(rest c).2]
    exact k (by rwa [← (rest c).1])
  | follows c src =>
    intro hsrc
    rw [still c hf, h.sourceValue]
    exact k (by rwa [← (rest c).1])
  | bridge => rw [State.keeps, still _ hf, frame]; exact k
  | paFault => rw [State.keeps, still _ hf, frame]; exact k
  | service => rw [State.keeps, still _ hf, frame]; exact k
  | moving => rw [State.keeps, still _ hf, frame]; exact k
  | lane n => rw [State.keeps, still _ hf, frame]; exact k
  | _ => rw [frame]; exact k

theorem condLane_lt (n : Fin 8) : (condLane n).val < 16 := by
  have := n.isLt
  simp only [condLane]
  omega

/-- A change that moves no condition with a built-in source keeps every watched fact but those of the assignable
sources. -/
theorem State.boardMoves.keeps_of_builtIn (h : s.boardMoves t) (holds : s.Holds w)
    (still : ∀ c, (s.board.conds.row c).source = .fixed → t.cond c = s.cond c) (f : Fact) (on : w.on f)
    (notFollows : ∀ c src, f ≠ .follows c src) : t.keeps f := by
  have kept := holds f on
  have builtIn (needs : f.needs .sources) (c : Fin 64) (lt : c.val < 16) : t.cond c = s.cond c :=
    still c (holds.sources_of on needs c lt)
  cases f with
  | follows c src => exact absurd rfl (notFollows c src)
  | bridge | paFault | service => rw [State.keeps, builtIn (.inl rfl) _ (by decide), h.1]; exact kept
  | moving => rw [State.keeps, builtIn (.inl rfl) _ (by decide), h.1]; exact kept
  | lane n => rw [State.keeps, builtIn (.inl rfl) _ (condLane_lt n), h.1]; exact kept
  | _ => exact h.keeps (moves := fun _ => True) (fun _ no => (no trivial).elim) _ (by simp [Fact.reads]) kept

/-- A built-in source keeps the value held. -/
theorem State.keeps_follows_of_fixed (h : s.keeps .sources) {c : Fin 64} (lt : c.val < 16) (src : Source) :
    s.keeps (.follows c src) := by
  intro source
  rw [← source, h c lt]
  rfl

/-- The facts that read fixed condition `c`. -/
def Fact.fixed (c : Fin 64) : Fact → Prop
  | .bridge => c = condBridge
  | .paFault => c = condPaFault
  | .service => c = condService
  | .moving => c = condMoving
  | .lane n => c = condLane n
  | _ => False

theorem Fact.reads_eq {c : Fin 64} {f : Fact} (h : f.reads (· = c)) :
    Fact.fixed c f ∨ ∃ src, f = .follows c src := by
  cases f with
  | follows c' src => exact .inr ⟨src, by rw [show c' = c from h]⟩
  | bridge | paFault | service | moving | lane n => exact .inl (Eq.symm h)
  | _ => exact h.elim

theorem Fact.fixed_droppable (c : Fin 64) : Droppable (Fact.fixed c) := by
  rintro f g needs d
  cases g <;> simp only [Fact.fixed] at d <;> cases f <;> simp [Fact.needs] at needs

/-- A fixed condition is set by its built-in source: the facts that read it hold when they hold after it. -/
theorem State.Holds.setFixed {c : Fin 64} {v : Bool}
    (h : s.Holds (w.drop (Fact.fixed c) (Fact.fixed_droppable c))) (lt : c.val < 16)
    (again : ∀ f, Fact.fixed c f → w.on f → (s.setCond c v).keeps f) : (s.setCond c v).Holds w := by
  have moves := s.setCond_boardMoves c v
  have still : ∀ c', ¬ c' = c → (s.setCond c v).cond c' = s.cond c' := fun c' ne => by
    rw [State.cond_setCond, if_neg (Ne.symm ne)]
  intro f on
  by_cases fixed : Fact.fixed c f
  · exact again f fixed on
  · by_cases reads : f.reads (· = c)
    · obtain ⟨src, rfl⟩ := (Fact.reads_eq reads).resolve_left fixed
      have sources := h.sources_of (f := .follows c src) ⟨on, fixed⟩ (.inl rfl)
      exact State.keeps_follows_of_fixed (fun i hi => (moves.2 i).1.trans (sources i hi)) lt src
    · exact moves.keeps still f reads (h f ⟨on, fixed⟩)

/-- A fixed condition that no fact reads. -/
theorem State.Holds.setPlain (h : s.Holds w) {c : Fin 64} (v : Bool)
    (plain : c = condScanValid ∨ c = condTrimOk ∨ c = condFaultA ∨ c = condFaultB) :
    (s.setCond c v).Holds w := by
  refine (h.drop _ (Fact.fixed_droppable c)).setFixed (by rcases plain with rfl | rfl | rfl | rfl <;> decide)
    fun f fixed _ => ?_
  cases f with
  | lane n =>
    have lt := n.isLt
    have eq : c.val = 8 + n.val := congrArg Fin.val (show c = condLane n from fixed)
    rcases plain with rfl | rfl | rfl | rfl <;> simp [condScanValid, condTrimOk, condFaultA, condFaultB] at eq <;>
      omega
  | bridge | paFault | service | moving =>
    have eq := congrArg Fin.val (show c = _ from fixed)
    rcases plain with rfl | rfl | rfl | rfl <;>
      exact absurd eq (by decide)
  | _ => exact fixed.elim

/-- The facts that a following of the chosen sources restores. -/
def Fact.followed (chosen : Source → Bool) : Fact → Prop
  | .follows _ src => chosen src = true
  | _ => False

theorem Fact.followed_droppable (chosen : Source → Bool) : Droppable (Fact.followed chosen) := by
  rintro f g needs d
  cases g <;> simp only [Fact.followed] at d
  cases f <;> simp [Fact.needs] at needs

/-- A fixed condition reads the same after a following. -/
theorem State.cond_follow_of_fixed {c : Fin 64} (chosen : Source → Bool)
    (h : (s.board.conds.row c).source = .fixed) : (s.follow chosen).cond c = s.cond c := by
  rw [State.cond_follow, h]
  split <;> rfl

/-- SOURCE FOLLOWING restores the facts of the chosen sources, and keeps every other (R41). -/
theorem State.Holds.follow {chosen : Source → Bool}
    (h : s.Holds (w.drop (Fact.followed chosen) (Fact.followed_droppable chosen))) :
    (s.follow chosen).Holds w := by
  have moves := s.follow_boardMoves chosen
  have follows (c : Fin 64) (src : Source) (k : chosen src = false → s.keeps (.follows c src)) :
      (s.follow chosen).keeps (.follows c src) := by
    intro source
    rw [moves.sourceValue, State.cond_follow]
    rw [(moves.2 c).1] at source
    rw [source]
    split
    · rw [State.sourceValue_idem]
    · rename_i no
      exact k (by simpa using no) source
  intro f on
  by_cases chose : Fact.followed chosen f
  · cases f with
    | follows c src => exact follows c src fun no => absurd (show chosen src = true from chose) (by simp [no])
    | _ => exact chose.elim
  · by_cases isFollows : ∃ c src, f = .follows c src
    · obtain ⟨c, src, rfl⟩ := isFollows
      exact follows c src fun _ => h _ ⟨on, chose⟩
    · push Not at isFollows
      exact moves.keeps_of_builtIn h (fun c => State.cond_follow_of_fixed chosen) f ⟨on, chose⟩ isFollows

theorem State.Holds.follow_all (h : s.Holds w) (chosen : Source → Bool) : (s.follow chosen).Holds w :=
  State.Holds.follow (h.drop _ _)

/-- The facts that read what a ramp does. -/
def Fact.ofRamp (r : Fin 4) : Fact → Prop
  | .moving => True
  | .follows _ (.rampAt r' _) => r' = r
  | _ => False

theorem Fact.ofRamp_droppable (r : Fin 4) : Droppable (Fact.ofRamp r) := by
  rintro f g needs d
  cases g <;> simp only [Fact.ofRamp] at d <;> cases f <;> simp [Fact.needs] at needs

theorem State.Holds.followRamp {r : Fin 4} (h : s.Holds (w.drop (Fact.ofRamp r) (Fact.ofRamp_droppable r))) :
    (s.followRamp r).Holds w := by
  refine State.Holds.follow (State.Holds.setFixed (h.mono fun f on => ⟨on.1.1, fun ramp => ?_⟩) (by decide) ?_)
  · cases f with
    | moving => exact on.2 rfl
    | follows c src =>
      cases src with
      | rampAt r' p => exact on.1.2 (by simpa [Fact.followed, Fact.ofRamp] using ramp)
      | _ => exact ramp.elim
    | _ => exact ramp.elim
  · intro f fixed on
    cases f with
    | moving => rw [State.keeps, State.setCond_cond_self]; rw [State.setCond_frame]; rfl
    | lane n => exact absurd (congrArg Fin.val (show condMoving = condLane n from fixed)) (by simp [condMoving, condLane]; omega)
    | bridge | paFault | service => exact absurd (show condMoving = _ from fixed) (by decide)
    | _ => exact fixed.elim

/-- The facts that read the doors of a lane. -/
def Fact.ofLane (n : Fin 8) (f : Fact) : Prop := f = .lane n

theorem Fact.ofLane_droppable (n : Fin 8) : Droppable (Fact.ofLane n) := by
  rintro f g needs rfl
  cases f <;> simp [Fact.needs] at needs

theorem condLane_inj {n m : Fin 8} (h : condLane n = condLane m) : n = m := by
  have := congrArg Fin.val h
  simp only [condLane] at this
  exact Fin.ext (by omega)

theorem State.Holds.followLane {n : Fin 8} (h : s.Holds (w.drop (Fact.ofLane n) (Fact.ofLane_droppable n))) :
    (s.followLane (some n)).Holds w := by
  refine State.Holds.setFixed (h.mono fun f on => ⟨on.1, fun lane => ?_⟩) (condLane_lt n) ?_
  · subst lane; exact on.2 rfl
  · intro f fixed on
    cases f with
    | lane m =>
      obtain rfl := condLane_inj (show condLane n = condLane m from fixed)
      rw [State.keeps, State.setCond_cond_self]; rw [State.setCond_frame]; rfl
    | bridge | paFault | service | moving =>
      exact absurd (congrArg Fin.val (show condLane n = _ from fixed))
        (by simp [condBridge, condPaFault, condService, condMoving, condLane] <;> omega)
    | _ => exact fixed.elim

/-! ## FRAME conditions, ageing (R43 to R46) -/

theorem State.Holds.setFrameCond (h : s.Holds w) {c : Fin 64} (frame : (s.board.conds.row c).source = .frame)
    (v : Bool) (time : Nat) (hold : Option Nat) : (s.setFrameCond c v time hold).Holds w := by
  have eq := s.setFrameCond_frame c v time hold
  have source (c' : Fin 64) := s.setFrameCond_source c v time hold c'
  have other {c' : Fin 64} (ne : c' ≠ c) := s.setFrameCond_record_ne v time hold ne
  have still {c' : Fin 64} (ne : c' ≠ c) : (s.setFrameCond c v time hold).cond c' = s.cond c' := by
    rw [State.cond, other ne]; rfl
  have value (src : Source) (held : Bool) :
      (s.setFrameCond c v time hold).sourceValue src held = s.sourceValue src held := by
    rw [eq]; cases src <;> rfl
  have builtIn (sources : s.keeps .sources) (c' : Fin 64) (lt : c'.val < 16) :
      (s.setFrameCond c v time hold).cond c' = s.cond c' :=
    still fun same => Source.noConfusion ((sources c' lt).symm.trans (same ▸ frame))
  intro f on
  have kept := h f on
  cases f with
  | sources => exact fun c' lt => (source c').trans (kept c' lt)
  | hold c' src =>
    intro is ne
    by_cases same : c' = c
    · subst same; rw [source, frame] at is; exact absurd is.symm ne
    · rw [other same]; exact kept (by rwa [← source c']) ne
  | follows c' src =>
    intro hsrc
    rw [source] at hsrc
    by_cases same : c' = c
    · subst same; rw [← hsrc, frame]; rfl
    · rw [still same, value]; exact kept hsrc
  | bridge | paFault | service => rw [State.keeps, builtIn (h.sources_of on (.inl rfl)) _ (by decide), eq]; exact kept
  | moving => rw [State.keeps, builtIn (h.sources_of on (.inl rfl)) _ (by decide), eq]; exact kept
  | lane n => rw [State.keeps, builtIn (h.sources_of on (.inl rfl)) _ (condLane_lt n), eq]; exact kept
  | _ => rw [eq]; exact kept

theorem State.Holds.recompute (h : s.Holds w) (c : Fin 64) : (s.recompute c).Holds w := by
  have moves : s.boardMoves (s.recompute c) := s.setCond_boardMoves c _
  have value (c' : Fin 64) (fixed : (s.board.conds.row c').source = .fixed) :
      (s.recompute c).cond c' = s.cond c' := by
    rw [State.cond_recompute, fixed]; split <;> rfl
  intro f on
  by_cases isFollows : ∃ c src, f = .follows c src
  · obtain ⟨c', src, rfl⟩ := isFollows
    intro source
    rw [(moves.2 c').1] at source
    rw [moves.sourceValue, State.cond_recompute, source]
    split
    · rw [State.sourceValue_idem]
    · exact h _ on source
  · push Not at isFollows
    exact moves.keeps_of_builtIn h value f on isFollows

theorem State.Holds.ageAll (h : s.Holds w) : { s with board := s.board.ageAll }.Holds w := by
  have row (c : Fin 64) := s.board.ageAll_row c
  have cond (c : Fin 64) : State.cond { s with board := s.board.ageAll } c = s.cond c := by
    rw [State.cond, row]; rfl
  refine h.of_keeps fun f kept => ?_
  cases f with
  | sources => exact fun c lt => by rw [row]; exact kept c lt
  | hold c src => exact fun is => by rw [row] at is ⊢; exact kept is
  | follows c src =>
    intro source
    rw [row] at source
    rw [cond]
    exact kept source
  | bridge | paFault | service | moving | lane n => rw [State.keeps, cond]; exact kept
  | _ => exact kept

end Sys2Proof.Machine
end

section
/-! PROOFS. OUT: the timers move the fields of the timers alone, and what every operation of OUT keeps (R77 to
R113). -/

namespace Sys2Proof.Machine

/-! ## The timers move their own fields alone (R98 to R113) -/

/-- A channel record without what its timer moves. -/
def Channel.untimed (c : Channel) : Channel :=
  { c with count := 0, timerOut := false, aInForce := 0, phase := .waitA, running := false }

/-- The table without what the timers move. -/
def Chans.untimed (cs : Chans) : Chans := cs.map Channel.untimed

namespace Chans

theorem row_untimed (cs : Chans) (ch : Fin 16) : cs.untimed.row ch = (cs.row ch).untimed := by
  simp [Chans.untimed, Tbl.row]

theorem ext_row {cs cs' : Chans} (h : ∀ ch, cs'.row ch = cs.row ch) : cs' = cs :=
  Vector.ext fun i lt => h ⟨i, lt⟩

theorem untimed_put {cs : Chans} {ch : Fin 16} {c : Channel} (h : c.untimed = (cs.row ch).untimed) :
    untimed (cs.put ch c) = cs.untimed := by
  refine ext_row fun i => ?_
  rw [row_untimed, row_untimed, Tbl.row_put]
  split
  · rename_i same; subst same; exact h
  · rfl

theorem untimed_onMembers (cs : Chans) (h : Fin 16) {f : Channel → Channel}
    (hf : ∀ c, (f c).untimed = c.untimed) : untimed (onMembers cs h f) = cs.untimed :=
  foldl_keeps untimed (fun cs ch => cs.put ch (f (cs.row ch))) (fun _ _ => untimed_put (hf _)) _ cs

theorem untimed_zeroCount (cs : Chans) (h : Fin 16) : untimed (zeroCount cs h) = cs.untimed :=
  untimed_onMembers cs h fun _ => rfl

theorem untimed_setOut (cs : Chans) (h : Fin 16) (out : Bool) : untimed (setOut cs h out) = cs.untimed :=
  untimed_onMembers cs h fun _ => rfl

theorem untimed_takeA (cs : Chans) (h : Fin 16) : untimed (takeA cs h) = cs.untimed := by
  unfold takeA
  split
  · exact untimed_onMembers cs h fun _ => rfl
  · rfl

theorem untimed_settle (cs : Chans) (h : Fin 16) : untimed (settle cs h) = cs.untimed := by
  have counted : untimed (if countingHead cs h then cs else zeroCount cs h) = cs.untimed := by
    split
    · rfl
    · exact untimed_zeroCount cs h
  unfold settle
  dsimp only
  generalize (if countingHead cs h then cs else zeroCount cs h) = ds at counted ⊢
  split
  · refine (untimed_onMembers _ _ ?_).trans counted
    exact fun _ => rfl
  · rw [untimed_setOut]
    split
    · exact counted
    · refine (untimed_onMembers _ _ ?_).trans counted
      exact fun _ => rfl
  · exact counted

theorem untimed_advanceCount (c : Channel) : (advanceCount c).1.untimed = c.untimed := by
  unfold advanceCount; split <;> rfl

theorem untimed_advanceTimer (cs : Chans) (h : Fin 16) : untimed (advanceTimer cs h).1 = cs.untimed := by
  have low := untimed_put (untimed_advanceCount (cs.row (partner h)))
  unfold advanceTimer
  split
  · dsimp only
    split
    · exact (untimed_put (untimed_advanceCount _)).trans low
    · exact low
  · exact untimed_put (untimed_advanceCount _)

theorem untimed_advanceDue (n : Nat) (st : TimerStep) (h : Fin 16) :
    untimed (advanceDue n st h).cs = st.cs.untimed := by
  unfold advanceDue
  split
  · exact untimed_advanceTimer st.cs h
  · rfl

theorem untimed_followWrap (st : TimerStep) (h : Fin 16) : untimed (followWrap st h).cs = st.cs.untimed := by
  unfold followWrap
  split
  · rfl
  · split
    · rfl
    · split
      · exact untimed_zeroCount _ _
      · rfl
    · split
      · dsimp only
        have started := (untimed_zeroCount (st.cs.put h { st.cs.row h with running := true }) h).trans
          (untimed_put rfl)
        split <;> exact started
      · rfl

theorem untimed_followWraps (n : Nat) (st : TimerStep) : untimed (followWraps n st).cs = st.cs.untimed := by
  induction n generalizing st with
  | zero => rfl
  | succ n ih =>
    rw [followWraps, ih]
    exact foldl_keeps (fun st : TimerStep => untimed st.cs) followWrap untimed_followWrap _ st

theorem untimed_compareTimer (st : TimerStep) (cs : Chans) (h : Fin 16) :
    untimed (compareTimer st cs h) = cs.untimed := by
  unfold compareTimer
  split
  · dsimp only
    generalize (compareEvents _ _ _ _ _) = events
    have out := (untimed_setOut (cs.put h { cs.row h with phase := events.2 }) h events.1).trans
      (untimed_put rfl)
    generalize setOut _ _ _ = ds at out ⊢
    split
    · split
      · refine (untimed_zeroCount _ h).trans (.trans (untimed_put ?_) out)
        rfl
      · exact out
    · exact out
  · rfl

theorem untimed_stepTimers (n : Nat) (cs : Chans) : untimed (stepTimers n cs).1 = cs.untimed := by
  unfold stepTimers
  dsimp only
  rw [foldl_keeps untimed, foldl_keeps untimed, foldl_keeps untimed, untimed_followWraps,
    foldl_keeps (fun st : TimerStep => untimed st.cs)]
  · exact untimed_advanceDue n
  · exact untimed_takeA
  · exact untimed_compareTimer _
  · intro ds h
    split
    · exact untimed_settle ds h
    · rfl

theorem untimed_enterMode (cs : Chans) (ch : Fin 16) : untimed (enterMode cs ch) = cs.untimed := untimed_put rfl

theorem untimed_joinOrSplit (old cs : Chans) (e : Fin 16) : untimed (joinOrSplit old cs e) = cs.untimed := by
  unfold joinOrSplit
  refine foldl_keeps untimed _ (fun ds ch => ?_) _ cs
  exact untimed_put rfl

theorem untimed_timerWritten (old cs : Chans) (ch : Fin 16) : untimed (timerWritten old cs ch) = cs.untimed := by
  have sync : untimed (syncWritten old cs ch) = cs.untimed := by
    unfold syncWritten
    split
    · split
      · rfl
      · exact (untimed_zeroCount _ _).trans (untimed_put rfl)
    · rfl
  have mode (ds : Chans) : untimed (modeWritten old ds ch) = ds.untimed := by
    unfold modeWritten
    split
    · rfl
    · exact foldl_keeps untimed enterMode untimed_enterMode _ ds
  unfold timerWritten
  dsimp only
  rw [untimed_settle, untimed_settle]
  split
  · exact untimed_joinOrSplit old cs ch
  · split
    · exact (mode _).trans sync
    · rfl

theorem untimed_resetTimers (cs : Chans) : untimed (resetTimers cs) = cs.untimed := by
  unfold resetTimers
  dsimp only
  rw [foldl_keeps untimed _ (fun ds ch => untimed_settle ds _)]
  refine foldl_keeps untimed resetTimer (fun ds ch => ?_) _ cs
  exact untimed_put rfl

end Chans

/-- What the timers leave of a channel's record. -/
theorem untimed_row {cs cs' : Chans} (h : cs'.untimed = cs.untimed) (ch : Fin 16) :
    (cs'.row ch).untimed = (cs.row ch).untimed := by
  rw [← Chans.row_untimed, ← Chans.row_untimed, h]

theorem Channel.set_of_untimed {c c' : Channel} (h : c'.untimed = c.untimed) : c'.set = c.set :=
  (congrArg Channel.set h : c'.untimed.set = c.untimed.set)

/-! ## Channel records replaced -/

variable {s t : State} {w : Watch}

/-- A channel record is replaced by one of the same configuration that is cut off as before, is as safe, and is
requested ON only where the record before may be. -/
structure Channel.Moves (m : Mode) (c c' : Channel) : Prop where
  config : c'.set.config = c.set.config
  cutOff : c'.cutOff = c.cutOff
  owner : c'.set.owner = c.set.owner
  safe : c.safe → c'.safe
  level : c.levelOk m → c'.levelOk m

theorem Channel.Moves.refl (m : Mode) (c : Channel) : c.Moves m c := ⟨rfl, rfl, rfl, id, id⟩

theorem Channel.Moves.trans {m : Mode} {c c' c'' : Channel} (h : c.Moves m c') (g : c'.Moves m c'') :
    c.Moves m c'' :=
  ⟨g.config.trans h.config, g.cutOff.trans h.cutOff, g.owner.trans h.owner, g.safe ∘ h.safe, g.level ∘ h.level⟩

theorem Channel.Moves.of_untimed (m : Mode) {c c' : Channel} (h : c'.untimed = c.untimed) : c.Moves m c' := by
  have set := Channel.set_of_untimed h
  have restart : c'.untimed.restart = c.untimed.restart := congrArg Channel.restart h
  have conducting : c'.untimed.conducting = c.untimed.conducting := congrArg Channel.conducting h
  have requested : c'.untimed.requested = c.untimed.requested := congrArg Channel.requested h
  change c'.restart = c.restart at restart
  change c'.conducting = c.conducting at conducting
  change c'.requested = c.requested at requested
  have cutOff : c'.cutOff = c.cutOff := by rw [Channel.cutOff, restart]; rfl
  exact ⟨by rw [set], cutOff, by rw [set], by rw [Channel.safe, Channel.safe, conducting, cutOff, set]; exact id,
    by rw [Channel.levelOk, Channel.levelOk, set, requested]; exact id⟩

/-- The facts that read the channels. -/
def Fact.ofChans : Fact → Prop
  | .output _ | .level _ | .levelIf _ _ | .config _ _ | .noJump _ _ | .follows _ (.channelCut _) => True
  | _ => False

theorem State.keeps_setChans {f : Fact} (other : ¬ f.ofChans) (cs : Chans) (kept : s.keeps f) :
    (s.setChans cs).keeps f := by
  cases f with
  | output | level | levelIf | config | noJump => exact (other trivial).elim
  | follows c src =>
    cases src with
    | channelCut ch => exact (other trivial).elim
    | _ => exact kept
  | _ => exact kept

theorem State.keeps_follows_setChans {cs : Chans} {c : Fin 64} {ch : Fin 16}
    (same : (cs.row ch).cutOff = (s.chans.row ch).cutOff) (kept : s.keeps (.follows c (.channelCut ch))) :
    (s.setChans cs).keeps (.follows c (.channelCut ch)) :=
  fun source => (kept source).trans same.symm

theorem State.Holds.setChans (h : s.Holds w) {cs : Chans}
    (moves : ∀ ch, (s.chans.row ch).Moves s.req.mode (cs.row ch)) : (s.setChans cs).Holds w := by
  refine h.of_keeps fun f kept => ?_
  by_cases reads : f.ofChans
  · cases f with
    | output ch => exact (moves ch).safe kept
    | level ch => exact (moves ch).level kept
    | levelIf ch o => exact fun owner => (moves ch).level (kept ((moves ch).owner.symm.trans owner))
    | config ch c => exact (moves ch).config.trans kept
    | noJump ch c =>
      intro active now
      have config : (cs.row ch).set.config = (s.chans.row ch).set.config := (moves ch).config
      exact config.trans (kept active (config ▸ now))
    | follows c src =>
      cases src with
      | channelCut ch => exact State.keeps_follows_setChans (moves ch).cutOff kept
      | _ => exact reads.elim
    | _ => exact reads.elim
  · exact State.keeps_setChans reads cs kept

theorem State.Holds.setUntimed (h : s.Holds w) {cs : Chans} (same : cs.untimed = Chans.untimed s.chans) :
    (s.setChans cs).Holds w :=
  h.setChans fun ch => .of_untimed _ (untimed_row same ch)

theorem State.Holds.setChan (h : s.Holds w) {ch : Fin 16} {c : Channel}
    (moves : (s.chans.row ch).Moves s.req.mode c) : (s.setChan ch c).Holds w := by
  refine h.setChans fun i => ?_
  rw [Tbl.row_put]
  split
  · rename_i same; subst same; exact moves
  · exact .refl _ _

/-- The facts that read whether a channel conducts and whether it is cut off. -/
def Fact.ofCut (ch : Fin 16) : Fact → Prop
  | .output ch' => ch' = ch
  | .follows _ (.channelCut ch') => ch' = ch
  | _ => False

theorem Fact.ofCut_droppable (ch : Fin 16) : Droppable (Fact.ofCut ch) := by
  rintro f g needs d
  cases g <;> simp only [Fact.ofCut] at d <;> cases f <;> simp [Fact.needs] at needs

/-- The facts that read whether a channel conducts. -/
def Fact.ofOutput (ch : Fin 16) (f : Fact) : Prop := f = .output ch

theorem Fact.ofOutput_droppable (ch : Fin 16) : Droppable (Fact.ofOutput ch) := by
  rintro f g needs rfl
  cases f <;> simp [Fact.needs] at needs

theorem State.conduct_frame (s : State) (ch : Fin 16) : s.conduct ch = s.setChans (s.conduct ch).chans := by
  unfold State.conduct
  dsimp only
  split <;> rfl

/-- The facts that read the channels, but for whether they conduct, stand when their records do but for that. -/
theorem State.keeps_setChans_of_eq {cs : Chans} {f : Fact} (reads : f.ofChans) (notOutput : ∀ ch, f ≠ .output ch)
    (set : ∀ ch, (cs.row ch).set = (s.chans.row ch).set)
    (requested : ∀ ch, (cs.row ch).requested = (s.chans.row ch).requested)
    (restart : ∀ ch, (cs.row ch).restart = (s.chans.row ch).restart) (kept : s.keeps f) :
    (s.setChans cs).keeps f := by
  cases f with
  | output ch => exact absurd rfl (notOutput ch)
  | level ch =>
    change ((cs.row ch).levelOk s.req.mode)
    rw [Channel.levelOk, set, requested]
    exact kept
  | levelIf ch o =>
    change ((cs.row ch).set.owner = o → (cs.row ch).levelOk s.req.mode)
    rw [Channel.levelOk, set, requested]
    exact kept
  | config ch c =>
    change (cs.row ch).set.config = c
    rw [set]; exact kept
  | noJump ch c =>
    change c.active = true → (cs.row ch).set.config.active = true → (cs.row ch).set.config = c
    rw [set]; exact kept
  | follows c src =>
    cases src with
    | channelCut ch =>
      refine State.keeps_follows_setChans ?_ kept
      rw [Channel.cutOff, restart]; rfl
    | _ => exact reads.elim
  | _ => exact reads.elim

theorem State.Holds.conduct_restores {ch : Fin 16}
    (h : s.Holds (w.drop (Fact.ofOutput ch) (Fact.ofOutput_droppable ch))) : (s.conduct ch).Holds w := by
  intro f on
  by_cases here : f = .output ch
  · subst here; exact s.conduct_safe ch
  · have kept := h f ⟨on, here⟩
    by_cases output : ∃ i, f = .output i
    · obtain ⟨i, rfl⟩ := output
      rw [State.keeps, s.conduct_chan_ne (fun same => here (by rw [same]))]
      exact kept
    · push Not at output
      rw [s.conduct_frame]
      by_cases reads : f.ofChans
      · exact State.keeps_setChans_of_eq reads output (s.conduct_set ch) (s.conduct_requested ch)
          (s.conduct_restart ch) kept
      · exact State.keeps_setChans reads _ kept

theorem State.Holds.conduct (h : s.Holds w) (ch : Fin 16) : (s.conduct ch).Holds w :=
  State.Holds.conduct_restores (h.drop _ _)

theorem State.Holds.conductAll (h : s.Holds w) (chs : List (Fin 16)) : (s.conductAll chs).Holds w :=
  foldl_holds (fun s => s.Holds w) State.conduct (fun _ ch h => h.conduct ch) chs s h

/-! ## Levels, compares and forcing (R83, R87 to R91, R105) -/

theorem State.Holds.setLevel (h : s.Holds w) {ch : Fin 16} {on : Bool}
    (may : on = true → s.req.mode = .setup → (s.chans.row ch).set.owner = .free) : (s.setLevel ch on).Holds w := by
  unfold State.setLevel
  dsimp only
  refine State.Holds.conduct ?_ ch
  refine h.setChan ⟨rfl, rfl, rfl, id, fun _ setup owned => ?_⟩
  cases on with
  | false => rfl
  | true => exact absurd (may rfl setup) owned

theorem State.Holds.ownerLevel (h : s.Holds w) (o : Owner) (ch : Option (Fin 16)) (on : Bool) :
    (s.ownerLevel o ch on).Holds w := by
  unfold State.ownerLevel
  split
  · exact h
  · split
    · rename_i taken
      exact h.setLevel fun yes setup => absurd ⟨yes, setup⟩ taken.2
    · exact h

theorem State.Holds.compareUpdate (h : s.Holds w) (o : Owner) (ch : Option (Fin 16)) (a : Nat) :
    (s.compareUpdate o ch a).Holds w := by
  unfold State.compareUpdate
  split
  · exact h
  · rename_i ch
    dsimp only
    split
    · refine State.Holds.conductAll (h.setChans fun i => ?_) _
      have timed := untimed_row (Chans.untimed_settle
        (s.chans.put ch { s.chans.row ch with set := { (s.chans.row ch).set with cmpA := a } }) (head
          (s.chans.put ch { s.chans.row ch with set := { (s.chans.row ch).set with cmpA := a } }) ch)) i
      have put : (s.chans.row i).Moves s.req.mode ((s.chans.put ch
          { s.chans.row ch with set := { (s.chans.row ch).set with cmpA := a } }).row i) := by
        rw [Tbl.row_put]
        split
        · rename_i same; subst same; exact ⟨rfl, rfl, rfl, id, id⟩
        · exact .refl _ _
      exact put.trans (.of_untimed _ timed)
    · exact h

theorem State.Holds.setStatus (h : s.Holds w) (ch : Fin 16) (x : ForceStatus) :
    (s.setChan ch { s.chans.row ch with status := x }).Holds w :=
  h.setChan ⟨rfl, rfl, rfl, id, id⟩

theorem State.Holds.handOwner (h : s.Holds w) (mk : Owner → Fin 16 → Instr) (ch : Fin 16) :
    (s.handOwner mk ch).Holds w := by
  unfold State.handOwner
  dsimp only
  split
  · exact h
  · exact h.hand _

theorem State.Holds.releaseIfStill (h : s.Holds w) (ch : Fin 16) : (s.releaseIfStill ch).Holds w := by
  unfold State.releaseIfStill
  dsimp only
  split
  · exact h.setStatus ch _
  · exact h

theorem State.Holds.judgeForcing (h : s.Holds w) (ch : Fin 16) : (s.judgeForcing ch).Holds w := by
  unfold State.judgeForcing
  dsimp only
  split
  · split
    · exact h
    · exact (h.setStatus ch _).conduct ch
    · refine State.Holds.conduct ?_ ch
      split
      · exact h.setStatus ch _
      · exact (h.setStatus ch _).handOwner _ ch
  · split
    · exact ((h.setStatus ch _).releaseIfStill ch).conduct ch
    · exact h

/-! ## Current supervision, cut-off and restart (R92, R93) -/

theorem State.Holds.supervise (h : s.Holds w) (ch : Fin 16) : (s.supervise ch).Holds w := by
  unfold State.supervise
  dsimp only
  split
  · exact h
  · split
    · split
      · exact h.setChan ⟨rfl, rfl, rfl, id, id⟩
      · exact h
    · split
      · exact h.setChan ⟨rfl, rfl, rfl, id, id⟩
      · exact h

theorem State.Holds.measure (h : s.Holds w) (ch : Fin 16) (mA : Nat) : (s.measure ch mA).Holds w := by
  unfold State.measure
  dsimp only
  split
  · have measured := h.setChan (ch := ch) (c := { s.chans.row ch with current := mA }) ⟨rfl, rfl, rfl, id, id⟩
    exact measured.supervise ch
  · exact h

/-- A channel's restart field is replaced: the facts that read its cut-off are suspended. -/
theorem State.Holds.setRestart (h : s.Holds w) (ch : Fin 16) {c : Channel}
    (config : c.set.config = (s.chans.row ch).set.config) (owner : c.set.owner = (s.chans.row ch).set.owner)
    (level : (s.chans.row ch).levelOk s.req.mode → c.levelOk s.req.mode) :
    (s.setChan ch c).Holds (w.drop (Fact.ofCut ch) (Fact.ofCut_droppable ch)) := by
  have row (i : Fin 16) : (s.chans.put ch c).row i = if ch = i then c else s.chans.row i := Tbl.row_put _ _ _ _
  change (s.setChans (s.chans.put ch c)).Holds _
  generalize s.chans.put ch c = cs at row
  refine h.drop_of_keeps _ fun f other kept => ?_
  by_cases reads : f.ofChans
  · cases f with
    | output i =>
      have ne : ch ≠ i := fun same => other same.symm
      change (cs.row i).safe
      rw [row, if_neg ne]
      exact kept
    | level i =>
      change (cs.row i).levelOk s.req.mode
      rw [row]
      split
      · rename_i same; subst same; exact level kept
      · exact kept
    | levelIf i o =>
      change (cs.row i).set.owner = o → (cs.row i).levelOk s.req.mode
      rw [row]
      split
      · rename_i same; subst same; exact fun is => level (kept (owner.symm.trans is))
      · exact kept
    | config i c' =>
      change (cs.row i).set.config = c'
      rw [row]
      split
      · rename_i same; subst same; exact config.trans kept
      · exact kept
    | noJump i c' =>
      change c'.active = true → (cs.row i).set.config.active = true → (cs.row i).set.config = c'
      rw [row]
      split
      · rename_i same; subst same; rw [config]; exact kept
      · exact kept
    | follows c' src =>
      cases src with
      | channelCut i =>
        have ne : ch ≠ i := fun same => other same.symm
        exact State.keeps_follows_setChans (by rw [row, if_neg ne]) kept
      | _ => exact reads.elim
    | _ => exact reads.elim
  · exact State.keeps_setChans reads cs kept

theorem State.Holds.followCut {ch : Fin 16}
    (h : s.Holds (w.drop (Fact.ofCut ch) (Fact.ofCut_droppable ch)))
    (output : w.on (.output ch) → s.keeps (.output ch)) : (s.followCut ch).Holds w := by
  refine State.Holds.follow fun f on => ?_
  by_cases here : f = .output ch
  · subst here; exact output on.1
  · refine h f ⟨on.1, fun cut => ?_⟩
    cases f with
    | output i => exact here (by rw [show i = ch from cut])
    | follows c src =>
      cases src with
      | channelCut i => exact on.2 (by simpa [Fact.followed, Fact.ofCut] using cut)
      | _ => exact cut.elim
    | _ => exact cut.elim

theorem State.keeps_output_of_safe {ch : Fin 16} (h : (s.chans.row ch).safe) : s.keeps (.output ch) := h

theorem State.Holds.cutOffNow (h : s.Holds w) (ch : Fin 16) : (s.cutOffNow ch).Holds w := by
  unfold State.cutOffNow
  dsimp only
  have cut := h.setRestart ch (c := { s.chans.row ch with
    restart := match (s.chans.row ch).set.restartDelay.millis with
      | none => Restart.waitingManual
      | some d => Restart.running (s.clock + ms d)
    supervision := none, cutOffs := satAdd 255 (s.chans.row ch).cutOffs 1 }) rfl rfl id
  generalize s.setChan ch _ = t at cut ⊢
  refine State.Holds.notice (State.Holds.followCut ((cut.conduct ch).handOwner _ ch) fun _ => ?_) _ _
  refine State.keeps_output_of_safe ?_
  rw [State.handOwner_chans]
  exact t.conduct_safe ch

theorem State.Holds.leaveCutOff (h : s.Holds w) (ch : Fin 16) : (s.leaveCutOff ch).Holds w := by
  have left := h.setRestart ch (c := { s.chans.row ch with restart := .none }) rfl rfl id
  unfold State.leaveCutOff
  dsimp only
  generalize s.setChan ch _ = t at left ⊢
  have handed : (if (s.chans.row ch).status = .clear then t else t.handOwner .forcedEvent ch).Holds
      (w.drop (Fact.ofCut ch) (Fact.ofCut_droppable ch)) := by
    split
    · exact left
    · exact left.handOwner _ ch
  generalize (if (s.chans.row ch).status = .clear then t else t.handOwner .forcedEvent ch) = u at handed ⊢
  have suspended := (handed.releaseIfStill ch)
  refine State.Holds.conduct_restores (State.Holds.follow fun f on => suspended f ⟨on.1.1, fun cut => ?_⟩)
  cases f with
  | output i => exact on.1.2 (by rw [Fact.ofOutput, show i = ch from cut])
  | follows c src =>
    cases src with
    | channelCut i => exact on.2 (by simpa [Fact.followed, Fact.ofCut] using cut)
    | _ => exact cut.elim
  | _ => exact cut.elim

end Sys2Proof.Machine
end

section
/-! PROOFS. What every event of OUT keeps: the timer step, the requests that name a channel, the write of a channel
entry, and OUT's resets (R77 to R113). -/

namespace Sys2Proof.Machine
variable {s t : State} {w : Watch}

/-- SCAN's records are replaced by others with the same threshold states. -/
theorem State.Holds.setScan (h : s.Holds w) {x : Scan} (account : s.scan.accounted → x.accounted)
    (tripped : ∀ k, (x.thresholds.row k).tripped = (s.scan.thresholds.row k).tripped) : (s.setScan x).Holds w := by
  refine h.of_keeps fun f kept => ?_
  cases f with
  | account => exact account kept
  | follows c src =>
    cases src with
    | threshold k => exact fun source => (kept source).trans (tripped k).symm
    | _ => exact kept
  | _ => exact kept

/-! ## TIMER STEP (R56, R99 to R111) -/

theorem State.Holds.releaseAtWrap (h : s.Holds w) (ch : Fin 16) : (s.releaseAtWrap ch).Holds w := by
  unfold State.releaseAtWrap
  dsimp only
  split
  · exact (h.setStatus ch .clear).conduct ch
  · exact h

theorem State.Holds.tickGenerators (h : s.Holds w) : s.tickGenerators.Holds w := by
  unfold State.tickGenerators
  dsimp only
  generalize s.scan.genA.tick s.scan.settings.nA .reference = a
  generalize (if (match s.scan.genB.input with | .reference => true | .a => a.2) = true then
    s.scan.genB.tick s.scan.settings.nB s.scan.settings.bInput else (s.scan.genB, false)) = b
  have set := h.setScan (x := { s.scan with genA := a.1, genB := b.1 }) id (fun _ => rfl)
  cases a.2 <;> cases b.2
  · exact set
  · exact set.hand _
  · exact set.hand _
  · exact (set.hand _).hand _

theorem State.Holds.timerStep (h : s.Holds w) : s.timerStep.Holds w := by
  unfold State.timerStep
  dsimp only
  have stepped := (h.clock (s.clock + 1)).setUntimed (Chans.untimed_stepTimers (s.clock + 1) s.chans)
  generalize State.setChans _ _ = t at stepped ⊢
  refine State.Holds.tickGenerators (State.Holds.conductAll (foldl_holds (fun s => s.Holds w) _ (fun u ch hu => ?_) _ t
    stepped) _)
  split
  · exact hu.releaseAtWrap ch
  · exact hu

/-! ## Requests that name a channel (R84, R90, R94, R108) -/

theorem State.Holds.onChannel (h : s.Holds w) (rq : Requester) (op ch : Byte) {f : Fin 16 → State → Code × State}
    (hf : ∀ ch, (f ch s).2.Holds w) : (s.onChannel rq op ch f).Holds w := by
  unfold State.onChannel
  split
  · exact h.reply _ _ _ _
  · exact (hf _).reply _ _ _ _

theorem State.Holds.channelSet (h : s.Holds w) (level : Byte) (ch : Fin 16) : (channelSet level ch s).2.Holds w := by
  unfold Machine.channelSet
  split
  · exact h
  · dsimp only
    split
    · exact h
    · rename_i free
      split
      · exact h
      · exact h.setLevel fun _ _ => not_not.mp free

theorem State.Holds.channelRestore (h : s.Holds w) (ch : Fin 16) : (channelRestore ch s).2.Holds w := by
  unfold Machine.channelRestore
  split
  · dsimp only
    exact h.leaveCutOff ch
  · exact h

theorem State.Holds.forceClear (h : s.Holds w) (ch : Fin 16) : (forceClear ch s).2.Holds w := by
  unfold Machine.forceClear
  dsimp only
  split
  · split
    · exact h
    · exact ((h.setStatus ch _).releaseIfStill ch).conduct ch
  · exact h

theorem State.Holds.triggerClear (h : s.Holds w) (ch : Fin 16) : (triggerClear ch s).2.Holds w := by
  unfold Machine.triggerClear
  dsimp only
  split
  · exact h
  · split
    · split
      · refine State.Holds.conductAll (h.setUntimed ?_) _
        rw [Chans.untimed_settle, Chans.untimed_zeroCount]
        refine Chans.untimed_put ?_
        rfl
      · exact h
    · exact h

/-! ## The channel entry write (R78, R91, R95) -/

/-- The facts that a stored channel entry suspends until OUT acts on it. -/
def Fact.stored (p : Fin 16 → Prop) : Fact → Prop
  | .output ch | .level ch => p ch
  | _ => False

theorem Fact.stored_droppable (p : Fin 16 → Prop) : Droppable (Fact.stored p) := by
  rintro f g needs d
  cases g <;> simp only [Fact.stored] at d <;> cases f <;> simp [Fact.needs] at needs

theorem State.Holds.superviseIf (h : s.Holds w) (p : Prop) [Decidable p] (ch : Fin 16) :
    (if p then s else s.supervise ch).Holds w := by
  split
  · exact h
  · exact h.supervise ch

/-- OUT acts on a stored channel entry: the level rule and the safety of the channel hold again. -/
theorem State.Holds.channelWritten {old : Chans} {ch : Fin 16} {p : Fin 16 → Prop}
    (h : s.Holds (w.drop (Fact.stored p) (Fact.stored_droppable p)))
    (watched : w.on (.level ch) → w.on (.levelIf ch (old.row ch).set.owner)) :
    (s.channelWritten old ch).Holds
      (w.drop (Fact.stored fun i => p i ∧ i ≠ ch) (Fact.stored_droppable _)) := by
  have levelled : (if (old.row ch).set.owner = (s.chans.row ch).set.owner then s
      else s.setChan ch { s.chans.row ch with requested := false }).Holds
      ((w.drop (Fact.stored fun i => p i ∧ i ≠ ch) (Fact.stored_droppable _)).drop (Fact.ofOutput ch)
        (Fact.ofOutput_droppable ch)) := by
    have others {t : State} (ht : t.Holds (w.drop (Fact.stored p) (Fact.stored_droppable p)))
        (level : w.on (.level ch) → t.keeps (.level ch)) : t.Holds
        ((w.drop (Fact.stored fun i => p i ∧ i ≠ ch) (Fact.stored_droppable _)).drop (Fact.ofOutput ch)
          (Fact.ofOutput_droppable ch)) := by
      intro f on
      by_cases here : f = .level ch
      · subst here; exact level on.1.1
      · refine ht f ⟨on.1.1, fun stored => ?_⟩
        cases f with
        | output i =>
          refine on.1.2 ⟨stored, fun same => on.2 ?_⟩
          rw [Fact.ofOutput, same]
        | level i => exact on.1.2 ⟨stored, fun same => here (by rw [same])⟩
        | _ => exact stored.elim
    split
    · rename_i same
      refine others h fun on => ?_
      exact h (.levelIf ch (old.row ch).set.owner) ⟨watched on, id⟩ same.symm
    · have off := h.setChan (ch := ch) (c := { s.chans.row ch with requested := false })
        ⟨rfl, rfl, rfl, id, fun _ _ _ => rfl⟩
      refine others off fun _ => ?_
      change ((s.chans.put ch _).row ch).levelOk _
      rw [Tbl.row_put_self]
      exact fun _ _ => rfl
  unfold State.channelWritten
  dsimp only
  generalize (if (old.row ch).set.owner = (s.chans.row ch).set.owner then s
      else s.setChan ch { s.chans.row ch with requested := false }) = t at levelled ⊢
  have timed := levelled.setUntimed (Chans.untimed_timerWritten old t.chans ch)
  generalize t.setChans _ = u at timed ⊢
  refine State.Holds.superviseIf ?_ _ ch
  have judged : (if (old.row ch).set.forcing = (s.chans.row ch).set.forcing
      ∧ (old.row ch).set.forced = (s.chans.row ch).set.forced
      ∧ (old.row ch).set.latched = (s.chans.row ch).set.latched then u else u.judgeForcing ch).Holds
      ((w.drop (Fact.stored fun i => p i ∧ i ≠ ch) (Fact.stored_droppable _)).drop (Fact.ofOutput ch)
        (Fact.ofOutput_droppable ch)) := by
    split
    · exact timed
    · exact timed.judgeForcing ch
  exact judged.conduct_restores.conduct _

/-! ## Resets (R97, R113) -/

/-- The facts that read whether some channel is cut off. -/
def Fact.ofCuts : Fact → Prop
  | .follows _ (.channelCut _) => True
  | _ => False

theorem Fact.ofCuts_droppable : Droppable Fact.ofCuts := by
  rintro f g needs d
  cases g <;> simp only [Fact.ofCuts] at d
  cases f <;> simp [Fact.needs] at needs

theorem Channel.opsReset_safe {c : Channel} (h : c.safe) : c.opsReset.safe :=
  fun on => ⟨rfl, (h on).2⟩

/-- The table with every channel's own reset. -/
theorem opsReset_row (cs : Chans) (ch : Fin 16) :
    ((List.finRange 16).foldl (fun cs ch => cs.put ch (cs.row ch).opsReset) cs).row ch = (cs.row ch).opsReset := by
  have fold (l : List (Fin 16)) (nodup : l.Nodup) (cs : Chans) :
      (l.foldl (fun cs ch => cs.put ch (cs.row ch).opsReset) cs).row ch =
        if ch ∈ l then (cs.row ch).opsReset else cs.row ch := by
    induction l generalizing cs with
    | nil => simp
    | cons a l ih =>
      obtain ⟨fresh, nodup⟩ := List.nodup_cons.mp nodup
      rw [List.foldl_cons, ih nodup, Tbl.row_put]
      by_cases same : a = ch
      · subst same; simp [fresh]
      · simp [same, Ne.symm same]
  rw [fold _ (List.nodup_finRange 16)]
  simp

theorem State.Holds.opsResetChans (h : s.Holds w) {cs : Chans}
    (reset : ∀ ch, (cs.row ch) = (s.chans.row ch).opsReset) :
    (s.setChans cs).Holds (w.drop Fact.ofCuts Fact.ofCuts_droppable) := by
  refine h.drop_of_keeps _ fun f other kept => ?_
  by_cases reads : f.ofChans
  · cases f with
    | output ch => change (cs.row ch).safe; rw [reset]; exact Channel.opsReset_safe kept
    | level ch => change (cs.row ch).levelOk _; rw [reset]; exact fun _ _ => rfl
    | levelIf ch o => change _ → (cs.row ch).levelOk _; rw [reset]; exact fun _ _ _ => rfl
    | config ch c => change (cs.row ch).set.config = c; rw [reset]; exact kept
    | noJump ch c =>
      change c.active = true → (cs.row ch).set.config.active = true → (cs.row ch).set.config = c
      rw [reset]; exact kept
    | follows c src =>
      cases src with
      | channelCut ch => exact (other trivial).elim
      | _ => exact reads.elim
    | _ => exact reads.elim
  · exact State.keeps_setChans reads cs kept

/-- OPERATIONS RESET OF OUT; the conditions that follow a cut-off are recomputed by COND's reset. -/
theorem State.Holds.resetOut (h : s.Holds w) : s.resetOut.Holds (w.drop Fact.ofCuts Fact.ofCuts_droppable) := by
  unfold State.resetOut
  dsimp only
  have own := h.opsResetChans (opsReset_row s.chans)
  generalize (List.finRange 16).foldl (fun cs ch => cs.put ch (cs.row ch).opsReset) s.chans = cs at own ⊢
  have timed := own.setUntimed (Chans.untimed_resetTimers cs)
  change (s.setChans (resetTimers cs)).Holds _ at timed
  generalize s.setChans (resetTimers cs) = t at timed ⊢
  exact State.Holds.conductAll
    (foldl_holds (fun s => s.Holds (w.drop Fact.ofCuts Fact.ofCuts_droppable)) State.judgeForcing
      (fun _ ch ht => ht.judgeForcing ch) _ t timed) _

end Sys2Proof.Machine
end

section
/-! PROOFS. CALL's records: freeing, displacing and winning, the holding rules they keep, and why the arbiter ends
with no WAITING slot that can win (R163 to R167, R172). -/

namespace Sys2Proof.Machine

/-! ## Slots replaced -/

theorem mem_zonesOf {zs : BitVec 16} {z : Fin 16} : z ∈ zonesOf zs ↔ zs.getLsbD z.val = true := by
  simp [zonesOf]

/-- The slot as it waits again after its PREEMPTION (R166). -/
def Slot.displaced (x : Slot) : Slot :=
  { x with state := .waiting, token := none, limit := none, interval := none, lampDue := none }

namespace Call
variable {c : Call} {P : Slot → Prop}

theorem each.put (h : c.each P) {k : Fin 16} {v : Option Slot} (hv : ∀ x, v = some x → P x) :
    each P { c with slots := c.slots.put k v } := by
  intro j x slot
  rw [show Call.slots _ = c.slots.put k v from rfl, Tbl.row_put] at slot
  split at slot
  · exact hv x slot
  · exact h j x slot

/-- Slot `k` gives up its zones and becomes `v`. -/
def vacate (c : Call) (k : Fin 16) (v : Option Slot) : Call :=
  { c.giveUp k with slots := c.slots.put k v }

theorem vacate_slot (c : Call) (k : Fin 16) (v : Option Slot) (j : Fin 16) :
    (c.vacate k v).slots.row j = if k = j then v else c.slots.row j := Tbl.row_put _ _ _ _

theorem vacate_zone (c : Call) (k : Fin 16) (v : Option Slot) (z : Fin 16) :
    (c.vacate k v).zones.row z =
      if (c.zones.row z).holder = some k then { c.zones.row z with holder := none } else c.zones.row z := by
  change (c.zones.map _)[z.val] = _
  rw [Vector.getElem_map]
  rfl

theorem vacate_holder (c : Call) (k : Fin 16) (v : Option Slot) (z j : Fin 16) :
    ((c.vacate k v).zones.row z).holder = some j ↔ (c.zones.row z).holder = some j ∧ j ≠ k := by
  rw [vacate_zone]
  split
  · rename_i held
    simp only [reduceCtorEq, false_iff, not_and, not_not]
    intro other
    exact Option.some.inj (other.symm.trans held)
  · rename_i free
    exact ⟨fun held => ⟨held, fun same => free (same ▸ held)⟩, And.left⟩

theorem held.vacate (h : c.held) {k : Fin 16} {v : Option Slot}
    (hv : ∀ x, v = some x → x.state = .waiting ∧ x.timed) : (c.vacate k v).held where
  holder z j := by
    rw [vacate_holder, vacate_slot, h.holder]
    by_cases same : k = j
    · subst same
      simp only [ne_eq, not_true_eq_false, and_false, if_true, false_iff, not_exists, not_and]
      intro x slot moved
      exact absurd (hv x slot).1 moved
    · simp [same, Ne.symm same]
  timed := by
    intro j x slot
    rw [vacate_slot] at slot
    split at slot
    · exact (hv x slot).2
    · exact h.timed j x slot
  templates := h.templates

theorem each.vacate (h : c.each P) {k : Fin 16} {v : Option Slot} (hv : ∀ x, v = some x → P x) :
    (c.vacate k v).each P := by
  intro j x slot
  rw [vacate_slot] at slot
  split at slot
  · exact hv x slot
  · exact h j x slot

end Call

theorem Slot.displaced_timed {x : Slot} (h : x.timed) : x.displaced.timed :=
  ⟨by simp [displaced], by simp [displaced], h.2.2⟩

theorem Slot.displaced_safe (x : Slot) : x.displaced.safe := by
  simp [displaced, safe]

namespace CallRun
variable {r : CallRun} {k : Fin 16} {x : Slot}

theorem cancel_call (r : CallRun) (k : Fin 16) (x : Slot) : (r.cancel k x).call = r.call := by
  unfold cancel; split <;> rfl

theorem free_of_none (h : r.call.slots.row k = none) : r.free k = r := by
  simp only [free, h]

theorem free_call (h : r.call.slots.row k = some x) : (r.free k).call = r.call.vacate k none := by
  simp only [free, h, cancel_call]; rfl

theorem displace_of_none (h : r.call.slots.row k = none) : r.displace k = r := by
  simp only [displace, h]

theorem displace_call (h : r.call.slots.row k = some x) :
    (r.displace k).call = r.call.vacate k (some x.displaced) := by
  simp only [displace, h, cancel_call]; rfl

theorem free_slot (r : CallRun) (k j : Fin 16) :
    (r.free k).call.slots.row j = if k = j then none else r.call.slots.row j := by
  cases h : r.call.slots.row k with
  | none =>
    rw [free_of_none h]
    split
    · rename_i same; rw [← same, h]
    · rfl
  | some x => rw [free_call h, Call.vacate_slot]

theorem displace_slot (r : CallRun) (k j : Fin 16) :
    (r.displace k).call.slots.row j =
      if k = j then (r.call.slots.row j).map Slot.displaced else r.call.slots.row j := by
  cases h : r.call.slots.row k with
  | none =>
    rw [displace_of_none h]
    split
    · rename_i same; rw [← same, h]; rfl
    · rfl
  | some x =>
    rw [displace_call h, Call.vacate_slot]
    split
    · rename_i same; rw [← same, h]; rfl
    · rfl

theorem free_held (h : r.call.held) (k : Fin 16) : (r.free k).call.held := by
  cases slot : r.call.slots.row k with
  | none => rwa [free_of_none slot]
  | some x =>
    rw [free_call slot]
    exact h.vacate (by simp)

theorem displace_held (h : r.call.held) (k : Fin 16) : (r.displace k).call.held := by
  cases slot : r.call.slots.row k with
  | none => rwa [displace_of_none slot]
  | some x =>
    rw [displace_call slot]
    exact h.vacate fun y is => by
      obtain rfl := Option.some.inj is
      exact ⟨rfl, Slot.displaced_timed (h.timed k x slot)⟩

theorem free_each {P : Slot → Prop} (h : r.call.each P) (k : Fin 16) : (r.free k).call.each P := by
  intro j x slot
  rw [free_slot] at slot
  split at slot
  · simp at slot
  · exact h j x slot

theorem displace_safe (h : r.call.each Slot.safe) (k : Fin 16) : (r.displace k).call.each Slot.safe := by
  intro j x slot
  rw [displace_slot] at slot
  split at slot
  · obtain ⟨y, -, rfl⟩ := Option.map_eq_some_iff.mp slot
    exact y.displaced_safe
  · exact h j x slot

/-- What freeing and displacing leave of CALL's records: all but the slots and the zones' holders. -/
theorem free_rest (r : CallRun) (k : Fin 16) :
    (r.free k).call = { r.call with slots := (r.free k).call.slots, zones := (r.free k).call.zones } := by
  cases h : r.call.slots.row k with
  | none => rw [free_of_none h]
  | some x => rw [free_call h]; rfl

theorem displace_rest (r : CallRun) (k : Fin 16) : (r.displace k).call =
    { r.call with slots := (r.displace k).call.slots, zones := (r.displace k).call.zones } := by
  cases h : r.call.slots.row k with
  | none => rw [displace_of_none h]
  | some x => rw [displace_call h]; rfl

/-! ## A win (R165 to R167) -/

/-- The slots that hold a zone of the call. -/
def holders (r : CallRun) (x : Slot) : List (Fin 16) :=
  (List.finRange 16).filter (fun j => (zonesOf x.zones).any (fun z => (r.call.zones.row z).holder == some j))

/-- The holders of the call's zones are displaced. -/
def cleared (r : CallRun) (x : Slot) : CallRun := (r.holders x).foldl displace r

theorem mem_holders {j : Fin 16} : j ∈ r.holders x ↔
    ∃ z : Fin 16, x.zones.getLsbD z.val = true ∧ (r.call.zones.row z).holder = some j := by
  simp [holders, mem_zonesOf]

theorem foldl_displace_slot (l : List (Fin 16)) (r : CallRun) (j : Fin 16) :
    (l.foldl displace r).call.slots.row j =
      if j ∈ l then (r.call.slots.row j).map Slot.displaced else r.call.slots.row j := by
  induction l generalizing r with
  | nil => simp
  | cons a l ih =>
    rw [List.foldl_cons, ih, displace_slot]
    by_cases same : a = j
    · subst same
      cases r.call.slots.row a <;> simp [Slot.displaced]
    · simp [same, Ne.symm same]

theorem cleared_slot (r : CallRun) (x : Slot) (j : Fin 16) :
    (r.cleared x).call.slots.row j =
      if j ∈ r.holders x then (r.call.slots.row j).map Slot.displaced else r.call.slots.row j :=
  foldl_displace_slot _ r j

theorem cleared_held (h : r.call.held) (x : Slot) : (r.cleared x).call.held :=
  foldl_holds (fun r : CallRun => r.call.held) displace (fun _ j h => displace_held h j) _ r h

theorem cleared_safe (h : r.call.each Slot.safe) (x : Slot) : (r.cleared x).call.each Slot.safe :=
  foldl_holds (fun r : CallRun => r.call.each Slot.safe) displace (fun _ j h => displace_safe h j) _ r h

theorem cleared_rest (r : CallRun) (x : Slot) : (r.cleared x).call =
    { r.call with slots := (r.cleared x).call.slots, zones := (r.cleared x).call.zones } := by
  refine foldl_holds (fun q : CallRun => q.call = { r.call with slots := q.call.slots, zones := q.call.zones })
    displace (fun q j h => ?_) _ r rfl
  rw [displace_rest, h]

/-- After the holders are displaced, no zone of the call has a holder. -/
theorem cleared_holder (h : r.call.held) {x : Slot} {z j : Fin 16} :
    ((r.cleared x).call.zones.row z).holder = some j ↔
      (r.call.zones.row z).holder = some j ∧ j ∉ r.holders x := by
  rw [(cleared_held h x).holder, cleared_slot, h.holder]
  split
  · rename_i mem
    simp only [mem, not_true_eq_false, and_false, iff_false, not_exists, not_and]
    intro y slot moved
    obtain ⟨y', -, rfl⟩ := Option.map_eq_some_iff.mp slot
    exact absurd rfl moved
  · rename_i out
    simp [out]

/-- The slot as it stands after ENTRY TO SPEAKING (R167). -/
def spoken (r : CallRun) (x : Slot) (now : Nat) : Slot :=
  { x with state := .speaking, token := some (r.call.freeToken 16 r.call.token),
           limit := some (now + seconds r.call.paLimit), interval := none }

theorem speak_slot (r : CallRun) (k : Fin 16) (x : Slot) (now : Nat) (j : Fin 16) :
    (r.speak k x now).call.slots.row j = if k = j then some (r.spoken x now) else r.call.slots.row j :=
  Tbl.row_put _ _ _ _

theorem spoken_safe (r : CallRun) (x : Slot) (now : Nat) : (r.spoken x now).safe :=
  ⟨fun _ => ⟨rfl, rfl⟩, fun no => absurd rfl no⟩

/-- The zones of a call, taken by the slot that wins. -/
theorem foldl_take_zone (k : Fin 16) (l : List (Fin 16)) (zs : Tbl Zone 16) (z : Fin 16) :
    (l.foldl (fun zs z => zs.put z { zs.row z with holder := some k }) zs).row z =
      if z ∈ l then { zs.row z with holder := some k } else zs.row z := by
  induction l generalizing zs with
  | nil => simp
  | cons a l ih =>
    rw [List.foldl_cons, ih, Tbl.row_put]
    by_cases same : a = z
    · subst same; simp
    · simp [same, Ne.symm same]

/-- The records with the zones of the call in the hands of slot `k`. -/
def taken (r : CallRun) (k : Fin 16) (x : Slot) : CallRun :=
  let zones := (zonesOf x.zones).foldl (fun zs z => zs.put z { zs.row z with holder := some k })
    (r.cleared x).call.zones
  { r.cleared x with call := { (r.cleared x).call with zones := zones } }

theorem win_eq (r : CallRun) (k : Fin 16) (x : Slot) (now : Nat) :
    r.win k x now =
      (r.taken k x).speak k { x with lampStep := 0, lampDue := some (now + lampStepTime) } now := rfl

theorem win_slot (r : CallRun) (k : Fin 16) (x : Slot) (now : Nat) (j : Fin 16) :
    (r.win k x now).call.slots.row j =
      if k = j then
        some ((r.taken k x).spoken { x with lampStep := 0, lampDue := some (now + lampStepTime) } now)
      else if j ∈ r.holders x then (r.call.slots.row j).map Slot.displaced else r.call.slots.row j := by
  rw [win_eq, speak_slot]
  split
  · rfl
  · exact cleared_slot r x j

theorem win_zone (r : CallRun) (k : Fin 16) (x : Slot) (now : Nat) (z : Fin 16) :
    (r.win k x now).call.zones.row z =
      if x.zones.getLsbD z.val = true then { (r.cleared x).call.zones.row z with holder := some k }
      else (r.cleared x).call.zones.row z := by
  have row := foldl_take_zone k (zonesOf x.zones) (r.cleared x).call.zones z
  simp only [mem_zonesOf] at row
  exact row

theorem win_safe (h : r.call.each Slot.safe) (k : Fin 16) (x : Slot) (now : Nat) :
    (r.win k x now).call.each Slot.safe := by
  intro j y slot
  rw [win_slot] at slot
  split at slot
  · obtain rfl := Option.some.inj slot
    exact spoken_safe _ _ _
  · rw [← cleared_slot] at slot
    exact cleared_safe h x j y slot

/-- A slot that waits holds no zone. -/
theorem Call.held.waiting_not_holder {c : Call} (h : c.held) (slot : c.slots.row k = some x)
    (waiting : x.state = .waiting) (z : Fin 16) : (c.zones.row z).holder ≠ some k := by
  rw [Ne, h.holder]
  rintro ⟨y, slot', moved, -⟩
  rw [slot] at slot'
  obtain rfl := Option.some.inj slot'
  exact moved waiting

theorem win_holder (h : r.call.held) (now : Nat) {z j : Fin 16} :
    ((r.win k x now).call.zones.row z).holder = some j ↔
      if x.zones.getLsbD z.val = true then j = k
      else (r.call.zones.row z).holder = some j ∧ j ∉ r.holders x := by
  rw [win_zone]
  split
  · exact ⟨fun is => (Option.some.inj is).symm, fun is => by rw [is]⟩
  · exact cleared_holder h

theorem win_held (h : r.call.held) (slot : r.call.slots.row k = some x) (waiting : x.state = .waiting) (now : Nat) :
    (r.win k x now).call.held where
  holder z j := by
    rw [win_holder h, win_slot]
    by_cases same : k = j
    · subst same
      have notHeld := Call.held.waiting_not_holder h slot waiting z
      by_cases inZones : x.zones.getLsbD z.val = true <;> simp [inZones, spoken, notHeld]
    · rw [if_neg same]
      have holder := h.holder z j
      by_cases inZones : x.zones.getLsbD z.val = true
      · rw [if_pos inZones]
        refine ⟨fun is => absurd is.symm same, ?_⟩
        rintro ⟨y, is, moved, has⟩
        split at is
        · obtain ⟨y', -, rfl⟩ := Option.map_eq_some_iff.mp is
          exact absurd rfl moved
        · rename_i out
          exact absurd (mem_holders.mpr ⟨z, inZones, holder.mpr ⟨y, is, moved, has⟩⟩) out
      · rw [if_neg inZones, holder]
        split
        · rename_i mem
          simp only [mem, not_true_eq_false, and_false, false_iff, not_exists, not_and]
          intro y is moved
          obtain ⟨y', -, rfl⟩ := Option.map_eq_some_iff.mp is
          exact absurd rfl moved
        · rename_i out
          simp [out]
  timed := by
    intro j y is
    rw [win_slot] at is
    split at is
    · obtain rfl := Option.some.inj is
      exact ⟨by simp [spoken], by simp [spoken], (h.timed k x slot).2.2⟩
    · rw [← cleared_slot] at is
      exact (cleared_held h x).timed j y is
  templates := by
    have rest : (r.win k x now).call.templates = r.call.templates := by
      change (r.cleared x).call.templates = _
      rw [cleared_rest]
    rw [rest]
    exact h.templates

end CallRun

/-! ## The arbiter (R165) -/

theorem Call.canWin_iff (c : Call) (x : Slot) : c.canWin x = true ↔ ¬ c.barred x := by
  unfold Call.canWin Call.barred
  rw [List.all_eq_true]
  constructor
  · rintro can ⟨z, j, y, inZones, holder, slot, le⟩
    have := can z (mem_zonesOf.mpr inZones)
    simp only [holder, slot, decide_eq_true_eq] at this
    omega
  · intro free z mem
    cases holder : (c.zones.row z).holder with
    | none => rfl
    | some j =>
      cases slot : c.slots.row j with
      | none => simp only [slot]
      | some y =>
        simp only [slot, decide_eq_true_eq]
        by_contra le
        exact free ⟨z, j, y, mem_zonesOf.mp mem, holder, slot, by omega⟩

/-- A WAITING slot that can win. -/
def Call.candidate (c : Call) (k : Fin 16) (x : Slot) : Prop :=
  c.slots.row k = some x ∧ x.state = .waiting ∧ c.canWin x = true

/-- One slot of the search for the first winner. -/
def Call.better (c : Call) (best : Option (Fin 16 × Slot)) (k : Fin 16) : Option (Fin 16 × Slot) :=
  match c.slots.row k with
  | none => best
  | some x =>
    if x.state == .waiting && c.canWin x then
      match best with
      | none => some (k, x)
      | some b => if x.before b.2 then some (k, x) else best
    else best

theorem Call.firstWinner_eq (c : Call) : c.firstWinner = (List.finRange 16).foldl c.better none := rfl

/-- A slot comes before another in arbiter order: higher priority first, then the lower arrival number (R165). -/
theorem Slot.before_iff {x y : Slot} :
    x.before y = true ↔ y.priority < x.priority ∨ (x.priority = y.priority ∧ x.arrival < y.arrival) := by
  simp [Slot.before]

/-- No slot of the list is a candidate that comes before the best found, and the best found is one. -/
def Call.bestOf (c : Call) (l : List (Fin 16)) (best : Option (Fin 16 × Slot)) : Prop :=
  match best with
  | none => ∀ j ∈ l, ∀ y, ¬ c.candidate j y
  | some w => c.candidate w.1 w.2 ∧ ∀ j ∈ l, ∀ y, c.candidate j y → y.before w.2 = false

theorem Slot.not_before_trans {x y z : Slot} (h : x.before y = true) (hz : z.before y = false) :
    z.before x = false := by
  rw [Bool.eq_false_iff, Ne, Slot.before_iff] at hz ⊢
  rw [Slot.before_iff] at h
  omega

theorem Slot.not_before_self (x : Slot) : x.before x = false := by
  rw [Bool.eq_false_iff, Ne, Slot.before_iff]; omega

theorem Call.better_bestOf {c : Call} {l : List (Fin 16)} {best : Option (Fin 16 × Slot)} (h : c.bestOf l best)
    (k : Fin 16) : c.bestOf (l ++ [k]) (c.better best k) := by
  have stays (no : ∀ y, c.candidate k y → ∃ w, best = some w ∧ y.before w.2 = false) :
      c.bestOf (l ++ [k]) best := by
    cases best with
    | none =>
      intro j mem y can
      rcases List.mem_append.mp mem with old | new
      · exact h j old y can
      · rw [List.mem_singleton.mp new] at can
        obtain ⟨w, is, -⟩ := no y can
        simp at is
    | some w =>
      refine ⟨h.1, fun j mem y can => ?_⟩
      rcases List.mem_append.mp mem with old | new
      · exact h.2 j old y can
      · rw [List.mem_singleton.mp new] at can
        obtain ⟨w', is, before⟩ := no y can
        rwa [← Option.some.inj is] at before
  unfold Call.better
  cases slot : c.slots.row k with
  | none =>
    exact stays fun y can => absurd (slot.symm.trans can.1) (by simp)
  | some x =>
    by_cases can : c.candidate k x
    · have yes : (x.state == .waiting && c.canWin x) = true := by simp [can.2.1, can.2.2]
      have unique {y : Slot} (hy : c.candidate k y) : y = x := Option.some.inj (hy.1.symm.trans slot)
      simp only [yes, if_true]
      cases best with
      | none =>
        refine ⟨can, fun j mem y hy => ?_⟩
        rcases List.mem_append.mp mem with old | new
        · exact absurd hy (h j old y)
        · rw [List.mem_singleton.mp new] at hy
          rw [unique hy]; exact x.not_before_self
      | some b =>
        dsimp only
        split
        · rename_i before
          refine ⟨can, fun j mem y hy => ?_⟩
          rcases List.mem_append.mp mem with old | new
          · exact Slot.not_before_trans before (h.2 j old y hy)
          · rw [List.mem_singleton.mp new] at hy
            rw [unique hy]; exact x.not_before_self
        · rename_i before
          exact stays fun y hy => ⟨b, rfl, by rw [unique hy]; simpa using before⟩
    · have no : (x.state == .waiting && c.canWin x) = false := by
        rw [Bool.eq_false_iff]
        intro yes
        simp only [Bool.and_eq_true, beq_iff_eq] at yes
        exact can ⟨slot, yes.1, yes.2⟩
      simp only [no]
      exact stays fun y hy => absurd (Option.some.inj (hy.1.symm.trans slot) ▸ hy) can

theorem Call.firstWinner_bestOf (c : Call) : c.bestOf (List.finRange 16) c.firstWinner := by
  have fold (l m : List (Fin 16)) (best : Option (Fin 16 × Slot)) (h : c.bestOf m best) :
      c.bestOf (m ++ l) (l.foldl c.better best) := by
    induction l generalizing m best with
    | nil => simpa using h
    | cons a l ih =>
      have := ih (m ++ [a]) _ (Call.better_bestOf h a)
      simpa using this
  rw [Call.firstWinner_eq]
  exact fold _ [] none (by simp [Call.bestOf])

theorem Call.not_candidate_of_none {c : Call} (h : c.firstWinner = none) (k : Fin 16) (x : Slot) :
    ¬ c.candidate k x := by
  have best := c.firstWinner_bestOf
  rw [h] at best
  exact best k (List.mem_finRange k) x

theorem Call.firstWinner_some {c : Call} {w : Fin 16 × Slot} (h : c.firstWinner = some w) :
    c.candidate w.1 w.2 ∧ ∀ k x, c.candidate k x → x.before w.2 = false := by
  have best := c.firstWinner_bestOf
  rw [h] at best
  exact ⟨best.1, fun k x => best.2 k (List.mem_finRange k) x⟩

theorem Call.firstWinner_none_of {c : Call} (h : ∀ k x, ¬ c.candidate k x) : c.firstWinner = none := by
  cases is : c.firstWinner with
  | none => rfl
  | some w => exact absurd (Call.firstWinner_some is).1 (h _ _)

/-- The slots that a run of the arbiter may still take from: those of priority below `p`, and the WAITING slots
of priority `p`. -/
def Call.open_ (c : Call) (p : Nat) (k : Fin 16) : Bool :=
  match c.slots.row k with
  | none => false
  | some x => decide (x.priority < p) || (x.priority == p && x.state == .waiting)

/-- No WAITING slot of a priority above `p` can win. -/
def Call.settledAbove (c : Call) (p : Nat) : Prop := ∀ k x, c.candidate k x → x.priority ≤ p

theorem Call.open_iff {c : Call} {p : Nat} {k : Fin 16} : c.open_ p k = true ↔
    ∃ x, c.slots.row k = some x ∧ (x.priority < p ∨ (x.priority = p ∧ x.state = .waiting)) := by
  unfold Call.open_
  split <;> rename_i h <;> simp [h]

namespace CallRun
variable {r : CallRun} {k : Fin 16} {x : Slot}

/-- A holder that a win displaces has a lower priority than the winner. -/
theorem holder_below (h : r.call.held) (can : r.call.candidate k x) {j : Fin 16} (mem : j ∈ r.holders x) :
    ∃ y, r.call.slots.row j = some y ∧ y.priority < x.priority := by
  obtain ⟨z, inZones, holder⟩ := mem_holders.mp mem
  obtain ⟨y, slot, -, -⟩ := (h.holder z j).mp holder
  refine ⟨y, slot, ?_⟩
  have free := (Call.canWin_iff r.call x).mp can.2.2
  by_contra le
  exact free ⟨z, j, y, inZones, holder, slot, by omega⟩

/-- A slot that waits after a win waited before it, unless the win has displaced it. -/
theorem waiting_of_win (h : r.call.held) (can : r.call.candidate k x) {now : Nat} {j : Fin 16} {y : Slot}
    (slot : (r.win k x now).call.slots.row j = some y) (waiting : y.state = .waiting) :
    j ≠ k ∧ (y.priority < x.priority ∨ r.call.slots.row j = some y) := by
  rw [win_slot] at slot
  split at slot
  · obtain rfl := Option.some.inj slot
    exact absurd waiting (by simp [spoken])
  · rename_i ne
    refine ⟨Ne.symm ne, ?_⟩
    split at slot
    · rename_i mem
      obtain ⟨y', is, below⟩ := holder_below h can mem
      rw [is] at slot
      obtain rfl := Option.some.inj slot
      exact .inl below
    · exact .inr slot

/-- After the win of the first candidate, no WAITING slot of a higher priority can win. -/
theorem win_settledAbove (h : r.call.held) (can : r.call.candidate k x)
    (first : ∀ j y, r.call.candidate j y → y.before x = false) (now : Nat) :
    (r.win k x now).call.settledAbove x.priority := by
  intro j y candidate
  obtain ⟨slot, waiting, canWin⟩ := candidate
  by_contra above
  obtain ⟨-, stood⟩ := waiting_of_win h can slot waiting
  have before := stood.resolve_left (by omega)
  have barred : r.call.barred y := by
    by_contra free
    have := first j y ⟨before, waiting, (Call.canWin_iff r.call y).mpr free⟩
    rw [Bool.eq_false_iff, Ne, Slot.before_iff] at this
    omega
  obtain ⟨z, i, y', inZones, holder, slot', le⟩ := barred
  have kept : i ∉ r.holders x := fun mem => by
    obtain ⟨y'', is, below⟩ := holder_below h can mem
    rw [slot'] at is
    obtain rfl := Option.some.inj is
    omega
  have notWinner : i ≠ k := fun same => by
    subst same
    exact Call.held.waiting_not_holder h can.1 can.2.1 z holder
  refine (Call.canWin_iff _ y).mp canWin ⟨z, i, y', inZones, ?_, ?_, le⟩
  · rw [win_holder h, if_neg fun mine => kept (mem_holders.mpr ⟨z, mine, holder⟩)]
    exact ⟨holder, kept⟩
  · rw [win_slot, if_neg (Ne.symm notWinner), if_neg kept]
    exact slot'

/-- A win leaves fewer slots to take from. -/
theorem win_open_lt (h : r.call.held) (can : r.call.candidate k x) {p : Nat} (le : x.priority ≤ p) (now : Nat) :
    (List.finRange 16).countP ((r.win k x now).call.open_ x.priority)
      < (List.finRange 16).countP (r.call.open_ p) := by
  have winner : r.call.open_ p k = true := by
    rw [Call.open_iff]
    exact ⟨x, can.1, (Nat.lt_or_ge x.priority p).imp_right fun ge => ⟨by omega, can.2.1⟩⟩
  have done_ : (r.win k x now).call.open_ x.priority k = false := by
    rw [Bool.eq_false_iff, Ne, Call.open_iff, win_slot, if_pos rfl]
    rintro ⟨y, is, still⟩
    obtain rfl := Option.some.inj is
    rcases still with lt | ⟨-, waiting⟩
    · exact absurd lt (Nat.lt_irrefl _)
    · exact absurd waiting (by simp [spoken])
  have fewer (j : Fin 16) (still : (r.win k x now).call.open_ x.priority j = true) : r.call.open_ p j = true := by
    obtain ⟨y, slot, at_⟩ := Call.open_iff.mp still
    rw [win_slot] at slot
    split at slot
    · rename_i same
      subst same; exact winner
    · rw [Call.open_iff]
      split at slot
      · rename_i mem
        obtain ⟨y', is, below⟩ := holder_below h can mem
        exact ⟨y', is, .inl (by omega)⟩
      · refine ⟨y, slot, ?_⟩
        rcases at_ with lt | ⟨eq, waiting⟩
        · exact .inl (by omega)
        · exact (Nat.lt_or_ge y.priority p).imp_right fun ge => ⟨by omega, waiting⟩
  have strict (l : List (Fin 16)) : k ∈ l →
      l.countP ((r.win k x now).call.open_ x.priority) < l.countP (r.call.open_ p) := by
    induction l with
    | nil => simp
    | cons a l ih =>
      intro mem
      have tail := List.countP_mono_left (l := l) fun j _ => fewer j
      rw [List.countP_cons, List.countP_cons]
      by_cases same : a = k
      · subst same
        simp only [winner, done_, if_true]
        simp only [Bool.false_eq_true, if_false]
        omega
      · have less := ih ((List.mem_cons.mp mem).resolve_left (Ne.symm same))
        have head := fewer a
        split <;> rename_i yes
        · rw [if_pos (head yes)]; omega
        · omega
  exact strict _ (List.mem_finRange k)

theorem arbitrate_settled {n : Nat} {now p : Nat} (h : r.call.held) (above : r.call.settledAbove p)
    (fuel : (List.finRange 16).countP (r.call.open_ p) ≤ n) :
    (arbitrate now n r).call.held ∧ (arbitrate now n r).call.firstWinner = none := by
  induction n generalizing r p with
  | zero =>
    refine ⟨h, Call.firstWinner_none_of fun k x can => ?_⟩
    have none_open := List.countP_eq_zero.mp (Nat.le_zero.mp fuel) k (List.mem_finRange k)
    refine none_open (Call.open_iff.mpr ⟨x, can.1, ?_⟩)
    have := above k x can
    exact (Nat.lt_or_ge x.priority p).imp_right fun ge => ⟨by omega, can.2.1⟩
  | succ n ih =>
    rw [arbitrate]
    cases is : r.call.firstWinner with
    | none => exact ⟨h, is⟩
    | some w =>
      obtain ⟨can, first⟩ := Call.firstWinner_some is
      refine ih (win_held h can.1 can.2.1 now) (win_settledAbove h can first now) ?_
      have := win_open_lt h can (above _ _ can) now
      omega

theorem arbitrate_safe (h : r.call.each Slot.safe) (now n : Nat) : (arbitrate now n r).call.each Slot.safe := by
  induction n generalizing r with
  | zero => exact h
  | succ n ih =>
    rw [arbitrate]
    split
    · exact h
    · exact ih (win_safe h _ _ now)

/-- After a run of the arbiter every WAITING slot is barred. -/
theorem arbitrate_zonesRuled (h : r.call.held) (now : Nat) : (arbitrate now 16 r).call.zonesRuled := by
  have bound : ∃ p, ∀ (k : Fin 16) (x : Slot), r.call.slots.row k = some x → x.priority ≤ p := by
    have fold (l : List (Fin 16)) : ∃ p, ∀ k ∈ l, ∀ x, r.call.slots.row k = some x → x.priority ≤ p := by
      induction l with
      | nil => exact ⟨0, by simp⟩
      | cons a l ih =>
        obtain ⟨p, hp⟩ := ih
        cases slot : r.call.slots.row a with
        | none =>
          refine ⟨p, fun k mem x is => ?_⟩
          rcases List.mem_cons.mp mem with rfl | mem
          · rw [slot] at is; simp at is
          · exact hp k mem x is
        | some y =>
          refine ⟨max p y.priority, fun k mem x is => ?_⟩
          rcases List.mem_cons.mp mem with rfl | mem
          · rw [slot] at is
            obtain rfl := Option.some.inj is
            omega
          · have := hp k mem x is
            omega
    obtain ⟨p, hp⟩ := fold (List.finRange 16)
    exact ⟨p, fun k => hp k (List.mem_finRange k)⟩
  obtain ⟨p, hp⟩ := bound
  have few : (List.finRange 16).countP (r.call.open_ p) ≤ 16 :=
    (List.countP_le_length).trans_eq (List.length_finRange)
  obtain ⟨held, settled⟩ := arbitrate_settled (now := now) h (fun k x can => hp k x can.1) few
  refine ⟨held, fun k x slot waiting => ?_⟩
  by_contra free
  exact Call.not_candidate_of_none settled k x ⟨slot, waiting, (Call.canWin_iff _ x).mpr free⟩

end CallRun

end Sys2Proof.Machine
end

section
/-! PROOFS. What every event of CALL keeps (R160 to R176). -/

namespace Sys2Proof.Machine
variable {s t : State} {w : Watch}

/-! ## Slots that hold as before -/

/-- A slot stands for another: it waits where the other does, and names the same zones at the same priority. -/
structure Slot.HoldsAs (x x' : Slot) : Prop where
  waits : x'.state = .waiting ↔ x.state = .waiting
  zones : x'.zones = x.zones
  priority : x'.priority = x.priority
  timed : x.timed → x'.timed

namespace Call
variable {c c' : Call}

/-- Every slot of one record stands for the slot of another. -/
def standsFor (c c' : Call) : Prop :=
  ∀ j, (c.slots.row j = none ∧ c'.slots.row j = none)
    ∨ ∃ x x', c.slots.row j = some x ∧ c'.slots.row j = some x' ∧ x.HoldsAs x'

theorem held.standsFor (h : c.held) (same : c.standsFor c') (zones : c'.zones = c.zones)
    (templates : c'.templates = c.templates) : c'.held where
  holder z k := by
    rw [zones, h.holder]
    rcases same k with ⟨none_, none_'⟩ | ⟨x, x', is, is', as⟩
    · simp [none_, none_']
    · simp [is, is', as.waits, as.zones]
  timed := by
    intro k y slot
    rcases same k with ⟨-, none_'⟩ | ⟨x, x', is, is', as⟩
    · rw [none_'] at slot; simp at slot
    · rw [is'] at slot
      obtain rfl := Option.some.inj slot
      exact as.timed (h.timed k x is)
  templates := by rw [templates]; exact h.templates

theorem zonesRuled.standsFor (h : c.zonesRuled) (same : c.standsFor c') (zones : c'.zones = c.zones)
    (templates : c'.templates = c.templates) : c'.zonesRuled where
  held := h.held.standsFor same zones templates
  blocked := by
    intro k y slot waiting
    rcases same k with ⟨-, none_'⟩ | ⟨x, x', is, is', as⟩
    · rw [none_'] at slot; simp at slot
    · rw [is'] at slot
      obtain rfl := Option.some.inj slot
      obtain ⟨z, j, u, inZones, holder, slot, le⟩ := h.blocked k x is (as.waits.mp waiting)
      rcases same j with ⟨none_, -⟩ | ⟨u', v, isu, isv, asu⟩
      · rw [none_] at slot; simp at slot
      · rw [slot] at isu
        obtain rfl := Option.some.inj isu
        exact ⟨z, j, v, by rw [as.zones]; exact inZones, by rw [zones]; exact holder, isv,
          by rw [as.priority, asu.priority]; exact le⟩

/-- One slot is replaced by one that stands for it. -/
theorem standsFor_put {k : Fin 16} {x x' : Slot} (slot : c.slots.row k = some x) (as : x.HoldsAs x')
    (slots : c'.slots = c.slots.put k (some x')) : c.standsFor c' := by
  intro j
  rw [slots, Tbl.row_put]
  by_cases same : k = j
  · subst same
    exact .inr ⟨x, x', slot, if_pos rfl, as⟩
  · rw [if_neg same]
    cases is : c.slots.row j with
    | none => exact .inl ⟨rfl, rfl⟩
    | some y => exact .inr ⟨y, y, rfl, rfl, Iff.rfl, rfl, rfl, id⟩

theorem zonesRuled.of_eq (h : c.zonesRuled) (slots : c'.slots = c.slots) (zones : c'.zones = c.zones)
    (templates : c'.templates = c.templates) : c'.zonesRuled :=
  h.standsFor (fun j => by
    rw [slots]
    cases c.slots.row j with
    | none => exact .inl ⟨rfl, rfl⟩
    | some x => exact .inr ⟨x, x, rfl, rfl, Iff.rfl, rfl, rfl, id⟩) zones templates

theorem renumber_slot (c : Call) (k : Fin 16) : c.renumber.slots.row k =
    (c.slots.row k).map (fun x => { x with arrival := (List.finRange 16).countP (c.older k x) }) := by
  simp [renumber, Tbl.row]

theorem renumber_standsFor (c : Call) : c.standsFor c.renumber := by
  intro j
  rw [renumber_slot]
  cases c.slots.row j with
  | none => exact .inl ⟨rfl, rfl⟩
  | some x => exact .inr ⟨x, _, rfl, rfl, Iff.rfl, rfl, rfl, id⟩

theorem renumber_safe (h : c.each Slot.safe) : c.renumber.each Slot.safe := by
  intro k y slot
  rw [renumber_slot] at slot
  obtain ⟨x, is, rfl⟩ := Option.map_eq_some_iff.mp slot
  exact h k x is

/-- The records with arrival numbers that leave room for one more call (R164). -/
def numbered (c : Call) : Call := if 65535 ≤ c.arrival then c.renumber else c

theorem numbered_held (h : c.held) : c.numbered.held := by
  unfold numbered
  split
  · exact h.standsFor c.renumber_standsFor rfl rfl
  · exact h

theorem numbered_safe (h : c.each Slot.safe) : c.numbered.each Slot.safe := by
  unfold numbered
  split
  · exact renumber_safe h
  · exact h

theorem numbered_free {k : Fin 16} (free : c.slots.row k = none) : c.numbered.slots.row k = none := by
  unfold numbered
  split
  · rw [renumber_slot, free]; rfl
  · exact free

theorem numbered_rest (c : Call) :
    c.numbered = { c with slots := c.numbered.slots, arrival := c.numbered.arrival } := by
  unfold numbered; split <;> rfl

/-- The WAITING slot of an accepted call (R164). -/
def accepted (c : Call) (t : Fin 32) (zones : BitVec 16) : Slot :=
  { template := t, zones := zones, priority := (c.templates.row t).priority,
    left := (c.templates.row t).repeats, arrival := c.arrival, state := .waiting, token := none, limit := none,
    interval := none, lampStep := 0, lampDue := none, lastAnswer := .none }

theorem accept_eq (c : Call) (k : Fin 16) (t : Fin 32) (zones : BitVec 16) : c.accept k t zones =
    { c.numbered with
      slots := c.numbered.slots.put k (some (c.numbered.accepted t zones))
      arrival := c.numbered.arrival + 1 } := rfl

theorem accept_held (h : c.held) {k : Fin 16} (free : c.slots.row k = none) (t : Fin 32) {zones : BitVec 16}
    (named : zones ≠ 0) : (c.accept k t zones).held := by
  have hn := numbered_held h
  have freed := numbered_free free
  rw [accept_eq]
  generalize c.numbered = n at hn freed
  have slot (j : Fin 16) : (n.slots.put k (some (n.accepted t zones))).row j =
      if k = j then some (n.accepted t zones) else n.slots.row j := Tbl.row_put _ _ _ _
  refine ⟨fun z j => ?_, fun j y is => ?_, hn.templates⟩
  · change (n.zones.row z).holder = some j ↔ ∃ y, (n.slots.put k _).row j = some y ∧ _
    rw [hn.holder, slot]
    by_cases same : k = j
    · subst same; simp [freed, accepted]
    · rw [if_neg same]
  · change (n.slots.put k _).row j = some y at is
    rw [slot] at is
    split at is
    · obtain rfl := Option.some.inj is
      exact ⟨by simp [accepted], by simp [accepted], named⟩
    · exact hn.timed j y is

theorem accept_safe (h : c.each Slot.safe) (k : Fin 16) (t : Fin 32) (zones : BitVec 16) :
    (c.accept k t zones).each Slot.safe := by
  rw [accept_eq]
  refine (numbered_safe h).put fun y is => ?_
  obtain rfl := Option.some.inj is
  simp [accepted, Slot.safe]

theorem accept_paRun (c : Call) (k : Fin 16) (t : Fin 32) (zones : BitVec 16) :
    (c.accept k t zones).paRun = c.paRun := by
  rw [accept_eq, numbered_rest]

end Call

namespace CallRun
variable {r : CallRun}

theorem win_rest (r : CallRun) (k : Fin 16) (x : Slot) (now : Nat) : (r.win k x now).call =
    { r.call with
      slots := (r.win k x now).call.slots, zones := (r.win k x now).call.zones
      token := (r.win k x now).call.token } := by
  rw [win_eq, speak, taken]
  dsimp only
  rw [cleared_rest]

theorem arbitrate_rest (now n : Nat) (r : CallRun) : (arbitrate now n r).call =
    { r.call with
      slots := (arbitrate now n r).call.slots, zones := (arbitrate now n r).call.zones
      token := (arbitrate now n r).call.token } := by
  induction n generalizing r with
  | zero => rfl
  | succ n ih =>
    rw [arbitrate]
    split
    · rfl
    · rw [ih, win_rest]

theorem foldl_free_rest (l : List (Fin 16)) (r : CallRun) : (l.foldl free r).call =
    { r.call with slots := (l.foldl free r).call.slots, zones := (l.foldl free r).call.zones } := by
  refine foldl_holds (fun q : CallRun => q.call = { r.call with slots := q.call.slots, zones := q.call.zones })
    free (fun q j h => ?_) l r rfl
  rw [free_rest, h]

theorem foldl_free_held (h : r.call.held) (l : List (Fin 16)) : (l.foldl free r).call.held :=
  foldl_holds (fun r : CallRun => r.call.held) free (fun _ j h => free_held h j) l r h

theorem foldl_free_each {P : Slot → Prop} (h : r.call.each P) (l : List (Fin 16)) :
    (l.foldl free r).call.each P :=
  foldl_holds (fun r : CallRun => r.call.each P) free (fun _ j h => free_each h j) l r h

theorem foldl_free_slot (l : List (Fin 16)) (r : CallRun) (j : Fin 16) :
    (l.foldl free r).call.slots.row j = if j ∈ l then none else r.call.slots.row j := by
  induction l generalizing r with
  | nil => simp
  | cons a l ih =>
    rw [List.foldl_cons, ih, free_slot]
    by_cases same : a = j
    · subst same; simp
    · simp [same, Ne.symm same]

end CallRun

/-! ## The records stored -/

theorem State.Holds.setCall (h : s.Holds w) {c : Call} (slots : w.on .slots → c.each Slot.safe)
    (zones : w.on .zones → c.zonesRuled) (paRun : c.paRun = s.call.paRun) : (s.setCall c).Holds w := by
  intro f on
  have kept := h f on
  cases f with
  | slots => exact slots on
  | zones => exact zones on
  | paFault =>
    change s.cond condPaFault = decide (2 ≤ c.paRun)
    rw [paRun]
    exact kept
  | _ => exact kept

theorem State.Holds.setLamp (h : s.Holds w) (z : Fin 16) : (s.setLamp z).Holds w := h.ownerLevel _ _ _

theorem State.Holds.setLampsOf (h : s.Holds w) (l : List (Fin 16)) : (l.foldl State.setLamp s).Holds w :=
  foldl_holds (fun s => s.Holds w) State.setLamp (fun _ z h => h.setLamp z) l s h

theorem State.Holds.callFrames (h : s.Holds w) (r : CallRun) : (s.callFrames r).Holds w :=
  foldl_holds (fun s => s.Holds w) _ (fun _ _ h => h.emit _ _ _ _) _ s h

/-- A CALL event ends with records that keep the rules, whatever the records were in its course. -/
theorem State.Holds.endCall (h : s.Holds w) (c : Call) {r : CallRun} (slots : w.on .slots → r.call.each Slot.safe)
    (zones : w.on .zones → r.call.zonesRuled) (paRun : r.call.paRun = s.call.paRun) :
    ((s.setCall c).endCall r).Holds w :=
  ((h.setCall slots zones paRun).callFrames r).setLampsOf _

theorem State.Holds.arbiter (h : s.Holds w) (c : Call) {r : CallRun} (slots : w.on .slots → r.call.each Slot.safe)
    (held : w.on .zones → r.call.held) (paRun : r.call.paRun = s.call.paRun) :
    ((s.setCall c).arbiter r).Holds w := by
  refine h.endCall c (fun on => CallRun.arbitrate_safe (slots on) _ _)
    (fun on => CallRun.arbitrate_zonesRuled (held on) _) ?_
  rw [CallRun.arbitrate_rest]
  exact paRun

/-- A slot is replaced by one that stands for it. -/
theorem State.Holds.setSlot (h : s.Holds w) {k : Fin 16} {x x' : Slot} (slot : s.call.slots.row k = some x)
    (safe : x.safe → x'.safe) (as : w.on .zones → x.HoldsAs x') : (s.setSlot k (some x')).Holds w := by
  refine h.setCall (fun on => ?_) (fun on => ?_) rfl
  · have slots : s.call.each Slot.safe := h .slots on
    refine slots.put fun y is => ?_
    rw [← Option.some.inj is]
    exact safe (slots k x slot)
  · have ruled : s.call.zonesRuled := h .zones on
    exact ruled.standsFor (Call.standsFor_put slot (as on) rfl) rfl rfl

/-! ## Queueing (R164) -/

theorem State.allows_some {tpl : Fin 32} (h : s.allows tpl = true) : (s.call.templates.row tpl).allow ≠ none := by
  intro no
  simp only [State.allows, no] at h
  exact absurd h (by decide)

theorem State.Holds.queueAllowed (h : s.Holds w) (tpl : Fin 32) {zones : BitVec 16}
    (named : s.call.held → zones ≠ 0) : (queueAllowed tpl zones s).2.Holds w := by
  unfold Machine.queueAllowed
  split
  · split
    · exact h
    · rename_i slot
      exact h.setSlot slot id fun _ => ⟨Iff.rfl, rfl, rfl, id⟩
  · split
    · rename_i k found
      have free : s.call.slots.row k = none := by
        simpa using List.find?_some found
      refine h.arbiter s.call (fun on => ?_) (fun on => ?_) ?_
      · exact Call.accept_safe (h .slots on) _ _ _
      · have ruled : s.call.zonesRuled := h .zones on
        exact Call.accept_held ruled.held free _ (named ruled.held)
      · exact Call.accept_paRun _ _ _ _
    · exact h

theorem State.Holds.callQueue (h : s.Holds w) (b : Byte) (override : Option (BitVec 16)) :
    (callQueue b override s).2.Holds w := by
  unfold Machine.callQueue
  split
  · exact h
  · rename_i tpl _
    split
    · exact h
    · rename_i notNone
      split
      · exact h
      · split
        · rename_i allowed
          refine h.queueAllowed tpl fun held => ?_
          cases override with
          | none => exact held.templates tpl (State.allows_some allowed)
          | some z => exact fun zero => notNone (by rw [show z = 0 from zero])
        · exact h

theorem State.Holds.callResult (h : s.Holds w) (o : CallOrigin) (c : Code) : (s.callResult o c).Holds w := by
  cases o with
  | request rq => exact h.reply _ _ _ _
  | warning d => exact h.hand _
  | stage r ask => exact h.hand _

theorem State.Holds.takeQueue (h : s.Holds w) (o : CallOrigin) (b : Byte) (override : Option (BitVec 16)) :
    (s.takeQueue o b override).Holds w := (h.callQueue b override).callResult o _

/-! ## The end of a repetition (R169, R170) -/

theorem Call.vacate_put (c : Call) (k : Fin 16) (u v : Option Slot) :
    Call.vacate { c with slots := c.slots.put k u } k v = c.vacate k v := by
  have slots : (c.slots.put k u).put k v = c.slots.put k v := by
    simp [Tbl.put]
  simp only [Call.vacate, Call.giveUp, slots]

theorem State.Holds.endRepetition (h : s.Holds w) {k : Fin 16} {x : Slot} (slot : s.call.slots.row k = some x)
    (speaking : w.on .zones → x.state ≠ .waiting) (a : Answer) : (s.endRepetition k x a).Holds w := by
  unfold State.endRepetition
  dsimp only
  split
  · have freed : ((s.setSlot k (some { x with
        token := none, limit := none, lastAnswer := a, left := 0, state := .interval })).call.run.free k).call
        = s.call.vacate k none := by
      rw [CallRun.free_call (x := { x with
        token := none, limit := none, lastAnswer := a, left := 0, state := .interval })]
      · exact Call.vacate_put _ _ _ _
      · exact Tbl.row_put_self _ _ _
    refine h.arbiter _ (fun on => ?_) (fun on => ?_) ?_
    · have slots : s.call.each Slot.safe := h .slots on
      rw [freed]
      exact slots.vacate (by simp)
    · have ruled : s.call.zonesRuled := h .zones on
      rw [freed]
      exact ruled.held.vacate (by simp)
    · rw [freed]; rfl
  · refine h.setSlot slot (fun _ => ?_) fun on => ⟨?_, rfl, rfl, ?_⟩
    · simp [Slot.safe]
    · simp [speaking on]
    · exact fun timed => ⟨by simp, by simp [timed.2.1, speaking on], timed.2.2⟩

/-- The facts that read the count of PA faults in a run. -/
def Fact.ofPaRun (f : Fact) : Prop := Fact.fixed condPaFault f

theorem State.Holds.setPaRun (h : s.Holds w) (late run : Nat) :
    (s.setCall { s.call with paLate := late, paRun := run }).Holds
      (w.drop (Fact.fixed condPaFault) (Fact.fixed_droppable condPaFault)) := by
  refine h.drop_of_keeps _ fun f other kept => ?_
  cases f with
  | paFault => exact (other rfl).elim
  | zones =>
    have ruled : s.call.zonesRuled := kept
    exact ruled.of_eq rfl rfl rfl
  | _ => exact kept

theorem State.setCond_keeps_paFault {v : Bool} (h : v = decide (2 ≤ s.call.paRun)) :
    ∀ f, Fact.fixed condPaFault f → w.on f → (s.setCond condPaFault v).keeps f := by
  intro f fixed _
  cases f with
  | paFault =>
    change _ = decide (2 ≤ (s.setCond condPaFault v).call.paRun)
    rw [State.setCond_cond_self, State.setCond_frame]
    exact h
  | lane n =>
    have lt := n.isLt
    exact absurd (congrArg Fin.val (show condPaFault = condLane n from fixed)) (by simp [condPaFault, condLane]; omega)
  | bridge | service | moving => exact absurd (congrArg Fin.val (show condPaFault = _ from fixed)) (by decide)
  | _ => exact fixed.elim

theorem State.Holds.answeredSlot (h : s.Holds w) {k : Fin 16} {x : Slot} (slot : s.call.slots.row k = some x)
    (speaking : w.on .zones → x.state ≠ .waiting) (a : Answer) : (s.answeredSlot k x a).Holds w := by
  have quiet := (h.setPaRun s.call.paLate 0).setFixed (v := false) (by decide) (State.setCond_keeps_paFault rfl)
  refine State.Holds.endRepetition quiet ?_ speaking a
  rw [State.setCond_frame]
  exact slot

theorem Call.speaker_some {c : Call} {tag : Byte} {k : Fin 16} (h : c.speaker tag = some k) :
    ∃ x, c.slots.row k = some x ∧ x.state = .speaking ∧ x.token = some tag := by
  have found := List.find?_some h
  cases slot : c.slots.row k with
  | none => simp [slot] at found
  | some x => exact ⟨x, rfl, by simpa [slot] using found⟩

theorem State.Holds.paLate (h : s.Holds w) (late : Nat) : (s.setCall { s.call with paLate := late }).Holds w :=
  h.setCall (fun on => h .slots on)
    (fun on => have ruled : s.call.zonesRuled := h .zones on; ruled.of_eq rfl rfl rfl) rfl

theorem State.Holds.callDone (h : s.Holds w) (src dst tag : Byte) (payload : List Byte) :
    (s.callDone src dst tag payload).Holds w := by
  unfold State.callDone
  split
  · split
    · exact h.paLate _
    · rename_i k found
      obtain ⟨x, slot, speaking, -⟩ := Call.speaker_some found
      rw [slot]
      exact h.answeredSlot slot (fun _ => by simp [speaking]) _
  · exact h

theorem State.Holds.limitExpired (h : s.Holds w) {k : Fin 16} {x : Slot} (slot : s.call.slots.row k = some x)
    (running : x.limit.isSome) : (s.limitExpired k x).Holds w := by
  have speaking (on : w.on .zones) : x.state ≠ .waiting := by
    have slots : s.call.each Slot.safe := h .slots (w.closed .zones .slots rfl on)
    intro waiting
    have := (slots k x slot).2 (by simp [waiting])
    simp [this.2] at running
  unfold State.limitExpired
  dsimp only
  have counted := h.setPaRun (satAdd 65535 s.call.paLate 1) (satAdd 255 s.call.paRun 1)
  split
  · rename_i second
    have risen := counted.setFixed (v := true) (by decide) (State.setCond_keeps_paFault (by
      change true = decide (2 ≤ satAdd 255 s.call.paRun 1)
      rw [second]; rfl))
    refine State.Holds.endRepetition (risen.notice _ _) ?_ speaking _
    rw [State.notice_frame, State.setCond_frame]
    exact slot
  · rename_i other
    refine State.Holds.endRepetition (counted.restore fun f fixed on => ?_) slot speaking _
    cases f with
    | paFault =>
      have kept : s.cond condPaFault = decide (2 ≤ s.call.paRun) := h .paFault on
      change s.cond condPaFault = decide (2 ≤ satAdd 255 s.call.paRun 1)
      rw [kept, decide_eq_decide]
      simp only [satAdd] at other ⊢
      omega
    | lane n =>
      have lt := n.isLt
      exact absurd (congrArg Fin.val (show condPaFault = condLane n from fixed))
        (by simp [condPaFault, condLane]; omega)
    | bridge | service | moving => exact absurd (congrArg Fin.val (show condPaFault = _ from fixed)) (by decide)
    | _ => exact fixed.elim

/-! ## Cancel, intervals, lamps, mode and reset (R171 to R176) -/

theorem State.Holds.callCancel (h : s.Holds w) (form index : Byte) : (callCancel form index s).2.Holds w := by
  unfold Machine.callCancel
  split
  · exact h
  · refine h.arbiter s.call (fun on => ?_) (fun on => ?_) ?_
    · have slots : s.call.each Slot.safe := h .slots on
      exact CallRun.foldl_free_each (r := s.call.run) slots _
    · have ruled : s.call.zonesRuled := h .zones on
      exact CallRun.foldl_free_held (r := s.call.run) ruled.held _
    · rw [CallRun.foldl_free_rest]; rfl

theorem State.Holds.onSlot (h : s.Holds w) (k : Fin 16) {f : Slot → State → State}
    (hf : ∀ x, s.call.slots.row k = some x → (f x s).Holds w) : (s.onSlot k f).Holds w := by
  unfold State.onSlot
  split
  · exact h
  · rename_i slot
    exact hf _ slot

theorem State.Holds.intervalExpired (h : s.Holds w) {k : Fin 16} {x : Slot} (slot : s.call.slots.row k = some x)
    (running : x.interval.isSome) (now : Nat) : (s.endCall (s.call.run.speak k x now)).Holds w := by
  refine h.endCall s.call (fun on => ?_) (fun on => ?_) rfl
  · have slots : s.call.each Slot.safe := h .slots on
    intro j y is
    rw [CallRun.speak_slot] at is
    split at is
    · obtain rfl := Option.some.inj is
      exact CallRun.spoken_safe _ _ _
    · exact slots j y is
  · have ruled : s.call.zonesRuled := h .zones on
    have timed := ruled.held.timed k x slot
    have interval : x.state = .interval := timed.1.mp (by
      intro no; rw [no] at running; simp at running)
    refine ruled.standsFor (Call.standsFor_put slot (x' := s.call.run.spoken x now) ⟨?_, rfl, rfl, ?_⟩ rfl) rfl rfl
    · simp [CallRun.spoken, interval]
    · exact fun _ => ⟨by simp [CallRun.spoken], by simp [CallRun.spoken, timed.2.1, interval], timed.2.2⟩

theorem State.Holds.stepLamp (h : s.Holds w) {k : Fin 16} {x : Slot} (slot : s.call.slots.row k = some x)
    {due : Nat} (running : x.lampDue = some due) : (s.stepLamp k x due).Holds w := by
  have stepped := h.setSlot slot (x' := { x with lampStep := x.lampStep + 1, lampDue := some (due + lampStepTime) })
    id fun _ => ⟨Iff.rfl, rfl, rfl, fun timed =>
      ⟨timed.1, by have := timed.2.1; rw [running] at this; simpa using this, timed.2.2⟩⟩
  exact stepped.setLampsOf _

/-- CALL ends every call, whatever the records before it. -/
theorem State.Holds.endAllCalls (h : s.Holds w) : s.endAllCalls.Holds w := by
  have free (j : Fin 16) : ((List.finRange 16).foldl CallRun.free s.call.run).call.slots.row j = none := by
    rw [CallRun.foldl_free_slot, if_pos (List.mem_finRange j)]
  have rest := CallRun.foldl_free_rest (List.finRange 16) s.call.run
  unfold State.endAllCalls
  dsimp only
  generalize (List.finRange 16).foldl CallRun.free s.call.run = r at free rest ⊢
  have stored : (s.setCall { r.call with
      zones := r.call.zones.map (fun z => { z with holder := none }) }).Holds w := by
    refine h.setCall (fun _ => ?_) (fun on => ?_) ?_
    · intro j y is
      exact absurd ((free j).symm.trans is) (by simp)
    · have ruled : s.call.zonesRuled := h .zones on
      refine ⟨⟨fun z k => ?_, fun j y is => ?_, ?_⟩, fun j y is => ?_⟩
      · change Zone.holder ((r.call.zones.map fun z => { z with holder := none })[z.val]) = some k ↔
          ∃ x, r.call.slots.row k = some x ∧ _
        rw [free, Vector.getElem_map]
        simp
      · exact absurd ((free j).symm.trans is) (by simp)
      · change ∀ m, (r.call.templates.row m).allow ≠ none → (r.call.templates.row m).zones ≠ 0
        rw [rest]
        exact ruled.held.templates
      · exact absurd ((free j).symm.trans is) (by simp)
    · change r.call.paRun = _
      rw [rest]; rfl
  exact State.Holds.setLampsOf (stored.callFrames _) _

/-- The reset of CALL; PA_FAULT falls with COND's reset. -/
theorem State.Holds.resetCall (h : s.Holds w) :
    s.resetCall.Holds (w.drop (Fact.fixed condPaFault) (Fact.fixed_droppable condPaFault)) :=
  h.endAllCalls.setPaRun _ 0

end Sys2Proof.Machine
end

section
/-! PROOFS. What every event of DOOR keeps (R139 to R159). -/

namespace Sys2Proof.Machine
variable {s t : State} {w : Watch}

/-- The facts that read the doors of the lanes and the groups named. -/
def Fact.ofDoors (lanes groups : Fin 8 → Prop) : Fact → Prop
  | .lane n => lanes n
  | .follows _ (.groupClosed g) | .follows _ (.groupOpen g) => groups g
  | _ => False

theorem Fact.ofDoors_droppable (lanes groups : Fin 8 → Prop) : Droppable (Fact.ofDoors lanes groups) := by
  rintro f g needs d
  cases g <;> simp only [Fact.ofDoors] at d <;> cases f <;> simp [Fact.needs] at needs

theorem Fact.ofDoors_iff {lanes groups : Fin 8 → Prop} {f : Fact} : Fact.ofDoors lanes groups f ↔
    (∃ n, f = .lane n ∧ lanes n)
    ∨ ∃ c src g, f = .follows c src ∧ (src = .groupClosed g ∨ src = .groupOpen g) ∧ groups g := by
  cases f with
  | lane n => simp [Fact.ofDoors]
  | follows c src => cases src <;> simp [Fact.ofDoors]
  | _ => simp [Fact.ofDoors]

/-- The watch without the facts that read the doors of the lanes and the groups named. -/
def Watch.unread (w : Watch) (lanes groups : Fin 8 → Prop) : Watch :=
  w.drop (Fact.ofDoors lanes groups) (Fact.ofDoors_droppable lanes groups)

/-- A door's record is replaced: it stands in the same state in the same lane and group, or the facts that read its
lanes and groups are suspended. -/
def Door.movesWithin (lanes groups : Fin 8 → Prop) (x x' : Door) : Prop :=
  (x'.set.lane = x.set.lane ∧ x'.state = x.state ∨ ∀ n, x.set.lane = some n ∨ x'.set.lane = some n → lanes n)
  ∧ (x'.set.group = x.set.group ∧ x'.state = x.state
    ∨ ∀ g, x.set.group = some g ∨ x'.set.group = some g → groups g)

/-- The part with other door records. -/
def State.withDoors (s : State) (ds : Tbl Door 24) : State := { s with door := { s.door with doors := ds } }

section moves
variable {lanes groups : Fin 8 → Prop} {ds : Tbl Door 24}
  (moves : ∀ d, Door.movesWithin lanes groups (s.door.doors.row d) (ds.row d))
include moves

theorem State.laneClear_withDoors {n : Fin 8} (other : ¬ lanes n) : (s.withDoors ds).laneClear n = s.laneClear n := by
  unfold State.laneClear
  congr 1
  funext d
  change ((ds.row d).set.lane != some n || (ds.row d).state == .opened)
    = ((s.door.doors.row d).set.lane != some n || (s.door.doors.row d).state == .opened)
  rcases (moves d).1 with ⟨lane, state⟩ | within
  · rw [lane, state]
  · have old : (s.door.doors.row d).set.lane ≠ some n := fun is => other (within n (.inl is))
    have new : (ds.row d).set.lane ≠ some n := fun is => other (within n (.inr is))
    rw [bne_iff_ne.mpr old, bne_iff_ne.mpr new, Bool.true_or, Bool.true_or]

theorem State.groupAll_withDoors {g : Fin 8} (other : ¬ groups g) (st : DoorState) :
    (s.withDoors ds).groupAll g st = s.groupAll g st := by
  have out {d : Fin 24} (new : ∀ g, (s.door.doors.row d).set.group = some g ∨ (ds.row d).set.group = some g →
      groups g) : (s.door.doors.row d).set.group ≠ some g ∧ (ds.row d).set.group ≠ some g :=
    ⟨fun is => other (new g (.inl is)), fun is => other (new g (.inr is))⟩
  unfold State.groupAll
  congr 2
  · funext d
    change ((ds.row d).set.group == some g) = ((s.door.doors.row d).set.group == some g)
    rcases (moves d).2 with ⟨group, -⟩ | within
    · rw [group]
    · obtain ⟨old, new⟩ := out within
      rw [beq_false_of_ne old, beq_false_of_ne new]
  · funext d
    change ((ds.row d).set.group != some g || (ds.row d).state == st)
      = ((s.door.doors.row d).set.group != some g || (s.door.doors.row d).state == st)
    rcases (moves d).2 with ⟨group, state⟩ | within
    · rw [group, state]
    · obtain ⟨old, new⟩ := out within
      rw [bne_iff_ne.mpr old, bne_iff_ne.mpr new, Bool.true_or, Bool.true_or]

/-- Door records are replaced: the facts that read the lanes and groups of the doors that move are suspended. -/
theorem State.Holds.withDoors (h : s.Holds w) (tries : w.on .attempts → ∀ d, (ds.row d).tries)
    (sets : ∀ d x, w.on (.doorSet d x) → (ds.row d).set = (s.door.doors.row d).set) :
    (s.withDoors ds).Holds (w.unread lanes groups) := by
  intro f on
  have kept := h f on.1
  cases f with
  | attempts => exact tries on.1
  | doorSet d x => exact (sets d x on.1).trans kept
  | lane n =>
    change s.cond (condLane n) = (s.withDoors ds).laneClear n
    rw [State.laneClear_withDoors moves on.2]
    exact kept
  | follows c src =>
    cases src with
    | groupClosed g =>
      intro source
      change s.cond c = (s.withDoors ds).groupAll g .closed
      rw [State.groupAll_withDoors moves on.2]
      exact kept source
    | groupOpen g =>
      intro source
      change s.cond c = (s.withDoors ds).groupAll g .opened
      rw [State.groupAll_withDoors moves on.2]
      exact kept source
    | _ => exact kept
  | _ => exact kept

end moves

/-- LANE_CLEAR of a lane is recomputed: the fact that reads the lane holds again. -/
theorem State.Holds.followLaneOf {lanes groups : Fin 8 → Prop} (h : s.Holds (w.unread lanes groups))
    (lane : Option (Fin 8)) :
    (s.followLane lane).Holds (w.unread (fun n => lanes n ∧ lane ≠ some n) groups) := by
  cases lane with
  | none =>
    refine h.mono fun f on => ⟨on.1, fun read => on.2 ?_⟩
    rcases Fact.ofDoors_iff.mp read with ⟨n, rfl, mem⟩ | ⟨c, src, g, rfl, names, mem⟩
    · exact Fact.ofDoors_iff.mpr (.inl ⟨n, rfl, mem, by simp⟩)
    · exact Fact.ofDoors_iff.mpr (.inr ⟨c, src, g, rfl, names, mem⟩)
  | some n =>
    refine State.Holds.followLane (h.mono fun f on => ⟨on.1.1, fun read => ?_⟩)
    rcases Fact.ofDoors_iff.mp read with ⟨m, rfl, mem⟩ | ⟨c, src, g, rfl, names, mem⟩
    · refine on.1.2 (Fact.ofDoors_iff.mpr (.inl ⟨m, rfl, mem, fun same => on.2 ?_⟩))
      rw [Fact.ofLane, Option.some.inj same]
    · exact on.1.2 (Fact.ofDoors_iff.mpr (.inr ⟨c, src, g, rfl, names, mem⟩))

/-- The conditions that follow a group are recomputed: the facts that read the group hold again. -/
theorem State.Holds.followGroupOf {lanes groups : Fin 8 → Prop} (h : s.Holds (w.unread lanes groups))
    (group : Option (Fin 8)) :
    (s.followGroup group).Holds (w.unread lanes (fun g => groups g ∧ group ≠ some g)) := by
  cases group with
  | none =>
    refine h.mono fun f on => ⟨on.1, fun read => on.2 ?_⟩
    rcases Fact.ofDoors_iff.mp read with ⟨n, rfl, mem⟩ | ⟨c, src, g, rfl, names, mem⟩
    · exact Fact.ofDoors_iff.mpr (.inl ⟨n, rfl, mem⟩)
    · exact Fact.ofDoors_iff.mpr (.inr ⟨c, src, g, rfl, names, mem, by simp⟩)
  | some g =>
    change (s.follow fun src => src == .groupClosed g || src == .groupOpen g).Holds _
    refine State.Holds.follow (h.mono fun f on => ⟨on.1.1, fun read => ?_⟩)
    rcases Fact.ofDoors_iff.mp read with ⟨n, rfl, mem⟩ | ⟨c, src, g', rfl, names, mem⟩
    · exact on.1.2 (Fact.ofDoors_iff.mpr (.inl ⟨n, rfl, mem⟩))
    · refine on.1.2 (Fact.ofDoors_iff.mpr (.inr ⟨c, src, g', rfl, names, mem, fun same => on.2 ?_⟩))
      rcases names with rfl | rfl <;> simp [Fact.followed, Option.some.inj same]

/-- No lane and no group is suspended. -/
theorem State.Holds.read {lanes groups : Fin 8 → Prop} (h : s.Holds (w.unread lanes groups))
    (noLane : ∀ n, ¬ lanes n) (noGroup : ∀ g, ¬ groups g) : s.Holds w := by
  refine State.Holds.restore h fun f read _ => ?_
  rcases Fact.ofDoors_iff.mp read with ⟨n, -, mem⟩ | ⟨c, src, g, -, -, mem⟩
  · exact (noLane n mem).elim
  · exact (noGroup g mem).elim

/-! ## A change of state (R142, R143) -/

theorem Door.movesWithin_refl (lanes groups : Fin 8 → Prop) (x : Door) : x.movesWithin lanes groups x :=
  ⟨.inl ⟨rfl, rfl⟩, .inl ⟨rfl, rfl⟩⟩

/-- One door's record is replaced. -/
theorem State.Holds.setDoor {lanes groups : Fin 8 → Prop} (h : s.Holds w) {d : Fin 24} {x : Door}
    (moves : (s.door.doors.row d).movesWithin lanes groups x) (set : x.set = (s.door.doors.row d).set)
    (tries : (s.door.doors.row d).tries → x.tries) :
    (s.setDoor d x).Holds (w.unread lanes groups) := by
  refine State.Holds.withDoors (ds := s.door.doors.put d x) (fun i => ?_) h (fun on i => ?_)
    fun i y on => ?_
  · rw [Tbl.row_put]
    split
    · rename_i same; subst same; exact moves
    · exact Door.movesWithin_refl _ _ _
  · have kept : ∀ d, (s.door.doors.row d).tries := h .attempts on
    rw [Tbl.row_put]
    split
    · exact tries (kept d)
    · exact kept i
  · rw [Tbl.row_put]
    split
    · rename_i same; subst same; exact set
    · rfl

theorem State.Holds.setAttempts (h : s.Holds w) {d : Fin 24} {n : Nat}
    (le : (s.door.doors.row d).tries → n ≤ (s.door.doors.row d).set.retryLimit + 1) :
    (s.setAttempts d n).Holds w :=
  State.Holds.read (lanes := fun _ => False) (groups := fun _ => False)
    (h.setDoor ⟨.inl ⟨rfl, rfl⟩, .inl ⟨rfl, rfl⟩⟩ rfl le) (fun _ => id) (fun _ => id)

theorem State.Holds.doorTo (h : s.Holds w) (d : Fin 24) (st : DoorState) (due : Option Nat) :
    (s.doorTo d st due).Holds w := by
  have moved := h.setDoor (d := d)
    (x := { s.door.doors.row d with state := st, timer := st.timer s.clock, due := due })
    (lanes := fun n => (s.door.doors.row d).set.lane = some n)
    (groups := fun g => (s.door.doors.row d).set.group = some g)
    ⟨.inr fun n is => is.elim id id, .inr fun g is => is.elim id id⟩ rfl id
  have followed : (((s.setDoor d { s.door.doors.row d with state := st, timer := st.timer s.clock, due := due }).followLane
      (s.door.doors.row d).set.lane).followGroup (s.door.doors.row d).set.group).Holds w :=
    ((moved.followLaneOf _).followGroupOf _).read (fun n lane => lane.2 lane.1) (fun g group => group.2 group.1)
  unfold State.doorTo
  dsimp only
  generalize ((s.setDoor d _).followLane _).followGroup _ = t at followed ⊢
  split
  · exact followed
  · split
    · exact followed.notice _ _
    · exact followed

/-! ## The CLOSE SEQUENCE and the BACK-OFF CYCLE (R145 to R154) -/

theorem State.Holds.toClosing (h : s.Holds w) (d : Fin 24) : (s.toClosing d).Holds w := by
  unfold State.toClosing
  dsimp only
  split
  · exact h.doorTo _ _ _
  · exact h.doorTo _ _ _

theorem State.Holds.warningCall (h : s.Holds w) (d : Fin 24) : (s.warningCall d).Holds w := by
  unfold State.warningCall
  dsimp only
  split
  · exact h
  · split
    · exact h
    · exact h.hand _

theorem State.Holds.toWarning (h : s.Holds w) (d : Fin 24) (time : Nat) (atOnce : Bool) :
    (s.toWarning d time atOnce).Holds w := by
  have warned := (h.doorTo d .warning (s.expiry time)).warningCall d
  unfold State.toWarning
  dsimp only
  split
  · exact warned.toClosing d
  · exact warned

theorem State.Holds.closeSequence (h : s.Holds w) (d : Fin 24) (immediate : Bool) :
    (s.closeSequence d immediate).Holds w :=
  (h.setAttempts fun _ => Nat.le_add_left 1 _).toWarning _ _ _

theorem State.Holds.closeRequest (h : s.Holds w) (explicit immediate : Bool) (d : Fin 24) :
    (s.closeRequest explicit immediate d).Holds w := by
  unfold State.closeRequest
  split
  · exact h.closeSequence d _
  · exact h.closeSequence d _
  · split
    · exact h.toClosing d
    · exact h
  · split
    · exact h.closeSequence d _
    · exact h
  all_goals exact h

theorem State.Holds.triggerRequest (h : s.Holds w) (d : Fin 24) : (s.triggerRequest d).Holds w := by
  unfold State.triggerRequest
  split
  · exact h.closeRequest _ _ d
  · exact h.closeRequest _ _ d
  · exact h

theorem State.Holds.readTrigger (h : s.Holds w) (g : Fin 8) : (s.readTrigger g).Holds w := by
  unfold State.readTrigger
  split
  · exact foldl_holds (fun s => s.Holds w) State.triggerRequest (fun _ d h => h.triggerRequest d) _ s h
  · exact h

theorem State.Holds.toOpen (h : s.Holds w) (d : Fin 24) : (s.toOpen d).Holds w := by
  unfold State.toOpen
  dsimp only
  split
  · exact h.doorTo _ _ _
  · exact (h.doorTo _ _ _).readTrigger _

theorem State.Holds.toOpening (h : s.Holds w) (d : Fin 24) : (s.toOpening d).Holds w := by
  unfold State.toOpening
  dsimp only
  split
  · exact h.toOpen d
  · exact h.doorTo _ _ _

theorem State.Holds.jam (h : s.Holds w) (d : Fin 24) : (s.jam d).Holds w := (h.doorTo _ _ _).notice _ _

theorem State.Holds.backoffExpiry (h : s.Holds w) (d : Fin 24) : (s.backoffExpiry d).Holds w := by
  unfold State.backoffExpiry
  dsimp only
  split
  · rename_i less
    exact (h.setAttempts fun _ => less).toWarning _ _ _
  · exact h.jam d

theorem State.Holds.toBackoff (h : s.Holds w) (d : Fin 24) : (s.toBackoff d).Holds w := by
  unfold State.toBackoff
  dsimp only
  split
  · exact (h.doorTo _ _ _).backoffExpiry d
  · exact h.doorTo _ _ _

theorem State.Holds.releaseDoor (h : s.Holds w) (d : Fin 24) : (s.releaseDoor d).Holds w := by
  have cleared := h.setAttempts (d := d) (n := 0) fun _ => Nat.zero_le _
  unfold State.releaseDoor
  split
  · exact h
  · exact h
  · exact h
  · exact cleared.toOpen d
  all_goals exact cleared.toOpening d

/-! ## Groups (R145, R153) -/

theorem State.Holds.closeGroup (h : s.Holds w) (immediate : Bool) (g : Fin 8) :
    (closeGroup immediate g s).2.Holds w := by
  unfold Machine.closeGroup
  split
  · exact h
  · exact foldl_holds (fun s => s.Holds w) (State.closeRequest true immediate)
      (fun _ d h => h.closeRequest _ _ d) _ s h

theorem State.Holds.releaseGroup (h : s.Holds w) (g : Fin 8) : (releaseGroup g s).2.Holds w := by
  unfold Machine.releaseGroup
  split
  · exact h
  · split
    · exact h
    · have released := foldl_holds (fun s => s.Holds w) State.releaseDoor (fun _ d h => h.releaseDoor d)
        (s.doorsOf g) s h
      dsimp only
      split
      · unfold State.cancelWarning
        split
        · exact released
        · exact released.hand _
      · exact released

theorem State.Holds.eachGroup (h : s.Holds w) (groups : Byte) {f : Fin 8 → State → Code × State}
    (hf : ∀ g u, u.Holds w → (f g u).2.Holds w) : (eachGroup groups f s).2.Holds w := by
  unfold Machine.eachGroup
  refine foldl_holds (fun r : Code × State => State.Holds r.2 w) _ (fun r g hr => ?_) _ _ ?_
  · exact hf g r.2 hr
  · exact h

/-! ## The end of a DOOR event (R142, R148) -/

theorem State.Holds.doorLevels (h : s.Holds w) (d : Fin 24) : (s.doorLevels d).Holds w :=
  (h.ownerLevel _ _ _).ownerLevel _ _ _

theorem State.Holds.doorEvent {f : State → State} (h : (f s).Holds w) : (doorEvent f s).Holds w :=
  (foldl_holds (fun s : State => s.Holds w) State.doorLevels (fun _ d h => State.Holds.doorLevels h d) _ (f s)
    h).handed _

theorem State.Holds.groupClose (h : s.Holds w) (groups immediate : Byte) :
    (groupClose groups immediate s).2.Holds w := by
  unfold Machine.groupClose
  split
  · exact h
  · split
    · exact h
    · split
      · exact h
      · exact State.Holds.doorEvent (h.eachGroup groups fun g u hu => hu.closeGroup _ g)

theorem State.Holds.groupRelease (h : s.Holds w) (groups : Byte) : (groupRelease groups s).2.Holds w := by
  unfold Machine.groupRelease
  split
  · exact h
  · split
    · exact h
    · exact State.Holds.doorEvent (h.eachGroup groups fun g u hu => hu.releaseGroup g)

/-! ## Limit switches, triggers and derivation (R144, R147, R149 to R155) -/

theorem State.Holds.doorSwitch (h : s.Holds w) (c : Fin 64) (v : Bool) (d : Fin 24) :
    (State.doorSwitch c v s d).Holds w := by
  have closed := h.doorTo d .closed none
  have opened := h.toOpen d
  unfold State.doorSwitch
  dsimp only
  split
  · exact h
  · split
    · exact h
    · exact h
    · split <;> [exact closed; exact h]
    · split <;> [exact closed; exact h]
    · split <;> [exact opened; exact h]
    · split <;> [exact closed; exact h]
    · split <;> [exact opened; exact h]
    · split
      · exact closed
      · split <;> [exact opened; exact h]

theorem State.Holds.readTriggers (h : s.Holds w) (chosen : Group → Bool) : (s.readTriggers chosen).Holds w := by
  refine foldl_holds (fun s => s.Holds w) _ (fun u g hu => ?_) _ s h
  split
  · exact hu.readTrigger g
  · exact hu

theorem State.Holds.doorsChange (h : s.Holds w) (c : Fin 64) (v : Bool) : (s.doorsChange c v).Holds w :=
  State.Holds.doorEvent ((foldl_holds (fun s : State => s.Holds w) (State.doorSwitch c v)
    (fun _ d h => State.Holds.doorSwitch h c v d) _ s h).readTriggers _)

theorem State.Holds.deriveDoor (h : s.Holds w) (d : Fin 24) : (s.deriveDoor d).Holds w := by
  unfold State.deriveDoor
  dsimp only
  split
  · split
    · exact h.doorTo _ _ _
    · exact h.toOpen d
  · exact h

theorem State.Holds.deriveDoors (h : s.Holds w) :
    (Machine.doorEvent (fun s => (List.finRange 24).foldl State.deriveDoor s) s).Holds w :=
  State.Holds.doorEvent (foldl_holds (fun s => s.Holds w) State.deriveDoor (fun _ d h => h.deriveDoor d) _ s h)

theorem State.Holds.doorCutoff (h : s.Holds w) (d : Fin 24) (ch : Fin 16) : (s.doorCutoff d ch).Holds w := by
  refine State.Holds.doorEvent ?_
  dsimp only
  split
  · split <;> [exact h.toBackoff d; exact h]
  · split <;> [exact h.jam d; exact h]
  · split <;> [exact h.jam d; exact h]
  · exact h

theorem State.Holds.doorExpiry (h : s.Holds w) (d : Fin 24) : (s.doorExpiry d).Holds w := by
  refine State.Holds.doorEvent ?_
  split
  · exact h.toClosing d
  · exact h.toBackoff d
  · exact h.backoffExpiry d
  · exact h.jam d
  · exact h

/-- The reset of DOOR; the lane and group conditions follow with COND's reset. -/
theorem State.Holds.resetDoors (h : s.Holds w) :
    s.resetDoors.Holds (w.unread (fun _ => True) (fun _ => True)) := by
  unfold State.resetDoors
  dsimp only
  refine foldl_holds (fun s : State => s.Holds (w.unread (fun _ => True) (fun _ => True))) State.doorLevels
    (fun _ d h => State.Holds.doorLevels h d) _ _ ?_
  refine State.Holds.withDoors (fun d => ⟨.inr fun _ _ => trivial, .inr fun _ _ => trivial⟩) h (fun _ d => ?_)
    fun d _ _ => ?_
  · change Door.tries ((s.door.doors.map fun x => { x with
    state := .unset, attempts := 0, timer := Stopwatch.zero, due := none })[d.val])
    rw [Vector.getElem_map]
    exact Nat.zero_le _
  · change Door.set ((s.door.doors.map fun x => { x with
      state := .unset, attempts := 0, timer := Stopwatch.zero, due := none })[d.val]) = _
    rw [Vector.getElem_map]
    rfl

end Sys2Proof.Machine
end

section
/-! PROOFS. What every event of PLAN keeps (R114 to R138). -/

namespace Sys2Proof.Machine
variable {s t : State} {w : Watch} {r : Fin 4}

/-! ## The approach law within its limits (R134) -/

theorem Drive.speed_le (d : Drive) (dist : Nat) : d.speed dist ≤ min d.vMax 1000 := by
  unfold Drive.speed
  dsimp only
  generalize min d.vMax 1000 = high
  have low : min d.vMin high ≤ high := Nat.min_le_right _ _
  generalize min d.vMin high = low_ at low
  have slow : 0 < max d.slowdown 1 := by omega
  generalize max d.slowdown 1 = slow_ at slow
  have part : (high - low_) * min dist slow_ / slow_ ≤ high - low_ := by
    rw [Nat.div_le_iff_le_mul slow]
    have := Nat.mul_le_mul_left (high - low_) (Nat.min_le_right dist slow_)
    omega
  omega

theorem Drive.command_le {d : Drive} {sPrev : Nat} (h : sPrev ≤ min d.vMax 1000) (dist : Nat) :
    d.command sPrev dist ≤ min d.vMax 1000 := by
  have speed := d.speed_le dist
  unfold Drive.command
  dsimp only
  split <;> omega

/-! ## A ramp's record replaced -/

theorem State.setRamp_ramp (s : State) (r : Fin 4) (x : Ramp) : (s.setRamp r x).ramp r = x := Tbl.row_put_self _ _ _

theorem Plan.rampRuled.ramp {n : Plan} {m : Mode} {x : Ramp} (h : n.rampRuled m x) (ramps : Tbl Ramp 4) :
    Plan.rampRuled { n with ramps := ramps } m x := ⟨h.atRest, h.placed, h.command, h.dwells⟩

theorem Plan.ruled.put {n : Plan} {m : Mode} (h : n.ruled m) {x : Ramp} (hx : n.rampRuled m x) (r : Fin 4) :
    Plan.ruled { n with ramps := n.ramps.put r x } m where
  plans := h.plans
  ramps i := by
    refine Plan.rampRuled.ramp ?_ _
    change n.rampRuled m ((n.ramps.put r x).row i)
    rw [Tbl.row_put]
    split
    · exact hx
    · exact h.ramps i

/-- The rules of the ramp's record, where the ramps are watched. -/
theorem State.Holds.ramp (h : s.Holds w) (on : w.on .ramps) (r : Fin 4) : s.plan.rampRuled s.req.mode (s.ramp r) :=
  have ruled : s.plan.ruled s.req.mode := h .ramps on
  ruled.ramps r

theorem State.rampMoving_setRamp_ne {i : Fin 4} (ne : i ≠ r) (s : State) (x : Ramp) :
    (s.setRamp r x).rampMoving i = s.rampMoving i := by
  have row : (s.setRamp r x).plan.ramps.row i = s.plan.ramps.row i := Tbl.row_put_ne _ _ (Ne.symm ne)
  simp only [State.rampMoving, row]; rfl

/-- A ramp that keeps its rules moves when its command is above 0. -/
theorem State.rampMoving_eq (h : s.plan.rampRuled s.req.mode (s.ramp r)) :
    s.rampMoving r = decide (0 < (s.ramp r).sPrev) := by
  change s.plan.rampRuled s.req.mode (s.plan.ramps.row r) at h
  unfold State.rampMoving State.ramp
  dsimp only
  by_cases above : 0 < (s.plan.ramps.row r).sPrev
  · obtain ⟨running, entered, k, d, stage, kind, -⟩ := h.command above
    simp [above, running, entered, stage, kind]
  · simp [above]

/-- The ramp stands where RAMP_AT of a plan reads (R40). -/
def Ramp.restsAt (x : Ramp) (p : Fin 8) : Prop := x.state = .idle ∧ x.result = .complete ∧ x.plan = some p

theorem State.rampAt_setRamp {x : Ramp} {r' : Fin 4} {p : Fin 8}
    (same : r' = r → (x.restsAt p ↔ (s.ramp r).restsAt p)) (held : Bool) :
    (s.setRamp r x).sourceValue (.rampAt r' p) held = s.sourceValue (.rampAt r' p) held := by
  have row : (s.setRamp r x).plan.ramps.row r' = if r = r' then x else s.plan.ramps.row r' := Tbl.row_put _ _ _ _
  unfold State.sourceValue
  dsimp only
  rw [row]
  split
  · rename_i is
    have same := same is.symm
    subst is
    simp only [Ramp.restsAt, State.ramp] at same
    rw [Bool.eq_iff_iff]
    simpa [and_assoc] using same
  · rfl

/-- A ramp's record is replaced: the facts that read what the ramp does are suspended. -/
theorem State.Holds.setRamp (h : s.Holds w) {x : Ramp} (ruled : w.on .ramps → s.plan.rampRuled s.req.mode x) :
    (s.setRamp r x).Holds (w.drop (Fact.ofRamp r) (Fact.ofRamp_droppable r)) := by
  intro f on
  have kept := h f on.1
  cases f with
  | ramps =>
    have old : s.plan.ruled s.req.mode := kept
    exact old.put (ruled on.1) r
  | moving => exact (on.2 trivial).elim
  | follows c src =>
    cases src with
    | rampAt r' p =>
      intro source
      have other : r' ≠ r := on.2
      change s.cond c = _
      rw [State.rampAt_setRamp (fun is => absurd is other)]
      exact kept source
    | _ => exact kept
  | _ => exact kept

/-- A ramp's record is replaced by one that neither moves nor rests otherwise. -/
theorem State.Holds.setRampStill (h : s.Holds w) {x : Ramp} (ruled : w.on .ramps → s.plan.rampRuled s.req.mode x)
    (sPrev : w.on .ramps → x.sPrev = (s.ramp r).sPrev) (state : x.state = (s.ramp r).state)
    (result : x.result = (s.ramp r).result) (plan : x.plan = (s.ramp r).plan) : (s.setRamp r x).Holds w := by
  have set := h.setRamp (r := r) ruled
  refine set.restore fun f reads on => ?_
  have kept := h f on
  cases f with
  | moving =>
    have ramps : w.on .ramps := w.closed .moving .ramps (.inr (.inl rfl)) on
    have movingSame (i : Fin 4) : (s.setRamp r x).rampMoving i = s.rampMoving i := by
      by_cases is : i = r
      · subst is
        have new : (s.setRamp i x).plan.rampRuled (s.setRamp i x).req.mode ((s.setRamp i x).ramp i) := by
          have all : (s.setRamp i x).plan.ruled (s.setRamp i x).req.mode := set .ramps ⟨ramps, id⟩
          exact all.ramps i
        rw [State.rampMoving_eq new, State.rampMoving_eq (h.ramp ramps i), State.setRamp_ramp, sPrev ramps]
      · exact State.rampMoving_setRamp_ne is s x
    change s.cond condMoving = (List.finRange 4).any (s.setRamp r x).rampMoving
    rw [funext movingSame]
    exact kept
  | follows c src =>
    cases src with
    | rampAt r' p =>
      intro source
      change s.cond c = _
      rw [State.rampAt_setRamp (fun _ => by rw [Ramp.restsAt, Ramp.restsAt, state, result, plan])]
      exact kept source
    | _ => exact reads.elim
  | _ => exact reads.elim

/-! ## Ramp states (R118, R126, R127, R129, R130, R131) -/

theorem State.Holds.stopValves (h : s.Holds w) (r : Fin 4) : (s.stopValves r).Holds w :=
  (((h.ownerLevel _ _ _).compareUpdate _ _ _).ownerLevel _ _ _).compareUpdate _ _ _

theorem State.Holds.restRamp (h : s.Holds w) {x : Ramp}
    (ruled : w.on .ramps → s.plan.rampRuled s.req.mode { x with sPrev := 0 }) : (s.restRamp r x).Holds w :=
  ((h.setRamp (r := r) ruled).stopValves r).followRamp

/-- The ramp is not IDLE, where the ramps are watched. -/
def State.Stands (s : State) (w : Watch) (r : Fin 4) : Prop := w.on .ramps → (s.ramp r).state ≠ .idle

theorem Countdown.hold_ne {c : Countdown} {now : Nat} (h : c.hold now ≠ .stopped) : c ≠ .stopped := by
  cases c <;> simp [hold] at h ⊢

theorem Countdown.resume_ne {c : Countdown} {now : Nat} (h : c.resume now ≠ .stopped) : c ≠ .stopped := by
  cases c <;> simp [resume] at h ⊢

/-- A ramp that stands, with command 0, may take any other state but IDLE. -/
theorem Plan.rampRuled.stopped {n : Plan} {m : Mode} {x x' : Ramp} (h : n.rampRuled m x) (stands : x.state ≠ .idle)
    (busy : x'.state ≠ .idle) (plan : x'.plan = x.plan) (stage : x'.stage = x.stage) (phase : x'.phase = x.phase)
    (sPrev : x'.sPrev = 0) (dwell : x'.dwell ≠ .stopped → x.dwell ≠ .stopped) : n.rampRuled m x' where
  atRest idle := absurd idle busy
  placed _ := by rw [plan, stage]; exact h.placed stands
  command above := by omega
  dwells runs := by rw [phase, stage]; exact h.dwells (dwell runs)

theorem State.Holds.pauseRamp (h : s.Holds w) (stands : s.Stands w r) : (s.pauseRamp r).Holds w :=
  h.restRamp fun on => (h.ramp on r).stopped (stands on) (by simp) rfl rfl rfl rfl id

theorem State.Holds.holdRamp (h : s.Holds w) (stands : s.Stands w r) : (s.holdRamp r).Holds w :=
  h.restRamp fun on => (h.ramp on r).stopped (stands on) (by simp) rfl rfl rfl rfl Countdown.hold_ne

theorem State.Holds.faultRamp (h : s.Holds w) (stands : s.Stands w r) (reason : FaultReason) :
    (s.faultRamp r reason).Holds w := by
  have faulted : (s.restRamp r { s.ramp r with
      state := .faulted, stageTimer := (s.ramp r).stageTimer.stop s.clock, stale := none
      dwell := .stopped, retry := none, result := .fault reason }).Holds w :=
    h.restRamp fun on => (h.ramp on r).stopped (stands on) (by simp) rfl rfl rfl rfl (fun runs => absurd rfl runs)
  exact faulted.notice noticePlanFault r.val

/-- A ramp at rest keeps its rules. -/
theorem Plan.rampRuled_of_rest {n : Plan} {m : Mode} {x : Ramp} (idle : x.state = .idle) (stage : x.stage = none)
    (phase : x.phase = .pending) (sPrev : x.sPrev = 0) (dwell : x.dwell = .stopped) : n.rampRuled m x where
  atRest _ := ⟨stage, phase, dwell⟩
  placed busy := absurd idle busy
  command above := by omega
  dwells runs := absurd dwell runs

theorem State.Holds.idleRamp (h : s.Holds w) (r : Fin 4) (result : LastResult) : (s.idleRamp r result).Holds w :=
  h.restRamp fun _ => Plan.rampRuled_of_rest rfl rfl rfl rfl rfl

theorem State.Holds.runRamp (h : s.Holds w) (stands : s.Stands w r) (stale : Option Nat) :
    (s.runRamp r stale).Holds w := by
  have running := h.setRamp (r := r) (x := { s.ramp r with
    state := .running, stageTimer := (s.ramp r).stageTimer.resume s.clock, stale := stale
    dwell := (s.ramp r).dwell.resume s.clock }) fun on => ?_
  · exact running.followRamp
  have old := h.ramp on r
  exact ⟨fun idle => absurd idle (by simp), fun _ => old.placed (stands on),
    fun above => ⟨rfl, (old.command above).2⟩, fun runs => old.dwells (Countdown.resume_ne runs)⟩

theorem State.Holds.planComplete (h : s.Holds w) (r : Fin 4) : (s.planComplete r).Holds w :=
  (h.idleRamp r _).notice _ _

/-! ## Entry (R120 to R125) -/

/-- A ramp stands RUNNING at stage `k`, without a command and without a dwell timer. -/
structure State.standing (s : State) (r : Fin 4) (k : Fin 64) : Prop where
  running : (s.ramp r).state = .running
  stage : (s.ramp r).stage = some k
  sPrev : (s.ramp r).sPrev = 0
  dwell : (s.ramp r).dwell = .stopped

/-- The ramp's plan and the plan records stand. -/
def State.samePlan (s t : State) (r : Fin 4) : Prop :=
  (t.ramp r).plan = (s.ramp r).plan ∧ t.plan.plans = s.plan.plans

theorem State.samePlan.trans {u : State} (h : s.samePlan t r) (g : t.samePlan u r) : s.samePlan u r :=
  ⟨g.1.trans h.1, g.2.trans h.2⟩

/-- A ramp that stands keeps its rules with any phase but at rest. -/
theorem Plan.rampRuled.stood {n : Plan} {m : Mode} {x x' : Ramp} (h : n.rampRuled m x) (stands : x.state ≠ .idle)
    (state : x'.state = x.state) (plan : x'.plan = x.plan) (stage : x'.stage = x.stage) (sPrev : x'.sPrev = 0)
    (dwell : x'.dwell = .stopped) : n.rampRuled m x' where
  atRest idle := absurd (state ▸ idle) stands
  placed _ := by rw [plan, stage]; exact h.placed stands
  command above := by omega
  dwells runs := absurd dwell runs

/-- The record of a ramp that stands is replaced by one that stands too. -/
theorem State.Holds.setStanding (h : s.Holds w) {k : Fin 64} (pre : w.on .ramps → s.standing r k) {x : Ramp}
    (state : x.state = (s.ramp r).state) (plan : x.plan = (s.ramp r).plan) (stage : x.stage = (s.ramp r).stage)
    (sPrev : x.sPrev = (s.ramp r).sPrev ∨ x.sPrev = 0) (dwell : x.dwell = (s.ramp r).dwell)
    (result : x.result = (s.ramp r).result) :
    (s.setRamp r x).Holds w ∧ (w.on .ramps → (s.setRamp r x).standing r k) ∧ s.samePlan (s.setRamp r x) r := by
  have still (on : w.on .ramps) : x.sPrev = 0 := sPrev.elim (fun is => is.trans (pre on).sPrev) id
  refine ⟨h.setRampStill (fun on => ?_) (fun on => ?_) state result plan, fun on => ?_, ?_⟩
  · exact (h.ramp on r).stood (by simp [(pre on).running]) state plan stage (still on) (dwell.trans (pre on).dwell)
  · exact (still on).trans (pre on).sPrev.symm
  · have new := s.setRamp_ramp r x
    exact ⟨by rw [new, state]; exact (pre on).running, by rw [new, stage]; exact (pre on).stage,
      by rw [new]; exact still on, by rw [new, dwell]; exact (pre on).dwell⟩
  · exact ⟨by rw [s.setRamp_ramp r x, plan], rfl⟩

/-- An operation that leaves PLAN's records leaves a ramp where it stands. -/
theorem State.standing.of_plan {k : Fin 64} (h : s.standing r k) (plan : t.plan = s.plan) : t.standing r k := by
  have ramp : t.ramp r = s.ramp r := by rw [State.ramp, plan]; rfl
  exact ⟨by rw [ramp]; exact h.running, by rw [ramp]; exact h.stage, by rw [ramp]; exact h.sPrev,
    by rw [ramp]; exact h.dwell⟩

theorem State.samePlan.of_plan (plan : t.plan = s.plan) : s.samePlan t r := by
  have ramp : t.ramp r = s.ramp r := by rw [State.ramp, plan]; rfl
  exact ⟨by rw [ramp], by rw [plan]⟩

theorem State.Holds.askCall (h : s.Holds w) (r : Fin 4) (m : Fin 32) : (s.askCall r m).Holds w := by
  have asked := h.setRampStill (r := r) (x := { s.ramp r with
    callWait := .asked, ask := (s.ramp r).ask + 1, retry := none }) (fun on => ?_) (fun _ => rfl) rfl rfl rfl
  · exact asked.hand _
  have old := h.ramp on r
  exact ⟨old.atRest, old.placed, old.command, old.dwells⟩

/-- What entering a stage leaves: every watched fact, and a ramp that stands there with its plan where the stage
completes at its entry. -/
def State.Entered (s : State) (w : Watch) (r : Fin 4) (k : Fin 64) (e : State × Bool) : Prop :=
  e.1.Holds w ∧ (e.2 = true → (w.on .ramps → e.1.standing r k) ∧ s.samePlan e.1 r)

theorem State.Holds.enterDrive (h : s.Holds w) {k : Fin 64} (pre : w.on .ramps → s.standing r k) (d : Drive) :
    s.Entered w r k (s.enterDrive r d) := by
  obtain ⟨zeroed, stands, same⟩ := h.setStanding (x := { s.ramp r with sPrev := 0 }) pre rfl rfl rfl (.inr rfl)
    rfl rfl
  unfold State.enterDrive
  dsimp only
  have plan : (State.stopValves (s.setRamp r { s.ramp r with sPrev := 0 }) r).plan
      = (s.setRamp r { s.ramp r with sPrev := 0 }).plan := State.stopValves_plan _ r
  have stopped := zeroed.stopValves r
  generalize State.stopValves (s.setRamp r { s.ramp r with sPrev := 0 }) r = u at plan stopped ⊢
  have at_ (on : w.on .ramps) := (stands on).of_plan plan
  have same' := same.trans (.of_plan plan)
  split
  · obtain ⟨held, stands', same''⟩ := stopped.setStanding (x := { u.ramp r with travel := .none, overshoot := 0 })
      at_ rfl rfl rfl (.inl rfl) rfl rfl
    exact ⟨held, fun _ => ⟨stands', same'.trans same''⟩⟩
  · exact ⟨(stopped.setStanding (x := { u.ramp r with
      travel := if (u.ramp r).lastPos < d.target then .extend else .retract, stale := u.staleDue r })
      at_ rfl rfl rfl (.inl rfl) rfl rfl).1, fun no => absurd no (by simp)⟩

theorem State.Holds.enterStage (h : s.Holds w) {k : Fin 64} (pre : w.on .ramps → s.standing r k) :
    s.Entered w r k (s.enterStage r k) := by
  obtain ⟨entered, stands, same⟩ := h.setStanding (x := { s.ramp r with phase := .entered }) pre rfl rfl rfl
    (.inl rfl) rfl rfl
  have phase : ((s.setRamp r { s.ramp r with phase := .entered }).ramp r).phase = .entered := by
    rw [State.setRamp_ramp]
  unfold State.enterStage
  dsimp only
  generalize s.setRamp r { s.ramp r with phase := .entered } = u at entered stands same phase ⊢
  split
  · rename_i role1 level1 role2 level2 _
    have plan : (State.setPair (u.setPair r role1 level1) r role2 level2).plan = u.plan := by
      simp [State.setPair]
    exact ⟨(entered.ownerLevel _ _ _).ownerLevel _ _ _,
      fun _ => ⟨fun on => (stands on).of_plan plan, same.trans (.of_plan plan)⟩⟩
  · exact ⟨entered, fun _ => ⟨stands, same⟩⟩
  · rename_i time kind
    split
    · exact ⟨entered, fun _ => ⟨stands, same⟩⟩
    · refine ⟨entered.setRampStill (fun on => ?_) (fun _ => rfl) rfl rfl rfl, fun no => absurd no (by simp)⟩
      have old := entered.ramp on r
      have at_ := stands on
      refine ⟨fun idle => absurd (at_.running.symm.trans idle) (by simp), old.placed, ?_, fun _ => ⟨phase, k, time,
        at_.stage, kind⟩⟩
      intro above
      exact absurd at_.sPrev (Nat.pos_iff_ne_zero.mp above)
  · exact ⟨entered.askCall r _, fun no => absurd no (by simp)⟩
  · rename_i d _
    obtain ⟨held, after⟩ := entered.enterDrive stands d
    exact ⟨held, fun yes => ⟨(after yes).1, same.trans (after yes).2⟩⟩

/-- The ramp as it arrives at stage `k` (R120). -/
def State.arrived (s : State) (r : Fin 4) (k : Fin 64) : State :=
  s.setRamp r { s.ramp r with
    stage := some k, phase := .pending, stageTimer := Stopwatch.start s.clock, callWait := .none }

theorem State.arriveAt_eq (s : State) (r : Fin 4) (k : Fin 64) : s.arriveAt r k =
    if (s.arrived r k).mayEnter ((s.arrived r k).stage k) then (s.arrived r k).enterStage r k
    else (s.arrived r k, false) := rfl

theorem State.Holds.arriveAt {k : Fin 64} (h : (s.arrived r k).Holds w)
    (pre : w.on .ramps → (s.arrived r k).standing r k) : (s.arrived r k).Entered w r k (s.arriveAt r k) := by
  rw [State.arriveAt_eq]
  split
  · exact h.enterStage pre
  · exact ⟨h, fun no => absurd no (by simp)⟩

/-- The ramp's plan has `n` stages after stage `k`. -/
def State.ahead (s : State) (r : Fin 4) (k : Fin 64) (n : Nat) : Prop :=
  ∃ p, (s.ramp r).plan = some p ∧ (s.plan.plans.row p).first.val ≤ k.val
    ∧ k.val + n + 1 = (s.plan.plans.row p).first.val + (s.plan.plans.row p).count

theorem State.ahead.of_same {k : Fin 64} {n : Nat} (h : s.ahead r k n) (same : s.samePlan t r) : t.ahead r k n := by
  obtain ⟨p, plan, first, last⟩ := h
  exact ⟨p, same.1.trans plan, by rw [same.2]; exact first, by rw [same.2]; exact last⟩

theorem Plan.has_of_ahead {k : Fin 64} {n : Nat} (h : s.ahead r k n) :
    ∃ p, (s.ramp r).plan = some p ∧ s.plan.has p k := by
  obtain ⟨p, plan, first, last⟩ := h
  exact ⟨p, plan, first, by omega⟩

/-- The stage after `k`, where the plan has one: it lies in the pool. -/
theorem State.ahead.next {k : Fin 64} {n : Nat} (h : s.ahead r k (n + 1)) (ruled : s.plan.ruled s.req.mode) :
    s.ahead r (k + 1) n := by
  obtain ⟨p, plan, first, last⟩ := h
  have pool := (ruled.plans p).2
  have val : (k + 1).val = k.val + 1 := by
    rw [Fin.val_add]
    exact Nat.mod_eq_of_lt (by simp; omega)
  exact ⟨p, plan, by omega, by omega⟩

/-- A ramp that stands arrives at a stage of its plan. -/
theorem State.Holds.arrived {k j : Fin 64} {n : Nat} (h : s.Holds w) (pre : w.on .ramps → s.standing r j)
    (ahead : w.on .ramps → s.ahead r k n) :
    (s.arrived r k).Holds w ∧ (w.on .ramps → (s.arrived r k).standing r k)
      ∧ (w.on .ramps → (s.arrived r k).ahead r k n) := by
  have new := s.setRamp_ramp r { s.ramp r with
    stage := some k, phase := .pending, stageTimer := Stopwatch.start s.clock, callWait := .none }
  refine ⟨h.setRampStill (fun on => ?_) (fun _ => rfl) rfl rfl rfl, fun on => ?_, fun on => ?_⟩
  · have at_ := pre on
    obtain ⟨p, plan, has⟩ := Plan.has_of_ahead (ahead on)
    refine ⟨fun idle => absurd (at_.running.symm.trans idle) (by simp), fun _ => ?_, fun above => ?_, fun runs => ?_⟩
    · exact ⟨((h.ramp on r).placed (by simp [at_.running])).1, p, k, plan, rfl, has⟩
    · exact absurd at_.sPrev (Nat.pos_iff_ne_zero.mp above)
    · exact absurd at_.dwell runs
  · have at_ := pre on
    unfold State.arrived
    exact ⟨by rw [new]; exact at_.running, by rw [new], by rw [new]; exact at_.sPrev, by rw [new]; exact at_.dwell⟩
  · refine (ahead on).of_same ⟨?_, rfl⟩
    unfold State.arrived
    rw [new]

/-- A run of stages that complete at their entries (R120, R131). -/
theorem State.Holds.arrive (n : Nat) {k : Fin 64} (h : (s.arrived r k).Holds w)
    (pre : w.on .ramps → (s.arrived r k).standing r k) (ahead : w.on .ramps → (s.arrived r k).ahead r k n) :
    (State.arrive r n k s).Holds w := by
  induction n generalizing k s with
  | zero =>
    obtain ⟨held, -⟩ := h.arriveAt pre
    rw [State.arrive]
    split
    · exact held.planComplete r
    · exact held
  | succ n ih =>
    obtain ⟨held, after⟩ := h.arriveAt pre
    rw [State.arrive]
    split
    · rename_i yes
      obtain ⟨stands, same⟩ := after yes
      obtain ⟨held', stands', ahead'⟩ := held.arrived stands fun on =>
        ((ahead on).of_same same).next (held .ramps on)
      exact ih held' stands' ahead'
    · exact held

/-- What completing a stage needs of the ramp, where the ramps are watched. -/
def State.completable (s : State) (r : Fin 4) : Prop := (s.ramp r).state = .running ∧ (s.ramp r).sPrev = 0

theorem State.Holds.completeStage (h : s.Holds w) (pre : w.on .ramps → s.completable r) :
    (s.completeStage r).Holds w := by
  have new := s.setRamp_ramp r { s.ramp r with dwell := .stopped, retry := none, stale := none }
  have timed : (s.setRamp r { s.ramp r with dwell := .stopped, retry := none, stale := none }).Holds w := by
    refine h.setRampStill (fun on => ?_) (fun _ => rfl) rfl rfl rfl
    have old := h.ramp on r
    exact ⟨fun idle => absurd ((pre on).1.symm.trans idle) (by simp), old.placed, old.command,
      fun runs => absurd rfl runs⟩
  unfold State.completeStage
  dsimp only
  have stands (on : w.on .ramps) (k : Fin 64) (stage : (s.ramp r).stage = some k) :
      (s.setRamp r { s.ramp r with dwell := .stopped, retry := none, stale := none }).standing r k :=
    ⟨by rw [new]; exact (pre on).1, by rw [new]; exact stage, by rw [new]; exact (pre on).2, by rw [new]⟩
  have stage_eq : ((s.setRamp r { s.ramp r with dwell := .stopped, retry := none, stale := none }).ramp r).stage
      = (s.ramp r).stage := by rw [new]
  generalize s.setRamp r { s.ramp r with dwell := .stopped, retry := none, stale := none } = u at timed stands stage_eq ⊢
  split
  · exact timed
  · rename_i k stage
    have at_ (on : w.on .ramps) := stands on k (stage_eq.symm.trans stage)
    split
    · exact timed.planComplete r
    · rename_i n after
      have ahead (on : w.on .ramps) : u.ahead r (k + 1) n := by
        obtain ⟨-, p, k', plan, stage', has⟩ := (timed.ramp on r).placed (by simp [(at_ on).running])
        obtain rfl := Option.some.inj (stage.symm.trans stage')
        refine State.ahead.next ⟨p, plan, has.1, ?_⟩ (timed .ramps on)
        simp only [State.stagesAfter, plan] at after
        have := has.2
        omega
      obtain ⟨held, stands', ahead'⟩ := timed.arrived at_ ahead
      exact held.arrive n stands' ahead'

theorem State.Holds.tryEnter (h : s.Holds w) {k : Fin 64} (pre : w.on .ramps → s.standing r k) :
    (s.tryEnter r k).Holds w := by
  obtain ⟨held, after⟩ := h.enterStage pre
  unfold State.tryEnter
  split
  · dsimp only
    split
    · rename_i yes
      exact held.completeStage fun on => ⟨((after yes).1 on).running, ((after yes).1 on).sPrev⟩
    · exact held
  · exact h

/-! ## Waiting (R120, R122, R126, R127) -/

/-- A RUNNING ramp at a PENDING stage, or ENTERED at a stage of no DRIVE kind, has no command; at a PENDING stage or
one of no DWELL kind it has no dwell timer. -/
theorem State.sPrev_of_pending (h : s.plan.rampRuled s.req.mode (s.ramp r)) (pending : (s.ramp r).phase = .pending) :
    (s.ramp r).sPrev = 0 ∧ (s.ramp r).dwell = .stopped := by
  constructor
  · by_contra above
    have := (h.command (Nat.pos_of_ne_zero above)).2.1
    rw [pending] at this
    exact absurd this (by simp)
  · by_contra runs
    have := (h.dwells runs).1
    rw [pending] at this
    exact absurd this (by simp)

theorem State.sPrev_of_kind (h : s.plan.rampRuled s.req.mode (s.ramp r)) {k : Fin 64}
    (stage : (s.ramp r).stage = some k) (other : ∀ d, (s.stage k).kind ≠ .drive d) : (s.ramp r).sPrev = 0 := by
  by_contra above
  obtain ⟨-, -, k', d, stage', kind, -⟩ := h.command (Nat.pos_of_ne_zero above)
  obtain rfl := Option.some.inj (stage.symm.trans stage')
  exact other d kind

theorem State.Holds.tryEnter_of_pending (h : s.Holds w) {k : Fin 64} (running : (s.ramp r).state = .running)
    (stage : (s.ramp r).stage = some k) (pending : (s.ramp r).phase = .pending) : (s.tryEnter r k).Holds w :=
  h.tryEnter fun on =>
    have none_ := State.sPrev_of_pending (h.ramp on r) pending
    ⟨running, stage, none_.1, none_.2⟩

theorem State.Holds.completeStage_of_kind (h : s.Holds w) {k : Fin 64} (running : (s.ramp r).state = .running)
    (stage : (s.ramp r).stage = some k) (other : ∀ d, (s.stage k).kind ≠ .drive d) : (s.completeStage r).Holds w :=
  h.completeStage fun on => ⟨running, State.sPrev_of_kind (h.ramp on r) stage other⟩

theorem State.Holds.rampTold (h : s.Holds w) (r : Fin 4) (bridgeFell : Bool) : (s.rampTold r bridgeFell).Holds w := by
  unfold State.rampTold
  dsimp only
  split
  · exact h
  · rename_i k stage
    split
    · rename_i running pending
      exact h.tryEnter_of_pending running stage pending
    · rename_i running _ _
      have stands : s.Stands w r := fun _ => by simp [running]
      split
      · exact h.holdRamp stands
      · split
        · exact h
        · exact h.pauseRamp stands
    · rename_i running _ kind
      split
      · exact h.completeStage_of_kind running stage fun d is => by rw [kind] at is; exact absurd is (by simp)
      · exact h
    · rename_i paused _ _
      have stands : s.Stands w r := fun _ => by simp [paused]
      split
      · exact h.holdRamp stands
      · split
        · exact h.runRamp stands _
        · exact h
    · exact h

theorem State.Holds.rampChange (h : s.Holds w) (r : Fin 4) (c : Fin 64) (v : Bool) :
    (s.rampChange r c v).Holds w := by
  unfold State.rampChange
  split
  · exact h.rampTold r _
  · exact h

theorem State.Holds.rampForced (h : s.Holds w) (r : Fin 4) (ch : Fin 16) : (s.rampForced r ch).Holds w := by
  unfold State.rampForced
  dsimp only
  split
  · split
    · rename_i is
      exact h.holdRamp fun _ => by simp [is]
    · rename_i is
      exact h.holdRamp fun _ => by simp [is]
    · exact h
  · exact h

theorem State.Holds.rampCutoff (h : s.Holds w) (r : Fin 4) (ch : Fin 16) : (s.rampCutoff r ch).Holds w := by
  unfold State.rampCutoff
  dsimp only
  split
  · rename_i busy
    refine h.faultRamp (fun _ idle => ?_) _
    rw [idle] at busy
    simp [RampState.busy] at busy
  · exact h

/-! ## The approach law (R132 to R135) -/

theorem State.driving_some {d : Drive} (h : s.driving r = some d) :
    (s.ramp r).state = .running ∧ (s.ramp r).phase = .entered
      ∧ ∃ k, (s.ramp r).stage = some k ∧ (s.stage k).kind = .drive d := by
  unfold State.driving at h
  dsimp only at h
  split at h
  · simp at h
  · rename_i k stage
    split at h
    · rename_i running entered kind
      obtain rfl := Option.some.inj h
      exact ⟨running, entered, k, stage, kind⟩
    · simp at h

/-- A ramp RUNNING at an ENTERED DRIVE stage may take any command within the effective Vmax. -/
theorem Plan.rampRuled.driven {n : Plan} {m : Mode} {x x' : Ramp} (h : n.rampRuled m x) (running : x.state = .running)
    (entered : x.phase = .entered) {k : Fin 64} {d : Drive} (stage : x.stage = some k)
    (kind : (n.stages.row k).kind = .drive d) (state : x'.state = x.state) (plan : x'.plan = x.plan)
    (stage' : x'.stage = x.stage) (phase : x'.phase = x.phase) (sPrev : x'.sPrev ≤ min d.vMax 1000)
    (dwell : x'.dwell = x.dwell) : n.rampRuled m x' where
  atRest idle := absurd ((state.trans running).symm.trans idle) (by simp)
  placed _ := by rw [plan, stage']; exact h.placed (by simp [running])
  command _ := ⟨state.trans running, phase.trans entered, k, d, stage'.trans stage, kind, sPrev⟩
  dwells runs := by rw [dwell] at runs; rw [phase, stage']; exact h.dwells runs

theorem State.Holds.driveDone (h : s.Holds w) (running : (s.ramp r).state = .running) (overshoot : Nat) :
    (s.driveDone r overshoot).Holds w := by
  have closed := (h.ownerLevel (.ramp r) (s.ramp r).travelChannels.1 false).compareUpdate (.ramp r)
    (s.ramp r).travelChannels.1 0
  unfold State.driveDone
  dsimp only
  have plan : (State.compareUpdate (s.ownerLevel (.ramp r) (s.ramp r).travelChannels.1 false) (.ramp r)
      (s.ramp r).travelChannels.1 0).plan = s.plan := by simp
  generalize State.compareUpdate (s.ownerLevel (.ramp r) (s.ramp r).travelChannels.1 false) (.ramp r)
    (s.ramp r).travelChannels.1 0 = u at closed plan ⊢
  have ramp : u.ramp r = s.ramp r := by rw [State.ramp, plan]; rfl
  rw [← ramp]
  rw [← ramp] at running
  have set := closed.setRamp (r := r) (x := { u.ramp r with sPrev := 0, overshoot := overshoot }) fun on =>
    (closed.ramp on r).stopped (by simp [running]) (by simp [running]) rfl rfl rfl rfl id
  have new : ((State.followRamp (u.setRamp r { u.ramp r with sPrev := 0, overshoot := overshoot }) r)).ramp r
      = { u.ramp r with sPrev := 0, overshoot := overshoot } := by
    rw [State.ramp, State.followRamp_plan]
    exact u.setRamp_ramp r _
  exact set.followRamp.completeStage fun _ => by rw [State.completable, new]; exact ⟨running, rfl⟩

theorem State.Holds.drive (h : s.Holds w) {d : Drive} (at_ : s.driving r = some d) {command : Nat}
    (within : w.on .ramps → command ≤ min d.vMax 1000) : (s.drive r command).Holds w := by
  obtain ⟨running, entered, k, stage, kind⟩ := State.driving_some at_
  have levels := ((h.compareUpdate (.ramp r) (s.ramp r).travelChannels.1
    (command * s.periodOf (s.ramp r).travelChannels.1 / 1000)).ownerLevel (.ramp r) (s.ramp r).travelChannels.1
    (decide (0 < command))).ownerLevel (.ramp r) (s.ramp r).travelChannels.2 false
  unfold State.drive
  dsimp only
  have plan : (State.ownerLevel (State.ownerLevel (s.compareUpdate (.ramp r) (s.ramp r).travelChannels.1
      (command * s.periodOf (s.ramp r).travelChannels.1 / 1000)) (.ramp r) (s.ramp r).travelChannels.1
      (decide (0 < command))) (.ramp r) (s.ramp r).travelChannels.2 false).plan = s.plan := by simp
  generalize State.ownerLevel (State.ownerLevel (s.compareUpdate _ _ _) _ _ _) _ _ _ = u at levels plan ⊢
  have ramp : u.ramp r = s.ramp r := by rw [State.ramp, plan]; rfl
  have stages : (u.plan.stages.row k).kind = .drive d := by rw [plan]; exact kind
  refine State.Holds.followRamp (levels.setRamp (r := r) fun on => ?_)
  have old := levels.ramp on r
  rw [ramp] at old
  exact old.driven running entered stage stages rfl rfl rfl rfl (within on) rfl

theorem State.Holds.approach (h : s.Holds w) {d : Drive} (at_ : s.driving r = some d) (p : Nat) :
    (s.approach r d p).Holds w := by
  obtain ⟨running, entered, k, stage, kind⟩ := State.driving_some at_
  unfold State.approach
  dsimp only
  split
  · exact h.driveDone running _
  · split
    · split
      · exact h.driveDone running _
      · have overran := h.setRampStill (r := r) (x := { s.ramp r with overshoot := distance d.target p })
          (fun on => ⟨(h.ramp on r).atRest, (h.ramp on r).placed, (h.ramp on r).command, (h.ramp on r).dwells⟩)
          (fun _ => rfl) rfl rfl rfl
        exact overran.faultRamp (fun _ => by rw [State.setRamp_ramp]; simp [running]) _
    · refine h.drive at_ fun on => Drive.command_le ?_ _
      by_cases above : 0 < (s.ramp r).sPrev
      · obtain ⟨-, -, k', d', stage', kind', le⟩ := (h.ramp on r).command above
        obtain rfl := Option.some.inj (stage.symm.trans stage')
        obtain rfl := StageKind.drive.inj (kind.symm.trans kind')
        exact le
      · omega

theorem State.Holds.position (h : s.Holds w) (r : Fin 4) (p : Nat) : (s.position r p).Holds w := by
  have still {x : Ramp} (state : x.state = (s.ramp r).state) (result : x.result = (s.ramp r).result)
      (plan : x.plan = (s.ramp r).plan) (stage : x.stage = (s.ramp r).stage) (phase : x.phase = (s.ramp r).phase)
      (sPrev : x.sPrev = (s.ramp r).sPrev) (dwell : x.dwell = (s.ramp r).dwell) : (s.setRamp r x).Holds w := by
    refine h.setRampStill (fun on => ?_) (fun _ => sPrev) state result plan
    have old := h.ramp on r
    exact ⟨by rw [state, stage, phase, dwell]; exact old.atRest, by rw [state, plan, stage]; exact old.placed,
      by rw [sPrev, state, phase, stage]; exact old.command, by rw [dwell, phase, stage]; exact old.dwells⟩
  unfold State.position
  split
  · exact still rfl rfl rfl rfl rfl rfl rfl
  · rename_i d at_
    have sampled : (s.setRamp r { s.ramp r with lastPos := p, stale := s.staleDue r }).Holds w :=
      still rfl rfl rfl rfl rfl rfl rfl
    refine sampled.approach ?_ p
    have new := s.setRamp_ramp r { s.ramp r with lastPos := p, stale := s.staleDue r }
    rw [← at_]
    simp only [State.driving, new]
    rfl

/-! ## Requests, expiries and the call result (R119, R123, R124, R128 to R130) -/

/-- The conditions that follow a ramp are recomputed: ANY_RAMP_MOVING reads the ramps. -/
theorem State.cond_followRamp_moving (h : s.keeps .sources) (r : Fin 4) :
    (s.followRamp r).cond condMoving = s.anyMoving := by
  unfold State.followRamp
  rw [State.cond_follow_of_fixed _ (by rw [State.setCond_source]; exact h condMoving (by decide)),
    State.setCond_cond_self]

/-- A ramp without a command does not move. -/
theorem State.rampMoving_of_sPrev (h : (s.ramp r).sPrev = 0) : s.rampMoving r = false := by
  change (s.plan.ramps.row r).sPrev = 0 at h
  simp [State.rampMoving, h]

/-- The rules of the ramps, and the condition that reads them. -/
def Fact.ofRamps : Fact → Prop
  | .ramps | .moving => True
  | _ => False

theorem Fact.ofRamps_droppable : Droppable Fact.ofRamps := by
  rintro f g needs d
  cases g <;> simp only [Fact.ofRamps] at d <;> cases f <;> simp [Fact.needs] at needs; exact trivial

/-- The ramp's record as PLAN_START leaves it before the arrival (R119). -/
def Ramp.started (x : Ramp) (p : Fin 8) : Ramp :=
  { x with state := .running, plan := some p, result := .none, overshoot := 0, travel := .none }

/-- The part as PLAN_START leaves it before the arrival (R119). -/
def State.starting (s : State) (r : Fin 4) (p : Fin 8) : State :=
  (s.setRamp r ((s.ramp r).started p)).followRamp r

/-- The ramp's record at its arrival at a stage (R120). -/
def Ramp.arrived (x : Ramp) (k : Fin 64) (now : Nat) : Ramp :=
  { x with stage := some k, phase := .pending, stageTimer := Stopwatch.start now, callWait := .none }

theorem State.arrived_eq (s : State) (r : Fin 4) (k : Fin 64) :
    s.arrived r k = s.setRamp r ((s.ramp r).arrived k s.clock) := rfl

theorem State.arrived_req (s : State) (r : Fin 4) (k : Fin 64) : (s.arrived r k).req = s.req := rfl

theorem State.cond_arrived (s : State) (r : Fin 4) (k c : Fin 64) : (s.arrived r k).cond c = s.cond c := rfl

theorem State.starting_plan (s : State) (r : Fin 4) (p : Fin 8) :
    (s.starting r p).plan = { s.plan with ramps := s.plan.ramps.put r ((s.ramp r).started p) } := by
  rw [State.starting, State.followRamp_plan]; rfl

theorem State.starting_ramp (s : State) (r : Fin 4) (p : Fin 8) :
    (s.starting r p).ramp r = (s.ramp r).started p := by
  rw [State.starting, State.ramp, State.followRamp_plan]
  exact s.setRamp_ramp r _

theorem State.starting_req (s : State) (r : Fin 4) (p : Fin 8) : (s.starting r p).req = s.req := by
  rw [State.starting, State.followRamp_req]; rfl

/-- The first stage of a started plan: the ramp's record. -/
def Ramp.atFirst (x : Ramp) (p : Fin 8) (k : Fin 64) (now : Nat) : Ramp := (x.started p).arrived k now

theorem State.started_plan (s : State) (r : Fin 4) (p : Fin 8) (k : Fin 64) :
    ((s.starting r p).arrived r k).plan =
      { s.plan with ramps := s.plan.ramps.put r ((s.ramp r).atFirst p k (s.starting r p).clock) } := by
  have put (u : State) (x : Ramp) : (u.setRamp r x).plan = { u.plan with ramps := u.plan.ramps.put r x } := rfl
  rw [State.arrived_eq, put, State.starting_plan, State.starting_ramp]
  simp only [Tbl.put, Vector.set_set]
  rfl

theorem State.started_ramp (s : State) (r : Fin 4) (p : Fin 8) (k : Fin 64) :
    ((s.starting r p).arrived r k).ramp r = (s.ramp r).atFirst p k (s.starting r p).clock := by
  rw [State.arrived_eq, State.setRamp_ramp, State.starting_ramp]; rfl

/-- An IDLE ramp that keeps its rules keeps them at the first stage of a started plan. -/
theorem Plan.rampRuled.started {n : Plan} {m : Mode} {x : Ramp} (h : n.rampRuled m x) (idle : x.state = .idle)
    (service : m = .service) {p : Fin 8} {k : Fin 64} (has : n.has p k) (now : Nat) :
    n.rampRuled m (x.atFirst p k now) ∧ x.sPrev = 0 ∧ x.dwell = .stopped := by
  have sPrev : x.sPrev = 0 := by
    by_contra above
    have := (h.command (Nat.pos_of_ne_zero above)).1
    rw [idle] at this
    exact absurd this (by simp)
  have dwell := (h.atRest idle).2.2
  exact ⟨⟨fun no => absurd no (by simp [Ramp.atFirst, Ramp.arrived, Ramp.started]),
    fun _ => ⟨service, p, k, rfl, rfl, has⟩, fun above => absurd sPrev (Nat.pos_iff_ne_zero.mp above),
    fun runs => absurd dwell runs⟩, sPrev, dwell⟩

/-- The started ramp moves neither before nor after its arrival. -/
theorem State.anyMoving_started (sPrev : (s.ramp r).sPrev = 0) (p : Fin 8) (k : Fin 64) :
    ((s.starting r p).arrived r k).anyMoving = (s.setRamp r ((s.ramp r).started p)).anyMoving := by
  have same (i : Fin 4) : ((s.starting r p).arrived r k).rampMoving i =
      (s.setRamp r ((s.ramp r).started p)).rampMoving i := by
    by_cases is : i = r
    · subst is
      rw [State.rampMoving_of_sPrev, State.rampMoving_of_sPrev]
      · rw [State.setRamp_ramp]; exact sPrev
      · rw [State.started_ramp]; exact sPrev
    · have row : ((s.starting r p).arrived r k).plan.ramps.row i =
          (s.setRamp r ((s.ramp r).started p)).plan.ramps.row i := by
        rw [State.started_plan]
        exact (Tbl.row_put_ne _ _ (Ne.symm is)).trans (Tbl.row_put_ne _ _ (Ne.symm is)).symm
      have stages : ((s.starting r p).arrived r k).plan.stages =
          (s.setRamp r ((s.ramp r).started p)).plan.stages := by
        rw [State.started_plan]; rfl
      simp only [State.rampMoving, row, stages]
  rw [State.anyMoving, State.anyMoving, funext same]

/-- A started ramp arrives at the first stage of its plan with every watched fact. -/
theorem State.Holds.started (h : s.Holds w) (idle : (s.ramp r).state = .idle) (service : s.req.mode = .service)
    (p : Fin 8) {k : Fin 64} (has : w.on .ramps → s.plan.has p k) : ((s.starting r p).arrived r k).Holds w := by
  have off := h.drop Fact.ofRamps Fact.ofRamps_droppable
  have first : (s.starting r p).Holds (w.drop Fact.ofRamps Fact.ofRamps_droppable) :=
    (off.setRamp (r := r) fun on => absurd trivial on.2).followRamp
  have second : ((s.starting r p).arrived r k).Holds (w.drop Fact.ofRamps Fact.ofRamps_droppable) := by
    rw [State.arrived_eq]
    generalize s.starting r p = u at first ⊢
    exact first.setRampStill (fun on => absurd trivial on.2) (fun on => absurd trivial on.2) rfl rfl rfl
  refine second.restore fun f is on => ?_
  cases f with
  | ramps =>
    have old : s.plan.ruled s.req.mode := h .ramps on
    rw [State.keeps, State.started_plan, State.arrived_req, State.starting_req]
    exact old.put ((h.ramp on r).started idle service (has on) _).1 r
  | moving =>
    have ramps := w.closed .moving .ramps (.inr (.inl rfl)) on
    have read := State.cond_followRamp_moving (s := s.setRamp r ((s.ramp r).started p))
      (h .sources (w.closed .moving .sources (.inl rfl) on)) r
    rw [State.keeps, State.anyMoving_started ((h.ramp ramps r).started idle service (has ramps) 0).2.1, ← read,
      State.cond_arrived, State.starting]
  | _ => exact is.elim

theorem State.Holds.startPlan (h : s.Holds w) (idle : (s.ramp r).state = .idle) (service : s.req.mode = .service)
    (p : Fin 8) : (s.startPlan r p).Holds w := by
  have range (on : w.on .ramps) : 1 ≤ (s.plan.plans.row p).count :=
    ((show s.plan.ruled s.req.mode from h .ramps on).plans p).1
  have has (on : w.on .ramps) : s.plan.has p (s.plan.plans.row p).first := ⟨Nat.le_refl _, by have := range on; omega⟩
  change (State.arrive r ((s.plan.plans.row p).count - 1) (s.plan.plans.row p).first (s.starting r p)).Holds w
  have ramp := s.started_ramp r p (s.plan.plans.row p).first
  refine State.Holds.arrive _ (h.started idle service p has) (fun on => ?_) fun on => ?_
  · obtain ⟨-, sPrev, dwell⟩ := (h.ramp on r).started idle service (has on) 0
    exact ⟨by rw [ramp]; rfl, by rw [ramp]; rfl, by rw [ramp]; exact sPrev, by rw [ramp]; exact dwell⟩
  · refine ⟨p, by rw [ramp]; rfl, ?_, ?_⟩
    · rw [State.started_plan]
    · rw [State.started_plan]
      have := range on
      dsimp only
      omega

theorem Mode.service_of_ne {m : Mode} (h : m ≠ .setup) : m = .service := by cases m <;> simp_all

theorem State.Holds.planStart (h : s.Holds w) (r p : Byte) : (planStart r p s).2.Holds w := by
  unfold Machine.planStart
  split
  · split
    · exact h
    · split
      · exact h
      · rename_i notSetup
        split
        · rename_i idle
          exact h.startPlan idle (Mode.service_of_ne notSetup) _
        · exact h
  · exact h

theorem State.Holds.onRamp (h : s.Holds w) (r : Byte) {f : Fin 4 → State → Code × State}
    (hf : ∀ r, (f r s).2.Holds w) : (onRamp r f s).2.Holds w := by
  unfold Machine.onRamp
  split
  · exact h
  · split
    · exact h
    · exact hf _

theorem State.Holds.planAbort (h : s.Holds w) (r : Fin 4) : (planAbort r s).2.Holds w := by
  unfold Machine.planAbort
  split
  · exact h
  · dsimp only
    exact h.idleRamp r _

theorem State.followRamp_ramp (s : State) (r i : Fin 4) : (s.followRamp r).ramp i = s.ramp i := by
  rw [State.ramp, State.followRamp_plan]; rfl

theorem State.atDrive_none {k : Fin 64} (h : s.atDrive r = none) (stage : (s.ramp r).stage = some k)
    (entered : (s.ramp r).phase = .entered) (d : Drive) : (s.stage k).kind ≠ .drive d := by
  intro kind
  simp [State.atDrive, stage, entered, kind] at h

theorem State.Holds.resumeStage (h : s.Holds w) (running : (s.ramp r).state = .running) (away : s.atDrive r = none) :
    (s.resumeStage r).Holds w := by
  unfold State.resumeStage
  dsimp only
  split
  · exact h
  · rename_i k stage
    split
    · rename_i pending
      exact h.tryEnter_of_pending running stage pending
    · rename_i entered _
      split
      · exact h.completeStage_of_kind running stage (State.atDrive_none away stage entered)
      · exact h
    · rename_i entered _
      split
      · exact h.completeStage_of_kind running stage (State.atDrive_none away stage entered)
      · exact h.askCall r _
      · exact h
    · exact h

theorem State.Holds.resumeRamp (h : s.Holds w) (held : (s.ramp r).state = .held) : (s.resumeRamp r).Holds w := by
  have stands : s.Stands w r := fun _ => by simp [held]
  unfold State.resumeRamp
  split
  · split
    · exact h.runRamp stands _
    · exact h.pauseRamp stands
  · rename_i away
    have ramp : (s.runRamp r none).ramp r = { s.ramp r with
        state := .running, stageTimer := (s.ramp r).stageTimer.resume s.clock, stale := none
        dwell := (s.ramp r).dwell.resume s.clock } := by
      unfold State.runRamp
      rw [State.followRamp_ramp]
      exact s.setRamp_ramp r _
    have stages : (s.runRamp r none).plan.stages = s.plan.stages := by
      unfold State.runRamp
      rw [State.followRamp_plan]
      rfl
    refine (h.runRamp stands none).resumeStage (by rw [ramp]) ?_
    rw [← away]
    simp only [State.atDrive, ramp, State.stage, stages]

theorem State.Holds.planResume (h : s.Holds w) (r : Fin 4) : (planResume r s).2.Holds w := by
  unfold Machine.planResume
  split
  · exact h
  · exact h
  · exact h
  · exact h
  · rename_i held
    split
    · exact h
    · exact h.resumeRamp held

theorem State.enteredKind_some {kind : StageKind} (h : s.enteredKind r = some kind) :
    (s.ramp r).phase = .entered ∧ ∃ k, (s.ramp r).stage = some k ∧ (s.stage k).kind = kind := by
  unfold State.enteredKind at h
  dsimp only at h
  split at h
  · rename_i k stage entered
    exact ⟨entered, k, stage, Option.some.inj h⟩
  · simp at h

theorem State.Holds.setCallWait (h : s.Holds w) (r : Fin 4) (wait : CallWait) (retry : Option Nat) :
    (s.setRamp r { s.ramp r with callWait := wait, retry := retry }).Holds w :=
  h.setRampStill
    (fun on => ⟨(h.ramp on r).atRest, (h.ramp on r).placed, (h.ramp on r).command, (h.ramp on r).dwells⟩)
    (fun _ => rfl) rfl rfl rfl

theorem State.Holds.callStageResult (h : s.Holds w) (r : Fin 4) (ask : BitVec 16) (result : Code) :
    (s.callStageResult r ask result).Holds w := by
  unfold State.callStageResult
  dsimp only
  split
  · rename_i m kind
    obtain ⟨-, k, stage, is⟩ := State.enteredKind_some kind
    split
    · split
      · have answered := h.setCallWait r .none (s.ramp r).retry
        have new := s.setRamp_ramp r { s.ramp r with callWait := .none }
        split
        · rename_i running
          refine answered.completeStage_of_kind (k := k) (by rw [new]; exact running) (by rw [new]; exact stage)
            fun d => ?_
          change (s.stage k).kind ≠ .drive d
          rw [is]
          simp
        · exact answered
      · exact h.setCallWait r _ _
      · exact h.setCallWait r _ _
      · exact h
    · exact h
  · exact h

theorem State.Holds.dwellExpiry (h : s.Holds w) (running : (s.ramp r).state = .running)
    (runs : (s.ramp r).dwell.isRunning = true) : (s.completeStage r).Holds w := by
  refine h.completeStage fun on => ⟨running, ?_⟩
  obtain ⟨-, k, n, stage, kind⟩ := (h.ramp on r).dwells (fun stopped => by
    rw [stopped] at runs
    exact absurd runs (by decide))
  exact State.sPrev_of_kind (h.ramp on r) stage fun d is => by
    change (s.plan.stages.row k).kind = _ at is
    rw [kind] at is
    exact absurd is (by simp)

theorem State.timeoutRuns_running (h : (s.timeoutRuns r).isSome = true) : (s.ramp r).state = .running := by
  unfold State.timeoutRuns at h
  dsimp only at h
  split at h
  · assumption
  · simp at h

/-! ## Operations reset (R138) -/

/-- The facts that read what any ramp does. -/
def Fact.ofAnyRamp : Fact → Prop
  | .moving | .follows _ (.rampAt _ _) => True
  | _ => False

theorem Fact.ofAnyRamp_droppable : Droppable Fact.ofAnyRamp := by
  rintro f g needs d
  cases g <;> simp only [Fact.ofAnyRamp] at d <;> cases f <;> simp [Fact.needs] at needs

/-- The reset of one ramp; the conditions that follow it are recomputed by COND's reset. -/
theorem State.Holds.resetRamp (h : s.Holds (w.drop Fact.ofAnyRamp Fact.ofAnyRamp_droppable)) (r : Fin 4) :
    (s.resetRamp r).Holds (w.drop Fact.ofAnyRamp Fact.ofAnyRamp_droppable) := by
  have reset := h.setRamp (r := r) (x := { s.ramp r with
    state := .idle, plan := none, stage := none, phase := .pending, stageTimer := Stopwatch.zero
    sPrev := 0, travel := .none, result := .none, overshoot := 0, callWait := .none
    dwell := .stopped, stale := none, retry := none }) fun _ => Plan.rampRuled_of_rest rfl rfl rfl rfl rfl
  refine State.Holds.stopValves (reset.mono fun f on => ⟨on, fun reads => on.2 ?_⟩) r
  cases f with
  | moving => trivial
  | follows c src =>
    cases src with
    | rampAt => trivial
    | _ => exact reads.elim
  | _ => exact reads.elim

theorem State.Holds.resetPlan (h : s.Holds w) : s.resetPlan.Holds (w.drop Fact.ofAnyRamp Fact.ofAnyRamp_droppable) :=
  foldl_holds (fun s : State => s.Holds (w.drop Fact.ofAnyRamp Fact.ofAnyRamp_droppable)) State.resetRamp
    (fun _ r h => State.Holds.resetRamp h r) _ s (h.drop _ _)

end Sys2Proof.Machine
end

section
/-! PROOFS. What every event of SCAN, MATCH, COND and LINE keeps (R1 to R76). -/

namespace Sys2Proof.Machine
variable {s t : State} {w : Watch}

/-! ## Thresholds (R64, R65) -/

/-- The facts that read a threshold's state. -/
def Fact.ofThreshold (k : Fin 48) : Fact → Prop := Fact.followed (fun src => src == .threshold k)

theorem State.Holds.setThreshold (h : s.Holds w) (k : Fin 48) (x : Threshold) :
    (s.setScan { s.scan with thresholds := s.scan.thresholds.put k x }).Holds
      (w.drop (Fact.ofThreshold k) (Fact.followed_droppable _)) := by
  refine h.drop_of_keeps _ fun f other kept => ?_
  cases f with
  | follows c src =>
    cases src with
    | threshold j =>
      have ne : k ≠ j := fun same => other (by subst same; simp [Fact.ofThreshold, Fact.followed])
      intro source
      change s.cond c = ((s.scan.thresholds.put k x).row j).tripped
      rw [Tbl.row_put_ne _ _ ne]
      exact kept source
    | _ => exact kept
  | _ => exact kept

theorem State.Holds.advanceThreshold (h : s.Holds w) (ch : Fin 24) (v : Nat) (k : Fin 48) :
    (s.advanceThreshold ch v k).Holds w := by
  unfold State.advanceThreshold
  dsimp only
  split
  · split
    · rename_i same
      refine h.setScan id fun j => ?_
      change ((s.scan.thresholds.put k _).row j).tripped = _
      rw [Tbl.row_put]
      split
      · rename_i is; subst is; exact same
      · rfl
    · exact State.Holds.follow (h.setThreshold k _)
  · exact h

/-! ## The sample buffer (R66 to R70) -/

/-- The threshold states stand. -/
theorem State.Holds.setScanOf (h : s.Holds w) {x : Scan} (account : s.scan.accounted → x.accounted)
    (thresholds : x.thresholds = s.scan.thresholds) : (s.setScan x).Holds w :=
  h.setScan account fun _ => by rw [thresholds]

theorem State.Holds.judgeBuffer (h : s.Holds w) : s.judgeBuffer.Holds w := by
  unfold State.judgeBuffer
  dsimp only
  split
  · exact h
  · exact (h.setScanOf (x := { s.scan with
      above := decide (s.scan.settings.bufferThreshold ≤ s.scan.buffer.length) }) id rfl).notice _ _

theorem Scan.store_accounted {x : Scan} (h : x.accounted) (r : Sampled) : (x.store r).accounted := by
  obtain ⟨bound, account⟩ := h
  unfold Scan.store
  split
  · refine ⟨by simp; omega, fun less => ?_⟩
    simp only [satAdd] at less ⊢
    have := account (by omega)
    simp only [List.length_append, List.length_singleton]
    omega
  · exact ⟨bound, account⟩

theorem Scan.removeOldest_accounted {x : Scan} (h : x.accounted) : x.removeOldest.accounted := by
  obtain ⟨bound, account⟩ := h
  have le : x.readable ≤ x.buffer.length := Nat.min_le_right _ _
  refine ⟨by simp [removeOldest]; omega, fun less => ?_⟩
  have := account less
  simp only [removeOldest, satAdd, List.length_drop] at less ⊢
  omega

theorem Scan.removeAll_accounted {x : Scan} (h : x.accounted) : x.removeAll.accounted := by
  obtain ⟨bound, account⟩ := h
  refine ⟨by simp [removeAll], fun less => ?_⟩
  have := account less
  simp only [removeAll, satAdd, List.length_nil] at less ⊢
  omega

theorem Scan.store_thresholds (x : Scan) (r : Sampled) : (x.store r).thresholds = x.thresholds := by
  unfold Scan.store; split <;> rfl

theorem State.Holds.store (h : s.Holds w) (r : Sampled) : (s.store r).Holds w :=
  State.Holds.judgeBuffer (h.setScanOf (fun a => Scan.store_accounted a r) (Scan.store_thresholds _ r))

/-! ## The scan and the zero trim (R54 to R63, R71 to R73) -/

theorem Scan.beginSlot_accounted {x : Scan} (h : x.accounted) (r : ScanRun) : (x.beginSlot r).accounted := by
  rw [Scan.accounted, Scan.beginSlot_buffer, Scan.beginSlot_stored, Scan.beginSlot_read, Scan.beginSlot_cleared]
  exact h

theorem Scan.accounted.of_eq {x y : Scan} (h : x.accounted) (buffer : y.buffer = x.buffer)
    (stored : y.stored = x.stored) (read : y.read = x.read) (cleared : y.cleared = x.cleared) : y.accounted := by
  rw [Scan.accounted, buffer, stored, read, cleared]
  exact h

theorem Scan.begin_accounted {x : Scan} (h : x.accounted) (now : Nat) : (x.begin now).accounted := by
  unfold Scan.begin
  dsimp only
  refine Scan.beginSlot_accounted ?_ _
  exact h.of_eq rfl rfl rfl rfl

theorem Scan.begin_thresholds (x : Scan) (now : Nat) : (x.begin now).thresholds = x.thresholds := by
  unfold Scan.begin
  dsimp only
  rw [Scan.beginSlot_thresholds]
  rfl

theorem State.Holds.trigger (h : s.Holds w) : s.trigger.Holds w := by
  unfold State.trigger
  split
  · exact h
  · exact h
  · exact h.setScanOf (x := s.scan.begin s.clock) (fun a => Scan.begin_accounted a _) (Scan.begin_thresholds _ _)
  · exact h.setScanOf (x := { s.scan with overrun := satAdd 65535 s.scan.overrun 1 }) id rfl

theorem State.Holds.scanComplete (h : s.Holds w) : s.scanComplete.Holds w := by
  have idle := h.setScanOf (x := { s.scan with scanner := .idle }) id rfl
  exact (idle.setPlain true (.inl rfl)).hand .doorDerivation

theorem State.Holds.sampled (h : s.Holds w) (ch : Fin 24) (raw : Nat) : (s.sampled ch raw).Holds w := by
  unfold State.sampled
  dsimp only
  have stored := h.setScanOf (x := { s.scan with sensors := s.scan.sensors.put ch { s.scan.sensors.row ch with
    last := (s.scan.sensors.row ch).scale raw, samples := (s.scan.sensors.row ch).samples + 1 } }) id rfl
  generalize s.setScan { s.scan with sensors := _ } = u at stored ⊢
  have advanced := foldl_holds (fun s : State => s.Holds w)
    (fun s k => s.advanceThreshold ch ((s.scan.sensors.row ch).scale raw) k)
    (fun _ k h => State.Holds.advanceThreshold h ch _ k) (List.finRange 48) u stored
  have advanced' := foldl_holds (fun s : State => s.Holds w)
    (fun u k => u.advanceThreshold ch ((s.scan.sensors.row ch).scale raw) k)
    (fun _ k h => State.Holds.advanceThreshold h ch _ k) (List.finRange 48) u stored
  refine State.Holds.handAll ?_ _
  split
  · exact advanced'.store _
  · exact advanced'

theorem State.Holds.nextSlot (h : s.Holds w) (r : ScanRun) : (s.nextSlot r).Holds w := by
  unfold State.nextSlot
  split
  · exact h.setScanOf (fun a => Scan.beginSlot_accounted a _) (Scan.beginSlot_thresholds _ _)
  · exact h.scanComplete

theorem State.Holds.trimStart (h : s.Holds w) : (trimStart s).2.Holds w := by
  unfold Machine.trimStart
  split
  · exact h
  · split
    · exact h
    · have begun := h.setScan (x := s.scan.beginTrim) (fun a => a.of_eq rfl rfl rfl rfl) fun k => by
        simp [Scan.beginTrim, Tbl.row]
      exact begun.setPlain false (.inl rfl)

theorem State.Holds.scanNow (h : s.Holds w) : (scanNow s).2.Holds w := by
  unfold Machine.scanNow
  split
  · exact h.trigger
  · exact h.trigger
  · exact h
  · exact h

theorem Scan.abandon_accounted {x : Scan} (h : x.accounted) : x.abandon.accounted := by
  unfold Scan.abandon; split <;> exact h.of_eq rfl rfl rfl rfl

theorem Scan.abandon_thresholds (x : Scan) : x.abandon.thresholds = x.thresholds := by
  unfold Scan.abandon; split <;> rfl

/-- The reset of SCAN leaves its records and counts but the scanner, the trim code and the samples (R76). -/
theorem Scan.opsReset_frame (x : Scan) : x.opsReset =
    { x with
      sensors := x.opsReset.sensors, scanner := x.opsReset.scanner, trimCode := x.opsReset.trimCode } := by
  unfold Scan.opsReset Scan.zeroSamples
  generalize x.sensors.map _ = sensors
  dsimp only
  split <;> rfl

theorem Scan.opsReset_accounted {x : Scan} (h : x.accounted) : x.opsReset.accounted := by
  rw [x.opsReset_frame]
  exact h.of_eq rfl rfl rfl rfl

theorem Scan.opsReset_thresholds (x : Scan) : x.opsReset.thresholds = x.thresholds := by
  rw [x.opsReset_frame]

theorem State.Holds.listWritten (h : s.Holds w) (old : Scan) : (s.listWritten old).Holds w := by
  unfold State.listWritten
  dsimp only
  generalize Vector.ofFn old.frontNow = fronts
  have written := h.setScanOf (x := { s.scan with frontEnds := fronts }) id rfl
  generalize s.setScan { s.scan with frontEnds := fronts } = u at written ⊢
  have emptied := State.Holds.setPlain (written.setScanOf (x := { u.scan with scanner := .stopped }) id rfl)
    (c := condScanValid) false (.inl rfl)
  split
  · exact written
  · split
    · exact written
    · exact written.setScanOf (x := { u.scan with scanner := .idle }) id rfl
  · split
    · exact emptied
    · exact written
  · split
    · exact emptied
    · exact written

theorem State.Holds.trimComplete (h : s.Holds w) (avg : Nat) : (s.trimComplete avg).Holds w := by
  have rested := h.setScanOf (x := { s.scan with scanner := s.scan.rest }) id rfl
  exact (rested.setPlain _ (.inr (.inl rfl))).notice _ _

/-! ## MATCH (R25, R26, R28, R36) -/

theorem MatchEntry.refused_counted {m : MatchEntry} (h : m.counted) : m.refused.counted := by
  obtain ⟨le, byte, hits⟩ := h
  refine ⟨by rw [m.refused_hits]; exact m.refused_le le, m.refused_byte byte, ?_⟩
  rw [m.refused_hits]
  exact hits

theorem MatchEntry.hit_counted {m : MatchEntry} (h : m.counted) (held : Bool) : (m.hit held).counted := by
  obtain ⟨le, byte, hits⟩ := h
  rw [m.hit_eq]
  refine ⟨?_, ?_, by dsimp only; omega⟩
  · dsimp only; split <;> omega
  · dsimp only; split <;> omega

theorem State.Holds.withTable (h : s.Holds w) {table : Tbl MatchEntry 64}
    (counted : w.on .counts → ∀ e, (table.row e).counted) : { s with table := table }.Holds w := by
  intro f on
  have kept := h f on
  cases f with
  | counts => exact counted on
  | _ => exact kept

theorem State.Holds.setEntry (h : s.Holds w) {e : Fin 64} {m : MatchEntry}
    (counted : (s.table.row e).counted → m.counted) : (s.setEntry e m).Holds w :=
  h.withTable fun on i => by
    have kept : ∀ e, (s.table.row e).counted := h .counts on
    rw [Tbl.row_put]
    split
    · exact counted (kept e)
    · exact kept i

theorem State.Holds.countRefusal (h : s.Holds w) (e : Fin 64) (c : Code) : (s.countRefusal e c).Holds w := by
  unfold State.countRefusal
  split
  · exact h
  · exact h.setEntry MatchEntry.refused_counted

theorem State.Holds.asAction (e : Fin 64) {f : State → Code × State} (hf : (f s).2.Holds w) :
    (asAction e f s).Holds w := hf.countRefusal e _

theorem State.Holds.answered (rq : Requester) (op : Byte) {f : State → Code × State}
    (hf : (f s).2.Holds w) : (answered rq op f s).Holds w := hf.reply rq op _ _

theorem State.Holds.testFrame (h : s.Holds w) (f : Frame) (p : Port) : (s.testFrame f p).s.Holds w := by
  refine foldl_holds (fun x : Test => x.s.Holds w) (Test.entry f p) (fun x e hx => ?_) _ _ h
  unfold Test.entry
  dsimp only
  split
  · exact hx
  · exact hx.setEntry fun counted => MatchEntry.hit_counted counted _

theorem State.Holds.matchFrame (h : s.Holds w) (p : Port) (f : Frame) : (s.matchFrame p f).Holds w := by
  have tested := h.testFrame f p
  unfold State.matchFrame
  dsimp only
  generalize s.testFrame f p = x at tested ⊢
  refine State.Holds.handAll ?_ _
  split
  · exact tested.offer _ _
  · exact tested.holdNote _ _ _ _

/-! ## COND (R39, R43 to R46) -/

theorem State.frameCond_source {b : Byte} {c : Fin 64} (h : s.frameCond b = some c) :
    (s.board.conds.row c).source = .frame := by
  unfold State.frameCond at h
  split at h
  · simp at h
  · split at h
    · rename_i is
      obtain rfl := Option.some.inj h
      exact is.2
    · simp at h

theorem State.Holds.condSet (h : s.Holds w) (b : Byte) (hold : Nat) : (condSet b hold s).2.Holds w := by
  unfold Machine.condSet
  split
  · exact h
  · rename_i found
    exact h.setFrameCond (State.frameCond_source found) _ _ _

theorem State.Holds.condClear (h : s.Holds w) (b : Byte) : (condClear b s).2.Holds w := by
  unfold Machine.condClear
  split
  · exact h
  · rename_i found
    split
    · exact h.setFrameCond (State.frameCond_source found) _ _ _
    · exact h

theorem State.Holds.faultLine (h : s.Holds w) (l : FaultLine) (low : Bool) : (s.faultLine l low).Holds w := by
  cases l with
  | a => exact State.Holds.setPlain (h.faultPin .a low) low (.inr (.inr (.inl rfl)))
  | b => exact State.Holds.setPlain (h.faultPin .b low) low (.inr (.inr (.inr rfl)))

/-- A condition that no watched fact reads changes with its hold. -/
theorem State.Holds.setFrameCond_unread (h : s.Holds w) {c : Fin 64} (unread : ∀ f, w.on f → ¬ Fact.fixed c f)
    (noHold : ¬ w.on (.hold c (s.board.conds.row c).source)) (v : Bool) (time : Nat) (hold : Option Nat) :
    (s.setFrameCond c v time hold).Holds w := by
  have eq := s.setFrameCond_frame c v time hold
  have source (c' : Fin 64) := s.setFrameCond_source c v time hold c'
  have other {c' : Fin 64} (ne : c' ≠ c) := s.setFrameCond_record_ne v time hold ne
  have still {c' : Fin 64} (ne : c' ≠ c) : (s.setFrameCond c v time hold).cond c' = s.cond c' := by
    rw [State.cond, other ne]; rfl
  intro f on
  have kept := h f on
  cases f with
  | sources => exact fun c' lt => (source c').trans (kept c' lt)
  | hold c' src =>
    intro is
    rw [source] at is
    have ne : c' ≠ c := fun same => noHold (by rw [← same, is]; exact on)
    rw [other ne]
    exact kept is
  | follows c' src =>
    intro is
    rw [source] at is
    have ne : c' ≠ c := fun same => noHold (by rw [← same, is]; exact w.closed (.follows c' src) _ (.inr rfl) on)
    rw [still ne, eq]
    have value := kept is
    cases src <;> exact value
  | bridge | paFault | service | moving | lane n =>
    rw [State.keeps, still fun same => unread _ on same.symm, eq]; exact kept
  | _ => rw [eq]; exact kept

/-- HOLD EXPIRY: a hold runs on a FRAME condition alone, where the hold is watched. -/
theorem State.Holds.holdExpiry (h : s.Holds w) {c : Fin 64} (runs : (s.board.conds.row c).hold.isSome) :
    (s.setFrameCond c false 0 none).Holds w := by
  have rests {src : Source} (on : w.on (.hold c src)) (is : (s.board.conds.row c).source = src) : src = .frame := by
    by_contra ne
    have none_ : (s.board.conds.row c).hold = none := h _ on is ne
    simp [none_] at runs
  by_cases frame : (s.board.conds.row c).source = .frame
  · exact h.setFrameCond frame _ _ _
  · refine h.setFrameCond_unread (fun f on fixed => ?_) (fun on => frame (rests on rfl)) _ _ _
    have builtIn (lt : c.val < 16) (needs : f.needs .sources) (needs' : f.needs (.hold c .fixed)) : False :=
      Source.noConfusion (rests (w.closed f _ needs' on) (h.sources_of on needs c lt))
    cases f with
    | moving => obtain rfl : c = _ := fixed; exact builtIn (by decide) (.inl rfl) (.inr (.inr rfl))
    | lane n => obtain rfl : c = _ := fixed; exact builtIn (condLane_lt n) (.inl rfl) (.inr rfl)
    | bridge | paFault | service => obtain rfl : c = _ := fixed; exact builtIn (by decide) (.inl rfl) (.inr rfl)
    | _ => exact fixed.elim

/-! ## LINE (R1 to R18) -/

/-- The facts that read the bridge-silence timer. -/
theorem State.Holds.setSilence (h : s.Holds w) (due : Option Nat) {v : Bool} (is : v = due.isSome) :
    (({ s with line := { s.line with silence := due } }).setCond condBridge v).Holds w := by
  have set : ({ s with line := { s.line with silence := due } }).Holds
      (w.drop (Fact.fixed condBridge) (Fact.fixed_droppable condBridge)) := by
    refine h.drop_of_keeps _ fun f other kept => ?_
    cases f with
    | bridge => exact (other rfl).elim
    | _ => exact kept
  refine set.setFixed (by decide) fun f fixed on => ?_
  cases f with
  | bridge =>
    rw [State.keeps, State.setCond_cond_self, State.setCond_frame]
    exact is
  | lane n =>
    have lt := n.isLt
    exact absurd (congrArg Fin.val (show condBridge = condLane n from fixed)) (by simp [condBridge, condLane]; omega)
  | paFault | service | moving => exact absurd (congrArg Fin.val (show condBridge = _ from fixed)) (by decide)
  | _ => exact fixed.elim

theorem State.Holds.bridgeHeard (h : s.Holds w) (p : Port) : (s.bridgeHeard p).Holds w := by
  cases p with
  | up => exact h.setSilence _ rfl
  | dn => exact h

theorem State.Holds.bridgeSilent (h : s.Holds w) : s.bridgeSilent.Holds w := (h.setSilence none rfl).notice _ _

theorem State.Holds.crcFailure (h : s.Holds w) (p : Port) : (s.crcFailure p).Holds w := h.setPort p id

theorem State.Holds.clash (h : s.Holds w) (p : Port) : (s.clash p).Holds w := (h.clashCount _).notice _ _

theorem State.Holds.learn (h : s.Holds w) (node : Byte) (p : Port) : (s.learn node p).Holds w := by
  unfold State.learn
  split
  · dsimp only
    split
    · exact h
    · exact h.sides _
  · exact h

theorem State.Holds.handCallDone (h : s.Holds w) (f : Frame) : (s.handCallDone f).Holds w := h.hand _

/-- The destination decision, given what a REQUEST's taking keeps. -/
theorem State.Holds.route (h : s.Holds w) (p : Port) (f : Frame) {w' : Watch} (less : ∀ f, w'.on f → w.on f)
    (request : s.Holds w → (s.takeRequest f).Holds w') : (s.route p f).Holds w' := by
  unfold State.route
  split
  · split
    · exact request h
    · split
      · exact (h.handCallDone f).mono less
      · exact h.mono less
  · dsimp only
    split
    · exact ((h.handCallDone f).matchFrame p f).mono less
    · exact (h.matchFrame p f).mono less

end Sys2Proof.Machine
end

section
/-! PROOFS. A taken write: what is stored, entry by entry, and what every write keeps (R181 to R183). -/

namespace Sys2Proof.Machine
variable {s t : State} {w : Watch}

/-! ## The entries of a write -/

/-- The entries of a write that can be read, with their indices. -/
def State.written (s : State) (t : TableId) (ws : List Written) : List (Nat × Entry) :=
  ws.filterMap fun w => (s.parseEntry t w.index w.image).map fun e => (w.index, e)

theorem State.storeAll_eq (s : State) (t : TableId) (ws : List Written) :
    s.storeAll t ws = (s.written t ws).foldl (fun n p => n.store1 p.1 p.2) s := by
  unfold State.storeAll State.written
  rw [List.foldl_filterMap]
  congr 1
  funext n w
  cases s.parseEntry t w.index w.image <;> rfl

theorem State.actAll_eq (old : State) (t : TableId) (ws : List Written) (s : State) :
    State.actAll old t ws s = (old.written t ws).foldl (fun n p => State.act1 old n p.1 p.2) s := by
  unfold State.actAll State.written
  rw [List.foldl_filterMap]
  congr 1
  funext n w
  cases old.parseEntry t w.index w.image <;> rfl

/-- Entry `e` at index `i` passes the tests of a write that bear on the facts that every step keeps (R182). -/
structure State.passesAt (s : State) (t : TableId) (i : Nat) (e : Entry) : Prop where
  index : t.inWritable i = true
  image : ∃ img, s.parseEntry t i img = some e
  noJump : s.jumps i e = false
  free : s.entryBusy i e = false

/-- Every entry of a write that is taken passes. -/
theorem State.passesAt_of_judgeAll {t : TableId} {ws : List Written} (h : s.judgeAll t ws = none)
    {p : Nat × Entry} (mem : p ∈ s.written t ws) : s.passesAt t p.1 p.2 := by
  obtain ⟨x, xmem, parsed⟩ := List.mem_filterMap.mp mem
  obtain ⟨e, read, rfl⟩ := Option.map_eq_some_iff.mp parsed
  have judged : s.judgeEntry (s.storeAll t ws) t x = none := by
    have := List.findSome?_eq_none_iff.mp h x xmem
    simpa using this
  unfold State.judgeEntry at judged
  rw [read] at judged
  split at judged
  · simp at judged
  split at judged
  · simp at judged
  rename_i inside
  split at judged
  · simp at judged
  rename_i same
  cases same
  split at judged
  · simp at judged
  split at judged
  · simp at judged
  rename_i jump
  split at judged
  · simp at judged
  rename_i busy
  exact ⟨by simpa using inside, ⟨_, read⟩, by simpa using jump, by simpa using busy⟩

theorem row_putAt {α : Type} {n : Nat} (t : Tbl α n) (i : Nat) (f : α → α) (j : Fin n) :
    (putAt t i f).row j = if i = j.val then f (t.row j) else t.row j := by
  unfold putAt
  split
  · rename_i lt
    rw [Tbl.row_put]
    by_cases same : i = j.val
    · subst same; simp
    · rw [if_neg same, if_neg fun eq => same (congrArg Fin.val eq)]
  · rename_i out
    rw [if_neg]
    intro same
    exact out (same ▸ j.isLt)

/-- The table that an entry is an entry of. -/
def Entry.table : Entry → TableId
  | .line _ => .line | .side _ => .sides | .entry _ => .entries | .cond _ => .conds | .term _ => .terms
  | .sensor _ => .sensors | .list _ => .list | .settings _ => .settings | .threshold _ => .thresholds
  | .channel _ => .channels | .ramp _ => .ramps | .plan _ => .plans | .stage _ => .stages | .door _ => .doors
  | .group _ => .groups | .template _ => .templates | .zone _ => .zones | .pa _ _ => .pa

/-- What an entry that is read from an image promises of its written fields (R20, R64, R115, R160). -/
def State.readAs (s : State) (i : Nat) : Entry → Prop
  | .entry m => m.hits = 0 ∧ m.refusals = 0
  | .threshold x => ∀ k : Fin 48, k.val = i → x.tripped = (s.scan.thresholds.row k).tripped
  | .plan m => 1 ≤ m.count ∧ m.first.val + m.count ≤ 64
  | .template x => x.allow ≠ none → x.zones ≠ 0
  | _ => True

theorem State.parseEntry_table {t : TableId} {i : Nat} {img : List Byte} {e : Entry}
    (h : s.parseEntry t i img = some e) : e.table = t ∧ s.readAs i e := by
  cases t with
  | directory | slots | notices => simp [State.parseEntry] at h
  | line =>
    simp only [State.parseEntry, readLine, Option.some.injEq] at h
    subst h; exact ⟨rfl, trivial⟩
  | sides =>
    simp only [State.parseEntry, readSide, Option.bind_eq_bind, Option.bind_eq_some_iff, Option.pure_def,
      Option.some.injEq] at h
    obtain ⟨_, -, _, -, rfl⟩ := h; exact ⟨rfl, trivial⟩
  | entries =>
    simp only [State.parseEntry, readEntry, Option.bind_eq_bind, Option.bind_eq_some_iff, Option.pure_def] at h
    obtain ⟨_, -, _, -, _, -, _, -, _, -, h⟩ := h
    split at h
    · simp at h
    · cases h; exact ⟨rfl, rfl, rfl⟩
  | conds =>
    simp only [State.parseEntry, readCond] at h
    split at h
    · cases h; exact ⟨rfl, trivial⟩
    · obtain ⟨_, -, rfl⟩ := Option.map_eq_some_iff.mp h; exact ⟨rfl, trivial⟩
    · obtain ⟨_, -, rfl⟩ := Option.map_eq_some_iff.mp h; exact ⟨rfl, trivial⟩
    · obtain ⟨_, -, rfl⟩ := Option.map_eq_some_iff.mp h; exact ⟨rfl, trivial⟩
    · simp only [Option.bind_eq_bind, Option.bind_eq_some_iff, Option.pure_def, Option.some.injEq] at h
      obtain ⟨_, -, _, -, rfl⟩ := h; exact ⟨rfl, trivial⟩
    · obtain ⟨_, -, rfl⟩ := Option.map_eq_some_iff.mp h; exact ⟨rfl, trivial⟩
    · cases h; exact ⟨rfl, trivial⟩
    · simp at h
  | terms => obtain ⟨_, -, rfl⟩ := Option.map_eq_some_iff.mp h; exact ⟨rfl, trivial⟩
  | sensors =>
    simp only [State.parseEntry, readSensor, Option.bind_eq_bind, Option.bind_eq_some_iff, Option.pure_def,
      Option.some.injEq] at h
    obtain ⟨_, -, _, -, _, -, rfl⟩ := h; exact ⟨rfl, trivial⟩
  | list => obtain ⟨_, -, rfl⟩ := Option.map_eq_some_iff.mp h; exact ⟨rfl, trivial⟩
  | settings =>
    simp only [State.parseEntry, readSettings, Option.bind_eq_bind, Option.bind_eq_some_iff, Option.pure_def,
      Option.some.injEq] at h
    obtain ⟨_, -, _, -, _, -, rfl⟩ := h; exact ⟨rfl, trivial⟩
  | thresholds =>
    simp only [State.parseEntry] at h
    split at h
    · rename_i lt
      simp only [readThreshold, Option.bind_eq_bind, Option.bind_eq_some_iff, Option.pure_def,
        Option.some.injEq] at h
      obtain ⟨_, -, _, -, rfl⟩ := h
      refine ⟨rfl, fun k is => ?_⟩
      obtain rfl : k = ⟨i, lt⟩ := Fin.ext is
      rfl
    · simp at h
  | channels =>
    simp only [State.parseEntry] at h
    split at h
    · simp only [readChannel, Option.bind_eq_bind, Option.bind_eq_some_iff, Option.pure_def] at h
      obtain ⟨_, -, _, -, _, -, _, -, _, -, _, -, _, -, _, -, _, -, _, -, _, -, h⟩ := h
      split at h
      · cases h; exact ⟨rfl, trivial⟩
      · simp at h
    · simp at h
  | ramps =>
    simp only [State.parseEntry, readRamp, Option.bind_eq_bind, Option.bind_eq_some_iff, Option.pure_def,
      Option.some.injEq] at h
    obtain ⟨_, -, _, -, _, -, rfl⟩ := h; exact ⟨rfl, trivial⟩
  | plans =>
    simp only [State.parseEntry, readPlan, Option.bind_eq_bind, Option.bind_eq_some_iff, Option.pure_def,
      Option.some.injEq] at h
    obtain ⟨_, -, first, -, rfl⟩ := h
    have := first.isLt
    refine ⟨rfl, ?_⟩
    simp only [State.readAs, clamp]
    omega
  | stages =>
    simp only [State.parseEntry, readStage, Option.bind_eq_bind, Option.bind_eq_some_iff, Option.pure_def,
      Option.some.injEq] at h
    obtain ⟨_, -, _, -, _, -, rfl⟩ := h; exact ⟨rfl, trivial⟩
  | doors =>
    simp only [State.parseEntry, readDoor, Option.bind_eq_bind, Option.bind_eq_some_iff, Option.pure_def,
      Option.some.injEq] at h
    obtain ⟨_, -, _, -, _, -, _, -, _, -, _, -, rfl⟩ := h; exact ⟨rfl, trivial⟩
  | groups =>
    simp only [State.parseEntry, readGroup, Option.bind_eq_bind, Option.bind_eq_some_iff, Option.pure_def,
      Option.some.injEq] at h
    obtain ⟨_, -, _, -, _, -, rfl⟩ := h; exact ⟨rfl, trivial⟩
  | templates =>
    simp only [State.parseEntry, readTemplate, Option.bind_eq_bind, Option.bind_eq_some_iff, Option.pure_def] at h
    obtain ⟨allow, -, h⟩ := h
    split at h
    · simp at h
    · rename_i may
      cases h
      refine ⟨rfl, fun some_ none_ => may ⟨none_, Option.isSome_iff_ne_none.mpr some_⟩⟩
  | zones => obtain ⟨_, -, rfl⟩ := Option.map_eq_some_iff.mp h; exact ⟨rfl, trivial⟩
  | pa =>
    simp only [State.parseEntry, readPa] at h
    split at h
    · cases h; exact ⟨rfl, trivial⟩
    · simp at h

end Sys2Proof.Machine
end

section
/-! PROOFS. What storing and acting keep, table by table (R182). -/

namespace Sys2Proof.Machine
variable {s t : State} {w : Watch}

/-! ## Tables whose entries no ramp, door, channel or condition source names -/

/-- Storing an entry of these tables moves no record that a fact reads. -/
def TableId.plain : TableId → Bool
  | .conds | .channels | .plans | .stages | .doors => false
  | _ => true

/-- The states between the entries of a write keep the facts and the states of the thresholds. -/
def State.stores (s : State) (w : Watch) (n : State) : Prop :=
  n.Holds w ∧ ∀ k, (n.scan.thresholds.row k).tripped = (s.scan.thresholds.row k).tripped

theorem State.Holds.withTerms (h : s.Holds w) (ts : Tbl Term 32) :
    { s with board := { s.board with terms := ts } }.Holds w :=
  h.of_keeps fun f kept => by cases f <;> exact kept

theorem State.Holds.withGroups (h : s.Holds w) (gs : Tbl Group 8) :
    { s with door := { s.door with groups := gs } }.Holds w :=
  h.of_keeps fun f kept => by cases f <;> exact kept

/-- A ramp's operating state stands as it was. -/
structure Ramp.stands (x x' : Ramp) : Prop where
  state : x'.state = x.state
  plan : x'.plan = x.plan
  stage : x'.stage = x.stage
  phase : x'.phase = x.phase
  sPrev : x'.sPrev = x.sPrev
  dwell : x'.dwell = x.dwell
  result : x'.result = x.result

theorem Ramp.stands_refl (x : Ramp) : x.stands x := ⟨rfl, rfl, rfl, rfl, rfl, rfl, rfl⟩

theorem Ramp.stands.trans {x y z : Ramp} (h : x.stands y) (g : y.stands z) : x.stands z :=
  ⟨g.state.trans h.state, g.plan.trans h.plan, g.stage.trans h.stage, g.phase.trans h.phase,
    g.sPrev.trans h.sPrev, g.dwell.trans h.dwell, g.result.trans h.result⟩

/-- The plan and the stage of every ramp that is not IDLE stand as they were, and every plan lies in the pool. -/
structure Plan.standsAs (n n' : Plan) : Prop where
  pool : ∀ p, 1 ≤ (n'.plans.row p).count ∧ (n'.plans.row p).first.val + (n'.plans.row p).count ≤ 64
  plan : ∀ r p, (n.ramps.row r).state ≠ .idle → (n.ramps.row r).plan = some p → n'.plans.row p = n.plans.row p
  stage : ∀ r k, (n.ramps.row r).state ≠ .idle → (n.ramps.row r).stage = some k → n'.stages.row k = n.stages.row k

theorem Plan.standsAs.rampRuled {n n' : Plan} (h : n.standsAs n') {m : Mode} {r : Fin 4}
    (stands : (n.ramps.row r).stands (n'.ramps.row r)) (ruled : n.rampRuled m (n.ramps.row r)) :
    n'.rampRuled m (n'.ramps.row r) := by
  obtain ⟨state, plan, stage, phase, sPrev, dwell, -⟩ := stands
  have stageOf {k : Fin 64} (at_ : (n.ramps.row r).stage = some k) : n'.stages.row k = n.stages.row k := by
    refine h.stage r k (fun idle => ?_) at_
    rw [(ruled.atRest idle).1] at at_
    simp at at_
  constructor
  · rw [state, stage, phase, dwell]; exact ruled.atRest
  · rw [state]
    intro busy
    obtain ⟨service, p, k, hp, hk, has⟩ := ruled.placed busy
    refine ⟨service, p, k, plan.trans hp, stage.trans hk, ?_⟩
    rw [Plan.has, h.plan r p busy hp]
    exact has
  · rw [state, phase, sPrev, stage]
    intro pos
    obtain ⟨running, entered, k, d, hk, kind, le⟩ := ruled.command pos
    exact ⟨running, entered, k, d, hk, by rw [stageOf hk]; exact kind, le⟩
  · rw [phase, dwell, stage]
    intro runs
    obtain ⟨entered, k, time, hk, kind⟩ := ruled.dwells runs
    exact ⟨entered, k, time, hk, by rw [stageOf hk]; exact kind⟩

/-- The tables of PLAN are written: the operating state of every ramp stands, and what its rules read. -/
theorem State.Holds.withPlan (h : s.Holds w) {n : Plan}
    (stands : ∀ r, (s.plan.ramps.row r).stands (n.ramps.row r)) (keeps : w.on .ramps → s.plan.standsAs n) :
    { s with plan := n }.Holds w := by
  intro f on
  have kept := h f on
  cases f with
  | ramps =>
    have ruled : s.plan.ruled s.req.mode := kept
    exact ⟨(keeps on).pool, fun r => (keeps on).rampRuled (stands r) (ruled.ramps r)⟩
  | moving =>
    have onRamps := w.closed .moving .ramps (.inr (.inl rfl)) on
    have same (r : Fin 4) : State.rampMoving { s with plan := n } r = s.rampMoving r := by
      obtain ⟨state, -, stage, phase, sPrev, -, -⟩ := stands r
      unfold State.rampMoving
      dsimp only
      rw [state, stage, phase, sPrev]
      cases at_ : (s.plan.ramps.row r).stage with
      | none => rfl
      | some k =>
        by_cases idle : (s.plan.ramps.row r).state = .idle
        · rw [idle]; rfl
        · dsimp only
          rw [(keeps onRamps).stage r k idle at_]
    change s.cond condMoving = (List.finRange 4).any (State.rampMoving { s with plan := n })
    rw [funext same]
    exact kept
  | follows c src =>
    cases src with
    | rampAt r p =>
      intro source
      have eq := kept source
      obtain ⟨state, plan, -, -, -, -, result⟩ := stands r
      change s.cond c = State.sourceValue { s with plan := n } (.rampAt r p) _
      rw [eq]
      simp only [State.sourceValue, state, plan, result]
    | _ => exact kept
  | _ => exact kept

theorem Plan.standsAs_ramps {n : Plan} {m : Mode} (ruled : n.ruled m) (rs : Tbl Ramp 4) :
    n.standsAs { n with ramps := rs } :=
  ⟨ruled.plans, fun _ _ _ _ => rfl, fun _ _ _ _ => rfl⟩

/-- CALL's records move, but neither its slots nor a holder, and every template that may be queued has zones. -/
theorem State.Holds.withCallTables (h : s.Holds w) {c : Call} (slots : c.slots = s.call.slots)
    (holders : ∀ z, (c.zones.row z).holder = (s.call.zones.row z).holder) (paRun : c.paRun = s.call.paRun)
    (templates : w.on .zones → ∀ m, (c.templates.row m).allow ≠ none → (c.templates.row m).zones ≠ 0) :
    (s.setCall c).Holds w := by
  refine h.setCall (fun on => ?_) (fun on => ?_) paRun
  · have kept : s.call.each Slot.safe := h .slots on
    rw [Call.each, slots]; exact kept
  · have kept : s.call.zonesRuled := h .zones on
    refine ⟨⟨fun z k => ?_, ?_, templates on⟩, fun k x => ?_⟩
    · rw [holders, slots]; exact kept.held.holder z k
    · rw [Call.each, slots]; exact kept.held.timed
    · rw [slots]
      intro at_ waiting
      obtain ⟨z, j, y, mem, holder, slot, le⟩ := kept.blocked k x at_ waiting
      exact ⟨z, j, y, mem, (holders z).trans holder, by rw [slots]; exact slot, le⟩

theorem State.stores.store {t : TableId} {i : Nat} {e : Entry} {n : State} (plain : t.plain = true)
    (passes : s.passesAt t i e) (h : s.stores w n) : s.stores w (n.store1 i e) := by
  obtain ⟨holds, tripped⟩ := h
  obtain ⟨img, read⟩ := passes.image
  obtain ⟨rfl, readAs⟩ := State.parseEntry_table read
  cases e with
  | cond | channel | plan | stage | door => simp [Entry.table, TableId.plain] at plain
  | line x => exact ⟨holds.silenceMs x, tripped⟩
  | side x => exact ⟨holds.sides _, tripped⟩
  | entry m =>
    refine ⟨holds.withTable fun on j => ?_, tripped⟩
    have kept : ∀ j, (n.table.row j).counted := holds .counts on
    obtain ⟨hits, refusals⟩ := readAs
    rw [row_putAt]
    split
    · rw [MatchEntry.counted, hits, refusals]; omega
    · exact kept j
  | term x => exact ⟨holds.withTerms _, tripped⟩
  | sensor x => exact ⟨holds.setScanOf id rfl, tripped⟩
  | list x => exact ⟨holds.setScanOf id rfl, tripped⟩
  | settings x => exact ⟨holds.setScanOf id rfl, tripped⟩
  | threshold x =>
    have moved (k : Fin 48) : ((putAt n.scan.thresholds i fun _ => x).row k).tripped
        = (s.scan.thresholds.row k).tripped := by
      rw [row_putAt]
      split
      · rename_i here; exact readAs k here.symm
      · exact tripped k
    exact ⟨holds.setScan id fun k => (moved k).trans (tripped k).symm, moved⟩
  | ramp x =>
    refine ⟨holds.withPlan (fun r => ?_) fun on => ?_, tripped⟩
    · rw [row_putAt]
      split
      · exact ⟨rfl, rfl, rfl, rfl, rfl, rfl, rfl⟩
      · exact Ramp.stands_refl _
    · have ruled : n.plan.ruled n.req.mode := holds .ramps on
      exact Plan.standsAs_ramps ruled _
  | group x => exact ⟨holds.withGroups _, tripped⟩
  | template x =>
    refine ⟨holds.withCallTables rfl (fun _ => rfl) rfl fun on m => ?_, tripped⟩
    have kept : n.call.zonesRuled := holds .zones on
    rw [row_putAt]
    split
    · exact readAs
    · exact kept.held.templates m
  | zone lamp =>
    refine ⟨holds.withCallTables rfl (fun z => ?_) rfl fun on => ?_, tripped⟩
    · rw [row_putAt]; split <;> rfl
    · have kept : n.call.zonesRuled := holds .zones on
      exact kept.held.templates
  | pa node limit =>
    refine ⟨holds.withCallTables rfl (fun _ => rfl) rfl fun on => ?_, tripped⟩
    have kept : n.call.zonesRuled := holds .zones on
    exact kept.held.templates

theorem State.Holds.termWritten (h : s.Holds w) (t : Fin 32) : (s.termWritten t).Holds w := by
  unfold State.termWritten
  dsimp only
  refine State.Holds.readTriggers (foldl_holds (fun s : State => s.Holds w) _ (fun u r hu => ?_) _ _
    (foldl_holds (fun s : State => s.Holds w) _ (fun u ch hu => ?_) _ _ h)) _
  · split
    · exact hu.rampTold r false
    · exact hu
  · split
    · exact hu.judgeForcing ch
    · exact hu

theorem State.Holds.groupWritten (h : s.Holds w) (old : State) (g : Fin 8) : (State.groupWritten old g s).Holds w := by
  unfold State.groupWritten
  split
  · exact h
  · exact h.readTrigger g

/-- What the owners of these tables do keeps every fact. -/
theorem State.Holds.act1 (h : s.Holds w) (old : State) (i : Nat) {e : Entry}
    (notCond : e.table ≠ .conds) (notChannel : e.table ≠ .channels) (notDoor : e.table ≠ .doors) :
    (State.act1 old s i e).Holds w := by
  cases e with
  | cond => exact absurd rfl notCond
  | channel => exact absurd rfl notChannel
  | door => exact absurd rfl notDoor
  | term =>
    unfold State.act1
    dsimp only
    split
    · exact h.termWritten _
    · exact h
  | group =>
    unfold State.act1
    dsimp only
    split
    · exact h.groupWritten old _
    · exact h
  | list => exact h.listWritten old.scan
  | settings => exact h.judgeBuffer
  | _ => exact h

end Sys2Proof.Machine
end

section
/-! PROOFS. A taken write keeps every fact (R182). -/

namespace Sys2Proof.Machine
variable {s : State} {w : Watch}

/-! ## PLAN's tables (R117) -/

theorem State.planInUse_of {r : Fin 4} {p : Fin 8} (busy : (s.plan.ramps.row r).state ≠ .idle)
    (plan : (s.plan.ramps.row r).plan = some p) : s.planInUse p = true := by
  refine List.any_eq_true.mpr ⟨r, List.mem_finRange r, ?_⟩
  simp [State.ramp, busy, plan]

/-- A plan or stage that a ramp not IDLE uses is not written. -/
theorem State.entryBusy_plan {p : Fin 8} {m : PlanRecord} {r : Fin 4} (service : s.req.mode = .service)
    (busy : (s.plan.ramps.row r).state ≠ .idle) (plan : (s.plan.ramps.row r).plan = some p) :
    s.entryBusy p.val (.plan m) = true := by
  simp [State.entryBusy, service, State.planInUse_of busy plan]

theorem State.entryBusy_stage {p : Fin 8} {k : Fin 64} {st : Stage} {r : Fin 4} (service : s.req.mode = .service)
    (busy : (s.plan.ramps.row r).state ≠ .idle) (plan : (s.plan.ramps.row r).plan = some p) (has : s.plan.has p k) :
    s.entryBusy k.val (.stage st) = true := by
  have mem : k ∈ s.stagesOf p := by
    rw [State.stagesOf]
    refine List.mem_filter.mpr ⟨List.mem_finRange k, ?_⟩
    simpa [Plan.has] using has
  have inUse : ((List.finRange 8).any fun p => s.planInUse p && (s.stagesOf p).any fun j => j.val == k.val) = true :=
    List.any_eq_true.mpr ⟨p, List.mem_finRange p, by
      rw [State.planInUse_of busy plan, Bool.true_and]
      exact List.any_eq_true.mpr ⟨k, mem, by simp⟩⟩
  simp [State.entryBusy, service, inUse]

/-- The stored plans and stages of a write. -/
def State.plansStored (s : State) (w : Watch) (n : State) : Prop :=
  ∃ m : Plan, n = { s with plan := m } ∧ m.ramps = s.plan.ramps ∧ (w.on .ramps → s.plan.standsAs m)

theorem State.plansStored.store {t : TableId} {i : Nat} {e : Entry} {n : State} (h : s.Holds w)
    (plans : t = .plans ∨ t = .stages) (passes : s.passesAt t i e) (stored : s.plansStored w n) :
    s.plansStored w (n.store1 i e) := by
  obtain ⟨m, rfl, ramps, stands⟩ := stored
  obtain ⟨img, read⟩ := passes.image
  obtain ⟨rfl, readAs⟩ := State.parseEntry_table read
  have free := passes.free
  have at_ (on : w.on .ramps) (r : Fin 4) (busy : (s.plan.ramps.row r).state ≠ .idle) :=
    (h.ramp on r).placed busy
  cases e with
  | plan x =>
    refine ⟨{ m with plans := putAt m.plans i fun _ => x }, rfl, ramps, fun on => ?_⟩
    obtain ⟨pool, plan, stage⟩ := stands on
    refine ⟨fun p => ?_, fun r p busy is => ?_, stage⟩
    · rw [row_putAt]
      split
      · exact readAs
      · exact pool p
    · rw [row_putAt]
      split
      · rename_i here
        subst here
        rw [State.entryBusy_plan (at_ on r busy).1 busy is] at free
        exact Bool.noConfusion free
      · exact plan r p busy is
  | stage x =>
    refine ⟨{ m with stages := putAt m.stages i fun _ => x }, rfl, ramps, fun on => ?_⟩
    obtain ⟨pool, plan, stage⟩ := stands on
    refine ⟨pool, plan, fun r k busy is => ?_⟩
    rw [row_putAt]
    split
    · rename_i here
      subst here
      obtain ⟨service, p, k', ofPlan, ofStage, has⟩ := at_ on r busy
      obtain rfl : k' = k := Option.some.inj (ofStage.symm.trans is)
      rw [State.entryBusy_stage service busy ofPlan has] at free
      exact Bool.noConfusion free
    · exact stage r k busy is
  | _ => rcases plans with is | is <;> cases is

/-! ## Condition records (R42) -/

/-- The facts that a written source suspends: the condition's value and hold under a source other than the one
it had. -/
def Fact.resourced (old : State) (p : Fin 64 → Prop) : Fact → Prop
  | .follows c src | .hold c src => p c ∧ 16 ≤ c.val ∧ src ≠ (old.board.conds.row c).source
  | _ => False

theorem Fact.resourced_droppable (old : State) (p : Fin 64 → Prop) : Droppable (Fact.resourced old p) := by
  rintro f g needs d
  have := condLane_lt
  cases g with
  | follows c src => cases f <;> simp [Fact.needs] at needs
  | hold c src =>
    obtain ⟨mem, assigned, changed⟩ := d
    cases f with
    | follows c' src' =>
      obtain ⟨rfl, rfl⟩ : c = c' ∧ src = src' := by simpa [Fact.needs] using needs
      exact ⟨mem, assigned, changed⟩
    | lane n =>
      obtain ⟨rfl, rfl⟩ : c = condLane n ∧ src = .fixed := by simpa [Fact.needs] using needs
      exact absurd assigned (by have := condLane_lt n; omega)
    | bridge | paFault | service | moving =>
      obtain ⟨rfl, rfl⟩ : c = _ ∧ src = .fixed := by simpa [Fact.needs] using needs
      exact absurd assigned (by decide)
    | _ => simp [Fact.needs] at needs
  | _ => exact d.elim

/-- The stored sources of a write. -/
def State.sourcesStored (s : State) (p : Fin 64 → Prop) (n : State) : Prop :=
  ∃ cs : Tbl CondRecord 64, n = { s with board := { s.board with conds := cs } } ∧
    ∀ c, cs.row c = { s.board.conds.row c with source := (cs.row c).source }
      ∧ ((cs.row c).source = (s.board.conds.row c).source ∨ p c ∧ 16 ≤ c.val)

theorem State.sourcesStored.holds {p : Fin 64 → Prop} {n : State} (stored : s.sourcesStored p n) (h : s.Holds w) :
    n.Holds (w.drop (Fact.resourced s p) (Fact.resourced_droppable s p)) := by
  obtain ⟨cs, rfl, rows⟩ := stored
  have same {c : Fin 64} {src : Source} (notMoved : ¬ (p c ∧ 16 ≤ c.val ∧ src ≠ (s.board.conds.row c).source))
      (is : (cs.row c).source = src) : (s.board.conds.row c).source = src := by
    by_contra ne
    rcases (rows c).2 with eq | ⟨mem, assigned⟩
    · exact ne (eq.symm.trans is)
    · exact notMoved ⟨mem, assigned, Ne.symm ne⟩
  have cond (c : Fin 64) : State.cond { s with board := { s.board with conds := cs } } c = s.cond c := by
    change (cs.row c).value = _
    rw [(rows c).1]; rfl
  refine h.drop_of_keeps _ fun f still kept => ?_
  cases f with
  | sources =>
    intro c lt
    change (cs.row c).source = .fixed
    rcases (rows c).2 with eq | ⟨-, assigned⟩
    · exact eq.trans (kept c lt)
    · omega
  | hold c src =>
    intro is
    change src ≠ .frame → (cs.row c).hold = none
    rw [(rows c).1]
    exact kept (same still is)
  | follows c src =>
    intro is
    rw [cond]
    have eq := kept (same still is)
    cases src <;> exact eq
  | bridge | paFault | service | moving | lane n => rw [State.keeps, cond]; exact kept
  | _ => exact kept

theorem State.sourcesStored.store {t : TableId} {i : Nat} {e : Entry} {n : State} {p : Fin 64 → Prop}
    (conds : t = .conds) (mem : ∀ c : Fin 64, c.val = i → p c) (passes : s.passesAt t i e)
    (stored : s.sourcesStored p n) : s.sourcesStored p (n.store1 i e) := by
  obtain ⟨cs, rfl, rows⟩ := stored
  obtain ⟨img, read⟩ := passes.image
  obtain ⟨rfl, -⟩ := State.parseEntry_table read
  have index := passes.index
  cases e with
  | cond src =>
    refine ⟨_, rfl, fun c => ?_⟩
    rw [row_putAt]
    split
    · rename_i here
      refine ⟨by rw [(rows c).1], .inr ⟨mem c here.symm, ?_⟩⟩
      simp only [TableId.inWritable, Entry.table, Bool.and_eq_true, Bool.or_eq_true, bne_self_eq_false,
        Bool.false_eq_true, false_or, decide_eq_true_eq] at index
      omega
    · exact rows c
  | _ => cases conds

/-- COND acts on a stored source: the condition has its source's value, and no hold. -/
theorem State.Holds.condWritten {old : State} {p : Fin 64 → Prop} {c : Fin 64}
    (h : s.Holds (w.drop (Fact.resourced old p) (Fact.resourced_droppable old p))) (assigned : 16 ≤ c.val) :
    (State.condWritten old c s).Holds
      (w.drop (Fact.resourced old fun i => p i ∧ i ≠ c) (Fact.resourced_droppable _ _)) := by
  unfold State.condWritten
  dsimp only
  have others {f : Fact} (on : ¬ f.resourced old fun i => p i ∧ i ≠ c) (moved : f.resourced old p) :
      ∃ src, (f = .follows c src ∨ f = .hold c src) ∧ src ≠ (old.board.conds.row c).source := by
    cases f with
    | follows c' src | hold c' src =>
      obtain ⟨mem, high, changed⟩ := moved
      have here : c' = c := by
        by_contra ne
        exact on ⟨⟨mem, ne⟩, high, changed⟩
      subst here
      exact ⟨src, by simp, changed⟩
    | _ => exact moved.elim
  split
  · rename_i unchanged
    intro f on
    by_cases moved : f.resourced old p
    · obtain ⟨src, rfl | rfl, changed⟩ := others on.2 moved
      · exact fun is => absurd (unchanged.trans is).symm changed
      · exact fun is => absurd (unchanged.trans is).symm changed
    · exact h f ⟨on.1, moved⟩
  · generalize v_eq : s.sourceValue (s.board.conds.row c).source false = v
    have eq := s.setFrameCond_frame c v 0 none
    have source (c' : Fin 64) := s.setFrameCond_source c v 0 none c'
    have other {c' : Fin 64} (ne : c' ≠ c) := s.setFrameCond_record_ne v 0 none ne
    have still {c' : Fin 64} (ne : c' ≠ c) : (s.setFrameCond c v 0 none).cond c' = s.cond c' := by
      rw [State.cond, other ne]; rfl
    have low {c' : Fin 64} (lt : c'.val < 16) : c' ≠ c := fun same => by rw [same] at lt; omega
    have value (src : Source) (held : Bool) :
        (s.setFrameCond c v 0 none).sourceValue src held = s.sourceValue src held := by
      rw [eq]; cases src <;> rfl
    intro f on
    by_cases here : ∃ src, f = .follows c src ∨ f = .hold c src
    · obtain ⟨src, rfl | rfl⟩ := here
      · intro is
        rw [source] at is
        rw [value, State.cond, s.setFrameCond_record_self, ← v_eq, is]
        exact (State.sourceValue_idem _ _ _).symm
      · intro is _
        rw [s.setFrameCond_record_self]
    · have kept := h f ⟨on.1, fun moved => by
        obtain ⟨src, is, -⟩ := others on.2 moved
        exact here ⟨src, is⟩⟩
      cases f with
      | sources => exact fun c' lt => (source c').trans (kept c' lt)
      | hold c' src =>
        have ne : c' ≠ c := fun same => here ⟨src, .inr (by rw [same])⟩
        intro is
        rw [source] at is
        rw [other ne]
        exact kept is
      | follows c' src =>
        have ne : c' ≠ c := fun same => here ⟨src, .inl (by rw [same])⟩
        intro is
        rw [source] at is
        rw [still ne, value]
        exact kept is
      | bridge | paFault | service | moving => rw [State.keeps, still (low (by decide)), eq]; exact kept
      | lane n => rw [State.keeps, still (low (condLane_lt n)), eq]; exact kept
      | _ => rw [eq]; exact kept

end Sys2Proof.Machine
end

section
/-! PROOFS. A taken write of a channel entry and of a door, and of any table (R78, R140, R182). -/

namespace Sys2Proof.Machine
variable {s : State} {w : Watch}

/-! ## Watching more, and acting entry by entry -/

/-- The watch with facts that rest on no other. -/
def Watch.with (w : Watch) (d : Fact → Prop) (h : ∀ f g, d f → ¬ f.needs g) : Watch where
  on f := w.on f ∨ d f
  closed f g needs on := on.elim (fun on => .inl (w.closed f g needs on)) fun df => absurd needs (h f g df)

theorem State.Holds.with (h : s.Holds w) {d : Fact → Prop} {hd : ∀ f g, d f → ¬ f.needs g}
    (more : ∀ f, d f → s.keeps f) : s.Holds (w.with d hd) :=
  fun f on => on.elim (h f) (more f)

/-- The facts that no event suspends and restores: the written configuration of a channel and of a door, the level
rule under a named owner, and an unwritten tag. -/
def Fact.loose : Fact → Prop
  | .config _ _ | .levelIf _ _ | .doorSet _ _ | .tagIs _ false => True
  | _ => False

theorem Fact.loose_droppable : Droppable Fact.loose := by
  rintro f g needs d
  cases g <;> simp only [Fact.loose] at d <;> cases f <;> simp [Fact.needs] at needs

/-- The entries of a write act one after another: each settles what it suspends. -/
theorem acts_settle {n : Nat} {P : (Fin n → Prop) → State → Prop} {f : State → Nat × Entry → State}
    (mono : ∀ p q s, (∀ i, p i → q i) → P p s → P q s) {l : List (Nat × Entry)}
    (inside : ∀ q ∈ l, q.1 < n)
    (settles : ∀ q ∈ l, ∀ p s, P p s → ∀ i : Fin n, i.val = q.1 → p i → P (fun j => p j ∧ j ≠ i) (f s q))
    {s : State} (h : P (fun i => ∃ q ∈ l, q.1 = i.val) s) : P (fun _ => False) (l.foldl f s) := by
  induction l generalizing s with
  | nil => exact mono _ _ _ (by simp) h
  | cons a l ih =>
    have lt := inside a List.mem_cons_self
    refine ih (fun q mem => inside q (List.mem_cons_of_mem _ mem))
      (fun q mem => settles q (List.mem_cons_of_mem _ mem)) ?_
    refine mono _ _ _ ?_ (settles a List.mem_cons_self _ s h ⟨a.1, lt⟩ rfl ⟨a, List.mem_cons_self, rfl⟩)
    rintro i ⟨⟨q, mem, is⟩, ne⟩
    rcases List.mem_cons.mp mem with rfl | mem
    · exact absurd (Fin.ext is.symm) ne
    · exact ⟨q, mem, is⟩

/-! ## Channel entries (R78, R80) -/

/-- The stored channel entries of a write: no configuration jumps. -/
def State.channelsStored (s : State) (p : Fin 16 → Prop) (n : State) : Prop :=
  ∃ cs : Chans, n = s.setChans cs ∧ ∀ ch, cs.row ch = { s.chans.row ch with set := (cs.row ch).set }
    ∧ ((cs.row ch).set = (s.chans.row ch).set
      ∨ p ch ∧ forbiddenJump (s.chans.row ch).set.config (cs.row ch).set.config = false)

/-- The level rules under the owners that the channels had. -/
def Fact.levelUnder (s : State) (w : Watch) (f : Fact) : Prop :=
  ∃ ch, f = .levelIf ch (s.chans.row ch).set.owner ∧ w.on (.level ch)

/-- The watch of a channel entry write. -/
def Watch.ofChannelWrite (w : Watch) (s : State) : Watch :=
  (w.drop Fact.loose Fact.loose_droppable).with (Fact.levelUnder s w) (by
    rintro f g ⟨ch, rfl, -⟩ needs
    exact needs)

theorem State.channelsStored.holds {p : Fin 16 → Prop} {n : State} (stored : s.channelsStored p n) (h : s.Holds w)
    (anchored : ∀ ch c, w.on (.noJump ch c) → w.on (.config ch c)) :
    n.Holds ((w.ofChannelWrite s).drop (Fact.stored p) (Fact.stored_droppable p)) := by
  obtain ⟨cs, rfl, rows⟩ := stored
  have same {ch : Fin 16} (no : ¬ p ch) : cs.row ch = s.chans.row ch := by
    rw [(rows ch).1, (rows ch).2.resolve_right fun is => no is.1]
  intro f on
  rcases on.1 with ⟨on, still⟩ | ⟨ch, rfl, onLevel⟩
  · rename_i both
    have unstored := both.2
    by_cases reads : f.ofChans
    · cases f with
      | output ch => change (cs.row ch).safe; rw [same unstored]; exact h (.output ch) on
      | level ch => change (cs.row ch).levelOk _; rw [same unstored]; exact h (.level ch) on
      | levelIf ch o => exact (still trivial).elim
      | config ch c => exact (still trivial).elim
      | noJump ch c =>
        have config : (s.chans.row ch).set.config = c := h _ (anchored ch c on)
        intro active active'
        change (cs.row ch).set.config = c
        rcases (rows ch).2 with eq | ⟨-, noJump⟩
        · rw [eq]; exact config
        · have : (cs.row ch).set.config.active = true := active'
          rw [config] at noJump
          simp only [forbiddenJump, active, this, Bool.true_and, bne_eq_false_iff_eq] at noJump
          exact noJump.symm
      | follows c src =>
        cases src with
        | channelCut ch =>
          refine State.keeps_follows_setChans ?_ (h _ on)
          rw [(rows ch).1]; rfl
        | _ => exact reads.elim
      | _ => exact reads.elim
    · exact State.keeps_setChans reads cs (h f on)
  · intro owner
    have owner : (cs.row ch).set.owner = (s.chans.row ch).set.owner := owner
    have kept : (s.chans.row ch).levelOk s.req.mode := h (.level ch) onLevel
    change (cs.row ch).levelOk s.req.mode
    intro setup owned
    rw [(rows ch).1]
    exact kept setup (by rwa [← owner])

theorem State.channelsStored.store {t : TableId} {i : Nat} {e : Entry} {n : State} {p : Fin 16 → Prop}
    (channels : t = .channels) (mem : ∀ ch : Fin 16, ch.val = i → p ch) (passes : s.passesAt t i e)
    (stored : s.channelsStored p n) : s.channelsStored p (n.store1 i e) := by
  obtain ⟨cs, rfl, rows⟩ := stored
  obtain ⟨img, read⟩ := passes.image
  obtain ⟨rfl, -⟩ := State.parseEntry_table read
  have noJump := passes.noJump
  cases e with
  | channel x =>
    refine ⟨putAt cs i fun c => { c with set := x }, rfl, fun ch => ?_⟩
    rw [row_putAt]
    split
    · rename_i here
      subst here
      refine ⟨by rw [(rows ch).1], .inr ⟨mem ch rfl, ?_⟩⟩
      simpa [State.jumps] using noJump
    · exact rows ch
  | _ => cases channels

/-- The acts of a channel entry write restore every fact that the storing suspended. -/
theorem State.Holds.channelActs {u : State} {l : List (Nat × Entry)} (channels : ∀ q ∈ l, q.2.table = .channels)
    (inside : ∀ q ∈ l, q.1 < 16)
    (h : u.Holds ((w.ofChannelWrite s).drop (Fact.stored fun ch => ∃ q ∈ l, q.1 = ch.val) (Fact.stored_droppable _))) :
    (l.foldl (fun n q => State.act1 s n q.1 q.2) u).Holds (w.drop Fact.loose Fact.loose_droppable) := by
  have acted := acts_settle (n := 16) (f := fun n q => State.act1 s n q.1 q.2)
    (P := fun p n => n.Holds ((w.ofChannelWrite s).drop (Fact.stored p) (Fact.stored_droppable p)))
    (fun p q n le hn => hn.mono fun f on => ⟨on.1, fun stored => on.2 (by
      cases f with
      | output ch | level ch => exact le ch stored
      | _ => exact stored.elim)⟩) inside (fun q mem p n hn i is _ => ?_) h
  · exact acted.mono fun f on => ⟨.inl on, fun stored => by cases f <;> exact stored⟩
  · obtain ⟨j, e⟩ := q
    have is : i.val = j := is
    subst is
    cases e with
    | channel x =>
      rw [State.act1, dif_pos i.isLt]
      exact State.Holds.channelWritten hn fun on => on.elim (fun on => .inr ⟨i, rfl, on.1⟩) fun ⟨_, no, _⟩ => by cases no
    | _ => exact absurd (channels _ mem) (by simp [Entry.table])

/-! ## Door records (R140) -/

/-- The stored door records of a write. -/
def State.doorsStored (s : State) (p : Fin 24 → Prop) (n : State) : Prop :=
  ∃ ds, n = s.withDoors ds ∧ ∀ d, (ds.row d).state = (s.door.doors.row d).state
    ∧ ((s.door.doors.row d).tries → (ds.row d).tries) ∧ ((ds.row d).set = (s.door.doors.row d).set ∨ p d)

/-- The lanes that the doors named leave or join. -/
def State.lanesMoved (s u : State) (p : Fin 24 → Prop) (n : Fin 8) : Prop :=
  ∃ d, p d ∧ ((s.door.doors.row d).set.lane = some n ∨ (u.door.doors.row d).set.lane = some n)

/-- The groups that the doors named leave or join. -/
def State.groupsMoved (s u : State) (p : Fin 24 → Prop) (g : Fin 8) : Prop :=
  ∃ d, p d ∧ (s.door.doors.row d).set.group ≠ (u.door.doors.row d).set.group
    ∧ ((s.door.doors.row d).set.group = some g ∨ (u.door.doors.row d).set.group = some g)

/-- The written part of a door stands as a state has it. -/
def Fact.writtenAs (u : State) (f : Fact) : Prop := ∃ d, f = .doorSet d (u.door.doors.row d).set

/-- The watch of a door write that leaves the part as `u`. -/
def Watch.ofDoorWrite (w : Watch) (u : State) : Watch :=
  (w.drop Fact.loose Fact.loose_droppable).with (Fact.writtenAs u) (by
    rintro f g ⟨d, rfl⟩ needs
    exact needs)

theorem State.doorsStored.holds {p : Fin 24 → Prop} {u : State} (stored : s.doorsStored p u) (h : s.Holds w) :
    u.Holds ((w.ofDoorWrite u).unread (s.lanesMoved u p) (s.groupsMoved u p)) := by
  obtain ⟨ds, rfl, rows⟩ := stored
  have moved : (s.withDoors ds).Holds ((w.drop Fact.loose Fact.loose_droppable).unread
      (s.lanesMoved (s.withDoors ds) p) (s.groupsMoved (s.withDoors ds) p)) := by
    refine State.Holds.withDoors (fun d => ⟨?_, ?_⟩) (h.drop _ _) (fun on d => ?_) fun d x on => ?_
    · rcases (rows d).2.2 with same | mem
      · exact .inl ⟨by rw [same], (rows d).1⟩
      · exact .inr fun n is => ⟨d, mem, is⟩
    · by_cases same : (ds.row d).set.group = (s.door.doors.row d).set.group
      · exact .inl ⟨same, (rows d).1⟩
      · refine .inr fun g is => ⟨d, ?_, Ne.symm same, is⟩
        exact (rows d).2.2.resolve_left fun eq => same (by rw [eq])
    · have tries : ∀ d, (s.door.doors.row d).tries := h .attempts on.1
      exact (rows d).2.1 (tries d)
    · exact (on.2 trivial).elim
  intro f on
  rcases on.1 with old | ⟨d, rfl⟩
  · exact moved f ⟨old, on.2⟩
  · rfl

theorem State.doorsStored.store {t : TableId} {i : Nat} {e : Entry} {n : State} {p : Fin 24 → Prop}
    (doors : t = .doors) (mem : ∀ d : Fin 24, d.val = i → p d) (passes : s.passesAt t i e)
    (stored : s.doorsStored p n) : s.doorsStored p (n.store1 i e) := by
  obtain ⟨ds, rfl, rows⟩ := stored
  obtain ⟨img, read⟩ := passes.image
  obtain ⟨rfl, -⟩ := State.parseEntry_table read
  cases e with
  | door x =>
    refine ⟨putAt ds i fun d => d.store x, rfl, fun d => ?_⟩
    rw [row_putAt]
    split
    · rename_i here
      exact ⟨(rows d).1, fun _ => Nat.min_le_right _ _, .inr (mem d here.symm)⟩
    · exact rows d
  | _ => cases doors

/-- A door taken out of its group is UNSET: its state is part of no group, and of a lane whose fact is suspended. -/
theorem State.Holds.unsetDoor {lanes groups : Fin 8 → Prop} (h : s.Holds (w.unread lanes groups)) {d : Fin 24}
    (lane : ∀ n, (s.door.doors.row d).set.lane = some n → lanes n) (group : (s.door.doors.row d).set.group = none) :
    (s.setDoor d { s.door.doors.row d with
      state := .unset, timer := DoorState.unset.timer s.clock, due := none }).Holds (w.unread lanes groups) := by
  have set := h.setDoor (d := d) (lanes := lanes) (groups := groups)
    (x := { s.door.doors.row d with state := .unset, timer := DoorState.unset.timer s.clock, due := none })
    ⟨.inr fun n is => lane n (is.elim id id), .inr fun g is => by simp [group] at is⟩ rfl id
  exact set.mono fun f on => ⟨on, on.2⟩

/-- DOOR acts on a stored record: the facts of the lanes and groups that the door leaves and joins hold again. -/
theorem State.Holds.doorWritten {u : State} {p : Fin 24 → Prop} {n : State} {d : Fin 24}
    (h : n.Holds ((w.ofDoorWrite u).unread (s.lanesMoved u p) (s.groupsMoved u p))) (mem : p d) :
    (State.doorWritten s d n).Holds ((w.ofDoorWrite u).unread (s.lanesMoved u fun i => p i ∧ i ≠ d)
      (s.groupsMoved u fun i => p i ∧ i ≠ d)) := by
  have set : (n.door.doors.row d).set = (u.door.doors.row d).set :=
    h (.doorSet d _) ⟨.inr ⟨d, rfl⟩, fun read => read.elim⟩
  have moved : (if (s.door.doors.row d).set.group.isSome && (n.door.doors.row d).set.group.isNone
        && (n.door.doors.row d).state != .unset then
      n.setDoor d { n.door.doors.row d with
        state := .unset, timer := DoorState.unset.timer n.clock, due := none } else n).Holds
      ((w.ofDoorWrite u).unread (s.lanesMoved u p) (s.groupsMoved u p)) := by
    split
    · rename_i left
      simp only [Bool.and_eq_true, Option.isNone_iff_eq_none] at left
      exact h.unsetDoor (fun m is => ⟨d, mem, .inr (by rw [← set]; exact is)⟩) left.1.2
    · exact h
  unfold State.doorWritten
  dsimp only
  generalize (if (s.door.doors.row d).set.group.isSome && (n.door.doors.row d).set.group.isNone
        && (n.door.doors.row d).state != .unset then
      n.setDoor d { n.door.doors.row d with
        state := .unset, timer := DoorState.unset.timer n.clock, due := none } else n) = m at moved ⊢
  rw [set]
  have lanes := (moved.followLaneOf (s.door.doors.row d).set.lane).followLaneOf (u.door.doors.row d).set.lane
  generalize (m.followLane _).followLane _ = m at lanes ⊢
  have fewer {k : Fin 8} : s.lanesMoved u p k ∧ (s.door.doors.row d).set.lane ≠ some k →
      (u.door.doors.row d).set.lane ≠ some k → s.lanesMoved u (fun i => p i ∧ i ≠ d) k := by
    rintro ⟨⟨e, pe, is⟩, old⟩ new
    refine ⟨e, ⟨pe, ?_⟩, is⟩
    rintro rfl
    exact is.elim old new
  have others {k : Fin 8} (old : (s.door.doors.row d).set.group = some k →
      (s.door.doors.row d).set.group = (u.door.doors.row d).set.group)
      (new : (u.door.doors.row d).set.group = some k →
      (s.door.doors.row d).set.group = (u.door.doors.row d).set.group) :
      s.groupsMoved u p k → s.groupsMoved u (fun i => p i ∧ i ≠ d) k := by
    rintro ⟨e, pe, changed, is⟩
    refine ⟨e, ⟨pe, ?_⟩, changed, is⟩
    rintro rfl
    exact changed (is.elim old new)
  split
  · rename_i same
    refine lanes.mono fun f on => ⟨on.1, fun read => on.2 ?_⟩
    rcases Fact.ofDoors_iff.mp read with ⟨k, rfl, ⟨old, new⟩⟩ | ⟨c, src, g, rfl, names, group⟩
    · exact Fact.ofDoors_iff.mpr (.inl ⟨k, rfl, fewer old new⟩)
    · exact Fact.ofDoors_iff.mpr (.inr ⟨c, src, g, rfl, names, others (fun _ => same) (fun _ => same) group⟩)
  · have groups := (lanes.followGroupOf (s.door.doors.row d).set.group).followGroupOf (u.door.doors.row d).set.group
    generalize (m.followGroup _).followGroup _ = m at groups ⊢
    have done : m.Holds ((w.ofDoorWrite u).unread (s.lanesMoved u fun i => p i ∧ i ≠ d)
        (s.groupsMoved u fun i => p i ∧ i ≠ d)) := by
      refine groups.mono fun f on => ⟨on.1, fun read => on.2 ?_⟩
      rcases Fact.ofDoors_iff.mp read with ⟨k, rfl, ⟨old, new⟩⟩ | ⟨c, src, g, rfl, names, ⟨group, old⟩, new⟩
      · exact Fact.ofDoors_iff.mpr (.inl ⟨k, rfl, fewer old new⟩)
      · exact Fact.ofDoors_iff.mpr (.inr ⟨c, src, g, rfl, names,
          others (fun is => absurd is old) (fun is => absurd is new) group⟩)
    split
    · exact done
    · exact done.readTrigger _

/-- The acts of a door write restore every fact that the storing suspended. -/
theorem State.Holds.doorActs {u : State} {l : List (Nat × Entry)} (doors : ∀ q ∈ l, q.2.table = .doors)
    (inside : ∀ q ∈ l, q.1 < 24)
    (h : u.Holds ((w.ofDoorWrite u).unread (s.lanesMoved u fun d => ∃ q ∈ l, q.1 = d.val)
      (s.groupsMoved u fun d => ∃ q ∈ l, q.1 = d.val))) :
    (l.foldl (fun n q => State.act1 s n q.1 q.2) u).Holds (w.drop Fact.loose Fact.loose_droppable) := by
  have acted := acts_settle (n := 24) (f := fun n q => State.act1 s n q.1 q.2)
    (P := fun p n => n.Holds ((w.ofDoorWrite u).unread (s.lanesMoved u p) (s.groupsMoved u p)))
    (fun p q n le hn => hn.mono fun f on => ⟨on.1, fun read => on.2 (by
      rcases Fact.ofDoors_iff.mp read with ⟨k, rfl, d, mem, is⟩ | ⟨c, src, g, rfl, names, d, mem, is⟩
      · exact Fact.ofDoors_iff.mpr (.inl ⟨k, rfl, d, le d mem, is⟩)
      · exact Fact.ofDoors_iff.mpr (.inr ⟨c, src, g, rfl, names, d, le d mem, is⟩))⟩)
    inside (fun q mem p n hn i is mem' => ?_) h
  · exact (acted.read (fun _ no => no.elim fun _ no => no.1) (fun _ no => no.elim fun _ no => no.1)).mono
      fun f on => .inl on
  · obtain ⟨j, e⟩ := q
    have is : i.val = j := is
    subst is
    cases e with
    | door x =>
      rw [State.act1, dif_pos i.isLt]
      exact State.Holds.doorWritten hn mem'
    | _ => exact absurd (doors _ mem) (by simp [Entry.table])

/-! ## Any write (R182, R183) -/

theorem TableId.lt_of_inWritable {t : TableId} {i : Nat} (h : t.inWritable i = true) : i < t.first + t.count := by
  simp only [TableId.inWritable, TableId.inRange, Bool.and_eq_true, decide_eq_true_eq] at h
  exact h.1.2

/-- What is stored by the entries of a write, one after another. -/
theorem stores_fold {P : State → Prop} {l : List (Nat × Entry)} (h : P s)
    (store : ∀ q ∈ l, ∀ n, P n → P (n.store1 q.1 q.2)) : P (l.foldl (fun n q => n.store1 q.1 q.2) s) :=
  List.foldlRecOn l _ h fun n hn q mem => store q mem n hn

/-- A write whose entries all pass keeps every fact but the loose ones. -/
theorem State.Holds.entries {t : TableId} {l : List (Nat × Entry)} (h : s.Holds w)
    (anchored : ∀ ch c, w.on (.noJump ch c) → w.on (.config ch c)) (passes : ∀ q ∈ l, s.passesAt t q.1 q.2) :
    (l.foldl (fun n q => State.act1 s n q.1 q.2) (l.foldl (fun n q => n.store1 q.1 q.2) s)).Holds
      (w.drop Fact.loose Fact.loose_droppable) := by
  have table (q : Nat × Entry) (mem : q ∈ l) : q.2.table = t := by
    obtain ⟨img, read⟩ := (passes q mem).image
    exact (State.parseEntry_table read).1
  have inside (q : Nat × Entry) (mem : q ∈ l) : q.1 < t.first + t.count := TableId.lt_of_inWritable (passes q mem).index
  have mem_of {n : Nat} {q : Nat × Entry} (mem : q ∈ l) (i : Fin n) (is : i.val = q.1) : ∃ q ∈ l, q.1 = i.val :=
    ⟨q, mem, is.symm⟩
  have acts {u : State} (hu : u.Holds w) (notCond : t ≠ .conds) (notChannel : t ≠ .channels) (notDoor : t ≠ .doors) :
      (l.foldl (fun n q => State.act1 s n q.1 q.2) u).Holds (w.drop Fact.loose Fact.loose_droppable) := by
    refine State.Holds.drop ?_ _ _
    exact List.foldlRecOn (motive := fun n : State => n.Holds w) l _ hu fun n hn q mem =>
      State.Holds.act1 hn s q.1 (by rw [table q mem]; exact notCond) (by rw [table q mem]; exact notChannel)
        (by rw [table q mem]; exact notDoor)
  by_cases plain : t.plain = true
  · have stored := stores_fold (P := s.stores w) (l := l) ⟨h, fun _ => rfl⟩ fun q mem n hn =>
      hn.store plain (passes q mem)
    refine acts stored.1 ?_ ?_ ?_ <;> rintro rfl <;> simp [TableId.plain] at plain
  · by_cases plans : t = .plans ∨ t = .stages
    · obtain ⟨m, eq, ramps, stands⟩ := stores_fold (P := s.plansStored w) (l := l)
        ⟨s.plan, rfl, rfl, fun on => Plan.standsAs_ramps (h .ramps on) s.plan.ramps⟩ fun q mem n hn =>
          hn.store h plans (passes q mem)
      rw [eq]
      refine acts (h.withPlan (fun r => by rw [ramps]; exact Ramp.stands_refl _) stands) ?_ ?_ ?_ <;>
        rintro rfl <;> simp at plans
    · cases t with
      | conds =>
        have stored := stores_fold (P := s.sourcesStored fun c => ∃ q ∈ l, q.1 = c.val) (l := l)
          ⟨_, rfl, fun _ => ⟨rfl, .inl rfl⟩⟩ fun q mem n hn => hn.store rfl (mem_of mem) (passes q mem)
        refine State.Holds.drop ?_ _ _
        have acted := acts_settle (n := 64) (f := fun n q => State.act1 s n q.1 q.2)
          (P := fun p n => n.Holds (w.drop (Fact.resourced s p) (Fact.resourced_droppable s p)))
          (fun p q n le hn => hn.mono fun f on => ⟨on.1, fun moved => on.2 (by
            cases f with
            | follows c src | hold c src => exact ⟨le c moved.1, moved.2⟩
            | _ => exact moved.elim)⟩) inside (fun q mem p n hn i is _ => ?_) (stored.holds h)
        · exact acted.mono fun f on => ⟨on, fun moved => by
            cases f with
            | follows c src | hold c src => exact moved.1
            | _ => exact moved⟩
        · have assigned : 16 ≤ q.1 := by
            have := (passes q mem).index
            simp only [TableId.inWritable, Bool.and_eq_true, bne_self_eq_false, Bool.false_or,
              decide_eq_true_eq] at this
            exact this.2
          obtain ⟨j, e⟩ := q
          have is : i.val = j := is
          subst is
          cases e with
          | cond x =>
            rw [State.act1, dif_pos i.isLt]
            exact State.Holds.condWritten hn assigned
          | _ => exact absurd (table _ mem) (by simp [Entry.table])
      | channels =>
        have stored := stores_fold (P := s.channelsStored fun c => ∃ q ∈ l, q.1 = c.val) (l := l)
          ⟨s.chans, rfl, fun _ => ⟨rfl, .inl rfl⟩⟩ fun q mem n hn => hn.store rfl (mem_of mem) (passes q mem)
        exact State.Holds.channelActs table inside (stored.holds h anchored)
      | doors =>
        have stored := stores_fold (P := s.doorsStored fun c => ∃ q ∈ l, q.1 = c.val) (l := l)
          ⟨s.door.doors, rfl, fun _ => ⟨rfl, id, .inl rfl⟩⟩ fun q mem n hn => hn.store rfl (mem_of mem) (passes q mem)
        exact State.Holds.doorActs table inside (stored.holds h)
      | _ => simp [TableId.plain] at plain plans

theorem State.Holds.takeWrite {t : TableId} {ws : List Written} (h : s.Holds w)
    (anchored : ∀ ch c, w.on (.noJump ch c) → w.on (.config ch c)) (taken : s.judgeAll t ws = none) :
    (s.takeWrite t ws).Holds (w.drop Fact.loose Fact.loose_droppable) := by
  refine State.Holds.doorEvent ?_
  rw [State.actAll_eq, State.storeAll_eq]
  exact h.entries anchored fun q mem => State.passesAt_of_judgeAll taken mem

theorem State.Holds.write (h : s.Holds w) (anchored : ∀ ch c, w.on (.noJump ch c) → w.on (.config ch c))
    (t : TableId) (ws : List Written) : (s.write t ws).2.Holds (w.drop Fact.loose Fact.loose_droppable) := by
  unfold State.write
  split
  · exact h.drop _ _
  · rename_i taken
    exact h.takeWrite anchored taken

theorem State.Holds.writeReply (h : s.Holds w) (rq : Requester) (op table : Byte) (r : Code × Nat) :
    (s.writeReply rq op table r).Holds w := h.reply _ _ _ _

theorem State.Holds.tableWrite (h : s.Holds w) (anchored : ∀ ch c, w.on (.noJump ch c) → w.on (.config ch c))
    (rq : Requester) (table index : Byte) (image : List Byte) (check : Byte) :
    (s.tableWrite rq table index image check).Holds (w.drop Fact.loose Fact.loose_droppable) := by
  unfold State.tableWrite
  split
  · exact (h.drop _ _).writeReply _ _ _ _
  · split
    · exact (h.drop _ _).writeReply _ _ _ _
    · exact (h.write anchored _ _).writeReply _ _ _ _

theorem State.Holds.blockWrite (h : s.Holds w) (anchored : ∀ ch c, w.on (.noJump ch c) → w.on (.config ch c))
    (rq : Requester) (table first count : Byte) (body : List Byte) (check : Byte) :
    (s.blockWrite rq table first count body check).Holds (w.drop Fact.loose Fact.loose_droppable) := by
  unfold State.blockWrite
  split
  · exact (h.drop _ _).writeReply _ _ _ _
  · split
    · exact (h.drop _ _).writeReply _ _ _ _
    · dsimp only
      split
      · exact (h.drop _ _).writeReply _ _ _ _
      · exact (h.write anchored _ _).writeReply _ _ _ _

theorem State.Holds.tableRead (h : s.Holds w) (rq : Requester) (table first count : Byte) :
    (s.tableRead rq table first count).Holds w := by
  unfold State.tableRead
  split
  · exact h.reply _ _ _ _
  · split <;> exact h.reply _ _ _ _

end Sys2Proof.Machine
end

section
/-! PROOFS. What REQ's own operations keep (R178 to R188). -/

namespace Sys2Proof.Machine
variable {s : State} {w : Watch}

/-! ## The passages (R83, R178) -/

/-- The level rule of the channels named. -/
def Fact.levels (p : Fin 16 → Prop) : Fact → Prop
  | .level ch | .levelIf ch _ => p ch
  | _ => False

theorem Fact.levels_droppable (p : Fin 16 → Prop) : Droppable (Fact.levels p) := by
  rintro f g needs d
  cases g <;> simp only [Fact.levels] at d <;> cases f <;> simp [Fact.needs] at needs

theorem State.ramps_idle_of_still (h : s.inMotion = false) (r : Fin 4) : (s.ramp r).state = .idle := by
  have still := (Bool.or_eq_false_iff.mp h).1
  have := List.any_eq_false.mp still r (List.mem_finRange r)
  simpa using this

theorem Plan.rampRuled.of_idle {n : Plan} {m m' : Mode} {x : Ramp} (h : n.rampRuled m x) (idle : x.state = .idle) :
    n.rampRuled m' x :=
  ⟨h.atRest, fun busy => absurd idle busy, h.command, h.dwells⟩

/-- One channel of `State.dropOwned`: its level rule holds, whatever the mode was. -/
def State.dropOne (s : State) (ch : Fin 16) : State :=
  if (s.chans.row ch).set.owner = .free then s else s.setLevel ch false

theorem State.dropOwned_eq (s : State) : s.dropOwned = (List.finRange 16).foldl State.dropOne s := rfl

theorem State.Holds.dropOne {p : Fin 16 → Prop} (h : s.Holds (w.drop (Fact.levels p) (Fact.levels_droppable p)))
    (ch : Fin 16) :
    (s.dropOne ch).Holds (w.drop (Fact.levels fun i => p i ∧ i ≠ ch) (Fact.levels_droppable _)) := by
  have kept : (s.dropOne ch).Holds (w.drop (Fact.levels p) (Fact.levels_droppable p)) := by
    unfold State.dropOne
    split
    · exact h
    · exact h.setLevel fun on => absurd on Bool.false_ne_true
  have ruled : ((s.dropOne ch).chans.row ch).levelOk (s.dropOne ch).req.mode := by
    intro _ owned
    unfold State.dropOne at owned ⊢
    split
    · rename_i free
      rw [if_pos free] at owned
      exact absurd free owned
    · simp
  intro f on
  by_cases here : f.levels p
  · have only {i : Fin 16} (mem : p i) (no : ¬ (p i ∧ i ≠ ch)) : i = ch := by
      by_contra ne
      exact no ⟨mem, ne⟩
    cases f with
    | level i => obtain rfl := only here on.2; exact ruled
    | levelIf i o => obtain rfl := only here on.2; exact fun _ => ruled
    | _ => exact here.elim
  · exact kept f ⟨on.1, here⟩

theorem State.Holds.dropOwned (h : s.Holds (w.drop (Fact.levels fun _ => True) (Fact.levels_droppable _))) :
    s.dropOwned.Holds w := by
  rw [State.dropOwned_eq]
  have all (l : List (Fin 16)) (s : State) (p : Fin 16 → Prop)
      (hs : s.Holds (w.drop (Fact.levels p) (Fact.levels_droppable p))) :
      (l.foldl State.dropOne s).Holds (w.drop (Fact.levels fun i => p i ∧ i ∉ l) (Fact.levels_droppable _)) := by
    induction l generalizing s p with
    | nil => exact hs.mono fun f on => ⟨on.1, fun is => on.2 (by cases f <;> simp_all [Fact.levels])⟩
    | cons a l ih =>
      refine (ih _ _ (hs.dropOne a)).mono fun f on => ⟨on.1, fun is => on.2 ?_⟩
      cases f with
      | level i | levelIf i o =>
        obtain ⟨⟨mem, ne⟩, away⟩ := is
        exact ⟨mem, by simp [ne, away]⟩
      | _ => exact is.elim
  exact (all _ s _ h).mono fun f on => ⟨on, fun is => by cases f <;> simp [Fact.levels] at is⟩

/-- The mode changes while every ramp is IDLE: only the level rules and IN_SERVICE read it. -/
theorem State.Holds.setMode (h : s.Holds w) (m : Mode) (idle : w.on .ramps → ∀ r, (s.ramp r).state = .idle)
    {v : Bool} (is : v = decide (m = .service)) :
    ((s.setReq { s.req with mode := m }).setCond condService v).Holds
      (w.drop (Fact.levels fun _ => m = .setup) (Fact.levels_droppable _)) := by
  have set : (s.setReq { s.req with mode := m }).Holds
      ((w.drop (Fact.levels fun _ => m = .setup) (Fact.levels_droppable _)).drop (Fact.fixed condService)
        (Fact.fixed_droppable _)) := by
    intro f on
    have kept := h f on.1.1
    cases f with
    | service => exact (on.2 rfl).elim
    | level ch => exact fun setup => absurd setup on.1.2
    | levelIf ch o => exact fun _ setup => absurd setup on.1.2
    | ramps =>
      have ruled : s.plan.ruled s.req.mode := kept
      exact ⟨ruled.plans, fun r => (ruled.ramps r).of_idle (idle on.1.1 r)⟩
    | _ => exact kept
  refine set.setFixed (by decide) fun f fixed _ => ?_
  cases f with
  | service =>
    rw [State.keeps, State.setCond_cond_self, State.setCond_frame]
    exact is
  | lane n => exact absurd (congrArg Fin.val (show condService = condLane n from fixed)) (by simp [condService, condLane]; omega)
  | bridge | paFault | moving => exact absurd (show condService = _ from fixed) (by decide)
  | _ => exact fixed.elim

theorem State.Holds.toSetup (h : s.Holds w) (still : s.inMotion = false) : s.toSetup.Holds w := by
  unfold State.toSetup
  dsimp only
  refine State.Holds.endAllCalls (State.Holds.dropOwned ?_)
  exact (h.setMode .setup (fun _ => State.ramps_idle_of_still still) rfl).mono fun f on =>
    ⟨on.1, fun is => on.2 (by cases f <;> simp_all [Fact.levels])⟩

theorem State.Holds.toService (h : s.Holds w) (setup : s.req.mode = .setup) : s.toService.Holds w := by
  unfold State.toService
  dsimp only
  refine State.Holds.doorEvent (State.Holds.readTriggers ?_ _)
  refine (h.setMode .service (fun on r => ?_) rfl).mono fun f on => ⟨on, fun is => by
    cases f <;> simp [Fact.levels] at is⟩
  by_contra busy
  have := ((h.ramp on r).placed busy).1
  rw [setup] at this
  exact Mode.noConfusion this

theorem State.Holds.modeSet (h : s.Holds w) (rq : Requester) (mode : Byte) : (s.modeSet rq mode).Holds w := by
  unfold State.modeSet
  split
  · split
    · exact h.reply _ _ _ _
    · split
      · exact h.reply _ _ _ _
      · rename_i still
        exact (h.toSetup (by simpa using still)).reply _ _ _ _
  · split
    · split
      · exact h.reply _ _ _ _
      · rename_i setup
        split
        · exact h.reply _ _ _ _
        · exact (h.toService setup).reply _ _ _ _
    · exact h.reply _ _ _ _

/-! ## Identity, counts, notices (R184 to R187) -/

theorem State.Holds.identityWrite (h : s.Holds w) (rq : Requester) (tag : Vector Byte 8) (check : Byte) :
    (s.identityWrite rq tag check).Holds (w.drop Fact.loose Fact.loose_droppable) := by
  have dropped := h.drop Fact.loose Fact.loose_droppable
  unfold State.identityWrite
  split
  · exact dropped.reply _ _ _ _
  · rename_i unwritten
    split
    · exact dropped.reply _ _ _ _
    · refine State.Holds.reply (h.drop_of_keeps _ fun f tight kept => ?_) _ _ _ _
      cases f with
      | tagIs t written =>
        cases written with
        | false => exact (tight trivial).elim
        | true => exact absurd kept.2 unwritten
      | _ => exact kept

theorem State.Holds.clearCounts (h : s.Holds w) (m : BitVec 16) : (s.clearCounts m).Holds w :=
  h.of_keeps fun f kept => by
    cases f with
    | zones => exact Call.zonesRuled.of_eq kept rfl rfl rfl
    | _ => exact kept

theorem State.Holds.flagsClear (h : s.Holds w) (rq : Requester) (counts notices : BitVec 16) :
    (s.flagsClear rq counts notices).Holds w := ((h.clearCounts counts).marks _).reply _ _ _ _

theorem State.Holds.noticeSet (h : s.Holds w) (rq : Requester) (node : Byte) (enabled : BitVec 16) (disable : Byte) :
    (s.noticeSet rq node enabled disable).Holds w := by
  unfold State.noticeSet
  split
  · exact h.reply _ _ _ _
  · split
    · exact h.reply _ _ _ _
    · exact (h.notices _ _ _).reply _ _ _ _

theorem State.Holds.malformed (h : s.Holds w) (rq : Requester) (payload : List Byte) :
    (s.malformed rq payload).Holds w := h.reply _ _ _ _

/-! ## OPS_RESET (R188) -/

/-- The facts that COND's reset restores: PA_FAULT, ANY_RAMP_MOVING, the lanes, the followed conditions. -/
def Fact.resetting (pa moving : Prop) (lanes : Fin 8 → Prop) (conds : Fin 64 → Prop) : Fact → Prop
  | .paFault => pa
  | .moving => moving
  | .lane n => lanes n
  | .follows c _ => conds c
  | _ => False

theorem Fact.resetting_droppable (pa moving : Prop) (lanes : Fin 8 → Prop) (conds : Fin 64 → Prop) :
    Droppable (Fact.resetting pa moving lanes conds) := by
  rintro f g needs d
  cases g <;> simp only [Fact.resetting] at d <;> cases f <;> simp [Fact.needs] at needs

/-- The watch while COND's reset has the facts named still to restore. -/
def Watch.resetting (w : Watch) (pa moving : Prop) (lanes : Fin 8 → Prop) (conds : Fin 64 → Prop) : Watch :=
  w.drop (Fact.resetting pa moving lanes conds) (Fact.resetting_droppable pa moving lanes conds)

theorem State.Holds.resetMatch (h : s.Holds w) : s.resetMatch.Holds w := by
  refine h.withTable fun _ e => ?_
  change MatchEntry.counted ((s.table.map fun m => { m with hits := 0, refusals := 0 })[e.val])
  rw [Vector.getElem_map]
  exact ⟨Nat.le_refl 0, Nat.zero_le _, Nat.zero_le _⟩

/-- One condition of COND's reset. -/
theorem State.Holds.resetCond {conds : Fin 64 → Prop} (h : s.Holds (w.resetting False False (fun _ => False) conds))
    (c : Fin 64) : (s.resetCond c).Holds (w.resetting False False (fun _ => False) fun i => conds i ∧ i ≠ c) := by
  have kept : (s.resetCond c).Holds (w.resetting False False (fun _ => False) conds) := by
    unfold State.resetCond
    split
    · rename_i frame
      exact h.setFrameCond frame _ _ _
    · exact h.recompute c
  intro f on
  by_cases here : ∃ src, f = .follows c src
  · obtain ⟨src, rfl⟩ := here
    intro is
    unfold State.resetCond at is ⊢
    split
    · rename_i frame
      rw [frame] at is
      rw [s.setFrameCond_source, frame] at is
      rw [← is]; rfl
    · rename_i eq assigned
      have moves : s.boardMoves (s.recompute c) := s.setCond_boardMoves c _
      have source : (s.board.conds.row c).source = src := by
        rw [← (moves.2 c).1]
        cases src' : (s.board.conds.row c).source <;> simp_all
      rw [moves.sourceValue, State.cond_recompute, if_pos rfl, source, State.sourceValue_idem]
  · refine kept f ⟨on.1, fun reset => on.2 ?_⟩
    cases f with
    | follows i src => exact ⟨reset, fun same => here ⟨src, by rw [same]⟩⟩
    | _ => exact reset

/-- A fact of a fixed condition holds after the condition is set from its source. -/
theorem State.Holds.resetOne {pa moving pa' moving' : Prop} {lanes lanes' : Fin 8 → Prop} {conds : Fin 64 → Prop}
    {c : Fin 64} {v : Bool} (h : s.Holds (w.resetting pa moving lanes conds)) (lt : c.val < 16)
    (only : ∀ f, f.resetting pa moving lanes conds → f.resetting pa' moving' lanes' conds ∨ Fact.fixed c f)
    (again : ∀ f, Fact.fixed c f → (s.setCond c v).keeps f) :
    (s.setCond c v).Holds (w.resetting pa' moving' lanes' conds) := by
  refine State.Holds.setFixed (h.mono fun f on => ⟨on.1.1, fun reset => ?_⟩) lt fun f fixed _ => again f fixed
  exact (only f reset).elim on.1.2 on.2

theorem Fact.fixed_lane {n : Fin 8} {f : Fact} (h : Fact.fixed (condLane n) f) : f = .lane n := by
  have lt := n.isLt
  cases f with
  | lane m => rw [condLane_inj (show condLane n = condLane m from h)]
  | bridge | paFault | service | moving =>
    exact absurd (congrArg Fin.val (show condLane n = _ from h))
      (by simp [condLane, condBridge, condPaFault, condService, condMoving] <;> omega)
  | _ => exact h.elim

theorem Fact.fixed_moving {f : Fact} (h : Fact.fixed condMoving f) : f = .moving := by
  cases f with
  | moving => rfl
  | lane n => exact absurd (congrArg Fin.val (show condMoving = condLane n from h)) (by simp [condMoving, condLane]; omega)
  | bridge | paFault | service => exact absurd (show condMoving = _ from h) (by decide)
  | _ => exact h.elim

theorem Fact.fixed_paFault {f : Fact} (h : Fact.fixed condPaFault f) : f = .paFault := by
  cases f with
  | paFault => rfl
  | lane n =>
    exact absurd (congrArg Fin.val (show condPaFault = condLane n from h)) (by simp [condPaFault, condLane]; omega)
  | bridge | moving | service => exact absurd (show condPaFault = _ from h) (by decide)
  | _ => exact h.elim

theorem State.Holds.resetLanes {l : List (Fin 8)} {lanes : Fin 8 → Prop}
    (h : s.Holds (w.resetting False False lanes fun _ => True)) :
    (l.foldl (fun s n => s.setCond (condLane n) (s.laneClear n)) s).Holds
      (w.resetting False False (fun n => lanes n ∧ n ∉ l) fun _ => True) := by
  induction l generalizing s lanes with
  | nil => simpa using h
  | cons a l ih =>
    have one : (s.setCond (condLane a) (s.laneClear a)).Holds
        (w.resetting False False (fun n => lanes n ∧ n ≠ a) fun _ => True) := by
      refine h.resetOne (condLane_lt a) (fun f reset => ?_) fun f fixed => ?_
      · cases f with
        | lane n =>
          by_cases same : n = a
          · exact .inr (by rw [same]; rfl)
          · exact .inl ⟨reset, same⟩
        | _ => exact .inl reset
      · rw [Fact.fixed_lane fixed, State.keeps, State.setCond_cond_self, State.setCond_frame]; rfl
    refine (ih one).mono fun f on => ⟨on.1, fun reset => on.2 ?_⟩
    cases f with
    | lane n => exact ⟨reset.1.1, by simp [reset.1.2, reset.2]⟩
    | _ => exact reset

theorem State.Holds.resetFixed (h : s.Holds (w.resetting True True (fun _ => True) fun _ => True))
    (paRun : s.call.paRun = 0) :
    s.resetFixed.Holds (w.resetting False False (fun _ => False) fun _ => True) := by
  have plain := (((h.setPlain (c := condScanValid) false (.inl rfl)).setPlain (c := condFaultA) s.faultA
    (.inr (.inr (.inl rfl)))).setPlain (c := condFaultB) s.faultB (.inr (.inr (.inr rfl))))
  have paRun' : (((s.setCond condScanValid false).setCond condFaultA s.faultA).setCond condFaultB s.faultB).call.paRun
      = 0 := by simpa using paRun
  unfold State.resetFixed
  simp only [State.setCond_faultA, State.setCond_faultB]
  generalize ((s.setCond condScanValid false).setCond condFaultA s.faultA).setCond condFaultB s.faultB = u
    at plain paRun' ⊢
  have pa : (u.setCond condPaFault false).Holds (w.resetting False True (fun _ => True) fun _ => True) := by
    refine plain.resetOne (by decide) (fun f reset => ?_) fun f fixed => ?_
    · cases f with
      | paFault => exact .inr rfl
      | _ => exact .inl reset
    · rw [Fact.fixed_paFault fixed, State.keeps, State.setCond_cond_self, State.setCond_frame]
      simp [paRun']
  generalize u.setCond condPaFault false = u at pa ⊢
  have moving : (u.setCond condMoving u.anyMoving).Holds (w.resetting False False (fun _ => True) fun _ => True) := by
    refine pa.resetOne (by decide) (fun f reset => ?_) fun f fixed => ?_
    · cases f with
      | moving => exact .inr rfl
      | _ => exact .inl reset
    · rw [Fact.fixed_moving fixed, State.keeps, State.setCond_cond_self, State.setCond_frame]; rfl
  refine moving.resetLanes.mono fun f on => ⟨on.1, fun reset => on.2 ?_⟩
  cases f with
  | lane n => exact reset.2 (List.mem_finRange n)
  | _ => exact reset

/-- OPERATIONS RESET OF COND restores every fact that the resets of the blocks suspend. -/
theorem State.Holds.resetBoard (h : s.Holds (w.resetting True True (fun _ => True) fun _ => True))
    (paRun : s.call.paRun = 0) : s.resetBoard.Holds w := by
  have all (l : List (Fin 64)) (s : State) (p : Fin 64 → Prop)
      (hs : s.Holds (w.resetting False False (fun _ => False) p)) :
      (l.foldl State.resetCond s).Holds (w.resetting False False (fun _ => False) fun c => p c ∧ c ∉ l) := by
    induction l generalizing s p with
    | nil => simpa using hs
    | cons a l ih =>
      refine (ih _ _ (hs.resetCond a)).mono fun f on => ⟨on.1, fun is => on.2 ?_⟩
      cases f with
      | follows c src => exact ⟨is.1.1, by simp [is.1.2, is.2]⟩
      | _ => exact is
  refine (all (List.finRange 64) _ _ (h.resetFixed paRun)).mono fun f on => ⟨on, fun reset => ?_⟩
  cases f with
  | follows c src => exact reset.2 (List.mem_finRange c)
  | _ => exact reset

/-- What a block's reset suspends, COND's reset restores. -/
theorem State.Holds.untilReset {d : Fact → Prop} {hd : Droppable d}
    (h : s.Holds ((w.resetting True True (fun _ => True) fun _ => True).drop d hd))
    (le : ∀ f, d f → f.resetting True True (fun _ => True) fun _ => True) :
    s.Holds (w.resetting True True (fun _ => True) fun _ => True) :=
  h.mono fun f on => ⟨on, fun df => on.2 (le f df)⟩

theorem State.Holds.opsReset (h : s.Holds w) (rq : Requester) : (s.opsReset rq).Holds w := by
  unfold State.opsReset
  dsimp only
  have matched := (h.reply rq 0x1A .done []).resetMatch
  generalize (s.reply rq 0x1A .done []).resetMatch = u at matched ⊢
  have scanned := matched.setScanOf Scan.opsReset_accounted (Scan.opsReset_thresholds _)
  generalize u.setScan u.scan.opsReset = u at scanned ⊢
  have out := (State.Holds.resetOut (scanned.drop _ (Fact.resetting_droppable _ _ _ _))).untilReset fun f cut => by
    cases f with
    | follows c src => trivial
    | _ => exact cut.elim
  have plan := out.resetPlan.untilReset fun f ramp => by
    cases f with
    | moving | follows c src => trivial
    | _ => exact ramp.elim
  have doors := plan.resetDoors.untilReset fun f door => by
    cases f with
    | lane n | follows c src => trivial
    | _ => exact door.elim
  have call := doors.resetCall.untilReset fun f pa => by rw [Fact.fixed_paFault pa]; trivial
  exact (call.resetBoard rfl).notice _ _

/-! ## Requests of REQ's own (R177) -/

theorem State.Holds.takeRequest (h : s.Holds w) (anchored : ∀ ch c, w.on (.noJump ch c) → w.on (.config ch c))
    (f : Frame) : (s.takeRequest f).Holds (w.drop Fact.loose Fact.loose_droppable) := by
  have dropped := h.drop Fact.loose Fact.loose_droppable
  unfold State.takeRequest
  dsimp only
  cases parseRequest { node := f.src, tag := f.tag } f.payload with
  | malformedRequest rq payload => exact dropped.malformed rq payload
  | tableRead rq table first count => exact dropped.tableRead rq table first count
  | tableWrite rq table index image check => exact h.tableWrite anchored rq table index image check
  | blockWrite rq table first count body check => exact h.blockWrite anchored rq table first count body check
  | statusRead rq => exact dropped.reply _ _ _ _
  | flagsClear rq counts notices => exact dropped.flagsClear rq counts notices
  | modeSet rq mode => exact dropped.modeSet rq mode
  | identityWrite rq tag check => exact h.identityWrite rq tag check
  | noticeSet rq node enabled disable => exact dropped.noticeSet rq node enabled disable
  | opsReset rq => exact dropped.opsReset rq
  | _ => exact dropped.hand _

theorem State.Holds.receive (h : s.Holds w) (anchored : ∀ ch c, w.on (.noJump ch c) → w.on (.config ch c))
    (p : Port) (bytes : List Byte) : (s.receive p bytes).Holds (w.drop Fact.loose Fact.loose_droppable) := by
  have dropped := h.drop Fact.loose Fact.loose_droppable
  unfold State.receive
  split
  · exact dropped.crcFailure p
  · rename_i f _
    unfold State.checkedFrame
    split
    · exact (dropped.clash p).bridgeHeard p
    · exact ((h.learn f.src p).bridgeHeard p).route p f (fun _ on => on.1) fun hr => hr.takeRequest anchored f

end Sys2Proof.Machine
end

section
/-! PROOFS. Every command keeps every fact that is watched (R1 to R193): one lemma for each row of the table of
operations and events. -/

namespace Sys2Proof.Machine
variable {s t : State} {w : Watch}

theorem event_moves {c : Instr} {f : State → State} {w' : Watch} (h : event c f s = .next t) (hs : s.Holds w)
    (less : ∀ f, w'.on f → w.on f) (hf : (s.take c).Holds w → (f (s.take c)).Holds w') : t.Holds w' := by
  unfold event at h
  split at h <;> cases h
  · exact hs.mono less
  · exact hf (hs.take c)

theorem event_holds {c : Instr} {f : State → State} (h : event c f s = .next t) (hs : s.Holds w)
    (hf : (s.take c).Holds w → (f (s.take c)).Holds w) : t.Holds w := event_moves h hs (fun _ on => on) hf

theorem State.Holds.asRequest {f : State → State} (h : s.Holds w) (hf : (f s).Holds w) :
    (asRequest f s).Holds w := by
  unfold Machine.asRequest
  split
  · exact hf
  · exact h

/-! ## LINE (R1 to R18) -/

theorem State.Holds.execReception (h : s.Holds w) (anchored : ∀ ch c, w.on (.noJump ch c) → w.on (.config ch c)) {p : Port} {bytes : List Byte}
    (next : Machine.execReception p bytes s = .next t) : t.Holds (w.drop Fact.loose Fact.loose_droppable) :=
  event_moves next h (fun _ on => on.1) fun hu => hu.receive anchored p bytes

theorem State.Holds.execTransmitCompletion (h : s.Holds w) {p : Port}
    (next : Machine.execTransmitCompletion p s = .next t) : t.Holds w := by
  exact event_holds next h fun hu => hu.setPort p PortState.complete_ruled

theorem State.Holds.execBridgeSilenceExpiry (h : s.Holds w)
    (next : Machine.execBridgeSilenceExpiry s = .next t) : t.Holds w := by
  refine event_holds next h fun hu => ?_
  split
  · exact hu.bridgeSilent
  · exact hu

/-! ## COND (R37 to R52) -/

theorem State.Holds.execFaultLineChange (h : s.Holds w) {l : FaultLine} {low : Bool}
    (next : Machine.execFaultLineChange l low s = .next t) : t.Holds w := by
  cases reset : s.inReset with
  | true =>
    simp only [Machine.execFaultLineChange, reset, if_true] at next
    cases next
    exact h.faultPin l low
  | false =>
    simp only [Machine.execFaultLineChange, reset, Bool.false_eq_true, if_false] at next
    cases next
    exact (h.take _).faultLine l low

theorem State.Holds.execAgeIntervalExpiry (h : s.Holds w)
    (next : Machine.execAgeIntervalExpiry s = .next t) : t.Holds w :=
  event_holds next h fun hu => hu.ageAll

theorem State.Holds.execHoldExpiry (h : s.Holds w) {c : Fin 64}
    (next : Machine.execHoldExpiry c s = .next t) : t.Holds w := by
  refine event_holds next h fun hu => ?_
  split
  · rename_i runs
    exact hu.holdExpiry runs
  · exact hu

theorem State.Holds.execCondSet (h : s.Holds w) {rq : Requester} {c : Byte} {hold : Nat}
    (next : Machine.execCondSet rq c hold s = .next t) : t.Holds w :=
  event_holds next h fun hu => hu.asRequest (State.Holds.answered rq _ (hu.condSet c hold))

theorem State.Holds.execCondClear (h : s.Holds w) {rq : Requester} {c : Byte}
    (next : Machine.execCondClear rq c s = .next t) : t.Holds w :=
  event_holds next h fun hu => hu.asRequest (State.Holds.answered rq _ (hu.condClear c))

theorem State.Holds.execSetCond (h : s.Holds w) {e : Fin 64} {c : Byte} {hold : Nat}
    (next : Machine.execSetCond e c hold s = .next t) : t.Holds w :=
  event_holds next h fun hu => State.Holds.asAction e (hu.condSet c hold)

theorem State.Holds.execClearCond (h : s.Holds w) {e : Fin 64} {c : Byte}
    (next : Machine.execClearCond e c s = .next t) : t.Holds w :=
  event_holds next h fun hu => State.Holds.asAction e (hu.condClear c)

theorem State.Holds.execConditionChange (h : s.Holds w) {c : Fin 64} {v : Bool} {u : CondUser}
    (next : Machine.execConditionChange c v u s = .next t) : t.Holds w := by
  refine event_holds next h fun hu => ?_
  cases u with
  | gate ch => exact hu.conduct ch
  | forcing ch =>
    dsimp only
    split
    · exact hu.judgeForcing ch
    · exact hu
  | ramp r => exact hu.rampChange r c v
  | doors => exact hu.doorsChange c v

/-! ## SCAN (R53 to R76) -/

theorem State.Holds.execRateGeneratorOutput (h : s.Holds w) {g : Gen}
    (next : Machine.execRateGeneratorOutput g s = .next t) : t.Holds w := by
  refine event_holds next h fun hu => ?_
  split
  · exact hu.trigger
  · exact hu

theorem State.Holds.execDwellEnd (h : s.Holds w)
    (next : Machine.execDwellEnd s = .next t) : t.Holds w := by
  refine event_holds next h fun hu => ?_
  split
  · exact hu.setScanOf id rfl
  · exact hu

theorem State.Holds.execSample (h : s.Holds w) {raw : Fin 4096}
    (next : Machine.execSample raw s = .next t) : t.Holds w := by
  refine event_holds next h fun hu => ?_
  split
  · split
    · split
      · exact hu
      · exact (hu.sampled _ _).nextSlot _
    · exact hu
  · exact hu

theorem State.Holds.execTrialStepCompletion (h : s.Holds w) {readings : Vector (Fin 4096) 8}
    (next : Machine.execTrialStepCompletion readings s = .next t) : t.Holds w := by
  refine event_holds next h fun hu => ?_
  split
  · split
    · exact hu
    · exact hu.setScanOf id rfl
  · exact hu

theorem State.Holds.execTrimCompletion (h : s.Holds w) {readings : Vector (Fin 4096) 8}
    (next : Machine.execTrimCompletion readings s = .next t) : t.Holds w := by
  refine event_holds next h fun hu => ?_
  split
  · split
    · exact hu.trimComplete _
    · exact hu
  · exact hu

theorem State.Holds.execScanNow (h : s.Holds w) {o : ScanOrigin}
    (next : Machine.execScanNow o s = .next t) : t.Holds w := by
  refine event_holds next h fun hu => ?_
  cases o with
  | request rq => exact hu.asRequest (State.Holds.answered rq _ hu.scanNow)
  | action e => exact State.Holds.asAction e hu.scanNow

theorem State.Holds.execTrimStart (h : s.Holds w) {rq : Requester}
    (next : Machine.execTrimStart rq s = .next t) : t.Holds w :=
  event_holds next h fun hu => hu.asRequest (State.Holds.answered rq _ hu.trimStart)

theorem State.Holds.execBufferRead (h : s.Holds w) {rq : Requester}
    (next : Machine.execBufferRead rq s = .next t) : t.Holds w := by
  exact event_holds next h fun hu => hu.asRequest
    ((hu.setScanOf Scan.removeOldest_accounted rfl).judgeBuffer.reply _ _ _ _)

theorem State.Holds.execBufferClear (h : s.Holds w) {rq : Requester}
    (next : Machine.execBufferClear rq s = .next t) : t.Holds w := by
  exact event_holds next h fun hu => hu.asRequest
    (((hu.setScanOf (fun a => Scan.abandon_accounted (Scan.removeAll_accounted a))
      (Scan.abandon_thresholds _)).judgeBuffer).reply _ _ _ _)

/-! ## OUT (R77 to R113) -/

theorem State.Holds.execTimerStep (h : s.Holds w)
    (next : Machine.execTimerStep s = .next t) : t.Holds w :=
  event_holds next h fun hu => hu.timerStep

theorem State.Holds.execOverCurrentOnset (h : s.Holds w) {ch : Fin 16} {mA : Nat}
    (next : Machine.execOverCurrentOnset ch mA s = .next t) : t.Holds w :=
  event_holds next h fun hu => hu.measure ch mA

theorem State.Holds.execCurrentRecovery (h : s.Holds w) {ch : Fin 16} {mA : Nat}
    (next : Machine.execCurrentRecovery ch mA s = .next t) : t.Holds w :=
  event_holds next h fun hu => hu.measure ch mA

theorem State.Holds.execCutOffDelayExpiry (h : s.Holds w) {ch : Fin 16}
    (next : Machine.execCutOffDelayExpiry ch s = .next t) : t.Holds w := by
  refine event_holds next h fun hu => ?_
  split
  · exact hu.cutOffNow ch
  · exact hu

theorem State.Holds.execRestartDelayExpiry (h : s.Holds w) {ch : Fin 16}
    (next : Machine.execRestartDelayExpiry ch s = .next t) : t.Holds w := by
  refine event_holds next h fun hu => ?_
  split
  · exact hu.leaveCutOff ch
  · exact hu

theorem State.Holds.execChannelSet (h : s.Holds w) {rq : Requester} {ch level : Byte}
    (next : Machine.execChannelSet rq ch level s = .next t) : t.Holds w := by
  exact event_holds next h fun hu => hu.asRequest (hu.onChannel rq _ ch fun i => hu.channelSet level i)

theorem State.Holds.execChannelRestore (h : s.Holds w) {rq : Requester} {ch : Byte}
    (next : Machine.execChannelRestore rq ch s = .next t) : t.Holds w := by
  exact event_holds next h fun hu => hu.asRequest (hu.onChannel rq _ ch fun i => hu.channelRestore i)

theorem State.Holds.execForceClear (h : s.Holds w) {rq : Requester} {ch : Byte}
    (next : Machine.execForceClear rq ch s = .next t) : t.Holds w := by
  exact event_holds next h fun hu => hu.asRequest (hu.onChannel rq _ ch fun i => hu.forceClear i)

theorem State.Holds.execTriggerClear (h : s.Holds w) {rq : Requester} {ch : Byte}
    (next : Machine.execTriggerClear rq ch s = .next t) : t.Holds w := by
  exact event_holds next h fun hu => hu.asRequest (hu.onChannel rq _ ch fun i => hu.triggerClear i)

/-! ## PLAN (R114 to R138) -/

theorem State.Holds.execPositionSample (h : s.Holds w) {r : Fin 4} {p : Nat}
    (next : Machine.execPositionSample r p s = .next t) : t.Holds w :=
  event_holds next h fun hu => hu.position r p

theorem State.Holds.execForcedEvent (h : s.Holds w) {o : Owner} {ch : Fin 16}
    (next : Machine.execForcedEvent o ch s = .next t) : t.Holds w := by
  refine event_holds next h fun hu => ?_
  cases o with
  | ramp r => exact hu.rampForced r ch
  | door | lamp | free => exact hu

theorem State.Holds.execCutoffEvent (h : s.Holds w) {o : Owner} {ch : Fin 16}
    (next : Machine.execCutoffEvent o ch s = .next t) : t.Holds w := by
  refine event_holds next h fun hu => ?_
  cases o with
  | ramp r => exact hu.rampCutoff r ch
  | door d => exact hu.doorCutoff d ch
  | lamp | free => exact hu

theorem State.Holds.execStageTimeoutExpiry (h : s.Holds w) {r : Fin 4}
    (next : Machine.execStageTimeoutExpiry r s = .next t) : t.Holds w := by
  refine event_holds next h fun hu => ?_
  split
  · rename_i runs
    exact hu.faultRamp (fun _ idle => by simp [State.timeoutRuns_running runs] at idle) _
  · exact hu

theorem State.Holds.execStaleWatchExpiry (h : s.Holds w) {r : Fin 4}
    (next : Machine.execStaleWatchExpiry r s = .next t) : t.Holds w := by
  refine event_holds next h fun hu => ?_
  split
  · rename_i runs
    obtain ⟨d, driving⟩ := Option.isSome_iff_exists.mp (Bool.and_eq_true_iff.mp runs).1
    exact hu.faultRamp (fun _ idle => by simp [(State.driving_some driving).1] at idle) _
  · exact hu

theorem State.Holds.execDwellTimerExpiry (h : s.Holds w) {r : Fin 4}
    (next : Machine.execDwellTimerExpiry r s = .next t) : t.Holds w := by
  refine event_holds next h fun hu => ?_
  split
  · rename_i runs
    exact hu.dwellExpiry runs.1 runs.2
  · exact hu

theorem State.Holds.execRetryIntervalExpiry (h : s.Holds w) {r : Fin 4}
    (next : Machine.execRetryIntervalExpiry r s = .next t) : t.Holds w := by
  refine event_holds next h fun hu => ?_
  split
  · exact hu
  · exact hu.askCall r _

theorem State.Holds.execCallStageResult (h : s.Holds w) {r : Fin 4} {ask : BitVec 16} {result : Code}
    (next : Machine.execCallStageResult r ask result s = .next t) : t.Holds w :=
  event_holds next h fun hu => hu.callStageResult r ask result

theorem State.Holds.execPlanStart (h : s.Holds w) {rq : Requester} {r p : Byte}
    (next : Machine.execPlanStart rq r p s = .next t) : t.Holds w :=
  event_holds next h fun hu => hu.asRequest (State.Holds.answered rq _ (hu.planStart r p))

theorem State.Holds.execPlanAbort (h : s.Holds w) {rq : Requester} {r : Byte}
    (next : Machine.execPlanAbort rq r s = .next t) : t.Holds w := by
  exact event_holds next h fun hu => hu.asRequest (State.Holds.answered rq _ (hu.onRamp r fun i => hu.planAbort i))

theorem State.Holds.execPlanResume (h : s.Holds w) {rq : Requester} {r : Byte}
    (next : Machine.execPlanResume rq r s = .next t) : t.Holds w := by
  exact event_holds next h fun hu => hu.asRequest (State.Holds.answered rq _ (hu.onRamp r fun i => hu.planResume i))

theorem State.Holds.execStartPlan (h : s.Holds w) {e : Fin 64} {r p : Byte}
    (next : Machine.execStartPlan e r p s = .next t) : t.Holds w :=
  event_holds next h fun hu => State.Holds.asAction e (hu.planStart r p)

/-! ## DOOR (R139 to R159) -/

theorem State.Holds.execDoorDerivation (h : s.Holds w)
    (next : Machine.execDoorDerivation s = .next t) : t.Holds w :=
  event_holds next h fun hu => hu.deriveDoors

theorem State.Holds.execDoorStateTimerExpiry (h : s.Holds w) {d : Fin 24}
    (next : Machine.execDoorStateTimerExpiry d s = .next t) : t.Holds w := by
  refine event_holds next h fun hu => ?_
  split
  · exact hu.doorExpiry d
  · exact hu

theorem State.Holds.execWarningCallResult (h : s.Holds w) {d : Fin 24} {result : Code}
    (next : Machine.execWarningCallResult d result s = .next t) : t.Holds w := by
  refine event_holds next h fun hu => ?_
  split
  · exact hu
  · exact hu.warnCallLost _

theorem State.Holds.execGroupClose (h : s.Holds w) {rq : Requester} {groups immediate : Byte}
    (next : Machine.execGroupClose rq groups immediate s = .next t) : t.Holds w := by
  exact event_holds next h fun hu => hu.asRequest (State.Holds.answered rq _ (hu.groupClose groups immediate))

theorem State.Holds.execGroupRelease (h : s.Holds w) {rq : Requester} {groups : Byte}
    (next : Machine.execGroupRelease rq groups s = .next t) : t.Holds w := by
  exact event_holds next h fun hu => hu.asRequest (State.Holds.answered rq _ (hu.groupRelease groups))

theorem State.Holds.execCloseGroup (h : s.Holds w) {e : Fin 64} {groups immediate : Byte}
    (next : Machine.execCloseGroup e groups immediate s = .next t) : t.Holds w := by
  exact event_holds next h fun hu => State.Holds.asAction e (hu.groupClose groups immediate)

theorem State.Holds.execReleaseGroup (h : s.Holds w) {e : Fin 64} {groups : Byte}
    (next : Machine.execReleaseGroup e groups s = .next t) : t.Holds w :=
  event_holds next h fun hu => State.Holds.asAction e (hu.groupRelease groups)

/-! ## CALL (R160 to R176) -/

theorem State.Holds.execCallQueue (h : s.Holds w) {o : CallOrigin} {tpl : Byte} {override : Option (BitVec 16)}
    (next : Machine.execCallQueue o tpl override s = .next t) : t.Holds w := by
  refine event_holds next h fun hu => ?_
  cases o with
  | request rq => exact hu.asRequest (hu.takeQueue _ tpl override)
  | _ => exact hu.takeQueue _ tpl override

theorem State.Holds.execQueueCall (h : s.Holds w) {e : Fin 64} {tpl : Byte} {override : Option (BitVec 16)}
    (next : Machine.execQueueCall e tpl override s = .next t) : t.Holds w :=
  event_holds next h fun hu => State.Holds.asAction e (hu.callQueue tpl override)

theorem State.Holds.execCallCancel (h : s.Holds w) {o : CancelOrigin} {form index : Byte}
    (next : Machine.execCallCancel o form index s = .next t) : t.Holds w := by
  refine event_holds next h fun hu => ?_
  cases o with
  | request rq => exact hu.asRequest (State.Holds.answered rq _ (hu.callCancel form index))
  | release => exact hu.callCancel form index

theorem State.Holds.execCallDoneReception (h : s.Holds w) {src dst tag : Byte} {payload : List Byte}
    (next : Machine.execCallDoneReception src dst tag payload s = .next t) : t.Holds w :=
  event_holds next h fun hu => hu.callDone src dst tag payload

theorem State.Holds.execCallDoneLimitExpiry (h : s.Holds w) {k : Fin 16}
    (next : Machine.execCallDoneLimitExpiry k s = .next t) : t.Holds w := by
  refine event_holds next h fun hu => hu.onSlot k fun x slot => ?_
  split
  · rename_i runs
    exact hu.limitExpired slot runs
  · exact hu

theorem State.Holds.execIntervalExpiry (h : s.Holds w) {k : Fin 16}
    (next : Machine.execIntervalExpiry k s = .next t) : t.Holds w := by
  refine event_holds next h fun hu => hu.onSlot k fun x slot => ?_
  split
  · rename_i runs
    exact hu.intervalExpired slot runs _
  · exact hu

theorem State.Holds.execLampStepExpiry (h : s.Holds w) {k : Fin 16}
    (next : Machine.execLampStepExpiry k s = .next t) : t.Holds w := by
  refine event_holds next h fun hu => hu.onSlot k fun x slot => ?_
  split
  · exact hu
  · rename_i due runs
    exact hu.stepLamp slot runs

/-! ## REQ (R177 to R188) -/

theorem State.Holds.execMalformedRequest (h : s.Holds w) {rq : Requester} {payload : List Byte}
    (next : Machine.execMalformedRequest rq payload s = .next t) : t.Holds w :=
  event_holds next h fun hu => hu.asRequest (hu.malformed rq payload)

theorem State.Holds.execTableRead (h : s.Holds w) {rq : Requester} {table first count : Byte}
    (next : Machine.execTableRead rq table first count s = .next t) : t.Holds w := by
  exact event_holds next h fun hu => hu.asRequest (hu.tableRead rq table first count)

theorem State.Holds.execTableWrite (h : s.Holds w) (anchored : ∀ ch c, w.on (.noJump ch c) → w.on (.config ch c)) {rq : Requester} {table index : Byte} {image : List Byte} {check : Byte}
    (next : Machine.execTableWrite rq table index image check s = .next t) : t.Holds (w.drop Fact.loose Fact.loose_droppable) := by
  exact event_moves next h (fun _ on => on.1) fun hu => (hu.drop _ _).asRequest (hu.tableWrite anchored rq table index image check)

theorem State.Holds.execBlockWrite (h : s.Holds w) (anchored : ∀ ch c, w.on (.noJump ch c) → w.on (.config ch c)) {rq : Requester} {table first count : Byte} {body : List Byte} {check : Byte}
    (next : Machine.execBlockWrite rq table first count body check s = .next t) : t.Holds (w.drop Fact.loose Fact.loose_droppable) := by
  exact event_moves next h (fun _ on => on.1) fun hu => (hu.drop _ _).asRequest (hu.blockWrite anchored rq table first count body check)

theorem State.Holds.execStatusRead (h : s.Holds w) {rq : Requester}
    (next : Machine.execStatusRead rq s = .next t) : t.Holds w :=
  event_holds next h fun hu => hu.asRequest (hu.reply _ _ _ _)

theorem State.Holds.execFlagsClear (h : s.Holds w) {rq : Requester} {counts notices : BitVec 16}
    (next : Machine.execFlagsClear rq counts notices s = .next t) : t.Holds w :=
  event_holds next h fun hu => hu.asRequest (hu.flagsClear rq counts notices)

theorem State.Holds.execModeSet (h : s.Holds w) {rq : Requester} {mode : Byte}
    (next : Machine.execModeSet rq mode s = .next t) : t.Holds w :=
  event_holds next h fun hu => hu.asRequest (hu.modeSet rq mode)

theorem State.Holds.execIdentityWrite (h : s.Holds w) {rq : Requester} {tag : Vector Byte 8} {check : Byte}
    (next : Machine.execIdentityWrite rq tag check s = .next t) : t.Holds (w.drop Fact.loose Fact.loose_droppable) :=
  event_moves next h (fun _ on => on.1) fun hu => (hu.drop _ _).asRequest (hu.identityWrite rq tag check)

theorem State.Holds.execNoticeSet (h : s.Holds w) {rq : Requester} {node : Byte} {enabled : BitVec 16} {disable : Byte}
    (next : Machine.execNoticeSet rq node enabled disable s = .next t) : t.Holds w := by
  exact event_holds next h fun hu => hu.asRequest (hu.noticeSet rq node enabled disable)

theorem State.Holds.execOpsReset (h : s.Holds w) {rq : Requester}
    (next : Machine.execOpsReset rq s = .next t) : t.Holds w :=
  event_holds next h fun hu => hu.asRequest (hu.opsReset rq)

/-! ## Any command -/

/-- The commands of power-on reset. -/
def powerOnCommand : Instr → Prop
  | .powerOnReset | .powerOnResetCompletion _ => True
  | _ => False

/-- Every command but the power-on reset's keeps every watched fact that is not loose. -/
theorem State.Holds.exec (h : s.Holds w) (anchored : ∀ ch c, w.on (.noJump ch c) → w.on (.config ch c)) {i : Instr}
    (next : Machine.exec i s = .next t) (notReset : ¬ powerOnCommand i) :
    t.Holds (w.drop Fact.loose Fact.loose_droppable) := by
  have hd := h.drop Fact.loose Fact.loose_droppable
  cases i with
  | powerOnReset | powerOnResetCompletion => exact absurd trivial notReset
  | reception => exact h.execReception anchored next
  | transmitCompletion => exact hd.execTransmitCompletion next
  | bridgeSilenceExpiry => exact hd.execBridgeSilenceExpiry next
  | faultLineChange => exact hd.execFaultLineChange next
  | ageIntervalExpiry => exact hd.execAgeIntervalExpiry next
  | holdExpiry => exact hd.execHoldExpiry next
  | condSet => exact hd.execCondSet next
  | condClear => exact hd.execCondClear next
  | setCond => exact hd.execSetCond next
  | clearCond => exact hd.execClearCond next
  | conditionChange => exact hd.execConditionChange next
  | rateGeneratorOutput => exact hd.execRateGeneratorOutput next
  | dwellEnd => exact hd.execDwellEnd next
  | sample => exact hd.execSample next
  | trialStepCompletion => exact hd.execTrialStepCompletion next
  | trimCompletion => exact hd.execTrimCompletion next
  | scanNow => exact hd.execScanNow next
  | trimStart => exact hd.execTrimStart next
  | bufferRead => exact hd.execBufferRead next
  | bufferClear => exact hd.execBufferClear next
  | timerStep => exact hd.execTimerStep next
  | overCurrentOnset => exact hd.execOverCurrentOnset next
  | currentRecovery => exact hd.execCurrentRecovery next
  | cutOffDelayExpiry => exact hd.execCutOffDelayExpiry next
  | restartDelayExpiry => exact hd.execRestartDelayExpiry next
  | channelSet => exact hd.execChannelSet next
  | channelRestore => exact hd.execChannelRestore next
  | forceClear => exact hd.execForceClear next
  | triggerClear => exact hd.execTriggerClear next
  | positionSample => exact hd.execPositionSample next
  | forcedEvent => exact hd.execForcedEvent next
  | cutoffEvent => exact hd.execCutoffEvent next
  | stageTimeoutExpiry => exact hd.execStageTimeoutExpiry next
  | staleWatchExpiry => exact hd.execStaleWatchExpiry next
  | dwellTimerExpiry => exact hd.execDwellTimerExpiry next
  | retryIntervalExpiry => exact hd.execRetryIntervalExpiry next
  | callStageResult => exact hd.execCallStageResult next
  | planStart => exact hd.execPlanStart next
  | planAbort => exact hd.execPlanAbort next
  | planResume => exact hd.execPlanResume next
  | startPlan => exact hd.execStartPlan next
  | doorDerivation => exact hd.execDoorDerivation next
  | doorStateTimerExpiry => exact hd.execDoorStateTimerExpiry next
  | warningCallResult => exact hd.execWarningCallResult next
  | groupClose => exact hd.execGroupClose next
  | groupRelease => exact hd.execGroupRelease next
  | closeGroup => exact hd.execCloseGroup next
  | releaseGroup => exact hd.execReleaseGroup next
  | callQueue => exact hd.execCallQueue next
  | queueCall => exact hd.execQueueCall next
  | callCancel => exact hd.execCallCancel next
  | callDoneReception => exact hd.execCallDoneReception next
  | callDoneLimitExpiry => exact hd.execCallDoneLimitExpiry next
  | intervalExpiry => exact hd.execIntervalExpiry next
  | lampStepExpiry => exact hd.execLampStepExpiry next
  | malformedRequest => exact hd.execMalformedRequest next
  | tableRead => exact hd.execTableRead next
  | tableWrite => exact h.execTableWrite anchored next
  | blockWrite => exact h.execBlockWrite anchored next
  | statusRead => exact hd.execStatusRead next
  | flagsClear => exact hd.execFlagsClear next
  | modeSet => exact hd.execModeSet next
  | identityWrite => exact h.execIdentityWrite next
  | noticeSet => exact hd.execNoticeSet next
  | opsReset => exact hd.execOpsReset next

end Sys2Proof.Machine
end

section
/-! PROOFS. Every step keeps the facts (R10 to R184), and the obligations that say so. -/

namespace Sys2Proof.Machine
variable {s t : State} {w : Watch}

/-! ## The state at power-on reset -/

/-- The facts that name a value the reset changes. -/
def Fact.named : Fact → Prop
  | .config _ _ | .doorSet _ _ | .tagIs _ _ => True
  | _ => False

/-- A part as power-on reset leaves it: it differs from the reset state in no record that a fact reads. -/
def State.isFresh (u : State) : Prop :=
  ∃ (straps : Fin 128) (a b r : Bool) (cs : List Instr) (m : BitVec 16),
    u = { State.powerOn straps a b with inReset := r, pending := cs, req := { Req.reset with marks := m } }

theorem Board.reset_row (a b : Bool) (c : Fin 64) : (Board.reset a b).conds.row c = CondRecord.reset a b c := by
  simp [Board.reset, Tbl.row]

theorem PortState.reset_ruled : PortState.reset.ruled := by
  refine ⟨⟨?_, ?_⟩, fun _ => rfl⟩ <;> decide

theorem State.powerOn_keeps (straps : Fin 128) (a b : Bool) {f : Fact} (unnamed : ¬ f.named) :
    (State.powerOn straps a b).keeps f := by
  have cond (c : Fin 64) : (State.powerOn straps a b).cond c = (CondRecord.reset a b c).value :=
    congrArg CondRecord.value (Board.reset_row a b c)
  have source (c : Fin 64) : ((State.powerOn straps a b).board.conds.row c).source = if c.val < 16 then .fixed else .none :=
    congrArg CondRecord.source (Board.reset_row a b c)
  have chan (ch : Fin 16) : (State.powerOn straps a b).chans.row ch = Channel.reset := Tbl.row_all _ _
  have ramp (r : Fin 4) : (State.powerOn straps a b).plan.ramps.row r = Ramp.reset := Tbl.row_all _ _
  have door (d : Fin 24) : (State.powerOn straps a b).door.doors.row d = Door.reset := Tbl.row_all _ _
  cases f with
  | config | doorSet | tagIs => exact absurd trivial unnamed
  | queues => exact ⟨PortState.reset_ruled, PortState.reset_ruled⟩
  | account => exact ⟨Nat.zero_le _, fun _ => rfl⟩
  | output ch => rw [State.keeps, chan]; exact fun on => absurd on Bool.false_ne_true
  | level ch => rw [State.keeps, chan]; exact fun _ _ => rfl
  | levelIf ch o => rw [State.keeps, chan]; exact fun _ _ _ => rfl
  | noJump ch c => rw [State.keeps, chan]; exact fun _ on => absurd on Bool.false_ne_true
  | counts =>
    intro e
    rw [show (State.powerOn straps a b).table.row e = MatchEntry.reset from Tbl.row_all _ _]
    exact ⟨Nat.le_refl 0, Nat.zero_le _, Nat.zero_le _⟩
  | attempts => intro d; rw [door]; exact Nat.zero_le _
  | sources => intro c lt; rw [source, if_pos lt]
  | slots =>
    intro k x is
    rw [show (State.powerOn straps a b).call.slots.row k = none from Tbl.row_all _ _] at is
    simp at is
  | zones =>
    have slot (k : Fin 16) : (State.powerOn straps a b).call.slots.row k = none := Tbl.row_all _ _
    refine ⟨⟨fun z k => ?_, fun k x is => ?_, fun m allow => ?_⟩, fun k x is => ?_⟩
    · rw [slot, show (State.powerOn straps a b).call.zones.row z = { lamp := none, holder := none } from Tbl.row_all _ _]
      simp
    · rw [slot] at is; simp at is
    · rw [show (State.powerOn straps a b).call.templates.row m = Template.reset from Tbl.row_all _ _] at allow
      exact absurd rfl allow
    · rw [slot] at is; simp at is
  | ramps =>
    refine ⟨fun p => ?_, fun r => ?_⟩
    · rw [show (State.powerOn straps a b).plan.plans.row p = { ramp := 0, first := 0, count := 1 } from Tbl.row_all _ _]
      decide
    · rw [ramp]; exact Plan.rampRuled_of_rest rfl rfl rfl rfl rfl
  | bridge | paFault | service => rw [State.keeps, cond]; rfl
  | moving =>
    rw [State.keeps, cond]
    change false = (List.finRange 4).any _
    refine (List.any_eq_false.mpr fun r _ => ?_).symm
    rw [State.rampMoving, ramp]
    simp [Ramp.reset]
  | lane n =>
    rw [State.keeps, cond]
    have lt := n.isLt
    have clear : (State.powerOn straps a b).laneClear n = true := by
      rw [State.laneClear, List.all_eq_true]
      intro d _
      rw [door]
      rfl
    rw [clear]
    have within : 8 + n.val ≤ 15 := by omega
    simp [CondRecord.reset, condLane, within]
  | follows c src =>
    intro is
    rw [source] at is
    rw [cond]
    split at is
    · subst is; rfl
    · rename_i high
      subst is
      have lt := c.isLt
      have h3 : c.val ≠ 3 := by omega
      have h4 : c.val ≠ 4 := by omega
      simp [CondRecord.reset, State.sourceValue, h3, h4]
      omega
  | hold c src =>
    intro _ _
    rw [show (State.powerOn straps a b).board.conds.row c = _ from Board.reset_row a b c]
    rfl

theorem State.isFresh.keeps {u : State} (fresh : u.isFresh) {f : Fact} (unnamed : ¬ f.named) : u.keeps f := by
  obtain ⟨straps, a, b, r, cs, m, rfl⟩ := fresh
  have kept := State.powerOn_keeps straps a b unnamed
  cases f <;> exact kept

theorem exec_fresh {i : Instr} (reset : powerOnCommand i) (next : exec i s = .next t) : t.isFresh := by
  cases i with
  | powerOnReset => cases next; exact ⟨_, _, _, _, _, _, rfl⟩
  | powerOnResetCompletion straps => cases next; exact ⟨_, _, _, _, _, _, rfl⟩
  | _ => exact reset.elim

/-! ## A step -/

/-- A step runs a command on a state that differs in its queue alone, or does nothing. -/
theorem step_next (next : step s = .next t) :
    t = s ∨ ∃ (i : Instr) (cs : List Instr), exec i { s with pending := cs } = .next t := by
  unfold step at next
  split at next
  · exact .inr ⟨_, _, next⟩
  · split at next
    · exact .inr ⟨_, s.pending, next⟩
    · cases next; exact .inl rfl

theorem State.Holds.step (h : s.Holds w) (anchored : ∀ ch c, w.on (.noJump ch c) → w.on (.config ch c))
    (unnamed : ∀ f, w.on f → f.named → f.loose) (next : Machine.step s = .next t) :
    t.Holds (w.drop Fact.loose Fact.loose_droppable) := by
  rcases step_next next with rfl | ⟨i, cs, next⟩
  · exact h.drop _ _
  · by_cases reset : powerOnCommand i
    · exact fun f on => (exec_fresh reset next).keeps fun named => on.2 (unnamed f on.1 named)
    · exact (h.pending cs).exec anchored next reset

/-! ## The invariants of the statements, in terms of the facts -/

theorem State.queuesSafe_iff : s.queuesSafe ↔ s.keeps .queues :=
  ⟨fun h => ⟨⟨h.upBounded, h.upSending⟩, ⟨h.dnBounded, h.dnSending⟩⟩,
    fun ⟨up, dn⟩ => ⟨up.1, dn.1, up.2, dn.2⟩⟩

theorem State.accountSafe_iff : s.accountSafe ↔ s.keeps .account := Iff.rfl

theorem State.outputsSafe_iff : s.outputsSafe ↔ ∀ ch, s.keeps (.output ch) := Iff.rfl

theorem State.setupSafe_iff : s.setupSafe ↔ ∀ ch, s.keeps (.level ch) :=
  ⟨fun h ch setup => h setup ch, fun h setup ch => h ch setup⟩

theorem State.slotsSafe_iff : s.slotsSafe ↔ s.keeps .slots := Iff.rfl

theorem State.countsSafe_iff : s.countsSafe ↔ s.keeps .counts := Iff.rfl

theorem State.rampsSafe_iff : s.rampsSafe ↔ s.keeps .ramps :=
  ⟨fun h => ⟨h.plans, fun r => ⟨(h.ramps r).atRest, (h.ramps r).placed, (h.ramps r).command, (h.ramps r).dwells⟩⟩,
    fun h => ⟨h.plans, fun r => ⟨(h.ramps r).atRest, (h.ramps r).placed, (h.ramps r).command, (h.ramps r).dwells⟩⟩⟩

/-- CALL's zones are held as its slots name them. -/
theorem State.zonesSafe_iff : s.zonesSafe ↔ s.keeps .zones := by
  constructor
  · intro h
    refine ⟨⟨fun z k => ⟨fun holder => ?_, ?_⟩, fun k x is => ⟨(h.timers k x is).1, (h.timers k x is).2, h.named k x is⟩,
      h.templates⟩, h.blocked⟩
    · cases slot : s.call.slots.row k with
      | none => exact absurd holder (h.free k slot z)
      | some x =>
        have speaks : x.state ≠ .waiting := fun waiting => h.waiting k x slot waiting z holder
        exact ⟨x, rfl, speaks, (h.holding k x slot speaks z).mp holder⟩
    · rintro ⟨x, slot, speaks, mem⟩
      exact (h.holding k x slot speaks z).mpr mem
  · rintro ⟨held, blocked⟩
    constructor
    · intro k free z holder
      obtain ⟨x, slot, -⟩ := (held.holder z k).mp holder
      rw [free] at slot
      simp at slot
    · intro k x slot waiting z holder
      obtain ⟨y, slot', speaks, -⟩ := (held.holder z k).mp holder
      rw [slot] at slot'
      exact speaks (Option.some.inj slot' ▸ waiting)
    · intro k x slot speaks z
      rw [held.holder]
      constructor
      · rintro ⟨y, slot', -, mem⟩
        rw [slot] at slot'
        exact Option.some.inj slot' ▸ mem
      · exact fun mem => ⟨x, slot, speaks, mem⟩
    · exact blocked
    · exact fun k x slot => ⟨(held.timed k x slot).1, (held.timed k x slot).2.1⟩
    · exact fun k x slot => (held.timed k x slot).2.2
    · exact held.templates

theorem State.laneClear_iff (n : Fin 8) : s.laneClear n = true ↔
    ∀ d, (s.door.doors.row d).set.lane = some n → (s.door.doors.row d).state = .opened := by
  simp only [State.laneClear, List.all_eq_true, List.mem_finRange, true_implies, Bool.or_eq_true, bne_iff_ne,
    beq_iff_eq]
  exact forall_congr' fun d => ⟨fun h is => h.resolve_left fun ne => ne is, fun h => or_iff_not_imp_left.mpr
    fun is => h (not_not.mp is)⟩

theorem State.groupAll_iff (g : Fin 8) (st : DoorState) : s.groupAll g st = true ↔
    (∃ d, (s.door.doors.row d).set.group = some g)
      ∧ ∀ d, (s.door.doors.row d).set.group = some g → (s.door.doors.row d).state = st := by
  simp only [State.groupAll, Bool.and_eq_true, List.any_eq_true, List.all_eq_true, List.mem_finRange, true_implies,
    true_and, Bool.or_eq_true, bne_iff_ne, beq_iff_eq]
  exact and_congr_right fun _ => forall_congr' fun d => ⟨fun h is => h.resolve_left fun ne => ne is,
    fun h => or_iff_not_imp_left.mpr fun is => h (not_not.mp is)⟩

theorem State.anyMoving_iff : s.anyMoving = true ↔ ∃ r k d, (s.ramp r).state = .running ∧ (s.ramp r).phase = .entered
    ∧ (s.ramp r).stage = some k ∧ (s.stage k).kind = .drive d ∧ 0 < (s.ramp r).sPrev := by
  simp only [State.anyMoving, List.any_eq_true, List.mem_finRange, true_and]
  refine exists_congr fun r => ?_
  unfold State.rampMoving State.ramp State.stage
  dsimp only
  cases (s.plan.ramps.row r).stage with
  | none => simp
  | some k =>
    dsimp only
    cases kind : (s.plan.stages.row k).kind <;> simp [kind, and_assoc]

theorem Bool.eq_iff_of_iff {a b : Bool} {p : Prop} (h : b = true ↔ p) : a = b ↔ (a = true ↔ p) := by
  rw [← h, Bool.eq_iff_iff]

theorem State.keeps_bridge_iff : s.keeps .bridge ↔ (s.cond 0 = true ↔ s.line.silence ≠ none) :=
  Bool.eq_iff_of_iff (by rw [Option.isSome_iff_ne_none])

theorem State.keeps_paFault_iff : s.keeps .paFault ↔ (s.cond 5 = true ↔ 2 ≤ s.call.paRun) :=
  Bool.eq_iff_of_iff decide_eq_true_iff

theorem State.keeps_service_iff : s.keeps .service ↔ (s.cond 6 = true ↔ s.req.mode = .service) :=
  Bool.eq_iff_of_iff decide_eq_true_iff

/-- Every condition follows its source. -/
theorem State.followsSafe_iff : s.followsSafe ↔ s.keeps .bridge ∧ s.keeps .paFault ∧ s.keeps .service
    ∧ s.keeps .moving ∧ (∀ n, s.keeps (.lane n)) ∧ (∀ c src, s.keeps (.follows c src)) ∧ ∀ c src, s.keeps (.hold c src) := by
  have cut (ch : Fin 16) : (s.chans.row ch).cutOff = true ↔ (s.chans.row ch).restart ≠ .none := bne_iff_ne
  have at_ (r : Fin 4) (p : Fin 8) (held : Bool) : s.sourceValue (.rampAt r p) held = true ↔
      (s.ramp r).state = .idle ∧ (s.ramp r).result = .complete ∧ (s.ramp r).plan = some p := by
    simp [State.sourceValue, State.ramp, and_assoc]
  constructor
  · intro h
    refine ⟨State.keeps_bridge_iff.mpr h.bridge, State.keeps_paFault_iff.mpr h.paFault,
      State.keeps_service_iff.mpr h.service, (Bool.eq_iff_of_iff State.anyMoving_iff).mpr h.moving,
      fun n => (Bool.eq_iff_of_iff (State.laneClear_iff n)).mpr (h.lanes n), fun c src is => ?_,
      fun c src is ne => h.holds c (by rw [is]; exact ne)⟩
    cases src with
    | none => exact h.unsourced c is
    | fixed | frame => rfl
    | threshold k => exact h.thresholds c k is
    | groupClosed g => exact (Bool.eq_iff_of_iff (State.groupAll_iff g .closed)).mpr (h.groupsClosed c g is)
    | groupOpen g => exact (Bool.eq_iff_of_iff (State.groupAll_iff g .opened)).mpr (h.groupsOpen c g is)
    | rampAt r p => exact (Bool.eq_iff_of_iff (at_ r p _)).mpr (h.rampsAt c r p is)
    | channelCut ch => exact (Bool.eq_iff_of_iff (cut ch)).mpr (h.channelsCut c ch is)
  · rintro ⟨bridge, paFault, service, moving, lanes, follows, hold⟩
    exact {
      bridge := State.keeps_bridge_iff.mp bridge
      paFault := State.keeps_paFault_iff.mp paFault
      service := State.keeps_service_iff.mp service
      moving := (Bool.eq_iff_of_iff State.anyMoving_iff).mp moving
      lanes := fun n => (Bool.eq_iff_of_iff (State.laneClear_iff n)).mp (lanes n)
      unsourced := fun c is => follows c _ is
      thresholds := fun c k is => follows c _ is
      groupsClosed := fun c g is => (Bool.eq_iff_of_iff (State.groupAll_iff g .closed)).mp (follows c _ is)
      groupsOpen := fun c g is => (Bool.eq_iff_of_iff (State.groupAll_iff g .opened)).mp (follows c _ is)
      rampsAt := fun c r p is => (Bool.eq_iff_of_iff (at_ r p _)).mp (follows c _ is)
      channelsCut := fun c ch is => (Bool.eq_iff_of_iff (cut ch)).mp (follows c _ is)
      holds := fun c is => hold c _ rfl is }

/-! ## The obligations -/

/-- The facts named are kept by every step of a state in which they hold. -/
theorem step_keeps {p : Fact → Prop} (closed : ∀ f g, f.needs g → p f → p g) (promised : ∀ f, p f → ¬ f.named ∧ ¬ f.loose)
    (noJump : ∀ ch c, ¬ p (.noJump ch c)) (h : ∀ f, p f → s.keeps f) (next : step s = .next t) :
    ∀ f, p f → t.keeps f := by
  have holds : s.Holds { on := p, closed := closed } := h
  have kept := holds.step (fun ch c on => absurd on (noJump ch c)) (fun f on named => absurd named (promised f on).1) next
  exact fun f on => kept f ⟨on, (promised f on).2⟩

/-- A watch of facts that rest on no other. -/
def Watch.only (p : Fact → Prop) (alone : ∀ f g, p f → ¬ f.needs g) : Watch where
  on := p
  closed f g needs on := absurd needs (alone f g on)

/-- One fact that rests on no other. -/
theorem step_keeps_one {f : Fact} (alone : ∀ g, ¬ f.needs g) (promised : ¬ f.named ∧ ¬ f.loose)
    (noJump : ∀ ch c, f ≠ .noJump ch c) (h : s.keeps f) (next : step s = .next t) : t.keeps f := by
  refine step_keeps (p := fun g => g = f) ?_ ?_ (fun ch c is => noJump ch c is.symm) ?_ next f rfl
  · rintro g g' needs rfl; exact absurd needs (alone g')
  · rintro g rfl; exact promised
  · rintro g rfl; exact h

/-- Settles O12: the queue rules are one fact, and every command keeps it. -/
theorem everyStepKeepsTheQueueRules : Obligations.EveryStepKeepsTheQueueRules := by
  intro s t safe next
  exact State.queuesSafe_iff.mpr (step_keeps_one (fun _ => id) ⟨id, id⟩ (by simp) (State.queuesSafe_iff.mp safe) next)

/-- Settles O24: the sample account is one fact, and every command keeps it. -/
theorem everyStepKeepsTheBufferAccount : Obligations.EveryStepKeepsTheBufferAccount := by
  intro s t safe next
  exact step_keeps_one (f := .account) (fun _ => id) ⟨id, id⟩ (by simp) safe next

/-- Settles O28: what a command does to one channel keeps it safe, whatever the others do. -/
theorem everyStepKeepsTheOutputsSafe : Obligations.EveryStepKeepsTheOutputsSafe := by
  intro s t safe next ch
  exact step_keeps_one (f := .output ch) (fun _ => id) ⟨id, id⟩ (by simp) (safe ch) next

/-- Settles O29: the level rule of one channel, kept by every command in either mode. -/
theorem everyStepKeepsOwnedLevelsOffInSetup : Obligations.EveryStepKeepsOwnedLevelsOffInSetup := by
  intro s t safe next
  refine State.setupSafe_iff.mpr fun ch => ?_
  exact step_keeps_one (f := .level ch) (fun _ => id) ⟨id, id⟩ (by simp) (State.setupSafe_iff.mp safe ch) next

/-- Settles O30: a write is refused where it would jump, and a reset leaves no active configuration. -/
theorem noStepJumpsBetweenActiveConfigurations : Obligations.NoStepJumpsBetweenActiveConfigurations := by
  intro s t ch next was is
  let c := (s.chans.row ch).set.config
  have holds : s.Holds (Watch.only (fun f => f = .noJump ch c ∨ f = .config ch c)
      (by rintro f g (rfl | rfl) <;> exact id)) := by
    rintro f (rfl | rfl)
    · exact fun _ _ => rfl
    · rfl
  have kept := holds.step (fun i c' on => ?_) (fun f on named => ?_) next
  · exact kept (.noJump ch c) ⟨.inl rfl, id⟩ was is
  · have named : Fact.noJump i c' = .noJump ch c ∨ Fact.noJump i c' = .config ch c := on
    obtain ⟨rfl, rfl⟩ : i = ch ∧ c' = c := by simpa using named
    exact .inr rfl
  · rcases on with rfl | rfl
    · exact named.elim
    · trivial

/-- The facts of the sources, the ramps and all conditions that follow a source. -/
def Fact.ofConditions : Fact → Prop
  | .sources | .ramps | .bridge | .paFault | .service | .moving | .lane _ | .follows _ _ | .hold _ _ => True
  | _ => False

/-- Settles O52: each part is a set of facts closed under what they rest on. -/
theorem everyStepKeepsTheRecordRules : Obligations.EveryStepKeepsTheRecordRules := by
  refine ⟨fun s t sources attempts slots next => ⟨?_, ?_, ?_⟩, fun s t counts next => ?_,
    fun s t sources ramps follows next => ?_, fun s t slots zones next => ?_⟩
  · exact step_keeps_one (f := .sources) (fun _ => id) ⟨id, id⟩ (by simp) sources next
  · exact step_keeps_one (f := .attempts) (fun _ => id) ⟨id, id⟩ (by simp) attempts next
  · exact step_keeps_one (f := .slots) (fun _ => id) ⟨id, id⟩ (by simp) slots next
  · exact step_keeps_one (f := .counts) (fun _ => id) ⟨id, id⟩ (by simp) counts next
  · obtain ⟨bridge, paFault, service, moving, lanes, follow, hold⟩ := State.followsSafe_iff.mp follows
    have kept := step_keeps (p := Fact.ofConditions) (fun f g needs on => ?_) (fun f on => ?_) (fun _ _ => id)
      (fun f on => ?_) next
    · exact State.followsSafe_iff.mpr ⟨kept .bridge trivial, kept .paFault trivial, kept .service trivial,
        kept .moving trivial, fun n => kept (.lane n) trivial, fun c src => kept (.follows c src) trivial,
        fun c src => kept (.hold c src) trivial⟩
    · cases f with
      | bridge | paFault | service | lane n | follows c src => rcases needs with rfl | rfl <;> trivial
      | moving => rcases needs with rfl | rfl | rfl <;> trivial
      | _ => first | exact needs.elim | exact on.elim
    · cases f <;> first | exact on.elim | exact ⟨id, id⟩
    · cases f with
      | sources => exact sources
      | ramps => exact State.rampsSafe_iff.mp ramps
      | bridge => exact bridge
      | paFault => exact paFault
      | service => exact service
      | moving => exact moving
      | lane n => exact lanes n
      | follows c src => exact follow c src
      | hold c src => exact hold c src
      | _ => exact on.elim
  · have kept := step_keeps (p := fun f => f = .slots ∨ f = .zones) ?_ ?_ (by simp) ?_ next
    · exact State.zonesSafe_iff.mpr (kept .zones (.inr rfl))
    · rintro f g needs (rfl | rfl)
      · exact needs.elim
      · exact .inl needs
    · rintro f (rfl | rfl) <;> exact ⟨id, id⟩
    · rintro f (rfl | rfl)
      · exact slots
      · exact State.zonesSafe_iff.mp zones

/-- The tag of a part, as a fact of an exec. -/
theorem exec_keeps_tag {i : Instr} {tag : Vector Byte 8} (h : s.keeps (.tagIs tag true)) (notReset : ¬ powerOnCommand i)
    (next : exec i s = .next t) : t.keeps (.tagIs tag true) := by
  have holds : s.Holds (Watch.only (fun f => f = .tagIs tag true) (by rintro f g rfl; exact id)) := by
    rintro f rfl
    exact h
  exact holds.exec (fun ch c on => by cases on) next notReset (.tagIs tag true) ⟨rfl, id⟩

/-- Settles O56: identity is written where the tag is unwritten; every other command but the resets keeps it. -/
theorem theInstallationTagIsWrittenOnce : Obligations.TheInstallationTagIsWrittenOnce := by
  refine ⟨fun s => ?_, fun s rq tag check taken => ?_, fun s t i notOn notDone written next => ?_,
    fun s t rq mode i is next => ?_, fun s t straps i is next => ?_⟩
  · have beyond : tableIds[21]? = none := rfl
    simp only [State.image, directoryImage, beyond, identityCodes, flagByte]
  · obtain ⟨on, addressed⟩ := taken
    have asked : exec (.identityWrite rq tag check) s =
        .next ((s.take (.identityWrite rq tag check)).identityWrite rq tag check) := by
      have addressed' : (s.take (.identityWrite rq tag check)).addressed = true := addressed
      simp [exec, execIdentityWrite, event, asRequest, on, addressed']
    dsimp only
    rw [asked]
    refine ⟨fun unwritten sound => ?_, fun unwritten unsound => ?_, fun written => ?_⟩
    · have sound : check = checkByte tag.toList := sound
      have unwritten' : (s.take (.identityWrite rq tag check)).req.tagWritten = false := unwritten
      rw [State.identityWrite, unwritten', if_neg Bool.false_ne_true, if_neg (not_not.mpr sound)]
      rfl
    · have unsound : check ≠ checkByte tag.toList := unsound
      have unwritten' : (s.take (.identityWrite rq tag check)).req.tagWritten = false := unwritten
      rw [State.identityWrite, unwritten', if_neg Bool.false_ne_true, if_pos unsound]
    · have written' : (s.take (.identityWrite rq tag check)).req.tagWritten = true := written
      rw [State.identityWrite, written', if_pos rfl]
  · refine exec_keeps_tag (tag := s.req.tag) ⟨rfl, written⟩ ?_ next
    cases i with
    | powerOnReset => exact absurd rfl notOn
    | powerOnResetCompletion straps => exact absurd rfl (notDone straps)
    | _ => exact id
  · have holds : s.Holds (Watch.only (fun f => f = .tagIs s.req.tag s.req.tagWritten)
        (by rintro f g rfl; exact id)) := by
      rintro f rfl
      exact ⟨rfl, rfl⟩
    rcases is with rfl | rfl
    · exact (holds.execOpsReset next) _ rfl
    · exact (holds.execModeSet next) _ rfl
  · rcases is with rfl | rfl <;> cases next <;> exact ⟨rfl, rfl⟩

/-- Settles O60: every fact that no record names holds at power-on reset. -/
theorem theResetStateIsSafe : Obligations.TheResetStateIsSafe := by
  refine ⟨fun straps a b => ?_, rfl⟩
  have kept {f : Fact} (unnamed : ¬ f.named) := State.powerOn_keeps straps a b unnamed
  have chan (ch : Fin 16) : (State.powerOn straps a b).chans.row ch = Channel.reset := Tbl.row_all _ _
  refine ⟨State.queuesSafe_iff.mpr (kept id), fun ch => kept (f := .output ch) id,
    State.setupSafe_iff.mpr fun ch => kept id, kept (f := .attempts) id, kept (f := .account) id,
    kept (f := .sources) id, kept (f := .slots) id, kept (f := .counts) id, State.rampsSafe_iff.mpr (kept id),
    State.followsSafe_iff.mpr ⟨kept id, kept id, kept id, kept id, fun _ => kept id, fun _ _ => kept id,
      fun _ _ => kept id⟩, State.zonesSafe_iff.mpr (kept id), fun ch => ?_⟩
  rw [chan]
  exact ⟨rfl, rfl⟩

end Sys2Proof.Machine
end

section
/-! PROOFS. SPEED AND RATE LIMITS (R134), and the rules that every step keeps of the ramps. -/

namespace Sys2Proof.Machine
variable {s t : State}

namespace Drive
variable (d : Drive)

theorem speed_mono {near far : Nat} (h : near ≤ far) : d.speed near ≤ d.speed far := by
  unfold speed
  exact Nat.add_le_add_left (Nat.div_le_div_right (Nat.mul_le_mul_left _ (by omega))) _

theorem vMin_le_speed (dist : Nat) : min d.vMin (min d.vMax 1000) ≤ d.speed dist := Nat.le_add_right _ _

theorem speed_of_slowdown_le {far : Nat} (h : max d.slowdown 1 ≤ far) : d.speed far = min d.vMax 1000 := by
  have pos : 0 < max d.slowdown 1 := by omega
  have low : min d.vMin (min d.vMax 1000) ≤ min d.vMax 1000 := Nat.min_le_right _ _
  unfold speed
  dsimp only
  rw [Nat.min_eq_right h, Nat.mul_div_cancel _ pos]
  omega

theorem speed_zero : d.speed 0 = min d.vMin (min d.vMax 1000) := by simp [speed]

end Drive

/-- Settles O38: the invariant is the fact of the ramps; the speed law is monotone division. -/
theorem speedFollowsDistanceWithinTheLimits : Obligations.SpeedFollowsDistanceWithinTheLimits := by
  have keeps (s t : State) (safe : s.rampsSafe) (next : step s = .next t) : t.rampsSafe :=
    State.rampsSafe_iff.mpr (step_keeps_one (fun _ => id) ⟨id, id⟩ (by simp) (State.rampsSafe_iff.mp safe) next)
  refine ⟨keeps, fun s t r d safe next driving => ?_, fun d last near far le => ?_⟩
  · obtain ⟨-, -, k, stage, kind⟩ := State.driving_some driving
    by_cases above : 0 < (t.ramp r).sPrev
    · obtain ⟨-, -, k', d', stage', kind', le⟩ := ((keeps s t safe next).ramps r).command above
      obtain rfl := Option.some.inj (stage.symm.trans stage')
      obtain rfl := StageKind.drive.inj (kind.symm.trans kind')
      exact le
    · omega
  · have high := d.speed_le far
    have mono := d.speed_mono le
    refine ⟨rfl, d.vMin_le_speed near, mono, high, d.speed_of_slowdown_le, d.speed_zero, ?_⟩
    unfold Drive.command
    dsimp only
    generalize d.speed far = v at *
    generalize min d.vMax 1000 = top at *
    refine ⟨fun lt => if_pos lt, fun lt => if_neg (by omega), fun eq => ?_, ?_, ?_, fun within => ?_⟩
    · rw [if_neg (by omega)]; omega
    · split <;> omega
    · split <;> omega
    · split <;> omega

end Sys2Proof.Machine
end

section
/-! PROOFS. SCAN: thresholds, triggers, SCAN_NOW (R53 to R65). -/

namespace Sys2Proof.Machine
variable {s t : State}

/-! ## THRESHOLD ADVANCE (R65) -/

namespace Threshold

theorem calls_iff (t : Threshold) (v : Nat) : t.calls v = true ↔
    (t.direction = .high ∧ t.tripped = false ∧ t.level ≤ v)
    ∨ (t.direction = .high ∧ t.tripped = true ∧ v + t.hysteresis < t.level)
    ∨ (t.direction = .low ∧ t.tripped = false ∧ v ≤ t.level)
    ∨ (t.direction = .low ∧ t.tripped = true ∧ t.level + t.hysteresis < v) := by
  unfold calls
  cases t.direction <;> cases t.tripped <;> simp

theorem advance_of_quiet {t : Threshold} {v : Nat} (h : t.calls v = false) :
    t.advance v = { t with agreement := 0 } := by
  simp [advance, h]

theorem advance_counts {t : Threshold} {v : Nat} (h : t.calls v = true) (below : t.agreement + 1 < t.debounce) :
    t.advance v = { t with agreement := t.agreement + 1 } := by
  rw [advance, if_pos h, if_neg (by omega)]

theorem advance_changes {t : Threshold} {v : Nat} (h : t.calls v = true) (last : t.agreement + 1 = t.debounce) :
    t.advance v = { t with tripped := !t.tripped, agreement := 0 } := by
  rw [advance, if_pos h, if_pos (by omega)]

/-- Samples in a row that call for a change count up to the debounce. -/
theorem foldl_advance_counts {t : Threshold} {v n : Nat} (h : t.calls v = true) (below : t.agreement + n < t.debounce) :
    (List.replicate n v).foldl advance t = { t with agreement := t.agreement + n } := by
  induction n generalizing t with
  | zero => rfl
  | succ n ih =>
    have counted := advance_counts h (show t.agreement + 1 < t.debounce by omega)
    have next := ih (t := { t with agreement := t.agreement + 1 }) h
      (show t.agreement + 1 + n < t.debounce by omega)
    rw [List.replicate_succ, List.foldl_cons, counted, next]
    simp only [Nat.add_assoc, Nat.add_comm 1 n]

end Threshold

/-- Settles O21: each sample of a run counts, and the last one changes the state. -/
theorem thresholdChangesAfterItsDebounce : Obligations.ThresholdChangesAfterItsDebounce := by
  intro t v
  refine ⟨t.calls_iff v, Threshold.advance_of_quiet, fun n vs below is calls => ?_, fun n vs last pos is calls => ?_⟩
  · rw [is]
    exact Threshold.foldl_advance_counts calls below
  · obtain ⟨m, rfl⟩ : ∃ m, n = m + 1 := ⟨n - 1, by omega⟩
    rw [is, List.replicate_succ', List.foldl_append, Threshold.foldl_advance_counts calls (by omega)]
    exact Threshold.advance_changes calls (by dsimp only; omega)

/-! ## Triggers and SCAN START (R57 to R60) -/

theorem ScanSettings.selects_iff (x : ScanSettings) (g : Gen) :
    x.selects g = true ↔ (x.trigger = .rateA ∧ g = .a) ∨ (x.trigger = .rateB ∧ g = .b) := by
  unfold ScanSettings.selects
  cases x.trigger <;> cases g <;> simp

theorem FrontEnd.wets_iff (f : FrontEnd) : f.wets = true ↔ f.kind = .contact ∧ f.wetting = true := by
  simp [FrontEnd.wets]

theorem exec_rateGeneratorOutput (g : Gen) (h : s.inReset = false) : exec (.rateGeneratorOutput g) s =
    .next (if s.scan.settings.selects g then (s.take (.rateGeneratorOutput g)).trigger
      else s.take (.rateGeneratorOutput g)) :=
  event_of_running s _ _ h

theorem Scan.zeroSamples_row (x : Scan) (ch : Fin 24) :
    x.zeroSamples.sensors.row ch = { x.sensors.row ch with samples := 0 } := by
  simp only [Scan.zeroSamples, Tbl.row]
  exact Vector.getElem_map _ _

/-- The run of a scan that starts, before its first slot. -/
def Scan.firstRun (x : Scan) (now : Nat) : ScanRun :=
  { list := x.list, slot := 0, interval := x.interval, start := now, converting := false, wetted := false }

theorem Scan.begin_eq (x : Scan) (now : Nat) :
    x.begin now = Scan.beginSlot { x.zeroSamples with scanNumber := x.scanNumber + 1 } (x.firstRun now) := rfl

theorem Scan.firstRun_channel (x : Scan) (now : Nat) : (x.firstRun now).channel = x.list.head? := by
  rw [ScanRun.channel, List.head?_eq_getElem?]; rfl

/-- The trigger period by the source (R56). -/
theorem Scan.interval_eq (x : Scan) :
    (x.settings.trigger = .frame → x.interval = 200)
    ∧ (x.settings.trigger = .rateA → x.interval = max (x.settings.nA / x.list.length) 50)
    ∧ (x.settings.trigger = .rateB → x.settings.bInput = .reference →
        x.interval = max (x.settings.nB / x.list.length) 50)
    ∧ (x.settings.trigger = .rateB → x.settings.bInput = .a →
        x.interval = max (x.settings.nA * x.settings.nB / x.list.length) 50) := by
  unfold Scan.interval ScanSettings.period
  refine ⟨fun is => by rw [is], fun is => ?_, fun is b => ?_, fun is b => ?_⟩
  · simp [is, Nat.max_comm]
  · simp [is, b, Nat.max_comm]
  · simp [is, b, Nat.max_comm]

theorem ScanRun.dwellEnd_inner {r : ScanRun} (long : 50 ≤ r.interval) (inner : r.slot + 1 < r.list.length) :
    r.dwellEnd + 20 = r.start + (r.slot + 1) * r.interval := by
  rw [ScanRun.dwellEnd, if_pos inner, Nat.add_mul]
  omega

theorem ScanRun.dwellEnd_last {r : ScanRun} (long : 50 ≤ r.interval) (last : r.slot + 1 = r.list.length) :
    r.dwellEnd + 40 = r.start + r.list.length * r.interval := by
  rw [ScanRun.dwellEnd, if_neg (by omega), ← last, Nat.add_mul]
  omega

theorem Scan.names_iff (x : Scan) (ch : Fin 24) :
    x.names ch = true ↔ ch ∈ x.list ∨ ∃ r, x.scanner = .scanning r ∧ ch ∈ r.list := by
  unfold Scan.names
  cases x.scanner <;> simp

theorem State.trigger_of_stopped (h : s.scan.scanner = .stopped) : s.trigger = s := by simp only [State.trigger, h]

theorem State.trigger_of_trimming {x : TrimRun} (h : s.scan.scanner = .trimming x) : s.trigger = s := by
  simp only [State.trigger, h]

theorem State.trigger_of_idle (h : s.scan.scanner = .idle) : s.trigger = s.setScan (s.scan.begin s.clock) := by
  simp only [State.trigger, h]

theorem State.trigger_of_scanning {r : ScanRun} (h : s.scan.scanner = .scanning r) :
    s.trigger = s.setScan { s.scan with overrun := min (s.scan.overrun + 1) 65535 } := by
  simp only [State.trigger, h, satAdd]

theorem exec_dwellEnd {r : ScanRun} (running : s.inReset = false) (h : s.scan.scanner = .scanning r) :
    exec .dwellEnd s = .next ((s.take .dwellEnd).setScan
      { s.scan with scanner := .scanning { r with converting := true } }) := by
  simp [exec, execDwellEnd, event, running, h]

theorem State.dwellEnd_mem_deadlines {r : ScanRun} (h : s.scan.scanner = .scanning r)
    (dwelling : r.converting = false) : (r.dwellEnd, Instr.dwellEnd) ∈ s.deadlines := by
  have mem : (r.dwellEnd, Instr.dwellEnd) ∈ s.scanDeadlines := by simp [State.scanDeadlines, h, dwelling]
  simp only [State.deadlines, List.mem_append]
  tauto

/-- The record that `Scan.begin` leaves: only these fields move. -/
theorem Scan.begin_frame (x : Scan) (now : Nat) : x.begin now = { x with
    scanner := (x.begin now).scanner, scanNumber := (x.begin now).scanNumber
    sensors := (x.begin now).sensors, frontEnds := (x.begin now).frontEnds } := by
  rw [Scan.begin_eq, Scan.beginSlot_eq]; rfl

theorem Scan.begin_scanner (x : Scan) (now : Nat) : (x.begin now).scanner = .scanning { x.firstRun now with
    converting := false, wetted := (x.list.head?.map fun ch => (x.sensors.row ch).frontEnd.wets).getD false } := by
  rw [Scan.begin_eq, Scan.beginSlot_scanner, Scan.firstRun_channel]
  have wets (ch : Fin 24) : (x.zeroSamples.sensors.row ch).frontEnd.wets = (x.sensors.row ch).frontEnd.wets := by
    rw [Scan.zeroSamples_row]; rfl
  simp only [wets]

theorem Scan.begin_frontEnds (x : Scan) (now : Nat) (ch : Fin 24) : (x.begin now).frontEnds.row ch =
    if x.list.head? = some ch then (x.sensors.row ch).frontEnd else x.frontEnds.row ch := by
  rw [Scan.begin_eq, Scan.beginSlot_frontEnds, Scan.firstRun_channel]
  have front : (x.zeroSamples.sensors.row ch).frontEnd = (x.sensors.row ch).frontEnd := by
    rw [Scan.zeroSamples_row]; rfl
  rw [← front]; rfl

theorem Scan.begin_sensors (x : Scan) (now : Nat) (ch : Fin 24) :
    (x.begin now).sensors.row ch = { x.sensors.row ch with samples := 0 } := by
  rw [Scan.begin_eq, Scan.beginSlot_sensors]
  exact x.zeroSamples_row ch

theorem Scan.begin_scanNumber (x : Scan) (now : Nat) : (x.begin now).scanNumber = x.scanNumber + 1 := by
  rw [Scan.begin_eq, Scan.beginSlot_eq]

theorem Scan.shunt_iff (x : Scan) (ch : Fin 24) : x.shunt ch = true ↔ (x.frontNow ch).kind = .loop := by
  simp [Scan.shunt]

theorem Scan.wetting_iff (x : Scan) (ch : Fin 24) : x.wetting ch = true ↔
    (x.settings.wettingTest = true ∧ (x.frontNow ch).kind = .contact ∧ (x.frontNow ch).wetting = true)
    ∨ ∃ r, x.scanner = .scanning r ∧ r.wetted = true ∧ r.list[r.slot]? = some ch := by
  unfold Scan.wetting
  rw [Bool.or_eq_true, Bool.and_eq_true, FrontEnd.wets_iff]
  refine or_congr_right ?_
  cases x.scanner <;> simp [ScanRun.channel]

/-- Settles O19, part by part: the trigger by the scanner state, SCAN START, the dwell, the front ends. -/
theorem triggerStartsAScanOfTimedSlots : Obligations.TriggerStartsAScanOfTimedSlots := by
  refine ⟨fun s g running => ?_, fun x now => ?_, fun s r running scanning => ?_, fun x ch f slotted others => ?_⟩
  · dsimp only
    rw [← ScanSettings.selects_iff, exec_rateGeneratorOutput g running]
    refine ⟨fun other => by rw [if_neg other], fun selected is => ?_, fun selected x is => ?_, fun selected is => ?_,
      fun selected x is => ?_⟩ <;> rw [if_pos selected]
    · rw [State.trigger_of_stopped (s := s.take _) is]
    · rw [State.trigger_of_trimming (s := s.take _) is]
    · rw [State.trigger_of_idle (s := s.take _) is]; rfl
    · rw [State.trigger_of_scanning (s := s.take _) is]; rfl
  · refine ⟨{ x.firstRun now with
      converting := false, wetted := (x.list.head?.map fun ch => (x.sensors.row ch).frontEnd.wets).getD false },
      ?_, fun ch head => ⟨?_, ?_⟩, fun ch other => ?_, rfl, rfl, rfl, rfl, ?_, x.begin_sensors now, x.interval_eq⟩
    · rw [← Scan.begin_scanner]; exact x.begin_frame now
    · rw [Scan.begin_frontEnds, if_pos head]; rfl
    · simp only [head, Option.map_some, Option.getD_some]
      exact FrontEnd.wets_iff _
    · rw [Scan.begin_frontEnds, if_neg other]
    · rw [Scan.begin_scanNumber, BitVec.toNat_add]; rfl
  · exact ⟨fun long => ⟨ScanRun.dwellEnd_inner long, ScanRun.dwellEnd_last long⟩,
      State.dwellEnd_mem_deadlines scanning, exec_dwellEnd running scanning⟩
  · have front : x.frontNow ch = f := by
      unfold Scan.frontNow
      by_cases inList : ch ∈ x.list ∨ ∃ r, x.scanner = .scanning r ∧ ch ∈ r.list
      · rw [if_pos ((x.names_iff ch).mpr inList), slotted inList]
      · rw [if_neg (mt (x.names_iff ch).mp inList), others inList]; rfl
    rw [← front]
    exact ⟨x.shunt_iff ch, x.wetting_iff ch⟩

/-! ## SCAN_NOW (R58) -/

theorem exec_scanNow_request (rq : Requester) (running : s.inReset = false) (addressed : s.addressed = true) :
    exec (.scanNow (.request rq)) s = .next (answered rq 0x0E scanNow (s.take (.scanNow (.request rq)))) :=
  event_of_request s running addressed

theorem exec_scanNow_action (e : Fin 64) (running : s.inReset = false) :
    exec (.scanNow (.action e)) s = .next (asAction e scanNow (s.take (.scanNow (.action e)))) :=
  event_of_running s _ _ running

theorem scanNow_of_rate (h : s.scan.settings.trigger ≠ .frame) : scanNow s = (.badValue, s) := by
  unfold scanNow
  cases is : s.scan.settings.trigger with
  | frame => exact absurd is h
  | rateA | rateB => rfl

theorem scanNow_of_frame (h : s.scan.settings.trigger = .frame) :
    (s.scan.scanner = .stopped → scanNow s = (.badValue, s))
    ∧ (s.scan.scanner = .idle → scanNow s = (.done, s.setScan (s.scan.begin s.clock)))
    ∧ (∀ r, s.scan.scanner = .scanning r → scanNow s =
        (.busy, s.setScan { s.scan with overrun := min (s.scan.overrun + 1) 65535 }))
    ∧ (∀ x, s.scan.scanner = .trimming x → scanNow s = (.busy, s)) := by
  refine ⟨fun is => ?_, fun is => ?_, fun r is => ?_, fun x is => ?_⟩ <;> unfold scanNow <;> rw [h, is]
  · rw [State.trigger_of_idle is]
  · rw [State.trigger_of_scanning is]

/-- Settles O20: the result and the scan that each case leaves, then the REPLY or the count of the action. -/
theorem scanNowActsByTheScannerState : Obligations.ScanNowActsByTheScannerState := by
  intro s rq e code x running cases_
  have result (i : Instr) : scanNow (s.take i) = (code, (s.take i).setScan x) := by
    rcases cases_ with ⟨rate, rfl, rfl⟩ | ⟨frame, ⟨is, rfl, rfl⟩ | ⟨is, rfl, rfl⟩ | ⟨⟨r, is⟩, rfl, rfl⟩ | ⟨⟨r, is⟩, rfl, rfl⟩⟩
    · exact scanNow_of_rate (s := s.take i) rate
    · exact (scanNow_of_frame (s := s.take i) frame).1 is
    · exact (scanNow_of_frame (s := s.take i) frame).2.1 is
    · exact (scanNow_of_frame (s := s.take i) frame).2.2.1 r is
    · exact (scanNow_of_frame (s := s.take i) frame).2.2.2 r is
  refine ⟨fun addressed => ?_, fun done => ?_, fun refused => ?_⟩
  · rw [exec_scanNow_request rq running addressed, answered_of_eq _ rq 0x0E (result _)]
  · subst done
    rw [exec_scanNow_action e running, asAction_of_done _ e (result _)]
  · rw [exec_scanNow_action e running, asAction_of_refused _ e (result _) refused]

end Sys2Proof.Machine
end

section
/-! PROOFS. SCAN: the zero trim and the sample buffer (R66 to R73). -/

namespace Sys2Proof.Machine
variable {s t : State}

/-! ## ZERO TRIM (R71 to R73) -/

theorem State.anyRampBusy_iff : s.anyRampBusy = true ↔
    ∃ r, (s.ramp r).state = .running ∨ (s.ramp r).state = .paused ∨ (s.ramp r).state = .held := by
  simp only [State.anyRampBusy, List.any_eq_true, List.mem_finRange, true_and]
  refine exists_congr fun r => ?_
  change (s.ramp r).state.busy = true ↔ _
  cases (s.ramp r).state <;> simp [RampState.busy]

theorem trimStart_of_busy (h : (∃ x, s.scan.scanner = .trimming x) ∨ s.anyRampBusy = true) :
    trimStart s = (.busy, s) := by
  unfold trimStart
  split
  · rfl
  · rename_i other
    rcases h with ⟨x, is⟩ | busy
    · exact absurd is (other x)
    · rw [if_pos busy]

theorem trimStart_of_free (h : ¬ ((∃ x, s.scan.scanner = .trimming x) ∨ s.anyRampBusy = true)) :
    trimStart s = (.done, (s.setScan s.scan.beginTrim).setCond condScanValid false) := by
  unfold trimStart
  split
  · rename_i x is
    exact absurd (.inl ⟨x, is⟩) h
  · rw [if_neg fun busy => h (.inr busy)]

theorem exec_trimStart (rq : Requester) (running : s.inReset = false) (addressed : s.addressed = true) :
    exec (.trimStart rq) s = .next (answered rq 0x0F trimStart (s.take (.trimStart rq))) :=
  event_of_request s running addressed

theorem Scan.beginTrim_row (x : Scan) (k : Fin 48) :
    x.beginTrim.thresholds.row k = { x.thresholds.row k with agreement := 0 } := by
  simp only [Scan.beginTrim, Tbl.row]
  exact Vector.getElem_map _ _

theorem exec_trialStep {readings : Vector (Fin 4096) 8} {run : TrimRun} {n : Nat} (running : s.inReset = false)
    (trimming : s.scan.scanner = .trimming run) (left : run.stepsLeft = n + 1) :
    exec (.trialStepCompletion readings) s = .next ((s.take (.trialStepCompletion readings)).setScan { s.scan with
      trimCode := trialStep s.scan.trimCode n (average readings)
      scanner := .trimming { run with stepsLeft := n } }) := by
  simp [exec, execTrialStepCompletion, event, running, trimming, left]

theorem exec_trimCompletion {readings : Vector (Fin 4096) 8} {run : TrimRun} (running : s.inReset = false)
    (trimming : s.scan.scanner = .trimming run) (left : run.stepsLeft = 0) :
    exec (.trimCompletion readings) s =
      .next ((s.take (.trimCompletion readings)).trimComplete (average readings)) := by
  simp [exec, execTrimCompletion, event, running, trimming, left]

/-- A trial step of bit `n`, with bit `n` set alone among the lower ones: the bits above stand, bit `n` is as
judged, and the next lower bit is set alone below it (R72). -/
theorem trialStep_eq {code n q avg : Nat} (is : code = 2 ^ n * (2 * q + 1)) :
    trialStep code n avg = 2 ^ n * (2 * q + if avg < 2048 then 1 else 0) + if n = 0 then 0 else 2 ^ (n - 1) := by
  subst is
  unfold trialStep
  congr 1
  by_cases low : avg < 2048
  · rw [if_neg (by omega), if_pos low]
  · rw [if_pos (by omega), if_neg low, Nat.mul_add, Nat.mul_one, Nat.add_zero, Nat.add_sub_cancel]

theorem next_bit_lt (n : Nat) : (if n = 0 then 0 else 2 ^ (n - 1)) < 2 ^ n := by
  split
  · exact Nat.two_pow_pos n
  · exact Nat.pow_lt_pow_right (by omega) (by omega)

theorem testBit_mul_two_pow_add {n j q r : Nat} (low : r < 2 ^ n) :
    (2 ^ n * q + r).testBit (n + j) = q.testBit j := by
  rw [Nat.testBit_two_pow_mul_add q low, if_neg (by omega), Nat.add_sub_cancel_left]

theorem eq_of_mod_two_pow {code n : Nat} (h : code % 2 ^ (n + 1) = 2 ^ n) :
    code = 2 ^ n * (2 * (code / 2 ^ (n + 1)) + 1) := by
  have split_ := Nat.div_add_mod code (2 ^ (n + 1))
  rw [h, Nat.pow_succ] at split_
  rw [Nat.mul_add, Nat.mul_one, ← Nat.mul_assoc, Nat.pow_succ]
  exact split_.symm

/-- The notice event sets the mark of its kind (R187). -/
theorem State.trimComplete_eq (avg : Nat) : s.trimComplete avg =
    ((s.setScan { s.scan with scanner := s.scan.rest }).setCond 2
      (decide (2046 ≤ avg) && decide (avg ≤ 2050))).notice 5
        (if (decide (2046 ≤ avg) && decide (avg ≤ 2050)) = true then 1 else 0) := rfl

theorem Scan.rest_eq (x : Scan) : x.rest = if x.list = [] then .stopped else .idle := by
  simp [Scan.rest]

/-- Settles O25: the start by what is busy, a trial step as arithmetic on the code, and the completion. -/
theorem trimStartsTriesItsBitsAndIsJudged : Obligations.TrimStartsTriesItsBitsAndIsJudged := by
  refine ⟨fun s rq taken => ?_, fun s readings run n running trimming left small code => ?_,
    fun s readings run running trimming left => ?_⟩
  · obtain ⟨running, addressed⟩ := taken
    dsimp only
    rw [← State.anyRampBusy_iff, exec_trimStart rq running addressed]
    refine ⟨fun busy => ?_, fun free => ?_⟩
    · rw [answered_of_eq _ rq 0x0F (trimStart_of_busy (s := s.take _) busy)]
    · refine ⟨_, by rw [answered_of_eq _ rq 0x0F (trimStart_of_free (s := s.take _) free)], ?_⟩
      simp only [State.setCond_scan, State.setScan_scan, State.take_scan]
      refine ⟨⟨_, rfl, rfl, rfl⟩, rfl, State.setCond_cond_self _ _ _, ?_, s.scan.beginTrim_row, ?_⟩
      · rw [State.cond, State.setCond_record_ne _ _ (by decide)]; rfl
      · simp [Scan.beginTrim]
  · have is := eq_of_mod_two_pow code
    generalize s.scan.trimCode / 2 ^ (n + 1) = q at is
    have step := trialStep_eq (avg := average readings) is
    have low := next_bit_lt n
    dsimp only
    refine ⟨_, exec_trialStep running trimming left, rfl, ?_, fun m above => ?_, fun m next => ?_, fun zero => ?_, rfl⟩
    · change (trialStep s.scan.trimCode n (average readings)).testBit n = _
      have bit := testBit_mul_two_pow_add (q := 2 * q + if average readings < 2048 then 1 else 0) low (j := 0)
      rw [Nat.add_zero] at bit
      rw [step, bit]
      change _ = decide (average readings < 2048)
      by_cases below : average readings < 2048 <;> simp [below, Nat.testBit_zero]
    · change (trialStep s.scan.trimCode n (average readings)).testBit m = _
      obtain ⟨j, rfl⟩ : ∃ j, m = n + (j + 1) := ⟨m - n - 1, by omega⟩
      have same : (2 * q + if average readings < 2048 then 1 else 0) / 2 = (2 * q + 1) / 2 := by split <;> omega
      have was := testBit_mul_two_pow_add (q := 2 * q + 1) (Nat.two_pow_pos n) (j := j + 1)
      rw [Nat.add_zero, ← is] at was
      rw [step, testBit_mul_two_pow_add low, was, Nat.testBit_succ, Nat.testBit_succ, same]
    · change trialStep s.scan.trimCode n (average readings) % 2 ^ n = _
      rw [step, Nat.mul_add_mod, Nat.mod_eq_of_lt low, next, if_neg (by omega), Nat.add_sub_cancel]
    · change trialStep s.scan.trimCode n (average readings) / 2 = _
      subst zero
      rw [step, is]
      simp only [Nat.pow_zero, Nat.one_mul, if_true]
      split <;> omega
  · have ok : (decide (2046 ≤ average readings) && decide (average readings ≤ 2050))
        = decide (2046 ≤ average readings ∧ average readings ≤ 2050) := by simp
    refine ⟨_, exec_trimCompletion running trimming left, ?_, ?_, ?_, fun c other => ?_, fun same => ?_, ?_⟩
    · rw [State.trimComplete_eq, ok, Scan.rest_eq]
      simp only [decide_eq_true_eq]
      rfl
    · rw [State.trimComplete_eq, Scan.rest_eq]
      simp only [State.notice_scan, State.setCond_scan, State.setScan_scan, State.take_scan]
      split <;> simp [*]
    · rw [State.trimComplete_eq, ok, State.cond, State.notice_board]
      exact State.setCond_cond_self _ _ _
    · rw [State.trimComplete_eq, State.notice_board, State.setCond_record_ne _ _ other.symm]
      rfl
    · rw [State.trimComplete_eq, ok, State.notice_handed, State.setCond_of_eq]
      · rfl
      · exact same
    · rw [State.trimComplete_eq, State.notice_marks]
      simp

/-! ## The buffer state (R67) -/

/-- The buffer state that the fill asks for. -/
def Scan.fills (x : Scan) : Bool := decide (x.settings.bufferThreshold ≤ x.buffer.length)

theorem State.judgeBuffer_of_eq (h : s.scan.above = s.scan.fills) : s.judgeBuffer = s := if_pos h

theorem State.judgeBuffer_of_ne (h : s.scan.above ≠ s.scan.fills) :
    s.judgeBuffer = (s.setScan { s.scan with above := s.scan.fills }).notice (if s.scan.fills then 3 else 4) 0 :=
  if_neg h

theorem State.judgeBuffer_scan (s : State) : s.judgeBuffer.scan = { s.scan with above := s.scan.fills } := by
  by_cases h : s.scan.above = s.scan.fills
  · rw [s.judgeBuffer_of_eq h, ← h]
  · rw [s.judgeBuffer_of_ne h, State.notice_scan, State.setScan_scan]

/-- A judging of the buffer state moves that state, the two ports and the marks alone. -/
theorem State.judgeBuffer_frame (s : State) : s.judgeBuffer = { s with
    scan := { s.scan with above := s.scan.fills }
    line := { s.line with up := s.judgeBuffer.line.up, dn := s.judgeBuffer.line.dn }
    req := { s.req with marks := s.judgeBuffer.req.marks } } := by
  by_cases h : s.scan.above = s.scan.fills
  · rw [s.judgeBuffer_of_eq h, ← h]
  · rw [s.judgeBuffer_of_ne h, State.notice_frame]
    rfl

/-- A rise of the fill to the threshold raises BUFFER_ABOVE, under its mark. -/
theorem State.judgeBuffer_above (was : s.scan.above = false) (fills : s.scan.fills = true) :
    s.judgeBuffer.req.marks = s.req.marks ||| 4
    ∧ (s.req.marks.getLsbD 2 = true → s.judgeBuffer.line = s.line) := by
  rw [s.judgeBuffer_of_ne (by rw [was, fills]; decide), fills, State.notice_marks]
  exact ⟨rfl, fun marked => by rw [State.notice_of_marked _ _ marked]; rfl⟩

/-- A fall of the fill below the threshold raises BUFFER_BELOW. -/
theorem State.judgeBuffer_below (was : s.scan.above = true) (fills : s.scan.fills = false) :
    s.judgeBuffer.req.marks = s.req.marks ||| 8 := by
  rw [s.judgeBuffer_of_ne (by rw [was, fills]; decide), fills, State.notice_marks]
  rfl

/-! ## BUFFER_READ and BUFFER_CLEAR (R68, R69) -/

theorem exec_bufferRead (rq : Requester) (running : s.inReset = false) (addressed : s.addressed = true) :
    exec (.bufferRead rq) s = .next ((((s.take (.bufferRead rq)).setScan s.scan.removeOldest).judgeBuffer).reply rq
      0x10 .done (BitVec.ofNat 8 (min 8 s.scan.buffer.length)
        :: (s.scan.buffer.take 8).flatMap Sampled.bytes)) := by
  have count : (s.scan.buffer.take s.scan.readable).length = min 8 s.scan.buffer.length := by
    rw [List.length_take, Scan.readable, Nat.min_assoc, Nat.min_self]
  have oldest : s.scan.buffer.take s.scan.readable = s.scan.buffer.take 8 := by
    rw [Scan.readable, ← List.take_eq_take_min]
  refine (event_of_request s running addressed).trans ?_
  rw [← count, ← oldest]
  rfl

theorem exec_bufferClear (rq : Requester) (running : s.inReset = false) (addressed : s.addressed = true) :
    exec (.bufferClear rq) s = .next ((((s.take (.bufferClear rq)).setScan
      s.scan.removeAll.abandon).judgeBuffer).reply rq 0x11 .done []) :=
  event_of_request s running addressed

theorem Scan.removeOldest_buffer (x : Scan) : x.removeOldest.buffer = x.buffer.drop 8 :=
  List.drop_eq_drop_min.symm

theorem Scan.removeOldest_fills (x : Scan) :
    x.removeOldest.fills = decide (x.settings.bufferThreshold ≤ x.buffer.length - 8) := by
  rw [Scan.fills, Scan.removeOldest_buffer, List.length_drop]
  rfl

theorem Scan.removeOldest_overflowing (x : Scan) :
    x.removeOldest.overflowing = if x.buffer = [] then x.overflowing else false := by
  cases none_ : x.buffer <;> simp [Scan.removeOldest, Scan.readable, none_]

theorem Scan.abandon_eq (x : Scan) : x.abandon = { x with scanner := x.abandon.scanner } := by
  unfold Scan.abandon; split <;> rfl

theorem Scan.abandon_of_scanning {x : Scan} {r : ScanRun} (h : x.scanner = .scanning r) :
    x.abandon.scanner = .idle := by simp only [Scan.abandon, h]

theorem Scan.abandon_of_other {x : Scan} (h : ∀ r, x.scanner ≠ .scanning r) : x.abandon = x := by
  unfold Scan.abandon
  split
  · rename_i r is; exact absurd is (h r)
  · rfl

/-! ## A taken write of one entry (R182) -/

/-- A write of one entry stores it, and its owner acts on it in one event. -/
theorem State.takeWrite_single {t : TableId} {w : Written} {e : Entry} (h : s.parseEntry t w.index w.image = some e) :
    s.takeWrite t [w] = doorEvent (fun n => State.act1 s n w.index e) (s.store1 w.index e) := by
  have acts : State.actAll s t [w] = fun n => State.act1 s n w.index e := by
    funext n
    simp only [State.actAll, List.foldl_cons, List.foldl_nil, h]
  simp only [State.takeWrite, State.storeAll, acts, List.foldl_cons, List.foldl_nil, h]

/-- What moves no door and hands nothing on is no DOOR event. -/
theorem doorEvent_of_same {f : State → State} (door : (f s).door = s.door) (handed : (f s).handed = s.handed) :
    doorEvent f s = f s := by
  have none_ : warningsInOrder [] = [] := rfl
  simp [doorEvent, door, handed, none_]
  rw [← handed, ← door]

theorem code?_of_lt {α : Type} {values : List α} {b : Byte} (h : b.toNat < values.length) :
    ∃ a, code? values b = some a := ⟨_, List.getElem?_eq_getElem h⟩

theorem flag?_of_lt {b : Byte} (h : b.toNat < 2) : ∃ v, flag? b = some v := by
  rcases (by omega : b.toNat = 0 ∨ b.toNat = 1) with zero | one
  · exact ⟨false, by rw [BitVec.eq_of_toNat_eq (x := b) (y := 0) zero]; rfl⟩
  · exact ⟨true, by rw [BitVec.eq_of_toNat_eq (x := b) (y := 1) one]; rfl⟩

theorem readSettings_of_codes {i : Nat} {img : List Byte} (h : ¬ TableId.settings.badCodes i img) :
    ∃ x, readSettings img = some (.settings x) := by
  obtain ⟨trigger, input, test⟩ :
      (imgByte img 0).toNat < 3 ∧ (imgByte img 5).toNat < 2 ∧ (imgByte img 6).toNat < 2 := by
    simpa [TableId.badCodes, imgByte, not_or] using h
  obtain ⟨a, a_is⟩ := code?_of_lt (values := [TriggerSource.rateA, .rateB, .frame]) trigger
  obtain ⟨b, b_is⟩ := code?_of_lt (values := [BInput.reference, .a]) input
  obtain ⟨v, v_is⟩ := flag?_of_lt test
  exact ⟨_, by simp only [readSettings, a_is, b_is, v_is]; rfl⟩

theorem State.takeWrite_settings {w : Written} {x : ScanSettings} (h : readSettings w.image = some (.settings x)) :
    s.takeWrite .settings [w] = (s.setScan { s.scan with settings := x }).judgeBuffer := by
  rw [s.takeWrite_single (t := .settings) (w := w) h]
  refine doorEvent_of_same (f := fun n => n.judgeBuffer) ?_ ?_
  · rw [State.judgeBuffer_frame]
  · rw [State.judgeBuffer_frame]

/-- Settles O23: each of the three writes goes through one judging of the buffer state. -/
theorem bufferReadAndClearRemoveRecords : Obligations.BufferReadAndClearRemoveRecords := by
  refine ⟨fun s rq taken => ?_, fun s rq taken positive => ?_, fun s w _ known => ?_⟩
  · obtain ⟨running, addressed⟩ := taken
    dsimp only
    refine ⟨_, exec_bufferRead rq running addressed, ?_⟩
    have fills : ((s.take (.bufferRead rq)).setScan s.scan.removeOldest).scan.fills
        = decide (s.scan.settings.bufferThreshold ≤ s.scan.buffer.length - 8) := Scan.removeOldest_fills _
    have overflowing := s.scan.removeOldest_overflowing
    rw [State.judgeBuffer_scan, fills]
    refine ⟨Scan.removeOldest_buffer _, rfl, fun some_ => overflowing.trans (if_neg some_),
      fun none_ => overflowing.trans (if_pos none_), rfl, fun was low => ?_, fun same => ?_, rfl, rfl, rfl, ?_, ?_⟩
    · exact State.judgeBuffer_below was (fills.trans (decide_eq_false (by omega)))
    · rw [State.judgeBuffer_of_eq (by rw [fills]; exact same)]
      exact ⟨rfl, rfl⟩
    · rw [State.judgeBuffer_frame]; rfl
    · rw [State.judgeBuffer_frame]; rfl
  · obtain ⟨running, addressed⟩ := taken
    dsimp only
    refine ⟨_, exec_bufferClear rq running addressed, ?_⟩
    have fills : ((s.take (.bufferClear rq)).setScan s.scan.removeAll.abandon).scan.fills = false := by
      rw [State.setScan_scan, Scan.abandon_eq]
      exact decide_eq_false (by simp [Scan.removeAll]; omega)
    rw [State.judgeBuffer_scan, fills, State.setScan_scan]
    refine ⟨by rw [Scan.abandon_eq]; rfl, by rw [Scan.abandon_eq]; rfl, rfl, by rw [Scan.abandon_eq]; rfl,
      by rw [Scan.abandon_eq]; rfl, by rw [Scan.abandon_eq]; rfl, fun ⟨r, is⟩ => Scan.abandon_of_scanning is,
      fun other => (congrArg Scan.scanner (Scan.abandon_of_other (x := s.scan.removeAll) other) :), fun was => ?_, fun was => ?_, ?_,
      by rw [Scan.abandon_eq]; rfl, by rw [Scan.abandon_eq]; rfl, ?_⟩
    · refine State.judgeBuffer_below ?_ fills
      rw [State.setScan_scan, Scan.abandon_eq]
      exact was
    · rw [State.judgeBuffer_of_eq (by rw [fills, State.setScan_scan, Scan.abandon_eq]; exact was)]
      exact ⟨rfl, rfl⟩
    · rw [State.judgeBuffer_frame]; rfl
    · rw [State.judgeBuffer_frame]; rfl
  · obtain ⟨x, read⟩ := readSettings_of_codes known
    dsimp only
    rw [State.takeWrite_settings read, State.judgeBuffer_scan]
    have fills : (s.setScan { s.scan with settings := x }).scan.fills
        = decide (x.bufferThreshold ≤ s.scan.buffer.length) := rfl
    refine ⟨fun same => ?_,
      fun was (rises : decide (x.bufferThreshold ≤ s.scan.buffer.length) = true) => ?_,
      fun was (falls : decide (x.bufferThreshold ≤ s.scan.buffer.length) = false) => ?_⟩
    · rw [State.judgeBuffer_of_eq (by rw [fills]; exact same)]; exact same ▸ rfl
    · rw [State.judgeBuffer_of_ne (by rw [fills, rises, State.setScan_scan, was]; decide), fills]
      exact congrArg (fun k => State.notice _ k 0) (if_pos rises)
    · rw [State.judgeBuffer_of_ne (by rw [fills, falls, State.setScan_scan, was]; decide), fills]
      exact congrArg (fun k => State.notice _ k 0) (if_neg (by rw [falls]; decide))

end Sys2Proof.Machine
end

section
/-! PROOFS. SCAN: a sample handed on (R60 to R67). -/

namespace Sys2Proof.Machine
variable {s t : State}

/-! ## What events hand on -/

/-- The events of `t` are those of `s` and then events of kind `p`. -/
def State.handsOn (p : Instr → Prop) (s t : State) : Prop :=
  ∃ new, t.handed = s.handed ++ new ∧ ∀ i ∈ new, p i

theorem State.handsOn.of_eq {p : Instr → Prop} (h : t.handed = s.handed) : s.handsOn p t := ⟨[], by simp [h], by simp⟩

theorem State.handsOn.trans {p : Instr → Prop} {u : State} (h : s.handsOn p t) (g : t.handsOn p u) : s.handsOn p u := by
  obtain ⟨a, first, ha⟩ := h
  obtain ⟨b, then_, hb⟩ := g
  exact ⟨a ++ b, by rw [then_, first, List.append_assoc], fun i mem => (List.mem_append.mp mem).elim (ha i) (hb i)⟩

/-- A handed event is a condition's change. -/
def isChange (i : Instr) : Prop := ∃ c v u, i = .conditionChange c v u

theorem State.setCond_handsOn (s : State) (c : Fin 64) (v : Bool) : s.handsOn isChange (s.setCond c v) := by
  refine ⟨_, s.setCond_handed_eq c v, fun i mem => ?_⟩
  split at mem
  · simp at mem
  · obtain ⟨u, -, rfl⟩ := List.mem_map.mp mem
    exact ⟨c, v, u, rfl⟩

theorem State.follow_handsOn (s : State) (chosen : Source → Bool) : s.handsOn isChange (s.follow chosen) := by
  refine foldl_holds (s.handsOn isChange) (State.followOne chosen) (fun t c h => ?_) _ s (.of_eq rfl)
  unfold State.followOne
  split
  · exact h.trans (t.setCond_handsOn c _)
  · exact h

/-- A condition whose source is not chosen stands. -/
theorem State.follow_record_of_other (s : State) {chosen : Source → Bool} {c : Fin 64}
    (h : chosen (s.board.conds.row c).source = false) : (s.follow chosen).board.conds.row c = s.board.conds.row c := by
  refine foldl_holds (fun t => t.board.conds.row c = s.board.conds.row c) (State.followOne chosen)
    (fun t c' same => ?_) _ s rfl
  unfold State.followOne
  split
  · rename_i yes
    by_cases is : c' = c
    · rw [is, same, h] at yes
      exact absurd yes (by decide)
    · exact (t.setCond_record_ne _ is).trans same
  · exact same

/-! ## Thresholds of a sample (R62, R65) -/

/-- Records of thresholds and of conditions, and condition changes, are all that moves. -/
def State.thresholdsMove (s t : State) : Prop :=
  t = { s with
    scan := { s.scan with thresholds := t.scan.thresholds }
    board := { s.board with conds := t.board.conds }
    handed := t.handed }
  ∧ (∀ c, (t.board.conds.row c).source = (s.board.conds.row c).source)
  ∧ s.handsOn isChange t

theorem State.thresholdsMove.refl (s : State) : s.thresholdsMove s := ⟨rfl, fun _ => rfl, .of_eq rfl⟩

theorem State.thresholdsMove.trans {u : State} (h : s.thresholdsMove t) (g : t.thresholdsMove u) :
    s.thresholdsMove u := by
  obtain ⟨ht, hs, hh⟩ := h
  obtain ⟨hu, gs, gh⟩ := g
  exact ⟨by rw [hu, ht], fun c => (gs c).trans (hs c), hh.trans gh⟩

variable (ch : Fin 24) (v : Nat)

/-- Threshold record `k` has advanced, its conditions not yet. -/
def State.advanced (s : State) (k : Fin 48) : State :=
  s.setScan { s.scan with thresholds := s.scan.thresholds.put k ((s.scan.thresholds.row k).advance v) }

theorem State.advanceThreshold_cases (s : State) (k : Fin 48) :
    ((s.scan.thresholds.row k).channel ≠ ch ∧ s.advanceThreshold ch v k = s)
    ∨ ((s.scan.thresholds.row k).channel = ch
      ∧ ((s.scan.thresholds.row k).advance v).tripped = (s.scan.thresholds.row k).tripped
      ∧ s.advanceThreshold ch v k = s.advanced v k)
    ∨ ((s.scan.thresholds.row k).channel = ch
      ∧ ((s.scan.thresholds.row k).advance v).tripped ≠ (s.scan.thresholds.row k).tripped
      ∧ s.advanceThreshold ch v k = (s.advanced v k).follow fun src => src == .threshold k) := by
  by_cases names : (s.scan.thresholds.row k).channel = ch
  · by_cases same : ((s.scan.thresholds.row k).advance v).tripped = (s.scan.thresholds.row k).tripped
    · exact .inr (.inl ⟨names, same, (if_pos names).trans (if_pos same)⟩)
    · exact .inr (.inr ⟨names, same, (if_pos names).trans (if_neg same)⟩)
  · exact .inl ⟨names, if_neg names⟩

theorem State.advanced_moves (k : Fin 48) : s.thresholdsMove (s.advanced v k) := ⟨rfl, fun _ => rfl, .of_eq rfl⟩

theorem State.advanced_row (k j : Fin 48) : (s.advanced v k).scan.thresholds.row j =
    if j = k then (s.scan.thresholds.row j).advance v else s.scan.thresholds.row j := by
  simp only [State.advanced, State.setScan_scan]
  by_cases same : j = k
  · subst same; rw [if_pos rfl, Tbl.row_put_self]
  · rw [if_neg same, Tbl.row_put_ne _ _ (Ne.symm same)]

theorem State.follow_thresholdsMove (s : State) (chosen : Source → Bool) : s.thresholdsMove (s.follow chosen) := by
  obtain ⟨frame, sources⟩ := s.follow_boardMoves chosen
  refine ⟨?_, fun c => (sources c).1, s.follow_handsOn chosen⟩
  rw [State.follow_scan]
  exact frame

theorem State.advanceThreshold_moves (s : State) (k : Fin 48) : s.thresholdsMove (s.advanceThreshold ch v k) := by
  rcases s.advanceThreshold_cases ch v k with ⟨-, is⟩ | ⟨-, -, is⟩ | ⟨-, -, is⟩ <;> rw [is]
  · exact .refl s
  · exact s.advanced_moves v k
  · exact (s.advanced_moves v k).trans (State.follow_thresholdsMove _ _)

theorem State.advanceThreshold_row (s : State) (k j : Fin 48) : (s.advanceThreshold ch v k).scan.thresholds.row j =
    if j = k ∧ (s.scan.thresholds.row j).channel = ch then (s.scan.thresholds.row j).advance v
    else s.scan.thresholds.row j := by
  rcases s.advanceThreshold_cases ch v k with ⟨names, is⟩ | ⟨names, -, is⟩ | ⟨names, -, is⟩ <;> rw [is]
  · rw [if_neg]
    rintro ⟨rfl, this⟩
    exact names this
  all_goals
    rw [← names]
    simp only [State.follow_scan, State.advanced_row]
    by_cases same : j = k
    · simp [same]
    · simp [same]

/-- A condition follows a record if the record has changed state, and stands if it has not. -/
def State.followsOver (s t : State) (j : Fin 48) (c : Fin 64) : Prop :=
  ((t.scan.thresholds.row j).tripped ≠ (s.scan.thresholds.row j).tripped →
    t.cond c = (t.scan.thresholds.row j).tripped)
  ∧ ((t.scan.thresholds.row j).tripped = (s.scan.thresholds.row j).tripped →
    t.board.conds.row c = s.board.conds.row c)

theorem State.advanceThreshold_followsOver (s : State) (k j : Fin 48) {c : Fin 64}
    (src : (s.board.conds.row c).source = .threshold j) : s.followsOver (s.advanceThreshold ch v k) j c := by
  rcases s.advanceThreshold_cases ch v k with ⟨-, is⟩ | ⟨-, same, is⟩ | ⟨-, changed, is⟩ <;> rw [is]
  · exact ⟨fun ne => absurd rfl ne, fun _ => rfl⟩
  · refine ⟨fun ne => absurd ?_ ne, fun _ => rfl⟩
    rw [State.advanced_row]
    split
    · rename_i is
      rw [is, same]
    · rfl
  · simp only [State.followsOver, State.follow_scan, State.advanced_row]
    by_cases is : j = k
    · subst is
      rw [if_pos rfl]
      refine ⟨fun _ => ?_, fun same => absurd same changed⟩
      rw [State.cond_follow, show ((s.advanced v j).board.conds.row c).source = .threshold j from src,
        if_pos (beq_self_eq_true _)]
      change ((s.advanced v j).scan.thresholds.row j).tripped = _
      rw [State.advanced_row, if_pos rfl]
    · rw [if_neg is]
      refine ⟨fun ne => absurd rfl ne, fun _ => ?_⟩
      rw [State.follow_record_of_other]
      · rfl
      · change ((s.board.conds.row c).source == _) = false
        rw [src]
        simpa using is

theorem State.advanceThreshold_record_of_other (s : State) (k : Fin 48) {c : Fin 64}
    (src : ∀ j, (s.board.conds.row c).source ≠ .threshold j) :
    (s.advanceThreshold ch v k).board.conds.row c = s.board.conds.row c := by
  rcases s.advanceThreshold_cases ch v k with ⟨-, is⟩ | ⟨-, -, is⟩ | ⟨-, -, is⟩ <;> rw [is]
  · rfl
  · rw [State.follow_record_of_other]
    · rfl
    · change ((s.board.conds.row c).source == _) = false
      simpa using src k

/-! ## Every record of the channel (R62) -/

/-- Records of a list advance. -/
def State.advanceAll (s : State) (l : List (Fin 48)) : State := l.foldl (fun s k => s.advanceThreshold ch v k) s

theorem State.advanceAll_moves (s : State) (l : List (Fin 48)) : s.thresholdsMove (s.advanceAll ch v l) :=
  foldl_holds s.thresholdsMove _ (fun t k h => h.trans (t.advanceThreshold_moves ch v k)) l s (.refl s)

theorem State.advanceAll_row {l : List (Fin 48)} (once : l.Nodup) (s : State) (j : Fin 48) :
    (s.advanceAll ch v l).scan.thresholds.row j =
      if j ∈ l ∧ (s.scan.thresholds.row j).channel = ch then (s.scan.thresholds.row j).advance v
      else s.scan.thresholds.row j := by
  induction l generalizing s with
  | nil => simp [State.advanceAll]
  | cons a l ih =>
    obtain ⟨new, rest_once⟩ := List.nodup_cons.mp once
    rw [State.advanceAll, List.foldl_cons]
    refine (ih rest_once _).trans ?_
    rw [State.advanceThreshold_row]
    by_cases is : j = a
    · subst is; simp [new]
    · simp [is]

theorem State.advanceAll_followsOver {l : List (Fin 48)} (once : l.Nodup) (s : State) {j : Fin 48} {c : Fin 64}
    (src : (s.board.conds.row c).source = .threshold j) : s.followsOver (s.advanceAll ch v l) j c := by
  induction l generalizing s with
  | nil => exact ⟨fun ne => absurd rfl ne, fun _ => rfl⟩
  | cons a l ih =>
    obtain ⟨new, rest_once⟩ := List.nodup_cons.mp once
    have first := s.advanceThreshold_followsOver ch v a j src
    have rest := ih rest_once _ (((s.advanceThreshold_moves ch v a).2.1 c).trans src)
    change s.followsOver ((s.advanceThreshold ch v a).advanceAll ch v l) j c
    by_cases is : j = a
    · subst is
      have stands : ((s.advanceThreshold ch v j).advanceAll ch v l).scan.thresholds.row j =
          (s.advanceThreshold ch v j).scan.thresholds.row j := by
        rw [State.advanceAll_row ch v rest_once, if_neg fun h => new h.1]
      have record := rest.2 (by rw [stands])
      simp only [State.followsOver, State.cond, stands, record] at first ⊢
      exact first
    · have stands : (s.advanceThreshold ch v a).scan.thresholds.row j = s.scan.thresholds.row j := by
        rw [State.advanceThreshold_row, if_neg fun h => is h.1]
      have record := first.2 (by rw [stands])
      simp only [State.followsOver, stands, record] at rest ⊢
      exact rest

theorem State.advanceAll_record_of_other (l : List (Fin 48)) (s : State) {c : Fin 64}
    (src : ∀ j, (s.board.conds.row c).source ≠ .threshold j) :
    (s.advanceAll ch v l).board.conds.row c = s.board.conds.row c := by
  induction l generalizing s with
  | nil => rfl
  | cons a l ih =>
    have moved := (s.advanceThreshold_moves ch v a).2.1 c
    exact (ih _ (fun j is => src j (moved.symm.trans is))).trans (s.advanceThreshold_record_of_other ch v a src)

/-! ## The steps of a sample (R60 to R63) -/

/-- The channel has its scaled value (R61). -/
def State.measured (s : State) (raw : Nat) : State :=
  s.setScan { s.scan with sensors := s.scan.sensors.put ch { s.scan.sensors.row ch with
    last := (s.scan.sensors.row ch).scale raw, samples := (s.scan.sensors.row ch).samples + 1 } }

/-- The channel has its scaled value, and its threshold records have advanced (R61, R62). -/
def State.scaled (s : State) (raw : Nat) : State :=
  (s.measured ch raw).advanceAll ch ((s.scan.sensors.row ch).scale raw) (List.finRange 48)

/-- The sample of a logged channel is stored (R66). -/
def State.logs (s : State) (ch : Fin 24) (v : Nat) : State :=
  if (s.scan.sensors.row ch).logged = true then s.store { channel := ch, value := v, scan := s.scan.scanNumber } else s

/-- The position samples of a channel's value, one for each ramp that names the channel (R62). -/
def State.positions (s : State) (ch : Fin 24) (v : Nat) : List Instr :=
  ((List.finRange 4).filter fun m => (s.plan.ramps.row m).position == some ch).map fun m => .positionSample m v

theorem State.scaled_moves (s : State) (raw : Nat) :
    ∃ ss ts cs hs, s.scaled ch raw = { s with
      scan := { s.scan with sensors := ss, thresholds := ts }, board := { s.board with conds := cs }, handed := hs } := by
  obtain ⟨frame, -, -⟩ := State.advanceAll_moves ch ((s.scan.sensors.row ch).scale raw)
    (s.measured ch raw) (List.finRange 48)
  exact ⟨_, _, _, _, frame⟩

theorem State.scaled_sensors (s : State) (raw : Nat) (other : Fin 24) : (s.scaled ch raw).scan.sensors.row other =
    if other = ch then { s.scan.sensors.row ch with
      last := (s.scan.sensors.row ch).scale raw, samples := (s.scan.sensors.row ch).samples + 1 }
    else s.scan.sensors.row other := by
  obtain ⟨frame, -, -⟩ := State.advanceAll_moves ch ((s.scan.sensors.row ch).scale raw)
    (s.measured ch raw) (List.finRange 48)
  rw [State.scaled, frame]
  change (s.scan.sensors.put ch _).row other = _
  by_cases is : other = ch
  · subst is; rw [if_pos rfl, Tbl.row_put_self]
  · rw [if_neg is, Tbl.row_put_ne _ _ (Ne.symm is)]

theorem State.sampled_eq (s : State) (raw : Nat) : s.sampled ch raw =
    ((s.scaled ch raw).logs ch ((s.scan.sensors.row ch).scale raw)).handAll
      (s.positions ch ((s.scan.sensors.row ch).scale raw)) := by
  have logged : ((s.scaled ch raw).scan.sensors.row ch).logged = (s.scan.sensors.row ch).logged := by
    rw [State.scaled_sensors, if_pos rfl]
  have same : ((s.scaled ch raw).logs ch ((s.scan.sensors.row ch).scale raw)).plan = s.plan := by
    obtain ⟨ss, ts, cs, hs, moved⟩ := s.scaled_moves ch raw
    rw [moved, State.logs]
    split
    · rw [State.store, State.judgeBuffer_frame]; rfl
    · rfl
  have positions : s.positions ch ((s.scan.sensors.row ch).scale raw) =
      ((s.scaled ch raw).logs ch ((s.scan.sensors.row ch).scale raw)).positions ch ((s.scan.sensors.row ch).scale raw) := by
    simp only [State.positions, same]
  rw [positions, State.logs, logged]
  unfold State.sampled
  simp only [State.positions, State.scaled, State.measured, State.advanceAll]

/-- Storing a sample moves the buffer's account, the buffer state, the two ports and the marks alone. -/
theorem State.logs_moves (s : State) (ch : Fin 24) (v : Nat) :
    ∃ buffer stored above discarded overflow overflowing up dn marks, s.logs ch v = { s with
      scan := { s.scan with
        buffer := buffer, stored := stored, above := above, discarded := discarded, overflow := overflow
        overflowing := overflowing }
      line := { s.line with up := up, dn := dn }
      req := { s.req with marks := marks } } := by
  unfold State.logs
  split
  · rw [State.store, State.judgeBuffer_frame, State.setScan_scan, Scan.store]
    split <;> exact ⟨_, _, _, _, _, _, _, _, _, rfl⟩
  · exact ⟨_, _, _, _, _, _, _, _, _, rfl⟩

/-- The next slot or the end of the scan moves the scanner, the kind and wetting in effect, SCAN_VALID and the
events handed on alone. -/
theorem State.nextSlot_moves (s : State) (r : ScanRun) :
    ∃ fs x, s.nextSlot r = { s with
      scan := { s.scan with frontEnds := fs, scanner := x }
      board := { s.board with conds := (s.nextSlot r).board.conds }, handed := (s.nextSlot r).handed } := by
  unfold State.nextSlot
  split
  · rw [Scan.beginSlot_eq]
    exact ⟨_, _, rfl⟩
  · rw [State.scanComplete, State.setCond_frame]
    exact ⟨_, _, rfl⟩

theorem State.nextSlot_record (s : State) (r : ScanRun) {c : Fin 64} (other : c ≠ 1) :
    (s.nextSlot r).board.conds.row c = s.board.conds.row c := by
  unfold State.nextSlot
  split
  · rfl
  · exact State.setCond_record_ne _ _ other.symm

/-- No handed event is a position sample. -/
def noPosition (i : Instr) : Prop := ∀ m w, i ≠ .positionSample m w

theorem isChange.noPosition {i : Instr} (h : isChange i) : noPosition i := by
  obtain ⟨c, v, u, rfl⟩ := h
  exact fun _ _ => nofun

theorem State.handsOn.mono {p q : Instr → Prop} (h : s.handsOn p t) (less : ∀ i, p i → q i) : s.handsOn q t := by
  obtain ⟨new, is, all⟩ := h
  exact ⟨new, is, fun i mem => less i (all i mem)⟩

theorem State.nextSlot_handsOn (s : State) (r : ScanRun) : s.handsOn noPosition (s.nextSlot r) := by
  unfold State.nextSlot
  split
  · exact .of_eq rfl
  · refine ((State.setCond_handsOn _ _ _).mono fun _ => isChange.noPosition).trans (t := ((s.setScan { s.scan with
      scanner := .idle }).setCond condScanValid true)) ⟨[.doorDerivation], rfl, fun i mem => ?_⟩
    rw [List.mem_singleton.mp mem]
    exact fun _ _ => nofun

theorem State.scaled_handsOn (s : State) (raw : Nat) : s.handsOn noPosition (s.scaled ch raw) := by
  obtain ⟨-, -, hands⟩ := State.advanceAll_moves ch ((s.scan.sensors.row ch).scale raw)
    (s.measured ch raw) (List.finRange 48)
  exact hands.mono fun _ => isChange.noPosition

theorem State.mem_positions {i : Instr} {v : Nat} : i ∈ s.positions ch v ↔
    ∃ m, (s.plan.ramps.row m).position = some ch ∧ i = .positionSample m v := by
  simp only [State.positions, List.mem_map, List.mem_filter, List.mem_finRange, true_and, beq_iff_eq]
  exact exists_congr fun m => and_congr_right fun _ => eq_comm

theorem State.count_positions (s : State) (v : Nat) (m : Fin 4) : (s.positions ch v).count (.positionSample m v) =
    if (s.plan.ramps.row m).position = some ch then 1 else 0 := by
  rw [State.positions, List.count_map_of_injective _ (fun m => Instr.positionSample m v)
    fun a b same => (Instr.positionSample.inj same).1]
  split
  · rename_i names
    rw [List.count_filter (by simpa using names),
      List.count_eq_one_of_mem (List.nodup_finRange 4) (List.mem_finRange m)]
  · rename_i names
    exact List.count_eq_zero.mpr fun mem => names (by simpa using (List.mem_filter.mp mem).2)

theorem count_position_eq_zero {l : List Instr} (h : ∀ i ∈ l, noPosition i) (m : Fin 4) (v : Nat) :
    l.count (.positionSample m v) = 0 :=
  List.count_eq_zero.mpr fun mem => h _ mem m v rfl

theorem exec_sample {raw : Fin 4096} {r : ScanRun} {ch : Fin 24} (running : s.inReset = false)
    (scanning : s.scan.scanner = .scanning r) (converting : r.converting = true) (slot : r.channel = some ch) :
    exec (.sample raw) s = .next (((s.take (.sample raw)).sampled ch raw.val).nextSlot r) := by
  change execSample raw s = _
  rw [execSample, event_of_running _ _ _ running]
  simp only [State.take_scan, scanning, converting, slot, if_true]

theorem State.logs_of_quiet {v : Nat} (h : (s.scan.sensors.row ch).logged = false) : s.logs ch v = s :=
  if_neg (by rw [h]; decide)

theorem State.logs_of_logged {v : Nat} (h : (s.scan.sensors.row ch).logged = true) : s.logs ch v =
    (s.setScan (s.scan.store { channel := ch, value := v, scan := s.scan.scanNumber })).judgeBuffer := if_pos h

theorem Scan.store_moves (x : Scan) (rec : Sampled) : ∃ buffer stored discarded overflow overflowing,
    x.store rec = { x with
      buffer := buffer, stored := stored, discarded := discarded, overflow := overflow, overflowing := overflowing } := by
  unfold Scan.store
  split <;> exact ⟨_, _, _, _, _, rfl⟩

theorem Scan.store_above (x : Scan) (rec : Sampled) : (x.store rec).above = x.above := by
  obtain ⟨_, _, _, _, _, moved⟩ := x.store_moves rec
  rw [moved]

theorem Scan.store_settings (x : Scan) (rec : Sampled) : (x.store rec).settings = x.settings := by
  obtain ⟨_, _, _, _, _, moved⟩ := x.store_moves rec
  rw [moved]

/-- A sample's outcome, by what stored it: only the scanner, the kind and wetting in effect, the conditions and the
events handed on move after it. -/
theorem State.sampled_nextSlot (s : State) (raw : Nat) (r : ScanRun) :
    ∃ fs x, (s.sampled ch raw).nextSlot r =
      { (s.scaled ch raw).logs ch ((s.scan.sensors.row ch).scale raw) with
        scan := { ((s.scaled ch raw).logs ch ((s.scan.sensors.row ch).scale raw)).scan with
          frontEnds := fs, scanner := x }
        board := { ((s.scaled ch raw).logs ch ((s.scan.sensors.row ch).scale raw)).board with
          conds := ((s.sampled ch raw).nextSlot r).board.conds }
        handed := ((s.sampled ch raw).nextSlot r).handed } := by
  obtain ⟨fs, x, moved⟩ := (s.sampled ch raw).nextSlot_moves r
  refine ⟨fs, x, ?_⟩
  rw [State.sampled_eq] at moved ⊢
  generalize s.positions ch ((s.scan.sensors.row ch).scale raw) = ps at moved ⊢
  generalize (s.scaled ch raw).logs ch ((s.scan.sensors.row ch).scale raw) = w at moved ⊢
  exact moved

theorem State.logs_board (s : State) (ch : Fin 24) (v : Nat) : (s.logs ch v).board = s.board := by
  obtain ⟨_, _, _, _, _, _, _, _, _, moved⟩ := s.logs_moves ch v
  rw [moved]

theorem State.logs_handed (s : State) (ch : Fin 24) (v : Nat) : (s.logs ch v).handed = s.handed := by
  obtain ⟨_, _, _, _, _, _, _, _, _, moved⟩ := s.logs_moves ch v
  rw [moved]

theorem State.logs_sensors (s : State) (ch : Fin 24) (v : Nat) : (s.logs ch v).scan.sensors = s.scan.sensors := by
  obtain ⟨_, _, _, _, _, _, _, _, _, moved⟩ := s.logs_moves ch v
  rw [moved]

theorem State.logs_thresholds (s : State) (ch : Fin 24) (v : Nat) :
    (s.logs ch v).scan.thresholds = s.scan.thresholds := by
  obtain ⟨_, _, _, _, _, _, _, _, _, moved⟩ := s.logs_moves ch v
  rw [moved]

theorem State.scaled_thresholds (s : State) (raw : Nat) (k : Fin 48) : (s.scaled ch raw).scan.thresholds.row k =
    if (s.scan.thresholds.row k).channel = ch then (s.scan.thresholds.row k).advance ((s.scan.sensors.row ch).scale raw)
    else s.scan.thresholds.row k := by
  rw [State.scaled, State.advanceAll_row _ _ (List.nodup_finRange 48)]
  simp only [List.mem_finRange, true_and]
  rfl

theorem State.scaled_followsOver (s : State) (raw : Nat) {j : Fin 48} {c : Fin 64}
    (src : (s.board.conds.row c).source = .threshold j) : s.followsOver (s.scaled ch raw) j c := by
  have over_ : (s.measured ch raw).followsOver (s.scaled ch raw) j c := by
    rw [State.scaled]
    exact State.advanceAll_followsOver _ _ (List.nodup_finRange 48) _ src
  exact over_

theorem State.scaled_record_of_other (s : State) (raw : Nat) {c : Fin 64}
    (src : ∀ j, (s.board.conds.row c).source ≠ .threshold j) :
    (s.scaled ch raw).board.conds.row c = s.board.conds.row c := by
  rw [State.scaled, State.advanceAll_record_of_other ch _ _ (s.measured ch raw) src]
  rfl

/-- The events of a sample: condition changes, the position samples, and the end of the scan (R62, R63). -/
theorem State.sampled_nextSlot_handed (s : State) (raw : Nat) (r : ScanRun) :
    ∃ a b, ((s.sampled ch raw).nextSlot r).handed =
        s.handed ++ (a ++ s.positions ch ((s.scan.sensors.row ch).scale raw) ++ b)
      ∧ (∀ i ∈ a, noPosition i) ∧ ∀ i ∈ b, noPosition i := by
  obtain ⟨a, first, before⟩ := s.scaled_handsOn ch raw
  obtain ⟨b, last, after⟩ := (s.sampled ch raw).nextSlot_handsOn r
  refine ⟨a, b, ?_, before, after⟩
  rw [last, State.sampled_eq, State.handAll_handed, State.logs_handed, first]
  simp only [List.append_assoc]

theorem State.scaled_frame (s : State) (raw : Nat) : s.scaled ch raw = { s with
    scan := { s.scan with sensors := (s.scaled ch raw).scan.sensors, thresholds := (s.scaled ch raw).scan.thresholds }
    board := { s.board with conds := (s.scaled ch raw).board.conds }, handed := (s.scaled ch raw).handed } := by
  obtain ⟨ss, ts, cs, hs, moved⟩ := s.scaled_moves ch raw
  rw [moved]

theorem State.nextSlot_inner {r : ScanRun} (inner : r.slot + 1 < r.list.length) :
    s.nextSlot r = s.setScan (s.scan.beginSlot { r with slot := r.slot + 1 }) := if_pos inner

theorem State.nextSlot_last {r : ScanRun} (last : r.list.length ≤ r.slot + 1) : s.nextSlot r = s.scanComplete :=
  if_neg (by omega)

/-- The channel is scaled, its thresholds have advanced, and its sample is stored (R61, R62, R66). -/
def State.noted (s : State) (raw : Nat) : State := (s.scaled ch raw).logs ch ((s.scan.sensors.row ch).scale raw)

/-- What the next slot or the end of the scan leaves of a sample. -/
theorem State.sample_keeps (s : State) (raw : Nat) (r : ScanRun) :
    let t := (s.sampled ch raw).nextSlot r
    let w := s.noted ch raw
    t.scan = { w.scan with frontEnds := t.scan.frontEnds, scanner := t.scan.scanner }
    ∧ t.req = w.req ∧ t.line = w.line := by
  obtain ⟨fs, x, moved⟩ := s.sampled_nextSlot ch raw r
  dsimp only
  rw [State.noted, moved]
  generalize (s.scaled ch raw).logs ch ((s.scan.sensors.row ch).scale raw) = w
  exact ⟨rfl, rfl, rfl⟩

theorem State.noted_sensors (s : State) (raw : Nat) : (s.noted ch raw).scan.sensors = (s.scaled ch raw).scan.sensors := by
  rw [State.noted, State.logs_sensors]

theorem State.noted_thresholds (s : State) (raw : Nat) :
    (s.noted ch raw).scan.thresholds = (s.scaled ch raw).scan.thresholds := by
  rw [State.noted, State.logs_thresholds]

theorem State.scaled_logged (s : State) (raw : Nat) :
    ((s.scaled ch raw).scan.sensors.row ch).logged = (s.scan.sensors.row ch).logged := by
  rw [State.scaled_sensors, if_pos rfl]

theorem State.noted_of_quiet {raw : Nat} (h : (s.scan.sensors.row ch).logged = false) :
    (s.noted ch raw).scan.buffer = s.scan.buffer ∧ (s.noted ch raw).scan.above = s.scan.above
    ∧ (s.noted ch raw).req = s.req ∧ (s.noted ch raw).line = s.line := by
  rw [State.noted, State.logs_of_quiet ch ((s.scaled_logged ch raw).trans h)]
  obtain ⟨_, _, _, _, moved⟩ := s.scaled_moves ch raw
  rw [moved]
  exact ⟨rfl, rfl, rfl, rfl⟩

/-- The record that a sample stores (R66). -/
def State.newRecord (s : State) (ch : Fin 24) (raw : Nat) : Sampled :=
  { channel := ch, value := (s.scan.sensors.row ch).scale raw, scan := s.scan.scanNumber }

/-- A logged sample is stored, and the buffer state is judged once. -/
theorem State.noted_of_logged {raw : Nat} (h : (s.scan.sensors.row ch).logged = true) : ∃ v : State,
    s.noted ch raw = v.judgeBuffer ∧ v.req = s.req ∧ v.line = s.line
    ∧ v.scan = { s.scan.store (s.newRecord ch raw) with
        sensors := v.scan.sensors, thresholds := v.scan.thresholds } := by
  refine ⟨_, State.logs_of_logged ch ((s.scaled_logged ch raw).trans h), ?_⟩
  obtain ⟨_, _, _, _, moved⟩ := s.scaled_moves ch raw
  rw [moved]
  refine ⟨rfl, rfl, ?_⟩
  unfold Scan.store
  simp only [State.setScan_scan, State.newRecord]
  split <;> rfl

theorem Scan.store_of_room {x : Scan} (rec : Sampled) (room : x.buffer.length < 512) :
    (x.store rec).buffer = x.buffer ++ [rec] ∧ (x.store rec).stored = min (x.stored + 1) 65535 := by
  rw [Scan.store, if_pos room]
  exact ⟨rfl, rfl⟩

theorem Scan.store_of_full {x : Scan} (rec : Sampled) (full : 512 ≤ x.buffer.length) :
    (x.store rec).buffer = x.buffer ∧ (x.store rec).discarded = min (x.discarded + 1) 65535
    ∧ (x.store rec).overflowing = true
    ∧ (x.overflowing = false → (x.store rec).overflow = min (x.overflow + 1) 65535)
    ∧ (x.overflowing = true → (x.store rec).overflow = x.overflow) := by
  rw [Scan.store, if_neg (by omega)]
  exact ⟨rfl, rfl, rfl, fun was => if_neg (by rw [was]; decide), fun was => if_pos was⟩

/-- The conditions after a sample (R41, R62). -/
theorem State.sample_conds (s : State) (raw : Nat) (r : ScanRun) {c : Fin 64} (other : c ≠ 1) :
    ((s.sampled ch raw).nextSlot r).board.conds.row c = (s.scaled ch raw).board.conds.row c := by
  rw [State.nextSlot_record _ _ other, State.sampled_eq, State.handAll_board, State.logs_board]

/-- The position samples among the events of a sample (R62). -/
theorem State.sample_positions (s : State) (raw : Nat) (r : ScanRun) :
    let v := (s.scan.sensors.row ch).scale raw
    let new := ((s.sampled ch raw).nextSlot r).handed.drop s.handed.length
    (∀ m, new.count (.positionSample m v) = if (s.plan.ramps.row m).position = some ch then 1 else 0)
    ∧ ∀ m w, .positionSample m w ∈ new → w = v := by
  obtain ⟨a, b, handed, before, after⟩ := s.sampled_nextSlot_handed ch raw r
  dsimp only
  rw [handed, List.drop_left]
  refine ⟨fun m => ?_, fun m w mem => ?_⟩
  · rw [List.count_append, List.count_append, count_position_eq_zero before, count_position_eq_zero after,
      State.count_positions, Nat.zero_add, Nat.add_zero]
  · simp only [List.mem_append] at mem
    rcases mem with (mem | mem) | mem
    · exact absurd rfl (before _ mem m w)
    · obtain ⟨m', -, is⟩ := (State.mem_positions ch).mp mem
      exact (Instr.positionSample.inj is).2
    · exact absurd rfl (after _ mem m w)

/-- The next slot begins with the kind and wetting of its channel as they stand (R53, R60). -/
theorem State.nextSlot_of_inner {r : ScanRun} (inner : r.slot + 1 < r.list.length) :
    ∃ r', (s.nextSlot r).scan.scanner = .scanning r'
      ∧ r'.list = r.list ∧ r'.slot = r.slot + 1 ∧ r'.start = r.start
      ∧ r'.interval = r.interval ∧ r'.converting = false
      ∧ ∀ next, r.list[r.slot + 1]? = some next →
          (s.nextSlot r).scan.frontEnds.row next = (s.scan.sensors.row next).frontEnd
          ∧ r'.wetted = (s.scan.sensors.row next).frontEnd.wets
          ∧ ∀ other, other ≠ next → (s.nextSlot r).scan.frontEnds.row other = s.scan.frontEnds.row other := by
  rw [State.nextSlot_inner inner, State.setScan_scan]
  refine ⟨_, Scan.beginSlot_scanner _ _, rfl, rfl, rfl, rfl, rfl, fun next is => ?_⟩
  have channel : ScanRun.channel { r with slot := r.slot + 1 } = some next := is
  rw [channel]
  refine ⟨by rw [Scan.beginSlot_frontEnds, channel, if_pos rfl], rfl, fun other ne => ?_⟩
  rw [Scan.beginSlot_frontEnds, channel, if_neg fun is => ne (Option.some.inj is).symm]

/-- The scan is complete (R63). -/
theorem State.nextSlot_of_last {r : ScanRun} (last : r.list.length ≤ r.slot + 1) :
    (s.nextSlot r).scan.scanner = .idle ∧ (s.nextSlot r).cond 1 = true
    ∧ (s.nextSlot r).handed.getLast? = some .doorDerivation := by
  rw [State.nextSlot_last last]
  refine ⟨by simp [State.scanComplete], ?_, List.getLast?_concat⟩
  exact State.setCond_cond_self _ _ _

/-- Settles O22, through the steps of a sample: the scaled value with its thresholds, the store, the position
samples, and the next slot or the end of the scan. -/
theorem sampleIsHandedOn : Obligations.SampleIsHandedOn := by
  intro s raw r ch running scanning converting slot
  dsimp only
  change ∃ t : State, _ ∧ t.scan.sensors.row ch = { s.scan.sensors.row ch with
    last := (s.scan.sensors.row ch).scale raw, samples := (s.scan.sensors.row ch).samples + 1 } ∧ _
  refine ⟨_, exec_sample running scanning converting slot, ?_⟩
  let u := s.take (.sample raw)
  obtain ⟨scan, req, line⟩ := u.sample_keeps ch raw r
  have conds {c : Fin 64} := u.sample_conds ch raw r (c := c)
  obtain ⟨positions, values⟩ := u.sample_positions ch raw r
  have sensors : ((u.sampled ch raw).nextSlot r).scan.sensors = (u.scaled ch raw).scan.sensors := by
    rw [scan, ← u.noted_sensors]
  have thresholds : ((u.sampled ch raw).nextSlot r).scan.thresholds = (u.scaled ch raw).scan.thresholds := by
    rw [scan, ← u.noted_thresholds]
  refine ⟨?_, ?_, ?_, ?_, ?_, ?_, ?_, ?_, positions, values, ?_, ?_, ?_, ?_⟩
  · rw [sensors, State.scaled_sensors, if_pos rfl]; rfl
  · intro other ne
    rw [sensors, State.scaled_sensors, if_neg ne]; rfl
  · intro k names
    rw [thresholds, State.scaled_thresholds]; exact if_pos names
  · intro k names
    rw [thresholds, State.scaled_thresholds]; exact if_neg names
  · intro quiet
    obtain ⟨buffer, above, reqs, lines⟩ := State.noted_of_quiet (s := u) ch (raw := raw) quiet
    rw [scan, req, line, reqs, lines, buffer, above]
    exact ⟨rfl, rfl, rfl, rfl⟩
  · intro logged
    obtain ⟨v, is, vreq, vline, vscan⟩ := State.noted_of_logged (s := u) ch (raw := raw) logged
    have was : v.scan.above = s.scan.above := by rw [vscan]; exact Scan.store_above _ _
    have threshold : v.scan.settings.bufferThreshold = s.scan.settings.bufferThreshold := by
      rw [vscan]; exact congrArg ScanSettings.bufferThreshold (Scan.store_settings _ _)
    rw [scan, req, line, is, State.judgeBuffer_scan]
    change v.scan.fills = decide (s.scan.settings.bufferThreshold ≤ v.scan.buffer.length)
      ∧ (_ → decide (s.scan.settings.bufferThreshold ≤ v.scan.buffer.length) = true → _)
      ∧ (_ = decide (s.scan.settings.bufferThreshold ≤ v.scan.buffer.length) → _)
    rw [← threshold]
    refine ⟨rfl, fun below fills => ?_, fun same => ?_⟩
    · have rises := State.judgeBuffer_above (was.trans below) fills
      rw [vreq, vline] at rises
      exact rises
    · rw [State.judgeBuffer_of_eq (was.trans same)]
      exact ⟨vreq, vline⟩
  · intro logged room
    obtain ⟨v, is, -, -, vscan⟩ := State.noted_of_logged (s := u) ch (raw := raw) logged
    rw [scan, is, State.judgeBuffer_scan, vscan]
    exact Scan.store_of_room _ room
  · intro logged full
    obtain ⟨v, is, -, -, vscan⟩ := State.noted_of_logged (s := u) ch (raw := raw) logged
    rw [scan, is, State.judgeBuffer_scan, vscan]
    exact Scan.store_of_full _ full
  · intro c k src assigned
    rw [thresholds, State.cond, conds (by rintro rfl; exact absurd assigned (by decide))]
    exact State.scaled_followsOver (s := u) ch raw src
  · intro c ne src
    rw [conds ne]
    exact State.scaled_record_of_other (s := u) ch raw src
  · intro inner
    obtain ⟨r', is, list, at_, start, interval, dwelling, begins⟩ :=
      State.nextSlot_of_inner (s := u.sampled ch raw) inner
    refine ⟨r', is, list, at_, start, interval, dwelling, fun next stands => ?_⟩
    obtain ⟨front, wets, others⟩ := begins next stands
    have kept : (u.sampled ch raw).scan.frontEnds = s.scan.frontEnds := by
      obtain ⟨_, _, _, _, _, _, _, _, _, logs⟩ := (u.scaled ch raw).logs_moves ch ((u.scan.sensors.row ch).scale raw)
      rw [State.sampled_eq, State.handAll_scan, logs, State.scaled_frame]
      rfl
    have asked : ((u.sampled ch raw).scan.sensors.row next).frontEnd = (s.scan.sensors.row next).frontEnd := by
      rw [State.sampled_eq, State.handAll_scan, State.logs_sensors, State.scaled_sensors]
      split
      · rename_i same; subst same; rfl
      · rfl
    rw [kept] at others
    rw [asked] at front wets
    exact ⟨front, by rw [wets, FrontEnd.wets_iff]; rfl, others⟩
  · intro last
    exact State.nextSlot_of_last last

end Sys2Proof.Machine
end

section
/-! PROOFS. The timers' structure, and what a settled timer holds (R99 to R104, R110, R111). -/

namespace Sys2Proof.Machine
variable {s t : State}

/-! ## Pairs (R110, R111) -/

theorem partner_ne (ch : Fin 16) : partner ch ≠ ch := by
  revert ch; decide

theorem partner_partner (ch : Fin 16) : partner (partner ch) = ch := by
  revert ch; decide

theorem mem_members {cs : Chans} {h m : Fin 16} : m ∈ members cs h ↔ m = h ∨ (paired cs h = true ∧ m = partner h) := by
  unfold members
  split <;> simp [*]

theorem head_mem_members (cs : Chans) (h : Fin 16) : h ∈ members cs h := mem_members.mpr (.inl rfl)

theorem members_nodup (cs : Chans) (h : Fin 16) : (members cs h).Nodup := by
  unfold members
  split
  · simp [(partner_ne h).symm]
  · simp

/-! ## Tables with the same settings -/

/-- The settings stand. -/
def Chans.sameSet (cs cs' : Chans) : Prop := ∀ ch, (cs'.row ch).set = (cs.row ch).set

/-- The settings and the RUNNING marks of TRIGGER timers stand. -/
def Chans.sameTimers (cs cs' : Chans) : Prop := Chans.sameSet cs cs' ∧ ∀ ch, (cs'.row ch).running = (cs.row ch).running

section
variable {cs cs' : Chans}

theorem head_congr (same : Chans.sameSet cs cs') (ch : Fin 16) : head cs' ch = head cs ch := by
  simp only [head, same (evenOf ch)]

theorem paired_congr (same : Chans.sameSet cs cs') (h : Fin 16) : paired cs' h = paired cs h := by
  simp only [paired, same h]

theorem members_congr (same : Chans.sameSet cs cs') (h : Fin 16) : members cs' h = members cs h := by
  simp only [members, paired_congr same]

theorem actingMode_congr (same : Chans.sameSet cs cs') (ch : Fin 16) : actingMode cs' ch = actingMode cs ch := by
  simp only [actingMode, head_congr same, same (head cs ch)]

theorem hasPeriod_congr (same : Chans.sameSet cs cs') (h : Fin 16) : hasPeriod cs' h = hasPeriod cs h := by
  unfold Chans.sameSet at same
  simp only [hasPeriod, members_congr same, same]

theorem tickDue_congr (same : Chans.sameSet cs cs') (h : Fin 16) (n : Nat) : tickDue cs' h n = tickDue cs h n := by
  unfold Chans.sameSet at same
  simp only [tickDue, paired_congr same, same]

theorem heldByTrigger_congr (same : Chans.sameTimers cs cs') (h : Fin 16) :
    heldByTrigger cs' h = heldByTrigger cs h := by
  simp only [heldByTrigger, same.1 h, same.2 h]

theorem countingHead_congr (same : Chans.sameTimers cs cs') (h : Fin 16) : countingHead cs' h = countingHead cs h := by
  simp only [countingHead, same.1 h, hasPeriod_congr same.1, heldByTrigger_congr same]

theorem counting_congr (same : Chans.sameTimers cs cs') (ch : Fin 16) : counting cs' ch = counting cs ch := by
  simp only [counting, head_congr same.1, countingHead_congr same]

theorem Chans.sameTimers_put {ch : Fin 16} {c : Channel} (set : c.set = (cs.row ch).set)
    (running : c.running = (cs.row ch).running) : Chans.sameTimers cs (cs.put ch c) := by
  constructor <;> intro ch' <;> rw [Tbl.row_put] <;> split
  · rename_i is; rw [← is, set]
  · rfl
  · rename_i is; rw [← is, running]
  · rfl

end

/-! ## Changing every channel of a timer -/

theorem onMembers_row (cs : Chans) (h : Fin 16) (f : Channel → Channel) (m : Fin 16) :
    (onMembers cs h f).row m = if m ∈ members cs h then f (cs.row m) else cs.row m := by
  unfold onMembers members
  split
  · simp only [List.foldl_cons, List.foldl_nil, Tbl.row_put, List.mem_cons, List.not_mem_nil, or_false]
    by_cases one : m = h
    · subst one
      simp [partner_ne]
    · by_cases two : m = partner h
      · subst two
        simp [partner_ne, (partner_ne h).symm]
      · simp [one, two, Ne.symm one, Ne.symm two]
  · simp only [List.foldl_cons, List.foldl_nil, Tbl.row_put, List.mem_singleton]
    by_cases one : m = h
    · simp [one]
    · simp [one, Ne.symm one]

theorem onMembers_sameTimers (cs : Chans) (h : Fin 16) {f : Channel → Channel} (set : ∀ c, (f c).set = c.set)
    (running : ∀ c, (f c).running = c.running) : Chans.sameTimers cs (onMembers cs h f) := by
  constructor <;> intro m <;> rw [onMembers_row] <;> split
  · exact set _
  · rfl
  · exact running _
  · rfl

theorem onMembers_onMembers (cs : Chans) (h : Fin 16) {f g : Channel → Channel} (set : ∀ c, (f c).set = c.set) :
    onMembers (onMembers cs h f) h g = onMembers cs h fun c => g (f c) := by
  have same : Chans.sameSet cs (onMembers cs h f) := fun m => by
    rw [onMembers_row]; split
    · exact set _
    · rfl
  refine Chans.ext_row fun m => ?_
  rw [onMembers_row, onMembers_row, onMembers_row, members_congr same]
  split <;> rfl

/-! ## A settled timer (R99, R101, R104) -/

/-- What settling makes of a channel of timer `h`. -/
def settled (cs : Chans) (h : Fin 16) (c : Channel) : Channel :=
  { c with
    count := if countingHead cs h then c.count else 0
    aInForce := if (cs.row h).set.mode == .pwm && !hasPeriod cs h then c.set.cmpA else c.aInForce
    timerOut := if (cs.row h).set.mode == .steady then c.requested
      else if (cs.row h).set.mode == .pwm then pwmOut cs h else c.timerOut }

theorem pwmOut_of_still {cs : Chans} {h : Fin 16} (still : countingHead cs h = false)
    (pwm : (cs.row h).set.mode = .pwm) : pwmOut cs h = false := by
  unfold pwmOut
  rw [if_pos]
  cases period : hasPeriod cs h <;> cases held : heldByTrigger cs h <;> simp_all [countingHead]

theorem onMembers_id (cs : Chans) (h : Fin 16) {f : Channel → Channel} (id_ : ∀ c, f c = c) : onMembers cs h f = cs :=
  Chans.ext_row fun m => by rw [onMembers_row, id_]; split <;> rfl

/-- The counts of a timer that is not counting are 0. -/
def stilled (cs : Chans) (h : Fin 16) : Chans :=
  onMembers cs h fun c => { c with count := if countingHead cs h then c.count else 0 }

theorem stilled_eq (cs : Chans) (h : Fin 16) : (if countingHead cs h = true then cs else zeroCount cs h) = stilled cs h := by
  unfold stilled
  split
  · exact (onMembers_id cs h fun _ => rfl).symm
  · rfl

theorem stilled_sameTimers (cs : Chans) (h : Fin 16) : Chans.sameTimers cs (stilled cs h) :=
  onMembers_sameTimers cs h (fun _ => rfl) (fun _ => rfl)

theorem stilled_of_counting {cs : Chans} {h : Fin 16} (counts : countingHead cs h = true) : stilled cs h = cs :=
  onMembers_id cs h fun c => by rw [counts]; rfl

/-- Settling is one change of every channel of the timer. -/
theorem settle_eq (cs : Chans) (h : Fin 16) : settle cs h = onMembers cs h (settled cs h) := by
  have same := stilled_sameTimers cs h
  have mode := congrArg ChannelSettings.mode (same.1 h)
  unfold settle
  rw [stilled_eq]
  dsimp only
  rw [mode]
  cases is : (cs.row h).set.mode with
  | steady =>
    dsimp only
    rw [stilled, onMembers_onMembers]
    · refine congrArg (onMembers cs h) (funext fun c => ?_)
      simp [settled, is]
    · exact fun _ => rfl
  | pwm =>
    cases period : hasPeriod cs h with
    | true =>
      have out : pwmOut (stilled cs h) h = pwmOut cs h := by
        cases counts : countingHead cs h with
        | true => rw [stilled_of_counting counts]
        | false =>
          rw [pwmOut_of_still counts is, pwmOut_of_still ((countingHead_congr same h).trans counts) (mode.trans is)]
      dsimp only
      rw [hasPeriod_congr same.1, period, if_pos rfl, out, setOut, stilled, onMembers_onMembers]
      · refine congrArg (onMembers cs h) (funext fun c => ?_)
        simp [settled, is, period]
      · exact fun _ => rfl
    | false =>
      have still : countingHead cs h = false := by simp [countingHead, period]
      have taken : onMembers (stilled cs h) h (fun c => { c with aInForce := c.set.cmpA }) =
          onMembers cs h fun c => { c with count := 0, aInForce := c.set.cmpA } := by
        rw [stilled, onMembers_onMembers]
        · simp only [still, Bool.false_eq_true, if_false]
        · exact fun _ => rfl
      have same₂ := onMembers_sameTimers cs h (f := fun c => { c with count := 0, aInForce := c.set.cmpA })
        (fun _ => rfl) (fun _ => rfl)
      dsimp only
      rw [hasPeriod_congr same.1, period, if_neg (by decide), taken,
        pwmOut_of_still ((countingHead_congr same₂ h).trans still)
          ((congrArg ChannelSettings.mode (same₂.1 h)).trans is), setOut, onMembers_onMembers]
      · refine congrArg (onMembers cs h) (funext fun c => ?_)
        simp [settled, is, period, still, pwmOut_of_still still is]
      · exact fun _ => rfl
  | _ =>
    refine congrArg (onMembers cs h) (funext fun c => ?_)
    simp [settled, is]

end Sys2Proof.Machine
end

section
/-! PROOFS. OUT: conduction, CHANNEL_SET, forcing, cut-off and restart (R79 to R94). -/

namespace Sys2Proof.Machine
variable {s t : State} {ch : Fin 16}

/-! ## One channel moves -/

/-- Channel `ch` and the events handed on are all that moves. -/
structure State.movesChan (s : State) (ch : Fin 16) (t : State) : Prop where
  frame : t = { s with chans := t.chans, handed := t.handed }
  others : ∀ other, other ≠ ch → t.chans.row other = s.chans.row other

theorem State.movesChan.refl (s : State) (ch : Fin 16) : s.movesChan ch s := ⟨rfl, fun _ _ => rfl⟩

theorem State.movesChan.trans {u : State} (h : s.movesChan ch t) (g : t.movesChan ch u) : s.movesChan ch u :=
  ⟨by rw [g.frame, h.frame], fun o ne => (g.others o ne).trans (h.others o ne)⟩

theorem State.setChan_movesChan (s : State) (ch : Fin 16) (c : Channel) : s.movesChan ch (s.setChan ch c) :=
  ⟨rfl, fun _ ne => Tbl.row_put_ne _ _ ne.symm⟩

theorem State.conduct_movesChan (s : State) (ch : Fin 16) : s.movesChan ch (s.conduct ch) := by
  refine ⟨?_, fun _ ne => s.conduct_chan_ne ne.symm⟩
  rw [State.conduct_handed]
  exact s.conduct_frame ch

theorem State.hand_movesChan (s : State) (ch : Fin 16) (i : Instr) : s.movesChan ch (s.hand i) := ⟨rfl, fun _ _ => rfl⟩

/-- Nothing is handed on: the channels are all that moves. -/
theorem State.movesChan.silent (h : s.movesChan ch t) (handed : t.handed = s.handed) : t = { s with chans := t.chans } := by
  have frame := h.frame
  rw [handed] at frame
  exact frame

/-! ## Conduction and pin (R79, R81, R82) -/

theorem State.conduct_of_same (h : (s.chans.row ch).conducting = s.conducts ch) : s.conduct ch =
    s.setChan ch { s.chans.row ch with
      pin := pinDrive (s.chans.row ch).set.config (s.conducts ch) (effectiveLevel s.chans ch) } := if_pos h

theorem State.conduct_of_changed (h : (s.chans.row ch).conducting ≠ s.conducts ch) : s.conduct ch =
    s.setChan ch { s.chans.row ch with
      conducting := s.conducts ch
      pin := pinDrive (s.chans.row ch).set.config (s.conducts ch) (effectiveLevel s.chans ch)
      supervision := none, current := 0 } := if_neg h

theorem State.conduct_supervision (s : State) (ch : Fin 16) : ((s.conduct ch).chans.row ch).supervision =
    if s.conducts ch = (s.chans.row ch).conducting then (s.chans.row ch).supervision else none := by
  by_cases same : (s.chans.row ch).conducting = s.conducts ch
  · rw [s.conduct_of_same same, if_pos same.symm, State.setChan_chans, Tbl.row_put_self]
  · rw [s.conduct_of_changed same, if_neg fun e => same e.symm, State.setChan_chans, Tbl.row_put_self]

/-- A channel whose inputs leave it not conducting, and which does not conduct, keeps its supervision. -/
theorem Channel.cutOff_eq_false {c : Channel} : c.cutOff = false ↔ c.restart = .none := by
  simp [Channel.cutOff]

theorem Configuration.active_iff (c : Configuration) : c.active = true ↔ c = .sink ∨ c = .source ∨ c = .pushPull := by
  cases c <;> simp [Configuration.active]

theorem State.gateOpen_iff (gate : Option (Fin 64)) : s.gateOpen gate = true ↔ ∀ g, gate = some g → s.cond g = true := by
  cases gate <;> simp [State.gateOpen]

theorem Level.invertIf_on (inv : Bool) (l : Level) : l.invertIf inv = .on ↔
    (inv = false ∧ l = .on) ∨ (inv = true ∧ l = .off) := by
  cases l <;> cases inv <;> simp [Level.invertIf]

theorem State.conducts_iff (s : State) (ch : Fin 16) : s.conducts ch = true ↔
    (s.chans.row ch).set.config.active = true ∧ (s.chans.row ch).restart = .none
    ∧ (∀ g, (s.chans.row ch).set.gate = some g → s.cond g = true)
    ∧ (((s.chans.row ch).set.invert = false ∧ effectiveLevel s.chans ch = .on)
      ∨ ((s.chans.row ch).set.invert = true ∧ effectiveLevel s.chans ch = .off)) := by
  simp only [State.conducts, Bool.and_eq_true, Bool.not_eq_true', beq_iff_eq, Channel.cutOff_eq_false,
    State.gateOpen_iff, Level.invertIf_on, and_assoc]

theorem effectiveLevel_eq (cs : Chans) (ch : Fin 16) : effectiveLevel cs ch =
    if (cs.row ch).status = .clear then
      (if (cs.row ch).requested = true ∧ (actingMode cs ch = .steady ∨ (cs.row ch).timerOut = true) then .on else .off)
    else (cs.row ch).set.forced := by
  simp [effectiveLevel, timedLevel]

/-- Settles O26: the recomputation is one equation for conduction, one for the pin, one for supervision. -/
theorem conductionAndPinFollowTheInputs : Obligations.ConductionAndPinFollowTheInputs := by
  intro s ch
  dsimp only
  obtain ⟨on, pin⟩ := s.conduct_chan ch
  rw [← effectiveLevel_eq, on, pin, State.conduct_supervision, ← Configuration.active_iff]
  refine ⟨s.conducts_iff ch, ?_, fun changed => if_neg changed, fun same => if_pos same,
    (s.conduct_movesChan ch).others, s.conduct_frame ch⟩
  cases (s.chans.row ch).set.config <;> cases s.conducts ch <;> rfl

/-! ## Requests that name a channel (R84, R90, R94, R108) -/

theorem State.onChannel_of_named {b : Byte} (rq : Requester) (op : Byte) (f : Fin 16 → State → Code × State)
    (names : b.toNat = ch.val) : s.onChannel rq op b f = (f ch s).2.reply rq op (f ch s).1 [] := by
  rw [State.onChannel, (fin?_eq_some_iff b ch).mpr names]

theorem State.onChannel_of_out {b : Byte} (rq : Requester) (op : Byte) (f : Fin 16 → State → Code × State)
    (out : 16 ≤ b.toNat) : s.onChannel rq op b f = s.reply rq op .badValue [] := by
  rw [State.onChannel, (fin?_eq_none_iff b).mpr out]

section
variable (rq : Requester) (b : Byte) (running : s.inReset = false) (addressed : s.addressed = true)
include running addressed

theorem exec_channelSet (level : Byte) : exec (.channelSet rq b level) s =
    .next ((s.take (.channelSet rq b level)).onChannel rq 0x08 b (channelSet level)) :=
  event_of_request s running addressed

theorem exec_channelRestore : exec (.channelRestore rq b) s =
    .next ((s.take (.channelRestore rq b)).onChannel rq 0x09 b channelRestore) :=
  event_of_request s running addressed

theorem exec_forceClear : exec (.forceClear rq b) s =
    .next ((s.take (.forceClear rq b)).onChannel rq 0x0A b forceClear) :=
  event_of_request s running addressed

theorem exec_triggerClear : exec (.triggerClear rq b) s =
    .next ((s.take (.triggerClear rq b)).onChannel rq 0x0B b triggerClear) :=
  event_of_request s running addressed

end

theorem flag?_of_other {b : Byte} (zero : b ≠ 0) (one : b ≠ 1) : flag? b = none := by
  rw [flag?, if_neg zero, if_neg one]

theorem flag?_of_bool (on : Bool) : flag? (if on then 1 else 0) = some on := by
  cases on <;> rfl

theorem setLevel_movesChan (s : State) (ch : Fin 16) (on : Bool) : s.movesChan ch (s.setLevel ch on) :=
  (s.setChan_movesChan ch _).trans (State.conduct_movesChan _ ch)

/-- Conduction is as the state calls for: a recomputation changes nothing that conduction depends on. -/
theorem State.conducts_conduct (s : State) (ch : Fin 16) : (s.conduct ch).conducts ch = s.conducts ch := by
  have set : Chans.sameSet s.chans (s.conduct ch).chans := s.conduct_set ch
  have level : effectiveLevel (s.conduct ch).chans ch = effectiveLevel s.chans ch := by
    simp only [effectiveLevel, timedLevel, State.conduct_status, State.conduct_requested, State.conduct_timerOut,
      State.conduct_set, actingMode_congr set]
    congr
  have gate : (s.conduct ch).gateOpen = s.gateOpen := by
    funext g; simp only [State.gateOpen, State.cond, State.conduct_board]
  simp only [State.conducts, level, gate, State.conduct_set, Channel.cutOff, State.conduct_restart]

theorem State.conduct_conducting (s : State) (ch : Fin 16) :
    ((s.conduct ch).chans.row ch).conducting = (s.conduct ch).conducts ch := by
  rw [(s.conduct_chan ch).1, State.conducts_conduct]

/-- Settles O31, by the channel named, its owner and its level. -/
theorem channelSetSetsAFreeChannel : Obligations.ChannelSetSetsAFreeChannel := by
  intro s rq b level ⟨running, addressed⟩
  dsimp only
  rw [exec_channelSet rq b running addressed]
  refine ⟨fun bad => ?_, fun ch names on is => ?_⟩
  · rcases bad with out | ⟨zero, one⟩
    · rw [State.onChannel_of_out _ _ _ out]
    · rcases lt_or_ge b.toNat 16 with low | out
      · rw [State.onChannel_of_named (ch := ⟨b.toNat, low⟩) _ _ _ rfl, channelSet, flag?_of_other zero one]
      · rw [State.onChannel_of_out _ _ _ out]
  subst is
  rw [State.onChannel_of_named _ _ _ names, channelSet, flag?_of_bool]
  refine ⟨fun owned_ => ?_, fun free same => ?_, fun free new => ?_⟩
  · simp [owned_]
  · simp [free, same]
  · refine ⟨(s.take (.channelSet rq b (if on then 1 else 0))).setLevel ch on, ?_, State.setLevel_requested _ _ _, ?_,
      State.setLevel_set _ _ _ _, ?_, ?_, (setLevel_movesChan _ _ _).others, ?_⟩
    · simp [free, new]
    · exact State.conduct_conducting _ _
    · simp [State.setLevel]
    · simp [State.setLevel]
    · exact (setLevel_movesChan _ _ _).silent (by simp)

/-! ## Forcing (R88 to R90) -/

theorem State.setChan_setChan (s : State) (ch : Fin 16) (c d : Channel) :
    (s.setChan ch c).setChan ch d = s.setChan ch d := by
  have put : (s.chans.put ch c).put ch d = s.chans.put ch d :=
    Chans.ext_row fun m => by simp only [Tbl.row_put]; split <;> rfl
  simp only [State.setChan, put]

/-- The status of an unforced channel once its source has fallen (R89). -/
def State.fallenStatus (s : State) (ch : Fin 16) : ForceStatus :=
  if (s.chans.row ch).cutOff = false ∧ counting s.chans ch = false then .clear else .awaitingWrap

theorem State.releaseIfStill_of_still (h : (s.chans.row ch).status = .awaitingWrap ∧ (s.chans.row ch).cutOff = false
    ∧ counting s.chans ch = false) : s.releaseIfStill ch = s.setChan ch { s.chans.row ch with status := .clear } :=
  if_pos h

theorem State.releaseIfStill_of_other (h : ¬ ((s.chans.row ch).status = .awaitingWrap
    ∧ (s.chans.row ch).cutOff = false ∧ counting s.chans ch = false)) : s.releaseIfStill ch = s := if_neg h

theorem State.setStatus_counting (s : State) (ch : Fin 16) (x : ForceStatus) :
    counting (s.setChan ch { s.chans.row ch with status := x }).chans ch = counting s.chans ch :=
  counting_congr (Chans.sameTimers_put (cs := s.chans) (ch := ch) (c := { s.chans.row ch with status := x }) rfl rfl) ch

theorem State.setChan_row (s : State) (ch : Fin 16) (c : Channel) : (s.setChan ch c).chans.row ch = c :=
  Tbl.row_put_self _ _ _

theorem State.releaseIfStill_of_fallen (s : State) (ch : Fin 16) :
    (s.setChan ch { s.chans.row ch with status := .awaitingWrap }).releaseIfStill ch =
      s.setChan ch { s.chans.row ch with status := s.fallenStatus ch } := by
  by_cases still : (s.chans.row ch).cutOff = false ∧ counting s.chans ch = false
  · obtain ⟨whole, stopped⟩ := still
    rw [State.releaseIfStill_of_still, State.setChan_row, State.setChan_setChan, State.fallenStatus,
      if_pos ⟨whole, stopped⟩]
    rw [State.setChan_row, State.setStatus_counting]
    exact ⟨rfl, whole, stopped⟩
  · rw [State.releaseIfStill_of_other, State.fallenStatus, if_neg still]
    rw [State.setChan_row, State.setStatus_counting]
    exact fun h => still h.2

theorem State.releaseIfStill_movesChan (s : State) (ch : Fin 16) : s.movesChan ch (s.releaseIfStill ch) := by
  unfold State.releaseIfStill
  dsimp only
  split
  · exact s.setChan_movesChan ch _
  · exact .refl s ch

theorem State.handOwner_movesChan (s : State) (mk : Owner → Fin 16 → Instr) (ch : Fin 16) :
    s.movesChan ch (s.handOwner mk ch) := by
  unfold State.handOwner
  dsimp only
  split
  · exact .refl s ch
  · exact s.hand_movesChan ch _

theorem State.handOwner_handed (s : State) (mk : Owner → Fin 16 → Instr) (ch : Fin 16) :
    (s.handOwner mk ch).handed =
      s.handed ++ if (s.chans.row ch).set.owner = .free then [] else [mk (s.chans.row ch).set.owner ch] := by
  unfold State.handOwner
  dsimp only
  split
  · exact (List.append_nil _).symm
  · rfl

theorem forceClear_of_unforced (h : (s.chans.row ch).status ≠ .engaged) : forceClear ch s = (.done, s) := if_neg h

theorem forceClear_of_active (h : (s.chans.row ch).status = .engaged)
    (active : s.forcingActive (s.chans.row ch).set.forcing = true) : forceClear ch s = (.busy, s) :=
  (if_pos h).trans (if_pos active)

theorem forceClear_of_inactive (h : (s.chans.row ch).status = .engaged)
    (inactive : s.forcingActive (s.chans.row ch).set.forcing = false) : forceClear ch s =
      (.done, (s.setChan ch { s.chans.row ch with status := s.fallenStatus ch }).conduct ch) := by
  rw [← State.releaseIfStill_of_fallen]
  exact (if_pos h).trans (if_neg (by rw [inactive]; decide))

/-! ## TRIGGER_CLEAR (R108) -/

theorem triggerClear_of_other (h : head s.chans ch ≠ ch ∨ ∀ c, (s.chans.row ch).set.sync ≠ .trigger c) :
    triggerClear ch s = (.badValue, s) := by
  by_cases own : head s.chans ch = ch
  · simp only [triggerClear, own, ne_eq, not_true_eq_false, if_false]
    split
    · rename_i c is
      exact absurd is ((h.resolve_left fun other => other own) c)
    · rfl
  · exact if_pos own

theorem triggerClear_of_held {c : Fin 16} (own : head s.chans ch = ch) (sync : (s.chans.row ch).set.sync = .trigger c)
    (held : (s.chans.row ch).running = false) : triggerClear ch s = (.done, s) := by
  simp [triggerClear, own, sync, held]

/-- The table once a RUNNING TRIGGER timer is set back to HELD (R108). -/
def triggerCleared (cs : Chans) (ch : Fin 16) : Chans :=
  settle (zeroCount (cs.put ch { cs.row ch with running := false }) ch) ch

theorem triggerClear_of_running {c : Fin 16} (own : head s.chans ch = ch)
    (sync : (s.chans.row ch).set.sync = .trigger c) (running : (s.chans.row ch).running = true) :
    triggerClear ch s = (.done, (s.setChans (triggerCleared s.chans ch)).conductAll
      (members (triggerCleared s.chans ch) ch)) := by
  simp [triggerClear, own, sync, running, triggerCleared]

theorem triggerCleared_eq (cs : Chans) (ch : Fin 16) : ∃ f : Channel → Channel,
    triggerCleared cs ch = onMembers (cs.put ch { cs.row ch with running := false }) ch f
    ∧ ∀ c, (f c).count = 0 ∧ (f c).set = c.set ∧ (f c).requested = c.requested ∧ (f c).running = c.running := by
  refine ⟨fun c => settled (zeroCount (cs.put ch { cs.row ch with running := false }) ch) ch { c with count := 0 },
    ?_, fun c => ⟨?_, rfl, rfl, rfl⟩⟩
  · rw [triggerCleared, settle_eq]
    exact onMembers_onMembers _ _ fun _ => rfl
  · exact ite_self 0

theorem triggerCleared_members (cs : Chans) (ch : Fin 16) :
    members (cs.put ch { cs.row ch with running := false }) ch = members cs ch :=
  members_congr (fun m => by rw [Tbl.row_put]; split <;> simp [*]) ch

/-- The members of the timer are cleared, and no other channel moves. -/
theorem triggerCleared_row (cs : Chans) (ch m : Fin 16) :
    ((triggerCleared cs ch).row m).set = (cs.row m).set
    ∧ (m ∈ members cs ch → ((triggerCleared cs ch).row m).count = 0
      ∧ ((triggerCleared cs ch).row m).requested = (cs.row m).requested)
    ∧ (m ∉ members cs ch → (triggerCleared cs ch).row m = cs.row m)
    ∧ (m = ch → ((triggerCleared cs ch).row m).running = false) := by
  obtain ⟨f, is, acts⟩ := triggerCleared_eq cs ch
  obtain ⟨count, set, requested, running⟩ := acts ((cs.put ch { cs.row ch with running := false }).row m)
  rw [is, onMembers_row, triggerCleared_members]
  by_cases mem : m ∈ members cs ch
  · rw [if_pos mem, set, requested, running]
    by_cases own : m = ch
    · subst own
      rw [Tbl.row_put_self] at count ⊢
      simp [mem, count]
    · rw [Tbl.row_put_ne _ _ (Ne.symm own)] at count ⊢
      simp [mem, own, count]
  · have other : m ≠ ch := fun e => mem (e ▸ head_mem_members cs ch)
    rw [if_neg mem, Tbl.row_put_ne _ _ other.symm]
    simp [mem, other]

theorem State.conductAll_row_of_other (s : State) {chs : List (Fin 16)} {m : Fin 16} (out : m ∉ chs) :
    (s.conductAll chs).chans.row m = s.chans.row m := by
  induction chs generalizing s with
  | nil => rfl
  | cons a l ih =>
    obtain ⟨ne, out⟩ := not_or.mp (mt List.mem_cons.mpr out)
    exact (ih (s.conduct a) out).trans (s.conduct_chan_ne (Ne.symm ne))

theorem State.conductAll_count (s : State) (chs : List (Fin 16)) (m : Fin 16) :
    ((s.conductAll chs).chans.row m).count = (s.chans.row m).count :=
  foldl_keeps (fun x : State => (x.chans.row m).count) _ (fun x a => x.conduct_count a m) _ _

theorem State.conductAll_running (s : State) (chs : List (Fin 16)) (m : Fin 16) :
    ((s.conductAll chs).chans.row m).running = (s.chans.row m).running :=
  foldl_keeps (fun x : State => (x.chans.row m).running) _ (fun x a => x.conduct_running a m) _ _

theorem State.conductAll_frame (s : State) (chs : List (Fin 16)) :
    s.conductAll chs = s.setChans (s.conductAll chs).chans := by
  refine foldl_holds (fun t => t = s.setChans t.chans) State.conduct (fun t ch h => ?_) chs s rfl
  have onto : ∀ cs, t.setChans cs = s.setChans cs := fun cs => by rw [h]; rfl
  exact (t.conduct_frame ch).trans (onto _)

/-- Settles O32, by the cases of the two tables. -/
theorem forceClearAndTriggerClearRelease : Obligations.ForceClearAndTriggerClearRelease := by
  refine ⟨fun s rq b ⟨running, addressed⟩ => ?_, fun s rq b ⟨running, addressed⟩ => ?_⟩
  · dsimp only
    rw [exec_forceClear rq b running addressed]
    refine ⟨fun out => by rw [State.onChannel_of_out _ _ _ out], fun ch names => ?_⟩
    rw [State.onChannel_of_named _ _ _ names]
    refine ⟨fun unforced => ?_, fun forced active => ?_, fun forced inactive => ?_⟩
    · rw [forceClear_of_unforced (s := s.take _) unforced]
    · rw [forceClear_of_active (s := s.take _) forced active]
    · rw [forceClear_of_inactive (s := s.take _) forced inactive]
      have moves := (State.setChan_movesChan (s.take (.forceClear rq b)) ch { s.chans.row ch with
        status := (s.take (.forceClear rq b)).fallenStatus ch }).trans (State.conduct_movesChan _ ch)
      refine ⟨_, rfl, ?_, ?_, ?_, State.conduct_conducting _ _, moves.others, moves.silent (by simp)⟩
      · rw [State.conduct_status, State.setChan_row]; rfl
      · rw [State.conduct_restart, State.setChan_row]; rfl
      · rw [State.conduct_requested, State.setChan_row]; rfl
  · dsimp only
    rw [exec_triggerClear rq b running addressed]
    refine ⟨fun out => by rw [State.onChannel_of_out _ _ _ out], fun ch names => ?_⟩
    rw [State.onChannel_of_named _ _ _ names]
    refine ⟨fun other => ?_, fun own c sync => ⟨fun held => ?_, fun counts => ?_⟩⟩
    · rw [triggerClear_of_other (s := s.take _) other]
    · rw [triggerClear_of_held (s := s.take _) own sync held]
    · rw [triggerClear_of_running (s := s.take _) own sync counts]
      have same : members (triggerCleared s.chans ch) ch = members s.chans ch :=
        members_congr (fun m => (triggerCleared_row s.chans ch m).1) ch
      refine ⟨_, rfl, ?_, fun m mem => ?_, fun m out => ?_, ?_⟩
      · rw [State.conductAll_running]
        exact (triggerCleared_row s.chans ch ch).2.2.2 rfl
      · rw [State.conductAll_count, State.conductAll_requested]
        exact (triggerCleared_row s.chans ch m).2.1 mem
      · rw [State.conductAll_row_of_other]
        · exact (triggerCleared_row s.chans ch m).2.2.1 out
        · exact fun mem => out (same ▸ mem)
      · exact (State.conductAll_frame _ _)

/-! ## Over-current, cut-off and restart (R92 to R94) -/

theorem exec_overCurrentOnset (mA : Nat) (running : s.inReset = false) :
    exec (.overCurrentOnset ch mA) s = .next ((s.take (.overCurrentOnset ch mA)).measure ch mA) :=
  event_of_running s (.overCurrentOnset ch mA) (fun s => s.measure ch mA) running

theorem exec_currentRecovery (mA : Nat) (running : s.inReset = false) :
    exec (.currentRecovery ch mA) s = .next ((s.take (.currentRecovery ch mA)).measure ch mA) :=
  event_of_running s (.currentRecovery ch mA) (fun s => s.measure ch mA) running

theorem State.measure_of_off (mA : Nat) (off : (s.chans.row ch).conducting = false) : s.measure ch mA = s :=
  if_neg (by rw [off]; decide)

theorem State.measure_of_on (mA : Nat) (on : (s.chans.row ch).conducting = true) :
    s.measure ch mA = (s.setChan ch { s.chans.row ch with current := mA }).supervise ch := if_pos on

theorem State.supervise_of_onset (on : (s.chans.row ch).conducting = true)
    (quiet : (s.chans.row ch).supervision = none)
    (above : (s.chans.row ch).set.limit.milliamps < (s.chans.row ch).current) : s.supervise ch =
      s.setChan ch { s.chans.row ch with
        supervision := some (s.clock + (s.chans.row ch).set.cutDelay.micros) } := by
  simp [State.supervise, on, quiet, above]

theorem State.supervise_of_recovery {due : Nat} (on : (s.chans.row ch).conducting = true)
    (timing : (s.chans.row ch).supervision = some due)
    (below : (s.chans.row ch).current ≤ (s.chans.row ch).set.limit.milliamps) : s.supervise ch =
      s.setChan ch { s.chans.row ch with supervision := none } := by
  simp [State.supervise, on, timing, below]

theorem exec_cutOffDelayExpiry {due : Nat} (running : s.inReset = false)
    (timing : (s.chans.row ch).supervision = some due) :
    exec (.cutOffDelayExpiry ch) s = .next ((s.take (.cutOffDelayExpiry ch)).cutOffNow ch) := by
  simp [exec, execCutOffDelayExpiry, event, running, timing]

/-- Conditions that follow sources which all come to `v` hand on their changes to `v`. -/
theorem State.follow_handsOn_value (s : State) (chosen : Source → Bool) (v : Bool)
    (value : ∀ src held, chosen src = true → s.sourceValue src held = v) :
    s.handsOn (fun i => ∃ c u, i = .conditionChange c v u) (s.follow chosen) := by
  refine (foldl_holds (fun t => s.boardMoves t ∧ s.handsOn (fun i => ∃ c u, i = .conditionChange c v u) t)
    (State.followOne chosen) (fun t c h => ?_) _ s ⟨.refl s, .of_eq rfl⟩).2
  unfold State.followOne
  split
  · rename_i yes
    refine ⟨h.1.trans (t.setCond_boardMoves c _), h.2.trans ⟨_, t.setCond_handed_eq c _, fun i mem => ?_⟩⟩
    rw [h.1.sourceValue, value _ _ yes] at mem
    split at mem
    · simp at mem
    · obtain ⟨u, -, rfl⟩ := List.mem_map.mp mem
      exact ⟨c, u, rfl⟩
  · exact h

/-- The channel as an over-current cut-off leaves it (R92). -/
def Channel.cutOffAt (c : Channel) (now : Nat) : Channel :=
  { c with
    restart := match c.set.restartDelay.millis with
      | none => .waitingManual
      | some d => .running (now + ms d)
    supervision := none, cutOffs := satAdd 255 c.cutOffs 1 }

theorem Channel.cutOffAt_cutOff (c : Channel) (now : Nat) : (c.cutOffAt now).cutOff = true := by
  unfold Channel.cutOffAt Channel.cutOff
  cases c.set.restartDelay.millis <;> rfl

/-- The channel is cut off and recomputed, its owner not told yet. -/
def State.cut (s : State) (ch : Fin 16) : State := (s.setChan ch ((s.chans.row ch).cutOffAt s.clock)).conduct ch

theorem State.cutOffNow_eq (s : State) (ch : Fin 16) :
    s.cutOffNow ch = (((s.cut ch).handOwner .cutoffEvent ch).followCut ch).notice 6 ch.val := rfl

theorem State.conducts_of_cutOff (h : (s.chans.row ch).cutOff = true) : s.conducts ch = false := by
  simp [State.conducts, h]

/-- The conditions that follow a channel's cut-off take it, and no other moves (R92, R93). -/
theorem State.followCut_conds (s : State) (ch : Fin 16) (c : Fin 64) :
    ((s.board.conds.row c).source = .channelCut ch → (s.followCut ch).cond c = (s.chans.row ch).cutOff)
    ∧ ((s.board.conds.row c).source ≠ .channelCut ch →
      (s.followCut ch).board.conds.row c = s.board.conds.row c) := by
  refine ⟨fun src => ?_, fun src => ?_⟩
  · rw [State.followCut, State.cond_follow, src, if_pos (beq_self_eq_true _)]
    rfl
  · rw [State.followCut, State.follow_record_of_other]
    exact beq_eq_false_iff_ne.mpr src

theorem State.followCut_handsOn (s : State) (ch : Fin 16) :
    s.handsOn (fun i => ∃ c u, i = .conditionChange c (s.chans.row ch).cutOff u) (s.followCut ch) := by
  refine s.follow_handsOn_value _ _ fun src held yes => ?_
  rw [beq_iff_eq.mp yes]
  rfl

theorem State.cut_movesChan (s : State) (ch : Fin 16) : s.movesChan ch (s.cut ch) :=
  (s.setChan_movesChan ch _).trans (State.conduct_movesChan _ ch)

theorem State.cut_conducting (s : State) (ch : Fin 16) : ((s.cut ch).chans.row ch).conducting = false := by
  rw [State.cut, (State.conduct_chan _ ch).1]
  exact State.conducts_of_cutOff (by rw [State.setChan_row, Channel.cutOffAt_cutOff])

theorem State.cut_supervision (s : State) (ch : Fin 16) : ((s.cut ch).chans.row ch).supervision = none := by
  rw [State.cut, State.conduct_supervision, State.setChan_row]
  exact ite_self none

theorem State.cut_cutOff (s : State) (ch : Fin 16) : ((s.cut ch).chans.row ch).cutOff = true := by
  rw [Channel.cutOff, State.cut, State.conduct_restart, State.setChan_row]
  exact Channel.cutOffAt_cutOff _ _

theorem State.cut_handed (s : State) (ch : Fin 16) : (s.cut ch).handed = s.handed := by
  rw [State.cut, State.conduct_handed]
  rfl

theorem State.cut_set (s : State) (ch : Fin 16) : ((s.cut ch).chans.row ch).set = (s.chans.row ch).set := by
  rw [State.cut, State.conduct_set, State.setChan_row]
  rfl

theorem State.cutOffNow_chans (s : State) (ch : Fin 16) : (s.cutOffNow ch).chans = (s.cut ch).chans := by
  rw [State.cutOffNow_eq, State.notice_chans, State.followCut, State.follow_chans, State.handOwner_chans]

theorem State.cutOffNow_board (s : State) (ch : Fin 16) :
    (s.cutOffNow ch).board = (((s.cut ch).handOwner .cutoffEvent ch).followCut ch).board := by
  rw [State.cutOffNow_eq, State.notice_board]

theorem State.cut_board (s : State) (ch : Fin 16) : ((s.cut ch).handOwner .cutoffEvent ch).board = s.board := by
  rw [State.handOwner_board, (s.cut_movesChan ch).frame]

theorem State.cutOffNow_conds (s : State) (ch : Fin 16) (c : Fin 64) :
    ((s.board.conds.row c).source = .channelCut ch → (s.cutOffNow ch).cond c = true)
    ∧ ((s.board.conds.row c).source ≠ .channelCut ch →
      (s.cutOffNow ch).board.conds.row c = s.board.conds.row c) := by
  have conds := State.followCut_conds ((s.cut ch).handOwner .cutoffEvent ch) ch c
  rw [State.handOwner_chans, State.cut_cutOff, State.cut_board, State.cond, ← State.cutOffNow_board] at conds
  exact conds

theorem State.cutOffNow_handed (s : State) (ch : Fin 16) : ∃ changes, (s.cutOffNow ch).handed = s.handed
      ++ (if (s.chans.row ch).set.owner = .free then [] else [.cutoffEvent (s.chans.row ch).set.owner ch]) ++ changes
    ∧ ∀ i ∈ changes, ∃ c user, i = .conditionChange c true user := by
  obtain ⟨changes, handed, all⟩ := State.followCut_handsOn ((s.cut ch).handOwner .cutoffEvent ch) ch
  rw [State.handOwner_chans, State.cut_cutOff] at all
  rw [State.handOwner_handed, State.cut_handed, State.cut_set] at handed
  exact ⟨changes, by rw [State.cutOffNow_eq, State.notice_handed, handed], all⟩

theorem State.cutOffNow_marks (s : State) (ch : Fin 16) : (s.cutOffNow ch).req.marks = s.req.marks ||| 32 := by
  rw [State.cutOffNow_eq, State.notice_marks, State.followCut, State.follow_req, State.handOwner_req,
    (s.cut_movesChan ch).frame]
  rfl

/-- Settles O33: the delay's start and end by one measurement, and the cut-off by its five steps. -/
theorem overCurrentCutsTheChannelOff : Obligations.OverCurrentCutsTheChannelOff := by
  refine ⟨fun s ch mA running => ?_, fun s ch due running timing => ?_⟩
  · dsimp only
    rw [exec_overCurrentOnset mA running, exec_currentRecovery mA running]
    refine ⟨fun off => ?_, fun on quiet above => ?_, fun on due timing below => ?_⟩
    · rw [State.measure_of_off (s := s.take _) mA off, State.measure_of_off (s := s.take _) mA off]
      exact ⟨rfl, rfl⟩
    · rw [State.measure_of_on (s := s.take _) mA on, State.supervise_of_onset, State.setChan_setChan, State.setChan_row]
      · rfl
      · rw [State.setChan_row]; exact on
      · rw [State.setChan_row]; exact quiet
      · rw [State.setChan_row]; exact above
    · rw [State.measure_of_on (s := s.take _) mA on, State.supervise_of_recovery (due := due), State.setChan_setChan,
        State.setChan_row]
      · rfl
      · rw [State.setChan_row]; exact on
      · rw [State.setChan_row]; exact timing
      · rw [State.setChan_row]; exact below
  · dsimp only
    refine ⟨_, exec_cutOffDelayExpiry running timing, ?_⟩
    have moves := State.cut_movesChan (s.take (.cutOffDelayExpiry ch)) ch
    have conds := State.cutOffNow_conds (s.take (.cutOffDelayExpiry ch)) ch
    rw [State.cutOffNow_chans]
    refine ⟨?_, State.cut_conducting _ ch, State.cut_supervision _ ch, ?_, ?_, ?_, moves.others,
      fun c => (conds c).1, fun c => (conds c).2, State.cutOffNow_handed _ ch, State.cutOffNow_marks _ ch, ?_, ?_, ?_, ?_⟩
    · rw [State.cut, State.conduct_restart, State.setChan_row, Channel.cutOffAt]
      change (match (s.chans.row ch).set.restartDelay.millis with
        | none => Restart.waitingManual
        | some d => Restart.running (s.clock + ms d)) = _
      cases (s.chans.row ch).set.restartDelay <;> rfl
    · rw [State.cut, State.conduct_cutOffs, State.setChan_row]; rfl
    · rw [State.cut, State.conduct_status, State.setChan_row]; rfl
    · rw [State.cut, State.conduct_requested, State.setChan_row]; rfl
    all_goals
      rw [State.cutOffNow_eq]
      simp [State.followCut, State.cut]

theorem exec_restartDelayExpiry (running : s.inReset = false) :
    (∀ due, (s.chans.row ch).restart = .running due →
      exec (.restartDelayExpiry ch) s = .next ((s.take (.restartDelayExpiry ch)).leaveCutOff ch))
    ∧ ((s.chans.row ch).restart = .none →
      exec (.restartDelayExpiry ch) s = .next (s.take (.restartDelayExpiry ch))) := by
  constructor
  · intro due is
    simp [exec, execRestartDelayExpiry, event, running, is]
  · intro is
    simp [exec, execRestartDelayExpiry, event, running, is]

/-- The channel has left CUT_OFF, and its owner is told where it stays FORCED. -/
def State.uncut (s : State) (ch : Fin 16) : State :=
  if (s.chans.row ch).status = .clear then s.setChan ch { s.chans.row ch with restart := .none }
  else (s.setChan ch { s.chans.row ch with restart := .none }).handOwner .forcedEvent ch

theorem State.leaveCutOff_eq (s : State) (ch : Fin 16) :
    s.leaveCutOff ch = (((s.uncut ch).releaseIfStill ch).followCut ch).conduct ch := rfl

theorem State.uncut_movesChan (s : State) (ch : Fin 16) : s.movesChan ch (s.uncut ch) := by
  unfold State.uncut
  split
  · exact s.setChan_movesChan ch _
  · exact (s.setChan_movesChan ch _).trans (State.handOwner_movesChan _ _ ch)

theorem State.uncut_chans (s : State) (ch : Fin 16) :
    (s.uncut ch).chans = (s.setChan ch { s.chans.row ch with restart := .none }).chans := by
  unfold State.uncut
  split
  · rfl
  · rw [State.handOwner_chans]

theorem State.uncut_handed (s : State) (ch : Fin 16) : (s.uncut ch).handed = s.handed ++
    if (s.chans.row ch).status = .clear ∨ (s.chans.row ch).set.owner = .free then []
    else [.forcedEvent (s.chans.row ch).set.owner ch] := by
  unfold State.uncut
  by_cases clear : (s.chans.row ch).status = .clear
  · rw [if_pos clear, if_pos (.inl clear), List.append_nil]; rfl
  · rw [if_neg clear, State.handOwner_handed, State.setChan_row]
    by_cases free : (s.chans.row ch).set.owner = .free
    · rw [if_pos free, if_pos (.inr free)]; rfl
    · rw [if_neg free, if_neg (by simp [clear, free])]; rfl

/-- What an immediate release leaves of the channel: only its status may move. -/
theorem State.releaseIfStill_row (s : State) (ch : Fin 16) : ∃ x, (s.releaseIfStill ch).chans.row ch =
    { s.chans.row ch with status := x }
    ∧ ((s.chans.row ch).status ≠ .awaitingWrap ∨ counting s.chans ch = true → x = (s.chans.row ch).status) := by
  by_cases still : (s.chans.row ch).status = .awaitingWrap ∧ (s.chans.row ch).cutOff = false
      ∧ counting s.chans ch = false
  · rw [State.releaseIfStill_of_still still, State.setChan_row]
    refine ⟨_, rfl, fun stays => ?_⟩
    obtain ⟨awaiting, -, stopped⟩ := still
    rcases stays with other | counts
    · exact absurd awaiting other
    · rw [stopped] at counts
      exact absurd counts (by decide)
  · rw [State.releaseIfStill_of_other still]
    exact ⟨_, rfl, fun _ => rfl⟩

theorem State.uncut_row (s : State) (ch : Fin 16) :
    (s.uncut ch).chans.row ch = { s.chans.row ch with restart := .none } := by
  rw [State.uncut_chans, State.setChan_row]

/-- What the leaving of CUT_OFF leaves of the channel. -/
theorem State.leaveCutOff_row (s : State) (ch : Fin 16) :
    ((s.leaveCutOff ch).chans.row ch).restart = .none
    ∧ ((s.leaveCutOff ch).chans.row ch).requested = (s.chans.row ch).requested
    ∧ ((s.leaveCutOff ch).chans.row ch).conducting = (s.leaveCutOff ch).conducts ch
    ∧ ((s.chans.row ch).status ≠ .awaitingWrap ∨ counting s.chans ch = true →
      ((s.leaveCutOff ch).chans.row ch).status = (s.chans.row ch).status) := by
  obtain ⟨x, row, status⟩ := (s.uncut ch).releaseIfStill_row ch
  have counts : counting (s.uncut ch).chans ch = counting s.chans ch := by
    rw [State.uncut_chans]
    exact counting_congr (Chans.sameTimers_put (cs := s.chans) (ch := ch)
      (c := { s.chans.row ch with restart := .none }) rfl rfl) ch
  rw [State.uncut_row] at row status
  rw [counts] at status
  have before : (((s.uncut ch).releaseIfStill ch).followCut ch).chans.row ch =
      { s.chans.row ch with restart := .none, status := x } := by
    rw [State.followCut, State.follow_chans, row]
  rw [State.leaveCutOff_eq]
  refine ⟨?_, ?_, State.conduct_conducting _ _, fun stays => ?_⟩
  · rw [State.conduct_restart, before]
  · rw [State.conduct_requested, before]
  · rw [State.conduct_status, before]
    exact status stays

theorem State.leaveCutOff_others (s : State) {other : Fin 16} (ne : other ≠ ch) :
    (s.leaveCutOff ch).chans.row other = s.chans.row other := by
  rw [State.leaveCutOff_eq, State.conduct_chan_ne _ ne.symm, State.followCut, State.follow_chans]
  exact ((s.uncut_movesChan ch).trans (State.releaseIfStill_movesChan _ ch)).others other ne

theorem State.leaveCutOff_board (s : State) (ch : Fin 16) :
    (∀ c, (s.board.conds.row c).source = .channelCut ch → (s.leaveCutOff ch).cond c = false)
    ∧ ∃ changes, (s.leaveCutOff ch).handed = s.handed
        ++ (if (s.chans.row ch).status = .clear ∨ (s.chans.row ch).set.owner = .free then []
          else [.forcedEvent (s.chans.row ch).set.owner ch]) ++ changes
      ∧ ∀ i ∈ changes, ∃ c user, i = .conditionChange c false user := by
  have moves := (s.uncut_movesChan ch).trans (State.releaseIfStill_movesChan _ ch)
  have board : ((s.uncut ch).releaseIfStill ch).board = s.board := by rw [moves.frame]
  obtain ⟨x, row, -⟩ := (s.uncut ch).releaseIfStill_row ch
  have whole : (((s.uncut ch).releaseIfStill ch).chans.row ch).cutOff = false := by
    rw [row, State.uncut_row]; rfl
  have conds := State.followCut_conds ((s.uncut ch).releaseIfStill ch) ch
  obtain ⟨changes, handed, all⟩ := State.followCut_handsOn ((s.uncut ch).releaseIfStill ch) ch
  rw [whole] at conds all
  rw [State.releaseIfStill_handed, State.uncut_handed] at handed
  rw [State.leaveCutOff_eq, State.conduct_handed]
  refine ⟨fun c src => ?_, changes, handed, all⟩
  have left := (conds c).1 (by rw [board]; exact src)
  rw [State.cond] at left ⊢
  rw [State.conduct_board]
  exact left

theorem channelRestore_of_whole (h : (s.chans.row ch).cutOff = false) : channelRestore ch s = (.done, s) :=
  if_neg (by rw [h]; decide)

theorem channelRestore_of_cutOff (h : (s.chans.row ch).cutOff = true) :
    channelRestore ch s = (.done, s.leaveCutOff ch) := if_pos h

/-- Settles O34: the expiry and the request leave CUT_OFF by one operation. -/
theorem channelLeavesCutOff : Obligations.ChannelLeavesCutOff := by
  refine ⟨fun s rq b ch ⟨running, addressed⟩ names => ?_, fun s rq b ⟨running, addressed⟩ out => ?_⟩
  · dsimp only
    refine ⟨fun whole => ⟨?_, ?_⟩, ?_⟩
    · exact (exec_restartDelayExpiry running).2 (Channel.cutOff_eq_false.mp whole)
    · rw [exec_channelRestore rq b running addressed, State.onChannel_of_named _ _ _ names,
        channelRestore_of_whole (s := s.take _) whole]
    · rintro i u rfl how
      obtain ⟨restart, requested, conducting, status⟩ := (s.take i).leaveCutOff_row ch
      obtain ⟨conds, handed⟩ := (s.take i).leaveCutOff_board ch
      have whole : (((s.take i).leaveCutOff ch).chans.row ch).cutOff = false := Channel.cutOff_eq_false.mpr restart
      have forced (stays : (s.chans.row ch).status ≠ .awaitingWrap ∨ counting s.chans ch = true)
          (x : (s.chans.row ch).status ≠ .clear) :
          (((s.take i).leaveCutOff ch).chans.row ch).state = .forced := by
        rw [Channel.state, whole, if_neg (by decide), if_neg (by rw [status stays]; exact x)]
      refine ⟨(s.take i).leaveCutOff ch, fun is => ?_, fun is => ?_, restart, requested, conducting,
        fun engaged => ?_, fun awaiting counts => ?_, fun clear => ?_, conds, handed,
        fun other ne => State.leaveCutOff_others _ ne, ?_, ?_, ?_, ?_⟩
      · rcases how with ⟨other, -⟩ | ⟨-, due, runs⟩
        · rw [is] at other; exact nomatch other
        · rw [is, (exec_restartDelayExpiry running).1 due runs]
      · rcases how with ⟨-, cut⟩ | ⟨other, -⟩
        · rw [is, exec_channelRestore rq b running addressed, State.onChannel_of_named _ _ _ names,
            channelRestore_of_cutOff (s := s.take _) cut]
        · rw [is] at other; exact nomatch other
      · exact forced (.inl (by rw [engaged]; decide)) (by rw [engaged]; decide)
      · exact forced (.inr counts) (by rw [awaiting]; decide)
      · rw [Channel.state, whole, if_neg (by decide),
          if_pos ((status (.inl (by rw [State.take_chans, clear]; decide))).trans clear)]
      all_goals
        have moves := ((s.take i).uncut_movesChan ch).trans (State.releaseIfStill_movesChan _ ch)
        rw [State.leaveCutOff_eq]
        simp only [State.followCut, State.conduct_req, State.follow_req, State.conduct_plan, State.follow_plan,
          State.conduct_door, State.follow_door, State.conduct_line, State.follow_line]
        rw [moves.frame]
        rfl
  · rw [exec_channelRestore rq b running addressed, State.onChannel_of_out _ _ _ out]

/-! ## The rate generators (R56) -/

/-- A TIMER STEP up to the rate generators. -/
def State.timersStepped (s : State) : State :=
  let u := { s with clock := s.clock + 1 }
  let r := stepTimers u.clock u.chans
  let u := (List.finRange 16).foldl
    (fun s ch => if r.2.contains (head s.chans ch) then s.releaseAtWrap ch else s) (u.setChans r.1)
  u.conductAll ((List.finRange 16).filter fun ch => (s.chans.row ch).timerOut != (u.chans.row ch).timerOut)

theorem State.timerStep_eq (s : State) : s.timerStep = s.timersStepped.tickGenerators := rfl

end Sys2Proof.Machine
end

section
/-! PROOFS. The rate generators at a TIMER STEP (R56). -/

namespace Sys2Proof.Machine
variable {s t : State} {ch : Fin 16}

/-- Channels are all that a recomputation, a release or a step of the timers moves. -/
theorem State.releaseAtWrap_frame (s : State) (ch : Fin 16) : s.releaseAtWrap ch = s.setChans (s.releaseAtWrap ch).chans := by
  unfold State.releaseAtWrap
  dsimp only
  split
  · exact State.conduct_frame _ ch
  · rfl

theorem State.setChans_trans {u : State} (h : t = s.setChans t.chans) (g : u = t.setChans u.chans) :
    u = s.setChans u.chans := by
  have onto : ∀ cs, t.setChans cs = s.setChans cs := fun cs => by rw [h]; rfl
  exact g.trans (onto _)

theorem State.setChans_frame (s : State) (cs : Chans) : s.setChans cs = s.setChans (s.setChans cs).chans := rfl

/-- Before the rate generators, the clock and the channels are all that moves. -/
theorem State.timersStepped_frame (s : State) :
    s.timersStepped = { s with clock := s.clock + 1, chans := s.timersStepped.chans } := by
  unfold State.timersStepped
  refine State.setChans_trans (s := { s with clock := s.clock + 1 }) ?_ (State.conductAll_frame _ _)
  refine foldl_holds (fun t => t = State.setChans { s with clock := s.clock + 1 } t.chans) _ (fun t ch h => ?_) _ _
    (State.setChans_frame _ _)
  dsimp only
  split
  · exact State.setChans_trans h (t.releaseAtWrap_frame ch)
  · exact h

theorem RateGen.tick_of_output {g : RateGen} {divisor : Nat} {input : BInput} (h : g.divisor ≤ g.count + 1) :
    g.tick divisor input = ({ count := 0, divisor := divisor, input := input }, true) := if_pos h

theorem RateGen.tick_of_counting {g : RateGen} {divisor : Nat} {input : BInput} (h : ¬ g.divisor ≤ g.count + 1) :
    g.tick divisor input = ({ g with count := g.count + 1 }, false) := if_neg h

/-- Generator A at one microsecond, and whether it gives its output. -/
def Scan.tickA (x : Scan) : RateGen × Bool := x.genA.tick x.settings.nA .reference

/-- Generator B at one microsecond, and whether it gives its output. -/
def Scan.tickB (x : Scan) : RateGen × Bool :=
  if x.genB.input = .reference ∨ x.tickA.2 = true then x.genB.tick x.settings.nB x.settings.bInput else (x.genB, false)

theorem State.tickGenerators_eq (s : State) : s.tickGenerators =
    { s with
      scan := { s.scan with genA := s.scan.tickA.1, genB := s.scan.tickB.1 }
      handed := s.handed ++ (if s.scan.tickA.2 = true then [.rateGeneratorOutput .a] else [])
        ++ (if s.scan.tickB.2 = true then [.rateGeneratorOutput .b] else []) } := by
  have counts : (match s.scan.genB.input with | .reference => true | .a => s.scan.tickA.2) = true ↔
      (s.scan.genB.input = .reference ∨ s.scan.tickA.2 = true) := by
    cases s.scan.genB.input <;> simp
  have b : (if (match s.scan.genB.input with | .reference => true | .a => s.scan.tickA.2) = true then
      s.scan.genB.tick s.scan.settings.nB s.scan.settings.bInput else (s.scan.genB, false)) = s.scan.tickB :=
    if_congr counts rfl rfl
  unfold State.tickGenerators
  change (let s₁ := s.setScan { s.scan with genA := s.scan.tickA.1, genB := (if (match s.scan.genB.input with
      | .reference => true | .a => s.scan.tickA.2) = true then
      s.scan.genB.tick s.scan.settings.nB s.scan.settings.bInput else (s.scan.genB, false)).1 }
    let s₂ := if s.scan.tickA.2 = true then s₁.hand (.rateGeneratorOutput .a) else s₁
    if (if (match s.scan.genB.input with | .reference => true | .a => s.scan.tickA.2) = true then
      s.scan.genB.tick s.scan.settings.nB s.scan.settings.bInput else (s.scan.genB, false)).2 = true then
      s₂.hand (.rateGeneratorOutput .b) else s₂) = _
  rw [b]
  dsimp only
  cases s.scan.tickA.2 <;> cases s.scan.tickB.2 <;> simp [State.hand, State.setScan]

theorem exec_timerStep (running : s.inReset = false) :
    exec .timerStep s = .next (s.take .timerStep).timersStepped.tickGenerators :=
  event_of_running s .timerStep State.timerStep running

/-- Settles O36: the two generators tick on what the timers' step leaves as it was. -/
theorem rateGeneratorsCountTheReference : Obligations.RateGeneratorsCountTheReference := by
  intro s running
  dsimp only
  refine ⟨_, exec_timerStep running, ?_⟩
  have scan : (s.take .timerStep).timersStepped.scan = s.scan := by rw [State.timersStepped_frame]; rfl
  have handed : (s.take .timerStep).timersStepped.handed = (s.take .timerStep).handed := by
    rw [State.timersStepped_frame]
  rw [State.tickGenerators_eq, scan, handed]
  dsimp only
  have a : s.scan.tickA.2 = true ↔ s.scan.genA.divisor ≤ s.scan.genA.count + 1 := by
    by_cases out : s.scan.genA.divisor ≤ s.scan.genA.count + 1
    · simp [Scan.tickA, RateGen.tick_of_output out, out]
    · simp [Scan.tickA, RateGen.tick_of_counting out, out]
  have b : s.scan.tickB.2 = true ↔ (s.scan.genB.input = .reference ∨ s.scan.tickA.2 = true)
      ∧ s.scan.genB.divisor ≤ s.scan.genB.count + 1 := by
    by_cases counts : s.scan.genB.input = .reference ∨ s.scan.tickA.2 = true
    · by_cases out : s.scan.genB.divisor ≤ s.scan.genB.count + 1
      · simp [Scan.tickB, counts, RateGen.tick_of_output out, out]
      · simp [Scan.tickB, counts, RateGen.tick_of_counting out, out]
    · simp [Scan.tickB, counts]
  rw [a] at b
  refine ⟨fun out => ?_, fun out => ?_, fun out => ?_, fun counts out => ?_, fun still => ?_, ?_⟩
  · rw [Scan.tickA, RateGen.tick_of_output out]
    exact ⟨rfl, rfl⟩
  · rw [Scan.tickA, RateGen.tick_of_counting out]
  · rw [Scan.tickB, if_pos (out.1.imp_right a.mpr), RateGen.tick_of_output out.2]
  · rw [Scan.tickB, if_pos (counts.imp_right a.mpr), RateGen.tick_of_counting fun reached => out ⟨counts, reached⟩]
  · rw [Scan.tickB, if_neg (mt (Or.imp_right a.mp) still)]
  · simp only [a, b]

end Sys2Proof.Machine
end

section
/-! PROOFS. REQ: the payloads of requests, and the malformed ones (R177, R191). -/

namespace Sys2Proof
variable {rq : Requester} {op : Byte} {a : List Byte} {i : Instr}

theorem append_wordBytes (w : BitVec 16) : w.extractLsb' 8 8 ++ w.extractLsb' 0 8 = w :=
  BitVec.extractLsb'_append_extractLsb' (w := 8) (len := 8) (x := w)

theorem wordBytes_append (hi lo : Byte) : wordBytes (hi ++ lo) = [hi, lo] := by
  rw [wordBytes, BitVec.extractLsb'_append_eq_left, BitVec.extractLsb'_append_eq_right]

/-! ## The argument forms spell their requests (R191) -/

theorem args0_bytes {f : Instr} (h : args0 a f = some i) (spells : requestBytes f = some (rq, [op])) :
    requestBytes i = some (rq, op :: a) := by
  match a with
  | [] => obtain rfl := Option.some.inj h; exact spells
  | _ :: _ => exact nomatch h

theorem args1_bytes {f : Byte → Instr} (h : args1 a f = some i) (spells : ∀ x, requestBytes (f x) = some (rq, [op, x])) :
    requestBytes i = some (rq, op :: a) := by
  match a with
  | [x] => obtain rfl := Option.some.inj h; exact spells x
  | [] | _ :: _ :: _ => exact nomatch h

theorem args2_bytes {f : Byte → Byte → Instr} (h : args2 a f = some i)
    (spells : ∀ x y, requestBytes (f x y) = some (rq, [op, x, y])) : requestBytes i = some (rq, op :: a) := by
  match a with
  | [x, y] => obtain rfl := Option.some.inj h; exact spells x y
  | [] | [_] | _ :: _ :: _ :: _ => exact nomatch h

theorem args3_bytes {f : Byte → Byte → Byte → Instr} (h : args3 a f = some i)
    (spells : ∀ x y z, requestBytes (f x y z) = some (rq, [op, x, y, z])) : requestBytes i = some (rq, op :: a) := by
  match a with
  | [x, y, z] => obtain rfl := Option.some.inj h; exact spells x y z
  | [] | [_] | [_, _] | _ :: _ :: _ :: _ :: _ => exact nomatch h

theorem args4_bytes {f : Byte → Byte → Byte → Byte → Instr} (h : args4 a f = some i)
    (spells : ∀ x y z w, requestBytes (f x y z w) = some (rq, [op, x, y, z, w])) :
    requestBytes i = some (rq, op :: a) := by
  match a with
  | [x, y, z, w] => obtain rfl := Option.some.inj h; exact spells x y z w
  | [] | [_] | [_, _] | [_, _, _] | _ :: _ :: _ :: _ :: _ :: _ => exact nomatch h

theorem argsQueue_bytes (h : argsQueue rq a = some i) : requestBytes i = some (rq, 0x06 :: a) := by
  match a with
  | [t] => obtain rfl := Option.some.inj h; rfl
  | [t, hi, lo] =>
    obtain rfl := Option.some.inj h
    rw [← wordBytes_append hi lo]; rfl
  | [] | [_, _] | _ :: _ :: _ :: _ :: _ => exact nomatch h

theorem argsWrite_bytes (h : argsWrite rq a = some i) : requestBytes i = some (rq, 0x13 :: a) := by
  match a with
  | t :: k :: b :: rest =>
    obtain rfl := Option.some.inj h
    simp only [requestBytes, List.dropLast_append_getLast]
  | [] | [_] | [_, _] => exact nomatch h

theorem argsBlock_bytes (h : argsBlock rq a = some i) : requestBytes i = some (rq, 0x14 :: a) := by
  match a with
  | t :: k :: n :: b :: rest =>
    obtain rfl := Option.some.inj h
    simp only [requestBytes, List.dropLast_append_getLast]
  | [] | [_] | [_, _] | [_, _, _] => exact nomatch h

theorem argsIdentity_bytes (h : argsIdentity rq a = some i) : requestBytes i = some (rq, 0x18 :: a) := by
  unfold argsIdentity at h
  split at h
  · rename_i nine
    obtain rfl := Option.some.inj h
    have whole : (Vector.ofFn fun k : Fin 8 => a[k.val]'(by omega)).toList ++ [a[8]'(by omega)] = a := by
      refine List.ext_getElem (by simp [nine]) fun k short _ => ?_
      rw [List.getElem_append]
      split
      · simp
      · have last : k = 8 := by simp at short; simp_all; omega
        subst last; rfl
    simp only [requestBytes, whole]
  · exact nomatch h

theorem byte_of_toNat {b : Byte} {n : Nat} (h : b.toNat = n) : b = BitVec.ofNat 8 n := by
  rw [← h, BitVec.ofNat_toNat, BitVec.setWidth_eq]

/-- What is read as a request is that request's payload (R177). -/
theorem requestOf_bytes (h : requestOf rq op a = some i) : requestBytes i = some (rq, op :: a) := by
  unfold requestOf at h
  split at h
  case h_14 code | h_15 code | h_16 code | h_17 code | h_21 code | h_26 code =>
    obtain rfl := byte_of_toNat code
    exact args0_bytes h rfl
  case h_2 code | h_3 code | h_5 code | h_9 code | h_10 code | h_11 code | h_13 code | h_23 code =>
    obtain rfl := byte_of_toNat code
    exact args1_bytes h fun _ => rfl
  case h_1 code | h_4 code | h_7 code | h_8 code =>
    obtain rfl := byte_of_toNat code
    exact args2_bytes h fun _ _ => rfl
  case h_18 code =>
    obtain rfl := byte_of_toNat code
    exact args3_bytes h fun _ _ _ => rfl
  case h_12 code =>
    obtain rfl := byte_of_toNat code
    refine args3_bytes h fun c hi lo => ?_
    rw [requestBytes, BitVec.ofNat_toNat, BitVec.setWidth_eq, wordBytes_append]
    rfl
  case h_22 code | h_25 code =>
    obtain rfl := byte_of_toNat code
    refine args4_bytes h fun _ _ _ _ => ?_
    simp only [requestBytes, wordBytes_append]
    rfl
  case h_6 code => obtain rfl := byte_of_toNat code; exact argsQueue_bytes h
  case h_19 code => obtain rfl := byte_of_toNat code; exact argsWrite_bytes h
  case h_20 code => obtain rfl := byte_of_toNat code; exact argsBlock_bytes h
  case h_24 code => obtain rfl := byte_of_toNat code; exact argsIdentity_bytes h
  case h_27 => exact nomatch h

theorem parseRequest_bytes (rq : Requester) (payload : List Byte) :
    requestBytes (parseRequest rq payload) = some (rq, payload)
    ∨ parseRequest rq payload = .malformedRequest rq payload := by
  match payload with
  | [] => exact .inr rfl
  | op :: a =>
    cases read : requestOf rq op a with
    | none => exact .inr (by rw [parseRequest, read]; rfl)
    | some i => exact .inl (by rw [parseRequest, read]; exact requestOf_bytes read)

theorem argsWrite_append (rq : Requester) (t k c : Byte) (img : List Byte) :
    argsWrite rq (t :: k :: (img ++ [c])) = some (.tableWrite rq t k img c) := by
  match img with
  | [] => rfl
  | b :: rest =>
    change some (Instr.tableWrite rq t k ((b :: rest) ++ [c]).dropLast (((b :: rest) ++ [c]).getLast _)) = _
    rw [List.dropLast_concat, List.getLast_concat]

theorem argsBlock_append (rq : Requester) (t k n c : Byte) (body : List Byte) :
    argsBlock rq (t :: k :: n :: (body ++ [c])) = some (.blockWrite rq t k n body c) := by
  match body with
  | [] => rfl
  | b :: rest =>
    change some (Instr.blockWrite rq t k n ((b :: rest) ++ [c]).dropLast (((b :: rest) ++ [c]).getLast _)) = _
    rw [List.dropLast_concat, List.getLast_concat]

theorem argsIdentity_append (rq : Requester) (tag : Vector Byte 8) (c : Byte) :
    argsIdentity rq (tag.toList ++ [c]) = some (.identityWrite rq tag c) := by
  have nine : (tag.toList ++ [c]).length = 9 := by simp
  have tag_is : Vector.ofFn (fun k : Fin 8 => (tag.toList ++ [c])[k.val]'(by omega)) = tag := by
    refine Vector.ext fun k low => ?_
    rw [Vector.getElem_ofFn, List.getElem_append_left (by simpa using low), Vector.getElem_toList]
  rw [argsIdentity, dif_pos nine, tag_is]
  simp

/-- The payload of a well-formed request reads back as that request, and fits a frame (R3, R177). -/
theorem parseRequest_of_bytes {payload : List Byte} (wf : i.wf = true) (h : requestBytes i = some (rq, payload)) :
    parseRequest rq payload = i ∧ payload.length ≤ 48 := by
  cases i with
  | planStart _ r p | groupClose _ r p | channelSet _ r p | planAbort _ r | planResume _ r | groupRelease _ r
  | channelRestore _ r | forceClear _ r | triggerClear _ r | condClear _ r | modeSet _ r | trimStart | bufferRead
  | bufferClear | statusRead | opsReset | tableRead =>
    cases h
    exact ⟨rfl, by simp⟩
  | scanNow o | callCancel o =>
    cases o with
    | request => cases h; exact ⟨rfl, by simp⟩
    | _ => exact nomatch h
  | callQueue o t z =>
    cases o with
    | request =>
      cases z with
      | none => cases h; exact ⟨rfl, by simp⟩
      | some z =>
        cases h
        refine ⟨?_, by simp [wordBytes]⟩
        conv_rhs => rw [← append_wordBytes z]
        rfl
    | _ => exact nomatch h
  | condSet _ c hold =>
    cases h
    obtain ⟨-, word⟩ := (Bool.and_eq_true_iff).mp wf
    have small : hold ≤ 65535 := of_decide_eq_true word
    refine ⟨?_, by simp [wordBytes]⟩
    change Instr.condSet rq c ((BitVec.ofNat 16 hold).extractLsb' 8 8 ++ (BitVec.ofNat 16 hold).extractLsb' 0 8).toNat = _
    rw [append_wordBytes, BitVec.toNat_ofNat, Nat.mod_eq_of_lt (by omega)]
  | flagsClear _ x y =>
    cases h
    refine ⟨?_, by simp [wordBytes]⟩
    change Instr.flagsClear rq (x.extractLsb' 8 8 ++ x.extractLsb' 0 8) (y.extractLsb' 8 8 ++ y.extractLsb' 0 8) = _
    rw [append_wordBytes, append_wordBytes]
  | noticeSet _ n x d =>
    cases h
    refine ⟨?_, by simp [wordBytes]⟩
    change Instr.noticeSet rq n (x.extractLsb' 8 8 ++ x.extractLsb' 0 8) d = _
    rw [append_wordBytes]
  | tableWrite _ t k img c =>
    cases h
    obtain ⟨-, fits⟩ := (Bool.and_eq_true_iff).mp wf
    have short : img.length ≤ 44 := of_decide_eq_true fits
    refine ⟨?_, by simp; omega⟩
    change (argsWrite rq (t :: k :: (img ++ [c]))).getD _ = _
    rw [argsWrite_append]
    rfl
  | blockWrite _ t k n body c =>
    cases h
    obtain ⟨-, fits⟩ := (Bool.and_eq_true_iff).mp wf
    have short : body.length ≤ 43 := of_decide_eq_true fits
    refine ⟨?_, by simp; omega⟩
    change (argsBlock rq (t :: k :: n :: (body ++ [c]))).getD _ = _
    rw [argsBlock_append]
    rfl
  | identityWrite _ tag c =>
    cases h
    refine ⟨?_, by simp⟩
    change (argsIdentity rq (tag.toList ++ [c])).getD _ = _
    rw [argsIdentity_append]
    rfl
  | _ => exact nomatch h

namespace Machine
variable {s : State}

theorem exec_malformedRequest (rq : Requester) (payload : List Byte) (running : s.inReset = false)
    (addressed : s.addressed = true) : exec (.malformedRequest rq payload) s =
      .next ((s.take (.malformedRequest rq payload)).malformed rq payload) :=
  event_of_request s running addressed

theorem malformedResult_of_other {op : Byte} (args : List Byte) (write : op ≠ 0x13) (block : op ≠ 0x14) :
    malformedResult (op :: args) = (.badValue, []) := if_neg (not_or.mpr ⟨write, block⟩)

theorem writableTable_isSome (table : Byte) :
    (writableTable table).isNone = false ↔ 1 ≤ table.toNat ∧ table.toNat ≤ 18 := by
  unfold writableTable tableOf
  rcases Nat.lt_or_ge table.toNat 21 with known | unknown
  · generalize table.toNat = n at known ⊢
    interval_cases n <;> decide
  · rw [List.getElem?_eq_none (by exact unknown)]
    simp
    omega

theorem malformedResult_of_write {op : Byte} (is : op = 0x13 ∨ op = 0x14) (table index : Byte) (rest : List Byte) :
    malformedResult (op :: table :: index :: rest) =
      (if 1 ≤ table.toNat ∧ table.toNat ≤ 18 then .badValue else .badTable, [table, index]) := by
  simp only [malformedResult, is, if_true]
  by_cases known : 1 ≤ table.toNat ∧ table.toNat ≤ 18
  · rw [(writableTable_isSome table).mpr known, if_pos known]; rfl
  · rw [if_neg known, Bool.eq_true_of_not_eq_false (mt (writableTable_isSome table).mp known)]; rfl

/-- Settles O53, by the forms of the requests. -/
theorem requestPayloadsReadBack : Obligations.RequestPayloadsReadBack := by
  refine ⟨fun i rq payload wf h => parseRequest_of_bytes wf h, parseRequest_bytes,
    fun s rq op args ⟨running, addressed⟩ => ?_⟩
  dsimp only
  rw [exec_malformedRequest rq _ running addressed, exec_malformedRequest rq _ running addressed]
  refine ⟨rfl, fun write block => ?_, fun is table index rest named => ?_⟩
  · rw [State.malformed, malformedResult_of_other args write block]; rfl
  · rw [named, State.malformed, malformedResult_of_write is]; rfl

end Machine
end Sys2Proof
end

section
/-! PROOFS. REQ: status, flags, notice settings and notice events (R185 to R187). -/

namespace Sys2Proof.Machine
variable {s : State}

theorem u16_eq (n : Nat) : u16 n = [BitVec.ofNat 8 (n / 256), BitVec.ofNat 8 n] := by
  have hi : (BitVec.ofNat 16 n).extractLsb' 8 8 = BitVec.ofNat 8 (n / 256) := by
    apply BitVec.eq_of_toNat_eq
    simp [BitVec.extractLsb'_toNat, Nat.shiftRight_eq_div_pow]
    omega
  have lo : (BitVec.ofNat 16 n).extractLsb' 0 8 = BitVec.ofNat 8 n := by
    apply BitVec.eq_of_toNat_eq
    simp [BitVec.extractLsb'_toNat]
  rw [u16, bytesOf16, hi, lo]

theorem bytesOf16_eq (w : BitVec 16) :
    bytesOf16 w = [BitVec.ofNat 8 (w.toNat / 256), BitVec.ofNat 8 w.toNat] := by
  rw [← u16_eq, u16, BitVec.ofNat_toNat, BitVec.setWidth_eq]

theorem exec_statusRead (rq : Requester) (running : s.inReset = false) (addressed : s.addressed = true) :
    exec (.statusRead rq) s = .next ((s.take (.statusRead rq)).reply rq 0x15 .done s.status) :=
  event_of_request s running addressed

theorem exec_flagsClear (rq : Requester) (counts notices : BitVec 16) (running : s.inReset = false)
    (addressed : s.addressed = true) : exec (.flagsClear rq counts notices) s =
      .next ((s.take (.flagsClear rq counts notices)).flagsClear rq counts notices) :=
  event_of_request s running addressed

theorem exec_noticeSet (rq : Requester) (node : Byte) (enabled : BitVec 16) (disable : Byte)
    (running : s.inReset = false) (addressed : s.addressed = true) : exec (.noticeSet rq node enabled disable) s =
      .next ((s.take (.noticeSet rq node enabled disable)).noticeSet rq node enabled disable) :=
  event_of_request s running addressed

/-- The first twelve bits of a set are the notice kinds 1 to 12 (R186). -/
theorem getLsbD_kinds (enabled : BitVec 16) {k : Nat} (low : 1 ≤ k) (high : k ≤ 16) :
    (enabled &&& 0x0FFF).getLsbD (k - 1) = (enabled.getLsbD (k - 1) && decide (k ≤ 12)) := by
  have mask : (0x0FFF : BitVec 16).getLsbD (k - 1) = decide (k ≤ 12) := by
    interval_cases k <;> decide
  rw [BitVec.getLsbD_and, mask]

theorem State.noticeSet_of_bad {rq : Requester} {node : Byte} (enabled : BitVec 16) {disable : Byte}
    (bad : 127 < node.toNat ∨ (disable ≠ 0 ∧ disable ≠ 1)) :
    s.noticeSet rq node enabled disable = s.reply rq 0x19 .badValue [] := by
  unfold State.noticeSet
  split
  · rfl
  · rename_i off is
    rcases bad with high | ⟨zero, one⟩
    · exact if_pos high
    · rw [flag?_of_other zero one] at is
      exact nomatch is

theorem State.noticeSet_of_good {rq : Requester} {node : Byte} (enabled : BitVec 16) (off : Bool)
    (low : node.toNat ≤ 127) : s.noticeSet rq node enabled (if off then 1 else 0) =
      (s.setReq { s.req with node := node, enabled := enabled &&& 0x0FFF, disable := off }).reply rq 0x19 .done [] := by
  simp only [State.noticeSet, flag?_of_bool]
  exact if_neg (by omega)

theorem ofNat_two_pow_eq (i : Nat) : BitVec.ofNat 16 (2 ^ i) = BitVec.twoPow 16 i :=
  BitVec.eq_of_toNat_eq (by rw [BitVec.toNat_ofNat, BitVec.toNat_twoPow])

/-- The state once the mark of notice kind `k` is set (R187). -/
def State.marked (s : State) (k : Fin 13) : State :=
  s.setReq { s.req with marks := s.req.marks ||| BitVec.twoPow 16 (k.val - 1) }

theorem State.notice_of_quiet {k : Fin 13} (subject : Nat) (fresh : s.req.marks.getLsbD (k.val - 1) = false)
    (quiet : ¬ (s.req.enabled.getLsbD (k.val - 1) = true ∧ s.req.disable = false)) :
    s.notice k subject = s.marked k := by
  have off : (s.req.enabled.getLsbD (k.val - 1) && !s.req.disable) = false := by
    rw [Bool.and_eq_false_iff, Bool.not_eq_false']
    by_cases enabled : s.req.enabled.getLsbD (k.val - 1) = true
    · exact .inr (Bool.eq_true_of_not_eq_false fun open_ => quiet ⟨enabled, open_⟩)
    · exact .inl (Bool.eq_false_of_not_eq_true enabled)
  simp only [State.notice, fresh, State.setReq_req, off, ofNat_two_pow_eq]
  rfl

theorem State.notice_of_sending {k : Fin 13} (subject : Nat) (fresh : s.req.marks.getLsbD (k.val - 1) = false)
    (sends : s.req.enabled.getLsbD (k.val - 1) = true ∧ s.req.disable = false) :
    s.notice k subject = (s.marked k).emit s.req.node 8 (BitVec.ofNat 8 k.val)
      (BitVec.ofNat 8 k.val :: BitVec.ofNat 8 subject :: bytesOf16 (s.req.marks ||| BitVec.twoPow 16 (k.val - 1))) := by
  have on : (s.req.enabled.getLsbD (k.val - 1) && !s.req.disable) = true := by rw [sends.1, sends.2]; rfl
  simp only [State.notice, fresh, State.setReq_req, on, ofNat_two_pow_eq]
  rfl

/-- Settles O57: each of the four says what its operation writes. -/
theorem statusFlagsAndNotices : Obligations.StatusFlagsAndNotices := by
  refine ⟨fun s rq ⟨running, addressed⟩ => ?_, fun s rq counts notices ⟨running, addressed⟩ => ?_,
    fun s rq node enabled disable ⟨running, addressed⟩ => ?_, fun s k subject _ => ?_⟩
  · dsimp only
    rw [exec_statusRead rq running addressed]
    have mode : (match s.req.mode with | .setup => 0 | .service => 1) = s.req.mode.byte := by
      cases s.req.mode <;> rfl
    have status : s.status = s.req.mode.byte :: BitVec.ofNat 8 s.line.strap.val ::
          ([s.line.up.crcCount, s.line.up.normalDrops, s.line.up.safetyDrops,
            s.line.dn.crcCount, s.line.dn.normalDrops, s.line.dn.safetyDrops,
            s.line.clashCount, s.scan.overrun, s.scan.buffer.length, s.scan.overflow,
            s.scan.stored, s.scan.read, s.scan.cleared, s.scan.discarded,
            s.door.warnCallLost, s.call.paLate, s.req.marks.toNat].flatMap fun n =>
              [BitVec.ofNat 8 (n / 256), BitVec.ofNat 8 n]) := by
      simp [State.status, PortState.counts, u16_eq, bytesOf16_eq, u8]
    rw [status]
    cases s.req.mode <;> rfl
  · dsimp only
    refine ⟨_, exec_flagsClear rq counts notices running addressed, rfl, rfl, rfl, rfl, rfl, rfl, rfl, fun k low high => ?_, ?_⟩
    · change (s.req.marks &&& ~~~notices).getLsbD (k - 1) = _
      rw [BitVec.getLsbD_and, BitVec.getLsbD_not, decide_eq_true (by omega : k - 1 < 16), Bool.true_and]
    · rfl
  · dsimp only
    rw [exec_noticeSet rq node enabled disable running addressed]
    refine ⟨fun bad => by rw [State.noticeSet_of_bad enabled bad], fun small off is => ?_⟩
    subst is
    rw [State.noticeSet_of_good enabled off small]
    exact ⟨_, rfl, rfl, fun k low high => getLsbD_kinds enabled low high⟩
  · dsimp only
    exact ⟨State.notice_of_marked _ _, fun fresh =>
      ⟨State.notice_of_quiet subject fresh, State.notice_of_sending subject fresh⟩⟩

end Sys2Proof.Machine
end

section
/-! PROOFS. REQ: power-on reset (R188). -/

namespace Sys2Proof.Machine
variable {s : State}

/-- Every command but the reset's own two and a change at a fault pin is lost during the reset. -/
theorem exec_of_inReset {i : Instr} (held : s.inReset = true) (begin_ : i ≠ .powerOnReset)
    (complete : ∀ straps, i ≠ .powerOnResetCompletion straps) (pin : ∀ l low, i ≠ .faultLineChange l low) :
    exec i s = .next s := by
  obtain ⟨line, table, board, scan, chans, plan, door, call, req, faultA, faultB, inReset, clock, handed, pending⟩ := s
  obtain rfl : inReset = true := held
  cases i
  case powerOnReset => exact absurd rfl begin_
  case powerOnResetCompletion straps => exact absurd rfl (complete straps)
  case faultLineChange l low => exact absurd rfl (pin l low)
  all_goals rfl

section
variable (straps : Fin 128) (a b : Bool)

theorem powerOn_port (p : Port) : (State.powerOn straps a b).port p = PortState.reset := by
  cases p <;> rfl

theorem powerOn_side (n : Fin 126) :
    (State.powerOn straps a b).line.sides.row n = { side := .unknown, pinned := false } := Tbl.row_all n _

theorem powerOn_entry (e : Fin 64) : (State.powerOn straps a b).table.row e = MatchEntry.reset := Tbl.row_all e _

theorem powerOn_cond (c : Fin 64) : (State.powerOn straps a b).board.conds.row c = CondRecord.reset a b c := by
  simp [State.powerOn, Board.reset, Tbl.row]

theorem powerOn_term (t : Fin 32) : (State.powerOn straps a b).board.terms.row t = { literals := [] } := Tbl.row_all t _

theorem powerOn_chan (ch : Fin 16) : (State.powerOn straps a b).chans.row ch = Channel.reset := Tbl.row_all ch _

theorem powerOn_ramp (r : Fin 4) : (State.powerOn straps a b).ramp r = Ramp.reset := Tbl.row_all r _

theorem powerOn_door (d : Fin 24) : (State.powerOn straps a b).door.doors.row d = Door.reset := Tbl.row_all d _

theorem powerOn_template (m : Fin 32) : (State.powerOn straps a b).call.templates.row m = Template.reset := Tbl.row_all m _

theorem powerOn_zone (z : Fin 16) :
    (State.powerOn straps a b).call.zones.row z = { lamp := none, holder := none } := Tbl.row_all z _

theorem powerOn_slot (k : Fin 16) : (State.powerOn straps a b).call.slots.row k = none := Tbl.row_all k _

end

/-- TRUE after the reset: the conditions of asserted fault lines and the eight lanes (R39, R51). -/
theorem CondRecord.reset_value (a b : Bool) (c : Fin 64) : (CondRecord.reset a b c).value = true ↔
    (c = 3 ∧ a = true) ∨ (c = 4 ∧ b = true) ∨ (8 ≤ c.val ∧ c.val ≤ 15) := by
  simp [CondRecord.reset, Fin.ext_iff, or_assoc]

/-- Settles O59: every record of the state after reset, table by table. -/
theorem powerOnResetGivesTheInitialState : Obligations.PowerOnResetGivesTheInitialState := by
  refine ⟨fun s i held begin_ complete pin => ?_, fun s => ?_, fun s straps => ?_⟩
  · exact exec_of_inReset held begin_ complete pin
  · refine ⟨_, rfl, rfl, rfl, rfl, rfl, rfl, fun ch => ?_⟩
    change ((State.powerOn s.line.strap s.faultA s.faultB).chans.row ch).conducting = false
      ∧ ((State.powerOn s.line.strap s.faultA s.faultB).chans.row ch).pin = .passiveLow
    rw [powerOn_chan]
    exact ⟨rfl, rfl⟩
  · let u := State.powerOn straps s.faultA s.faultB
    have port (p) : (s.completeReset straps).port p = PortState.reset := powerOn_port straps s.faultA s.faultB p
    have cond (c) : (s.completeReset straps).board.conds.row c = CondRecord.reset s.faultA s.faultB c :=
      powerOn_cond straps s.faultA s.faultB c
    have chan (ch) : (s.completeReset straps).chans.row ch = Channel.reset := powerOn_chan straps s.faultA s.faultB ch
    have ramp (r) : (s.completeReset straps).ramp r = Ramp.reset := powerOn_ramp straps s.faultA s.faultB r
    have door (d) : (s.completeReset straps).door.doors.row d = Door.reset := powerOn_door straps s.faultA s.faultB d
    refine ⟨s.completeReset straps, rfl, rfl, rfl, rfl, rfl, rfl, rfl, rfl, fun p => ?_,
      powerOn_side straps s.faultA s.faultB, rfl, rfl, rfl, fun e => ?_, fun c => ?_, fun tm => ?_,
      rfl, rfl, rfl, rfl, rfl, fun ch => ?_, fun r => ?_, fun d => ?_, rfl,
      powerOn_template straps s.faultA s.faultB, powerOn_zone straps s.faultA s.faultB,
      powerOn_slot straps s.faultA s.faultB, rfl, rfl, rfl, rfl, rfl, rfl, rfl⟩
    · rw [port]
      exact ⟨rfl, rfl, rfl, rfl, rfl⟩
    · exact congrArg MatchEntry.valid (powerOn_entry straps s.faultA s.faultB e)
    · rw [State.cond, cond]
      exact ⟨CondRecord.reset_value _ _ c, rfl, rfl, rfl⟩
    · exact congrArg Term.literals (powerOn_term straps s.faultA s.faultB tm)
    · dsimp only
      rw [chan]
      exact ⟨rfl, rfl, rfl, rfl, rfl, rfl, rfl, rfl, rfl, rfl, rfl, rfl, rfl, rfl⟩
    · rw [ramp]
      exact ⟨rfl, rfl, rfl, rfl, rfl, rfl, rfl, rfl, rfl⟩
    · rw [door]
      exact ⟨rfl, rfl, rfl⟩

end Sys2Proof.Machine
end

section
/-! PROOFS. CALL: the lamps and the frames at the end of an event, the tokens, the interval and the lamp step
(R166, R167, R171, R173). -/

namespace Sys2Proof.Machine
variable {s : State}

/-! ## What a level that an owner sets leaves unchanged (R83) -/

theorem State.setLevel_frame (s : State) (ch : Fin 16) (on : Bool) :
    s.setLevel ch on = s.setChans (s.setLevel ch on).chans := by
  unfold State.setLevel
  exact State.setChans_trans (by rfl) (State.conduct_frame _ _)

theorem State.ownerLevel_frame (s : State) (o : Owner) (ch : Option (Fin 16)) (on : Bool) :
    s.ownerLevel o ch on = s.setChans (s.ownerLevel o ch on).chans := by
  cases ch with
  | none => rfl
  | some ch =>
    simp only [State.ownerLevel]
    split
    · exact s.setLevel_frame ch on
    · rfl

/-! ## Lamps (R173) -/

theorem State.setLamp_frame (s : State) (z : Fin 16) : s.setLamp z = s.setChans (s.setLamp z).chans :=
  s.ownerLevel_frame _ _ _

/-- The lamps of the zones of a list follow their holders. -/
def State.setLampsOf (s : State) (l : List (Fin 16)) : State := l.foldl State.setLamp s

theorem State.setLampsOf_cons (s : State) (z : Fin 16) (l : List (Fin 16)) :
    s.setLampsOf (z :: l) = (s.setLamp z).setLampsOf l := rfl

theorem State.setLampsOf_frame (s : State) (l : List (Fin 16)) :
    s.setLampsOf l = s.setChans (s.setLampsOf l).chans :=
  foldl_holds (fun t => t = s.setChans t.chans) State.setLamp
    (fun t z h => State.setChans_trans h (t.setLamp_frame z)) l s rfl

theorem State.setLampsOf_call (s : State) (l : List (Fin 16)) : (s.setLampsOf l).call = s.call := by
  rw [s.setLampsOf_frame l]; rfl

theorem State.setLampsOf_line (s : State) (l : List (Fin 16)) : (s.setLampsOf l).line = s.line := by
  rw [s.setLampsOf_frame l]; rfl

@[simp] theorem State.setLamp_set (z ch : Fin 16) : ((s.setLamp z).chans.row ch).set = (s.chans.row ch).set :=
  s.ownerLevel_set _ _ _ _

theorem State.setLamp_chan_of_lamp {z ch : Fin 16} (h : (s.call.zones.row z).lamp ≠ some ch) :
    (s.setLamp z).chans.row ch = s.chans.row ch := by
  unfold State.setLamp
  dsimp only
  cases lamp : (s.call.zones.row z).lamp with
  | none => rfl
  | some c => exact s.ownerLevel_chan_ne _ _ (fun e => h (e ▸ lamp))

/-- A zone moves no channel that it does not own. -/
theorem State.setLamp_chan_of_owner {z ch : Fin 16} (h : (s.chans.row ch).set.owner ≠ .lamp z) :
    (s.setLamp z).chans.row ch = s.chans.row ch := by
  by_cases lamp : (s.call.zones.row z).lamp = some ch
  · unfold State.setLamp
    dsimp only
    rw [lamp, s.ownerLevel_of_other h]
  · exact State.setLamp_chan_of_lamp lamp

/-- The level that a zone's lamp takes: its holder's, at its lamp step. -/
def Call.zoneLevel (c : Call) (z : Fin 16) : Bool := c.lampLevel (c.zones.row z).holder

theorem State.setLamp_requested {z ch : Fin 16} (lamp : (s.call.zones.row z).lamp = some ch)
    (owner : (s.chans.row ch).set.owner = .lamp z)
    (admitted : s.req.mode = .service ∨ s.call.zoneLevel z = false) :
    ((s.setLamp z).chans.row ch).requested = s.call.zoneLevel z := by
  have taken : ¬ (s.call.lampLevel (s.call.zones.row z).holder = true ∧ s.req.mode = .setup) := by
    rintro ⟨on, setup⟩
    rcases admitted with service | off
    · rw [service] at setup; cases setup
    · exact Bool.false_ne_true (off.symm.trans on)
  unfold State.setLamp
  dsimp only
  rw [lamp, s.ownerLevel_of_owner owner taken, State.setLevel_requested, Call.zoneLevel]

theorem State.setLampsOf_chan_of_lamp {l : List (Fin 16)} {ch : Fin 16}
    (h : ∀ z ∈ l, (s.call.zones.row z).lamp ≠ some ch) : (s.setLampsOf l).chans.row ch = s.chans.row ch := by
  induction l generalizing s with
  | nil => rfl
  | cons z l ih =>
    rw [State.setLampsOf_cons, ih (by simpa using fun w m => h w (List.mem_cons_of_mem _ m)),
      State.setLamp_chan_of_lamp (h z List.mem_cons_self)]

theorem State.setLampsOf_requested {l : List (Fin 16)} {z ch : Fin 16} (lamp : (s.call.zones.row z).lamp = some ch)
    (owner : (s.chans.row ch).set.owner = .lamp z)
    (admitted : s.req.mode = .service ∨ s.call.zoneLevel z = false)
    (set : z ∈ l ∨ (s.chans.row ch).requested = s.call.zoneLevel z) :
    ((s.setLampsOf l).chans.row ch).requested = s.call.zoneLevel z := by
  induction l generalizing s with
  | nil => exact set.resolve_left (List.not_mem_nil)
  | cons w l ih =>
    have level : (s.setLamp w).call.zoneLevel z = s.call.zoneLevel z := by rw [State.setLamp_call]
    have moved : z ∈ l ∨ ((s.setLamp w).chans.row ch).requested = s.call.zoneLevel z := by
      by_cases e : w = z
      · subst e
        exact .inr (State.setLamp_requested lamp owner admitted)
      · have kept : (s.setLamp w).chans.row ch = s.chans.row ch :=
          State.setLamp_chan_of_owner (fun o => e (by rw [owner] at o; injection o with o; exact o.symm))
        rw [kept]
        exact set.imp_left (fun m => (List.mem_cons.mp m).resolve_left (fun h => e h.symm))
    rw [State.setLampsOf_cons, ← level]
    refine ih (by rw [State.setLamp_call]; exact lamp) (by rw [State.setLamp_set]; exact owner)
      (by rw [State.setLamp_req, level]; exact admitted) (by rw [level]; exact moved)

/-! ## The end of an event (R166, R173) -/

/-- The cancel frames of an event, in ascending slot order. -/
def CallRun.cancelFrames (r : CallRun) : List (Byte × List Byte) :=
  (List.finRange 16).flatMap (fun k => (r.cancels.filter (fun f => f.1 == k)).map Prod.snd)

theorem State.callFrames_eq (s : State) (r : CallRun) : s.callFrames r =
    (r.cancelFrames ++ r.wins).foldl (fun s f => s.emit s.call.paNode kindCall f.1 f.2) s := rfl

theorem CallRun.cancelFrames_nil {r : CallRun} (h : r.cancels = []) : r.cancelFrames = [] := by
  simp [CallRun.cancelFrames, h]

/-- The zones whose holder an event has changed. -/
def Call.rehung (c c' : Call) : List (Fin 16) :=
  (List.finRange 16).filter (fun z => (c.zones.row z).holder != (c'.zones.row z).holder)

theorem Call.mem_rehung {c c' : Call} {z : Fin 16} :
    z ∈ c.rehung c' ↔ (c.zones.row z).holder ≠ (c'.zones.row z).holder := by
  simp [Call.rehung]

theorem State.endCall_eq (s : State) (r : CallRun) :
    s.endCall r = ((s.setCall r.call).callFrames r).setLampsOf (s.call.rehung r.call) := by
  have call : ((s.setCall r.call).callFrames r).call = r.call := by rw [State.callFrames_call]; rfl
  unfold State.endCall State.setLampsOf Call.rehung
  dsimp only
  rw [call]

theorem State.endCall_line (s : State) (r : CallRun) : (s.endCall r).line = ((s.setCall r.call).callFrames r).line := by
  rw [State.endCall_eq, State.setLampsOf_line]

theorem State.endCall_of_same_holders {r : CallRun}
    (same : ∀ z, (s.call.zones.row z).holder = (r.call.zones.row z).holder) :
    s.endCall r = (s.setCall r.call).callFrames r := by
  have none : s.call.rehung r.call = [] :=
    List.eq_nil_iff_forall_not_mem.mpr (fun z m => Call.mem_rehung.mp m (same z))
  rw [State.endCall_eq, none]
  rfl

/-- The lamp of a zone whose holder an event has changed takes its new holder's level. -/
theorem State.endCall_requested {r : CallRun} {z ch : Fin 16} (lamp : (r.call.zones.row z).lamp = some ch)
    (owner : (s.chans.row ch).set.owner = .lamp z)
    (changed : (s.call.zones.row z).holder ≠ (r.call.zones.row z).holder)
    (admitted : s.req.mode = .service ∨ r.call.zoneLevel z = false) :
    ((s.endCall r).chans.row ch).requested = r.call.zoneLevel z := by
  have call : ((s.setCall r.call).callFrames r).call = r.call := by rw [State.callFrames_call]; rfl
  have level : ((s.setCall r.call).callFrames r).call.zoneLevel z = r.call.zoneLevel z := by rw [call]
  rw [State.endCall_eq, ← level]
  refine State.setLampsOf_requested ?_ ?_ ?_ (.inl (Call.mem_rehung.mpr changed))
  · rw [call]; exact lamp
  · rw [State.callFrames_chans]; exact owner
  · rw [State.callFrames_req, level]; exact admitted

theorem Call.lampLevel_none (c : Call) : c.lampLevel none = false := rfl

/-- The lamp of a zone that an event leaves without holder is set OFF. -/
theorem State.endCall_dark {r : CallRun} {z ch : Fin 16} (lamp : (r.call.zones.row z).lamp = some ch)
    (owner : (s.chans.row ch).set.owner = .lamp z) (held : (s.call.zones.row z).holder ≠ none)
    (left : (r.call.zones.row z).holder = none) : ((s.endCall r).chans.row ch).requested = false := by
  have off : r.call.zoneLevel z = false := by rw [Call.zoneLevel, left, Call.lampLevel_none]
  rw [State.endCall_requested lamp owner (fun e => held (e.trans left)) (.inr off), off]

/-! ## The token (R167) -/

theorem Call.tokenInPlay_iff (c : Call) (t : Byte) : c.tokenInPlay t = true ↔
    ∃ k x, c.slots.row k = some x ∧ x.state = .speaking ∧ x.token = some t := by
  simp only [Call.tokenInPlay, List.any_eq_true, List.mem_finRange, true_and]
  refine exists_congr (fun k => ?_)
  cases c.slots.row k <;> simp

/-- The tokens that the counter passes are in play. -/
theorem Call.freeToken_eq (c : Call) (fuel : Nat) (t : Byte) : ∃ n ≤ fuel,
    c.freeToken fuel t = t + BitVec.ofNat 8 n
    ∧ (∀ m, m < n → c.tokenInPlay (t + BitVec.ofNat 8 m) = true)
    ∧ (n < fuel → c.tokenInPlay (t + BitVec.ofNat 8 n) = false) := by
  induction fuel generalizing t with
  | zero => exact ⟨0, le_rfl, by simp [Call.freeToken], by simp, by simp⟩
  | succ fuel ih =>
    cases play : c.tokenInPlay t with
    | false =>
      exact ⟨0, Nat.zero_le _, by simp [Call.freeToken, play], by simp, fun _ => by simpa using play⟩
    | true =>
      obtain ⟨n, le, eq, before, after⟩ := ih (t + 1)
      have shift : ∀ m, t + 1 + BitVec.ofNat 8 m = t + BitVec.ofNat 8 (m + 1) := fun m => by
        apply BitVec.eq_of_toNat_eq; simp; omega
      refine ⟨n + 1, by omega, ?_, fun m lt => ?_, fun lt => ?_⟩
      · rw [← shift, ← eq, Call.freeToken, if_pos play]
      · cases m with
        | zero => simpa using play
        | succ m => rw [← shift]; exact before m (by omega)
      · rw [← shift]; exact after (by omega)

/-- Sixteen slots hold at most sixteen tokens. -/
theorem Call.not_all_inPlay (c : Call) (t : Byte) : ∃ m < 17, c.tokenInPlay (t + BitVec.ofNat 8 m) = false := by
  by_contra none
  push Not at none
  have held : ∀ m : Fin 17, ∃ k x, c.slots.row k = some x ∧ x.state = .speaking
      ∧ x.token = some (t + BitVec.ofNat 8 m.val) := fun m =>
    (c.tokenInPlay_iff _).mp (by simpa using none m.val m.isLt)
  choose slot x row _ token using held
  obtain ⟨i, j, ne, same⟩ := Fintype.exists_ne_map_eq_of_card_lt slot (by simp)
  have eq : x i = x j := Option.some.inj ((row i).symm.trans (same ▸ row j))
  have tokens := (token i).symm.trans (eq ▸ token j)
  have := congrArg BitVec.toNat (Option.some.inj tokens)
  simp only [BitVec.toNat_add, BitVec.toNat_ofNat] at this
  exact ne (Fin.ext (by omega))

/-- The token that a slot takes is in play with no call. -/
theorem Call.freeToken_free (c : Call) (t : Byte) : c.tokenInPlay (c.freeToken 16 t) = false := by
  obtain ⟨n, le, eq, before, after⟩ := c.freeToken_eq 16 t
  rw [eq]
  rcases Nat.lt_or_ge n 16 with lt | ge
  · exact after lt
  · obtain ⟨m, lt, out⟩ := c.not_all_inPlay t
    have last : m = n := by
      rcases Nat.lt_or_ge m n with below | above
      · rw [before m below] at out; cases out
      · omega
    exact last ▸ out

/-! ## Entry to SPEAKING without the arbiter, and the lamp step (R167, R171, R173) -/

theorem callPayload_eq (message : Nat) (x : Slot) : callPayload message x =
    [BitVec.ofNat 8 message, x.zones.extractLsb' 8 8, x.zones.extractLsb' 0 8, BitVec.ofNat 8 x.priority] := rfl

/-- The event of a slot that enters SPEAKING again. -/
theorem State.endCall_speak (s : State) (k : Fin 16) (x : Slot) (now : Nat) :
    s.endCall (s.call.run.speak k x now) =
      (s.setCall (s.call.run.speak k x now).call).emit s.call.paNode 4 (s.call.freeToken 16 s.call.token)
        (callPayload (s.call.templates.row x.template).message x) := by
  rw [State.endCall_of_same_holders (fun _ => rfl), State.callFrames_eq, CallRun.cancelFrames_nil rfl]
  rfl

section
variable {k : Fin 16} {x : Slot}

theorem exec_intervalExpiry (running : s.inReset = false) (slot : s.call.slots.row k = some x) :
    exec (.intervalExpiry k) s = .next (if x.interval.isSome
      then (s.take (.intervalExpiry k)).endCall ((s.take (.intervalExpiry k)).call.run.speak k x s.clock)
      else s.take (.intervalExpiry k)) := by
  change execIntervalExpiry k s = _
  rw [execIntervalExpiry, event_of_running _ _ _ running]
  have slot' : (s.take (.intervalExpiry k)).call.slots.row k = some x := slot
  simp only [State.onSlot, slot']
  rfl

theorem exec_lampStepExpiry (running : s.inReset = false) (slot : s.call.slots.row k = some x) :
    (x.lampDue = none → exec (.lampStepExpiry k) s = .next (s.take (.lampStepExpiry k)))
    ∧ ∀ due, x.lampDue = some due →
      exec (.lampStepExpiry k) s = .next ((s.take (.lampStepExpiry k)).stepLamp k x due) := by
  have slot' : (s.take (.lampStepExpiry k)).call.slots.row k = some x := slot
  have unfolded : exec (.lampStepExpiry k) s = execLampStepExpiry k s := rfl
  rw [unfolded, execLampStepExpiry, event_of_running _ _ _ running]
  simp only [State.onSlot, slot']
  exact ⟨fun due => by rw [due], fun due h => by rw [h]⟩

/-- The slot after its lamp step. -/
def Slot.stepped (x : Slot) (due : Nat) : Slot :=
  { x with lampStep := x.lampStep + 1, lampDue := some (due + lampStepTime) }

theorem State.stepLamp_eq (s : State) (k : Fin 16) (x : Slot) (due : Nat) : s.stepLamp k x due =
    (s.setSlot k (some (x.stepped due))).setLampsOf
      ((List.finRange 16).filter (fun z => (s.call.zones.row z).holder == some k)) := rfl

theorem mem_heldBy {c : Call} {k z : Fin 16} :
    z ∈ (List.finRange 16).filter (fun z => (c.zones.row z).holder == some k) ↔ (c.zones.row z).holder = some k := by
  simp

theorem Call.zoneLevel_of_held {c : Call} {z k : Fin 16} {x : Slot} (held : (c.zones.row z).holder = some k)
    (slot : c.slots.row k = some x) :
    c.zoneLevel z = (c.templates.row x.template).pattern.getLsbD x.lampStep.val := by
  rw [Call.zoneLevel, held]
  simp only [Call.lampLevel, slot]

theorem State.stepLamp_call (s : State) (k : Fin 16) (x : Slot) (due : Nat) : (s.stepLamp k x due).call =
    { s.call with slots := s.call.slots.put k (some (x.stepped due)) } := by
  rw [State.stepLamp_eq, State.setLampsOf_call]; rfl

theorem State.stepLamp_requested {due : Nat} {z ch : Fin 16} (held : (s.call.zones.row z).holder = some k)
    (lamp : (s.call.zones.row z).lamp = some ch) (owner : (s.chans.row ch).set.owner = .lamp z)
    (service : s.req.mode = .service) : ((s.stepLamp k x due).chans.row ch).requested =
      (s.call.templates.row x.template).pattern.getLsbD ((x.lampStep.val + 1) % 16) := by
  rw [State.stepLamp_eq, State.setLampsOf_requested (s := s.setSlot k (some (x.stepped due))) (z := z) lamp owner
    (.inl service) (.inl (mem_heldBy.mpr held))]
  refine (Call.zoneLevel_of_held (c := (s.setSlot k (some (x.stepped due))).call) (k := k) held
    (Tbl.row_put_self _ _ _)).trans ?_
  rw [Slot.stepped, Fin.val_add]
  rfl

end

/-- Settles O51. -/
theorem intervalExpirySpeaksAgainAndLampsStep : Obligations.IntervalExpirySpeaksAgainAndLampsStep := by
  refine ⟨fun c => ?_, fun s k x running slot => ?_, fun s k x running slot => ?_⟩
  · obtain ⟨n, le, eq, before, -⟩ := c.freeToken_eq 16 c.token
    refine ⟨n, le, eq, fun k x row speaking token => ?_, fun m lt => (c.tokenInPlay_iff _).mp (before m lt)⟩
    have out := c.freeToken_free c.token
    rw [(c.tokenInPlay_iff _).mpr ⟨k, x, row, speaking, token⟩] at out
    cases out
  · dsimp only
    rw [exec_intervalExpiry running slot]
    refine ⟨fun rest => by simp [rest], fun due h => ?_⟩
    rw [if_pos (by rw [h]; rfl), State.endCall_speak]
    rfl
  · obtain ⟨rest, steps⟩ := exec_lampStepExpiry (k := k) running slot
    refine ⟨rest, fun due h => ⟨_, steps due h, State.stepLamp_call _ _ _ _, ?_, ?_, ?_⟩⟩
    · intro z ch held lamp owner service
      exact State.stepLamp_requested (s := s.take _) held lamp owner service
    · intro ch out
      generalize same : s.take _ = t
      have call : t.call = s.call := same ▸ rfl
      have chans : t.chans = s.chans := same ▸ rfl
      rw [State.stepLamp_eq, State.setLampsOf_chan_of_lamp, State.setSlot_chans, chans]
      intro z m
      have held := mem_heldBy.mp m
      rw [call] at held
      change (t.call.zones.row z).lamp ≠ _
      rw [call]
      exact out z held
    · generalize s.take _ = t
      rw [State.stepLamp_eq]
      rw [State.setLampsOf_frame]
      rfl

end Sys2Proof.Machine
end

section
/-! PROOFS. CALL: answers, the CALL_DONE limit and the end of a repetition (R165, R168 to R170). -/

namespace Sys2Proof.Machine
variable {s : State}

/-! ## A slot that is free stays free under the arbiter (R165) -/

namespace CallRun
variable {r : CallRun} {k : Fin 16}

/-- A FREE slot that holds no zone. -/
def away (r : CallRun) (k : Fin 16) : Prop :=
  r.call.slots.row k = none ∧ ∀ z, (r.call.zones.row z).holder ≠ some k

theorem free_away (r : CallRun) {x : Slot} (slot : r.call.slots.row k = some x) : (r.free k).away k := by
  rw [away, free_slot, if_pos rfl, free_call slot]
  exact ⟨rfl, fun z held => ((Call.vacate_holder _ _ _ _ _).mp held).2 rfl⟩

/-- Displacement gives a zone to no slot. -/
theorem displace_holder {j z i : Fin 16} (held : ((r.displace j).call.zones.row z).holder = some i) :
    (r.call.zones.row z).holder = some i := by
  cases slot : r.call.slots.row j with
  | none => rwa [displace_of_none slot] at held
  | some x =>
    rw [displace_call slot] at held
    exact ((Call.vacate_holder _ _ _ _ _).mp held).1

theorem cleared_away (h : r.away k) (x : Slot) : (r.cleared x).away k :=
  foldl_holds (fun r => r.away k) displace (fun r j h =>
    ⟨by rw [displace_slot, h.1]; split <;> rfl, fun z held => h.2 z (displace_holder held)⟩) _ r h

theorem win_away (h : r.away k) {j : Fin 16} (ne : j ≠ k) (x : Slot) (now : Nat) : (r.win j x now).away k := by
  obtain ⟨free, out⟩ := cleared_away h x
  refine ⟨?_, fun z => ?_⟩
  · rw [win_slot, if_neg ne, ← cleared_slot, free]
  · rw [win_zone]
    split
    · exact fun e => ne (Option.some.inj e)
    · exact out z

theorem arbitrate_away (h : r.away k) (now n : Nat) : (arbitrate now n r).away k := by
  induction n generalizing r with
  | zero => exact h
  | succ n ih =>
    unfold arbitrate
    cases first : r.call.firstWinner with
    | none => exact h
    | some w =>
      have row := (Call.firstWinner_some first).1.1
      refine ih (win_away h (fun e => ?_) w.2 now)
      rw [e, h.1] at row
      cases row

theorem arbitrate_of_none {now n : Nat} (h : r.call.firstWinner = none) : arbitrate now n r = r := by
  cases n with
  | zero => rfl
  | succ n => unfold arbitrate; rw [h]

end CallRun

/-- With no WAITING call the arbiter does nothing. -/
theorem Call.firstWinner_of_no_waiting {c : Call} (h : ∀ j y, c.slots.row j = some y → y.state ≠ .waiting) :
    c.firstWinner = none :=
  Call.firstWinner_none_of (fun j y can => h j y can.1 can.2.1)

/-! ## The end of a repetition (R169, R170) -/

/-- The slot while its repetition ends: it has no token and no limit. -/
def Slot.answered (x : Slot) (a : Answer) : Slot := { x with token := none, limit := none, lastAnswer := a }

/-- The state of the last repetition's end before the slot is freed. -/
def State.rested (s : State) (k : Fin 16) (x : Slot) (a : Answer) : State :=
  s.setSlot k (some { x.answered a with left := 0, state := .interval })

section
variable {k : Fin 16} {x : Slot} {a : Answer}

theorem State.endRepetition_of_more (more : x.left ≠ 1) : s.endRepetition k x a =
    s.setSlot k (some { x.answered a with
      left := x.left - 1, state := .interval,
      interval := some (s.clock + seconds (s.call.templates.row x.template).interval) }) := if_neg more

theorem State.endRepetition_of_last (last : x.left = 1) : s.endRepetition k x a =
    (s.rested k x a).arbiter ((s.rested k x a).call.run.free k) := if_pos last

theorem State.rested_free_call (s : State) (k : Fin 16) (x : Slot) (a : Answer) :
    ((s.rested k x a).call.run.free k).call = s.call.vacate k none := by
  rw [CallRun.free_call (r := (s.rested k x a).call.run) (k := k) (Tbl.row_put_self _ _ _)]
  exact Call.vacate_put _ _ _ _

theorem Call.vacate_slots (c : Call) (k : Fin 16) (v : Option Slot) : (c.vacate k v).slots = c.slots.put k v := rfl

/-- What the end of a repetition leaves. -/
def State.repetitionEnded (s t : State) (k : Fin 16) (x : Slot) (a : Answer) : Prop :=
  (x.left ≠ 1 →
    t.call.slots = s.call.slots.put k (some { x with
      state := .interval, token := none, limit := none, lastAnswer := a, left := x.left - 1,
      interval := some
        (s.clock + (s.call.templates.row x.template).interval * 1000000) })
    ∧ t.call.zones = s.call.zones ∧ t.chans = s.chans)
  ∧ (x.left = 1 → t.call.slots.row k = none
    ∧ (∀ zn, (t.call.zones.row zn).holder ≠ some k)
    ∧ ((∀ j y, s.call.slots.row j = some y → y.state ≠ .waiting) →
      t.call.slots = s.call.slots.put k none
      ∧ ∀ zn, (s.call.zones.row zn).holder = some k → (t.call.zones.row zn).holder = none
        ∧ ∀ ch, (s.call.zones.row zn).lamp = some ch →
            (s.chans.row ch).set.owner = .lamp zn → (t.chans.row ch).requested = false))

theorem State.endRepetition_ends (s : State) (k : Fin 16) (x : Slot) (a : Answer) :
    s.repetitionEnded (s.endRepetition k x a) k x a := by
  refine ⟨fun more => by rw [State.endRepetition_of_more more]; exact ⟨rfl, rfl, rfl⟩, fun last => ?_⟩
  rw [State.endRepetition_of_last last]
  have away : (CallRun.arbitrate (s.rested k x a).clock 16 ((s.rested k x a).call.run.free k)).away k :=
    CallRun.arbitrate_away (CallRun.free_away _ (Tbl.row_put_self _ _ _)) _ _
  have freed := s.rested_free_call k x a
  rw [State.arbiter]
  refine ⟨?_, fun z => ?_, fun still => ?_⟩
  · rw [State.endCall_call]; exact away.1
  · rw [State.endCall_call]; exact away.2 z
  · have none : ((s.rested k x a).call.run.free k).call.firstWinner = none := by
      rw [freed]
      refine Call.firstWinner_of_no_waiting (fun j y row => ?_)
      rw [Call.vacate_slot] at row
      split at row
      · cases row
      · exact still j y row
    rw [CallRun.arbitrate_of_none none]
    refine ⟨by rw [State.endCall_call, freed, Call.vacate_slots], fun z held => ?_⟩
    have zone : (s.call.vacate k .none).zones.row z = { s.call.zones.row z with holder := .none } := by
      rw [Call.vacate_zone, if_pos held]
    refine ⟨by rw [State.endCall_call, freed, zone], fun ch lamp owner => ?_⟩
    refine State.endCall_dark (z := z) ?_ owner ?_ ?_
    · rw [freed, zone]; exact lamp
    · exact fun e => Option.some_ne_none k (held.symm.trans e)
    · rw [freed, zone]

/-- What the end of a repetition leaves depends on the calls, the channels and the clock alone. -/
theorem State.repetitionEnded_congr {u t : State} (slots : u.call.slots = s.call.slots)
    (zones : u.call.zones = s.call.zones) (templates : u.call.templates = s.call.templates)
    (clock : u.clock = s.clock) (chans : u.chans = s.chans) (h : u.repetitionEnded t k x a) :
    s.repetitionEnded t k x a := by
  unfold State.repetitionEnded at h
  rwa [slots, zones, templates, clock, chans] at h

/-- The end of a repetition moves the calls, the frames and the channels alone. -/
theorem State.endRepetition_rest (s : State) (k : Fin 16) (x : Slot) (a : Answer) :
    (s.endRepetition k x a).board = s.board ∧ (s.endRepetition k x a).req = s.req
    ∧ (s.endRepetition k x a).call.paRun = s.call.paRun ∧ (s.endRepetition k x a).call.paLate = s.call.paLate := by
  by_cases last : x.left = 1
  · rw [State.endRepetition_of_last last, State.arbiter, State.endCall_board, State.endCall_req, State.endCall_call,
      CallRun.arbitrate_rest, s.rested_free_call]
    exact ⟨rfl, rfl, rfl, rfl⟩
  · rw [State.endRepetition_of_more last]
    exact ⟨rfl, rfl, rfl, rfl⟩

/-! ## Answers (R168) -/

theorem State.isAnswer_iff {src dst : Byte} : s.isAnswer src dst = true ↔
    src = s.call.paNode ∧ s.call.paNode ≠ 0 ∧ (dst = 127 ∨ s.own = some dst) := by
  simp only [State.isAnswer, Bool.and_eq_true, Bool.or_eq_true, beq_iff_eq, bne_iff_ne, and_assoc, eq_comm (a := some dst)]

theorem Call.speaker_none {c : Call} {tag : Byte}
    (h : ∀ k x, ¬ (c.slots.row k = some x ∧ x.state = .speaking ∧ x.token = some tag)) : c.speaker tag = none := by
  refine List.find?_eq_none.mpr (fun k _ => ?_)
  have out := h k
  cases row : c.slots.row k with
  | none => simp
  | some x => simpa [row] using out x

theorem Call.speaker_eq {c : Call} {tag : Byte} (row : c.slots.row k = some x) (speaking : x.state = .speaking)
    (token : x.token = some tag)
    (only : ∀ j y, c.slots.row j = some y ∧ y.state = .speaking ∧ y.token = some tag → j = k) :
    c.speaker tag = some k := by
  cases found : c.speaker tag with
  | none =>
    have out := List.find?_eq_none.mp found k (List.mem_finRange k)
    simp [row, speaking, token] at out
  | some j =>
    obtain ⟨y, slot, speaks, held⟩ := Call.speaker_some found
    rw [only j y ⟨slot, speaks, held⟩]

section
variable {src dst tag : Byte} {payload : List Byte}

theorem exec_callDoneReception (running : s.inReset = false) :
    exec (.callDoneReception src dst tag payload) s =
      .next ((s.take (.callDoneReception src dst tag payload)).callDone src dst tag payload) :=
  event_of_running s (.callDoneReception src dst tag payload) (fun s => s.callDone src dst tag payload) running

theorem State.callDone_of_other (h : ¬ (src = s.call.paNode ∧ s.call.paNode ≠ 0 ∧ (dst = 127 ∨ s.own = some dst))) :
    s.callDone src dst tag payload = s := if_neg (fun a => h (State.isAnswer_iff.mp a))

theorem State.callDone_of_late (answer : s.isAnswer src dst = true) (late : s.call.speaker tag = none) :
    s.callDone src dst tag payload = s.setCall { s.call with paLate := satAdd 65535 s.call.paLate 1 } := by
  unfold State.callDone
  rw [if_pos answer, late]

theorem State.callDone_of_answer (answer : s.isAnswer src dst = true) (speaker : s.call.speaker tag = some k)
    (slot : s.call.slots.row k = some x) :
    s.callDone src dst tag payload = s.answeredSlot k x (answerOf payload) := by
  unfold State.callDone
  rw [if_pos answer, speaker]
  dsimp only
  rw [slot]

end

theorem State.answeredSlot_ends (s : State) (k : Fin 16) (x : Slot) (a : Answer) :
    s.repetitionEnded (s.answeredSlot k x a) k x a
    ∧ (s.answeredSlot k x a).call.paRun = 0 ∧ (s.answeredSlot k x a).cond condPaFault = false
    ∧ (s.answeredSlot k x a).call.paLate = s.call.paLate ∧ (s.answeredSlot k x a).req = s.req := by
  unfold State.answeredSlot
  generalize healed : (s.setCall { s.call with paRun := 0 }).setCond condPaFault false = u
  have call : u.call = { s.call with paRun := 0 } := by rw [← healed, State.setCond_call]; rfl
  obtain ⟨board, req, run, late⟩ := u.endRepetition_rest k x a
  refine ⟨State.repetitionEnded_congr (u := u) ?_ ?_ ?_ ?_ ?_ (u.endRepetition_ends k x a), ?_, ?_, ?_, ?_⟩
  · rw [call]
  · rw [call]
  · rw [call]
  · rw [← healed, State.setCond_clock]; rfl
  · rw [← healed, State.setCond_chans]; rfl
  · rw [run, call]
  · rw [State.cond, board, ← healed]
    exact State.setCond_cond_self _ _ _
  · rw [late, call]
  · rw [req, ← healed, State.setCond_req]; rfl

/-! ## The CALL_DONE limit (R170) -/

theorem exec_callDoneLimitExpiry {due : Nat} (running : s.inReset = false) (slot : s.call.slots.row k = some x)
    (limit : x.limit = some due) : exec (.callDoneLimitExpiry k) s =
      .next ((s.take (.callDoneLimitExpiry k)).limitExpired k x) := by
  have slot' : (s.take (.callDoneLimitExpiry k)).call.slots.row k = some x := slot
  change execCallDoneLimitExpiry k s = _
  rw [execCallDoneLimitExpiry, event_of_running _ _ _ running]
  simp only [State.onSlot, slot', limit, Option.isSome_some, if_true]

/-- The counts and PA_FAULT at a limit's expiry, before the repetition ends. -/
def State.missed (s : State) : State :=
  let counted := s.setCall { s.call with
    paLate := satAdd 65535 s.call.paLate 1, paRun := satAdd 255 s.call.paRun 1 }
  if satAdd 255 s.call.paRun 1 = 2 then
    (counted.setCond condPaFault true).notice noticePaFault counted.call.paNode.toNat else counted

theorem State.limitExpired_eq (s : State) (k : Fin 16) (x : Slot) :
    s.limitExpired k x = s.missed.endRepetition k x .limit := rfl

theorem State.missed_rest (s : State) :
    s.missed.call = { s.call with paLate := satAdd 65535 s.call.paLate 1, paRun := satAdd 255 s.call.paRun 1 }
    ∧ s.missed.clock = s.clock ∧ s.missed.chans = s.chans := by
  unfold State.missed
  dsimp only
  split
  · rw [State.notice_call, State.notice_clock, State.notice_chans, State.setCond_call, State.setCond_clock,
      State.setCond_chans]
    exact ⟨rfl, rfl, rfl⟩
  · exact ⟨rfl, rfl, rfl⟩

theorem State.missed_of_second (second : s.call.paRun = 1) :
    s.missed.cond condPaFault = true ∧ s.missed.req.marks = s.req.marks ||| 0x400 := by
  unfold State.missed
  dsimp only
  rw [if_pos (by rw [second]; rfl)]
  refine ⟨?_, ?_⟩
  · rw [State.cond, State.notice_board]
    exact State.setCond_cond_self _ _ _
  · rw [State.notice_marks, State.setCond_req]
    rfl

theorem State.missed_of_other (other : s.call.paRun ≠ 1) : s.missed.board = s.board ∧ s.missed.req = s.req := by
  unfold State.missed
  dsimp only
  rw [if_neg (by unfold satAdd; omega)]
  exact ⟨rfl, rfl⟩

end

/-- Settles O50. -/
theorem answersAndLimitsEndARepetition : Obligations.AnswersAndLimitsEndARepetition := by
  refine ⟨fun s src dst tag payload running => ?_, fun s k x due running slot limit => ?_⟩
  · dsimp only
    rw [exec_callDoneReception running]
    have taken : (s.take (.callDoneReception src dst tag payload)).isAnswer src dst = s.isAnswer src dst := rfl
    refine ⟨fun other => ?_, fun answer none => ?_, fun answer k x ⟨row, speaking, token⟩ only => ?_⟩
    · exact congrArg Host.Outcome.next (State.callDone_of_other other)
    · exact congrArg Host.Outcome.next
        (State.callDone_of_late (taken.trans (State.isAnswer_iff.mpr answer)) (Call.speaker_none none))
    · refine ⟨_, rfl, ?_⟩
      rw [State.callDone_of_answer (x := x) (taken.trans (State.isAnswer_iff.mpr answer))
        (Call.speaker_eq row speaking token only) row]
      exact State.answeredSlot_ends (s.take _) k x _
  · rw [exec_callDoneLimitExpiry running slot limit]
    refine ⟨_, rfl, ?_⟩
    rw [State.limitExpired_eq]
    generalize same : s.take _ = t
    obtain ⟨call, clock, chans⟩ := t.missed_rest
    obtain ⟨board, req, run, late⟩ := t.missed.endRepetition_rest k x .limit
    subst same
    refine ⟨State.repetitionEnded_congr (s := s) ?_ ?_ ?_ clock chans (State.endRepetition_ends _ k x .limit),
      ?_, ?_, fun second => ?_, fun other => ?_⟩
    · rw [call]; rfl
    · rw [call]; rfl
    · rw [call]; rfl
    · rw [late, call]; rfl
    · rw [run, call]; rfl
    · obtain ⟨fault, marks⟩ := State.missed_of_second (s := s.take (.callDoneLimitExpiry k)) second
      rw [State.cond, board, req]
      exact ⟨fault, marks⟩
    · obtain ⟨still, quiet⟩ := State.missed_of_other (s := s.take (.callDoneLimitExpiry k)) other
      rw [State.cond, board, req, still, quiet]
      exact ⟨rfl, rfl⟩

end Sys2Proof.Machine
end

section
/-! PROOFS. CALL: the frames of an event (R166), and what they depend on. -/

namespace Sys2Proof.Machine
variable {s u v : State}

/-! ## Frames depend on LINE alone -/

theorem State.own_congr (h : u.line = v.line) : u.own = v.own := by
  unfold State.own State.addressed
  rw [h]

theorem State.portsTo_congr (h : u.line = v.line) (own dst : Byte) : u.portsTo own dst = v.portsTo own dst := by
  unfold State.portsTo State.sideOf
  rw [h]

theorem State.offer_line_congr (h : u.line = v.line) (p : Port) (f : Frame) : (u.offer p f).line = (v.offer p f).line := by
  have port : u.port p = v.port p := by cases p <;> simp only [State.port, h]
  unfold State.offer
  rw [port]
  cases p <;> simp only [State.setPort, h]

theorem State.emit_line_congr (h : u.line = v.line) (dst kind tag : Byte) (payload : List Byte) :
    (u.emit dst kind tag payload).line = (v.emit dst kind tag payload).line := by
  unfold State.emit
  rw [State.own_congr h]
  cases v.own with
  | none => exact h
  | some own =>
    dsimp only
    rw [State.portsTo_congr h]
    generalize v.portsTo own dst = ports
    induction ports generalizing u v with
    | nil => exact h
    | cons p ports ih => exact ih (State.offer_line_congr h p _)

theorem State.reply_line_congr (h : u.line = v.line) (rq : Requester) (op : Byte) (c : Code) (data : List Byte) :
    (u.reply rq op c data).line = (v.reply rq op c data).line := State.emit_line_congr h _ _ _ _

theorem State.notice_line_congr (h : u.line = v.line) (req : u.req = v.req) (k : Fin 13) (subject : Nat) :
    (u.notice k subject).line = (v.notice k subject).line := by
  unfold State.notice
  dsimp only
  rw [req]
  split
  · exact h
  · generalize { v.req with marks := v.req.marks ||| BitVec.ofNat 16 (2 ^ (k.val - 1)) } = q
    have kept (t : State) : (t.setReq q).req = q := rfl
    rw [kept, kept]
    split
    · exact State.emit_line_congr (u := u.setReq q) (v := v.setReq q) h _ _ _ _
    · exact h

theorem State.cancelOf_line_congr (h : u.line = v.line) (k : Fin 16) :
    (s.cancelOf u k).line = (s.cancelOf v k).line := by
  unfold State.cancelOf
  split
  · exact h
  · split
    · exact h
    · exact State.emit_line_congr h _ _ _ _

/-- The cancel frames of the slots of a list are offered in its order. -/
def State.cancelAll (s u : State) (js : List (Fin 16)) : State := js.foldl (fun u j => s.cancelOf u j) u

theorem State.cancelAll_cons (s u : State) (j : Fin 16) (js : List (Fin 16)) :
    s.cancelAll u (j :: js) = s.cancelAll (s.cancelOf u j) js := rfl

theorem State.cancelAll_line_congr (h : u.line = v.line) (js : List (Fin 16)) :
    (s.cancelAll u js).line = (s.cancelAll v js).line := by
  induction js generalizing u v with
  | nil => exact h
  | cons j js ih => exact ih (State.cancelOf_line_congr h j)

theorem State.cancelOf_keeps {γ : Type} (g : State → γ)
    (h : ∀ (s : State) (dst kind tag : Byte) (payload : List Byte), g (s.emit dst kind tag payload) = g s)
    (s u : State) (k : Fin 16) : g (s.cancelOf u k) = g u := by
  unfold State.cancelOf
  split
  · rfl
  · split
    · rfl
    · exact h _ _ _ _ _

theorem State.cancelAll_keeps {γ : Type} (g : State → γ)
    (h : ∀ (s : State) (dst kind tag : Byte) (payload : List Byte), g (s.emit dst kind tag payload) = g s)
    (s u : State) (js : List (Fin 16)) : g (s.cancelAll u js) = g u :=
  foldl_keeps g _ (fun u k => State.cancelOf_keeps g h s u k) js u

/-! ## The frames of an event -/

/-- Frames to the PA node, in the order of a list. -/
def State.offers (s : State) (fs : List (Byte × List Byte)) : State :=
  fs.foldl (fun s f => s.emit s.call.paNode kindCall f.1 f.2) s

theorem State.callFrames_offers (s : State) (r : CallRun) : s.callFrames r = (s.offers r.cancelFrames).offers r.wins := by
  rw [State.callFrames_eq, List.foldl_append]
  rfl

theorem State.offers_append (s : State) (fs gs : List (Byte × List Byte)) :
    s.offers (fs ++ gs) = (s.offers fs).offers gs := List.foldl_append

theorem State.offers_call (s : State) (fs : List (Byte × List Byte)) : (s.offers fs).call = s.call :=
  foldl_keeps State.call _ (fun _ _ => by simp) fs s

/-- The cancel frame of the call in slot `k`, where it is SPEAKING under a token (R166). -/
def Call.frameAt (c : Call) (k : Fin 16) : List (Byte × List Byte) :=
  match c.slots.row k with
  | none => []
  | some x => if x.state = .speaking then (x.token.map (fun t => (t, callPayload 0 x))).toList else []

/-- Slot `k` holds a SPEAKING call. -/
def Call.speaks (c : Call) (k : Fin 16) : Bool :=
  match c.slots.row k with
  | none => false
  | some x => x.state == .speaking

theorem Call.speaks_iff {c : Call} {k : Fin 16} :
    c.speaks k = true ↔ ∃ x, c.slots.row k = some x ∧ x.state = .speaking := by
  unfold Call.speaks
  cases c.slots.row k <;> simp

theorem Call.frameAt_congr {c c' : Call} {k : Fin 16} (h : c'.slots.row k = c.slots.row k) :
    c'.frameAt k = c.frameAt k := by
  unfold Call.frameAt
  rw [h]

theorem State.offers_frameAt (u : State) (k : Fin 16) (node : u.call.paNode = s.call.paNode) :
    u.offers (s.call.frameAt k) = if s.call.speaks k then s.cancelOf u k else u := by
  unfold Call.frameAt Call.speaks State.cancelOf
  cases s.call.slots.row k with
  | none => rfl
  | some x =>
    dsimp only
    by_cases speaking : x.state = .speaking
    · rw [if_pos speaking, if_pos (beq_iff_eq.mpr speaking)]
      cases token : x.token with
      | none => rfl
      | some t =>
        change u.emit u.call.paNode kindCall t (callPayload 0 x) = _
        rw [node]
        rfl
    · rw [if_neg speaking, if_neg (fun h => speaking (beq_iff_eq.mp h))]
      rfl

/-- The cancel frames of the slots of a list that speak. -/
theorem State.offers_frames (u : State) (node : u.call.paNode = s.call.paNode) (named : Fin 16 → Bool)
    (l : List (Fin 16)) : u.offers (l.flatMap fun k => if named k then s.call.frameAt k else []) =
      s.cancelAll u (l.filter fun k => named k && s.call.speaks k) := by
  induction l generalizing u with
  | nil => rfl
  | cons k l ih =>
    rw [List.flatMap_cons, State.offers_append, List.filter_cons]
    cases taken : named k with
    | false => exact ih u node
    | true =>
      rw [if_pos rfl, State.offers_frameAt u k node, Bool.true_and]
      cases speaks : s.call.speaks k with
      | false => exact ih u node
      | true =>
        rw [if_pos rfl, if_pos rfl, State.cancelAll_cons]
        exact ih _ ((State.cancelOf_keeps (fun s => s.call.paNode) (fun _ _ _ _ _ => by simp) s u k).trans node)

namespace CallRun
variable {r : CallRun}

theorem cancel_cancels {k : Fin 16} {x : Slot} (slot : r.call.slots.row k = some x) :
    (r.cancel k x).cancels = r.cancels ++ (r.call.frameAt k).map (Prod.mk k) := by
  unfold cancel Call.frameAt
  rw [slot]
  dsimp only
  split
  · rename_i speaking token
    rw [if_pos speaking, token]
    rfl
  · rename_i out
    split
    · rename_i speaking
      cases token : x.token with
      | none => simp
      | some t => exact absurd token (out t speaking)
    · simp

theorem cancel_wins (r : CallRun) (k : Fin 16) (x : Slot) : (r.cancel k x).wins = r.wins := by
  unfold cancel; split <;> rfl

theorem free_cancels (r : CallRun) (k : Fin 16) :
    (r.free k).cancels = r.cancels ++ (r.call.frameAt k).map (Prod.mk k) := by
  cases slot : r.call.slots.row k with
  | none => rw [free_of_none slot]; simp [Call.frameAt, slot]
  | some x =>
    rw [← cancel_cancels slot]
    unfold free
    rw [slot]

theorem displace_cancels (r : CallRun) (k : Fin 16) :
    (r.displace k).cancels = r.cancels ++ (r.call.frameAt k).map (Prod.mk k) := by
  cases slot : r.call.slots.row k with
  | none => rw [displace_of_none slot]; simp [Call.frameAt, slot]
  | some x =>
    rw [← cancel_cancels slot]
    unfold displace
    rw [slot]

theorem free_wins (r : CallRun) (k : Fin 16) : (r.free k).wins = r.wins := by
  unfold free
  split
  · rfl
  · exact cancel_wins _ _ _

theorem displace_wins (r : CallRun) (k : Fin 16) : (r.displace k).wins = r.wins := by
  unfold displace
  split
  · rfl
  · exact cancel_wins _ _ _

/-- An event that takes the slots of a list out of SPEAKING, each for itself. -/
structure Silences (g : CallRun → Fin 16 → CallRun) : Prop where
  cancels : ∀ r k, (g r k).cancels = r.cancels ++ (r.call.frameAt k).map (Prod.mk k)
  others : ∀ r k j, k ≠ j → (g r k).call.slots.row j = r.call.slots.row j
  wins : ∀ r k, (g r k).wins = r.wins

theorem silences_free : Silences free :=
  ⟨free_cancels, fun r k j ne => by rw [free_slot, if_neg ne], free_wins⟩

theorem silences_displace : Silences displace :=
  ⟨displace_cancels, fun r k j ne => by rw [displace_slot, if_neg ne], displace_wins⟩

section
variable {g : CallRun → Fin 16 → CallRun}

theorem foldl_wins (h : Silences g) (l : List (Fin 16)) (r : CallRun) : (l.foldl g r).wins = r.wins :=
  foldl_keeps wins g h.wins l r

theorem filter_frames (c : Call) (k j : Fin 16) :
    ((c.frameAt k).map (Prod.mk k)).filter (fun f => f.1 == j) = if k = j then (c.frameAt k).map (Prod.mk k) else [] := by
  rw [List.filter_map]
  by_cases e : k = j
  · subst e; simp [Function.comp_def]
  · simp [Function.comp_def, e]

/-- The cancel frames that an event adds for one slot. -/
theorem foldl_cancels (h : Silences g) {l : List (Fin 16)} (nodup : l.Nodup) (r : CallRun) (j : Fin 16) :
    (l.foldl g r).cancels.filter (fun f => f.1 == j) =
      r.cancels.filter (fun f => f.1 == j) ++ if j ∈ l then (r.call.frameAt j).map (Prod.mk j) else [] := by
  induction l generalizing r with
  | nil => simp
  | cons k l ih =>
    obtain ⟨fresh, nodup⟩ := List.nodup_cons.mp nodup
    rw [List.foldl_cons, ih nodup, h.cancels, List.filter_append, filter_frames, List.append_assoc]
    by_cases e : k = j
    · subst e
      rw [if_pos rfl, if_neg fresh, if_pos List.mem_cons_self, List.append_nil]
    · rw [if_neg e, Call.frameAt_congr (h.others r k j e), List.nil_append]
      simp only [List.mem_cons, Ne.symm e, false_or]

theorem foldl_cancelFrames (h : Silences g) {l : List (Fin 16)} (nodup : l.Nodup) (fresh : r.cancels = []) :
    (l.foldl g r).cancelFrames = (List.finRange 16).flatMap fun k => if k ∈ l then r.call.frameAt k else [] := by
  unfold cancelFrames
  refine List.flatMap_congr fun k _ => ?_
  rw [foldl_cancels h nodup, fresh]
  split
  · simp [Function.comp_def]
  · rfl

end
end CallRun

/-- The slots of a list that speak, in ascending order. -/
def Call.speakersIn (c : Call) (l : List (Fin 16)) : List (Fin 16) :=
  (List.finRange 16).filter fun k => decide (k ∈ l) && c.speaks k

theorem Call.mem_speakersIn {c : Call} {l : List (Fin 16)} {k : Fin 16} :
    k ∈ c.speakersIn l ↔ k ∈ l ∧ ∃ x, c.slots.row k = some x ∧ x.state = .speaking := by
  simp [Call.speakersIn, Call.speaks_iff]

theorem Call.speakersIn_pairwise (c : Call) (l : List (Fin 16)) : (c.speakersIn l).Pairwise (fun j k => j < k) :=
  (List.pairwise_lt_finRange 16).filter _

/-- The cancel frames of an event that silences the slots of a list are offered in ascending slot order. -/
theorem State.offers_cancelFrames {g : CallRun → Fin 16 → CallRun} (h : CallRun.Silences g) {l : List (Fin 16)}
    (nodup : l.Nodup) {r : CallRun} (fresh : r.cancels = [])
    (frames : ∀ k, r.call.frameAt k = s.call.frameAt k) (u : State) (node : u.call.paNode = s.call.paNode) :
    u.offers (l.foldl g r).cancelFrames = s.cancelAll u (s.call.speakersIn l) := by
  rw [CallRun.foldl_cancelFrames h nodup fresh]
  simp only [frames]
  exact (congrArg u.offers (List.flatMap_congr fun k _ => by simp)).trans
    (State.offers_frames u node (fun k => decide (k ∈ l)) _)

end Sys2Proof.Machine
end

section
/-! PROOFS. REQ: operations reset (R188), block by block (R21, R52, R76, R97, R138, R159, R176). -/

namespace Sys2Proof.Machine
variable {s t : State}

/-! ## The events handed on and the channels are all that moves -/

/-- The channels and the events handed on are all that moves. -/
def State.movesOut (s t : State) : Prop := t = { s with chans := t.chans, handed := t.handed }

theorem State.movesOut.trans {u : State} (h : s.movesOut t) (g : t.movesOut u) : s.movesOut u := by
  unfold State.movesOut at h g
  refine g.trans ?_
  rw [h]

theorem State.movesOut_of_chans (h : t = s.setChans t.chans) : s.movesOut t := by
  unfold State.movesOut
  rw [h]
  rfl

theorem State.movesOut_of_movesChan {ch : Fin 16} (h : s.movesChan ch t) : s.movesOut t := h.frame

theorem State.judgeForcing_movesOut (s : State) (ch : Fin 16) : s.movesOut (s.judgeForcing ch) := by
  have set (c : Channel) : s.movesOut (s.setChan ch c) := rfl
  have conducted (u : State) : u.movesOut (u.conduct ch) := State.movesOut_of_movesChan (u.conduct_movesChan ch)
  unfold State.judgeForcing
  dsimp only
  split
  · split
    · rfl
    · exact (set _).trans (conducted _)
    · split
      · exact (set _).trans (conducted _)
      · exact ((set _).trans (State.movesOut_of_movesChan (State.handOwner_movesChan _ _ ch))).trans (conducted _)
  · split
    · exact ((set _).trans (State.movesOut_of_movesChan (State.releaseIfStill_movesChan _ ch))).trans (conducted _)
    · rfl

theorem State.compareUpdate_frame (s : State) (o : Owner) (ch : Option (Fin 16)) (a : Nat) :
    s.compareUpdate o ch a = s.setChans (s.compareUpdate o ch a).chans := by
  cases ch with
  | none => rfl
  | some ch =>
    simp only [State.compareUpdate]
    split
    · exact State.setChans_trans (State.setChans_frame _ _) (State.conductAll_frame _ _)
    · rfl

theorem State.stopValves_frame (s : State) (r : Fin 4) : s.stopValves r = s.setChans (s.stopValves r).chans := by
  have extend := State.setChans_trans (s.ownerLevel_frame (.ramp r) (s.ramp r).extend false)
    (State.compareUpdate_frame _ (.ramp r) (s.ramp r).extend 0)
  exact State.setChans_trans (State.setChans_trans extend (State.ownerLevel_frame _ (.ramp r) (s.ramp r).retract false))
    (State.compareUpdate_frame _ (.ramp r) (s.ramp r).retract 0)

theorem State.doorLevels_frame (s : State) (d : Fin 24) : s.doorLevels d = s.setChans (s.doorLevels d).chans :=
  State.setChans_trans (s.ownerLevel_frame _ _ _) (State.ownerLevel_frame _ _ _ _)

/-! ## A channel after the reset (R97) -/

/-- A channel after the reset of the record `o`: level OFF, out of CUT_OFF, supervision QUIET, count of cut-offs 0,
the settings as written but the compare A of a ramp's channel. -/
structure Channel.ResetOf (o c : Channel) : Prop where
  requested : c.requested = false
  restart : c.restart = .none
  supervision : c.supervision = none
  cutOffs : c.cutOffs = 0
  set : c.set = { o.set with cmpA := c.set.cmpA }
  cmpA : (∀ r, o.set.owner ≠ .ramp r) → c.set.cmpA = o.set.cmpA

theorem Channel.ResetOf.owner {o c : Channel} (h : o.ResetOf c) : c.set.owner = o.set.owner := by rw [h.set]

theorem Channel.ResetOf.of_untimed {o c c' : Channel} (h : o.ResetOf c) (same : c'.untimed = c.untimed) : o.ResetOf c' where
  requested := (congrArg Channel.requested same : c'.untimed.requested = c.untimed.requested).trans h.requested
  restart := (congrArg Channel.restart same : c'.untimed.restart = c.untimed.restart).trans h.restart
  supervision := (congrArg Channel.supervision same : c'.untimed.supervision = c.untimed.supervision).trans h.supervision
  cutOffs := (congrArg Channel.cutOffs same : c'.untimed.cutOffs = c.untimed.cutOffs).trans h.cutOffs
  set := by rw [Channel.set_of_untimed same]; exact h.set
  cmpA := by rw [Channel.set_of_untimed same]; exact h.cmpA

/-- Every channel is as after the reset of the table `o`. -/
def Chans.resetOf (o cs : Chans) : Prop := ∀ ch, (o.row ch).ResetOf (cs.row ch)

section
variable {o cs : Chans} {ch : Fin 16}

theorem Chans.resetOf.put (h : o.resetOf cs) {c : Channel} (hc : (o.row ch).ResetOf c) : o.resetOf (cs.put ch c) := by
  intro i
  rw [Tbl.row_put]
  split
  · rename_i same; subst same; exact hc
  · exact h i

theorem Chans.resetOf.untimed (h : o.resetOf cs) {cs' : Chans} (same : cs'.untimed = cs.untimed) : o.resetOf cs' :=
  fun i => (h i).of_untimed (untimed_row same i)

theorem resetOf_conduct (h : o.resetOf s.chans) (ch : Fin 16) : o.resetOf (s.conduct ch).chans := by
  by_cases same : (s.chans.row ch).conducting = s.conducts ch
  · rw [State.conduct_of_same same]
    exact h.put ⟨(h ch).requested, (h ch).restart, (h ch).supervision, (h ch).cutOffs, (h ch).set, (h ch).cmpA⟩
  · rw [State.conduct_of_changed same]
    exact h.put ⟨(h ch).requested, (h ch).restart, rfl, (h ch).cutOffs, (h ch).set, (h ch).cmpA⟩

theorem resetOf_conductAll (h : o.resetOf s.chans) (chs : List (Fin 16)) : o.resetOf (s.conductAll chs).chans :=
  foldl_holds (fun t => o.resetOf t.chans) State.conduct (fun _ ch h => resetOf_conduct h ch) chs s h

theorem resetOf_status (h : o.resetOf s.chans) (x : ForceStatus) :
    o.resetOf (s.setChan ch { s.chans.row ch with status := x }).chans :=
  h.put ⟨(h ch).requested, (h ch).restart, (h ch).supervision, (h ch).cutOffs, (h ch).set, (h ch).cmpA⟩

theorem resetOf_judgeForcing (h : o.resetOf s.chans) (ch : Fin 16) : o.resetOf (s.judgeForcing ch).chans := by
  unfold State.judgeForcing
  dsimp only
  split
  · split
    · exact h
    · exact resetOf_conduct (resetOf_status h _) ch
    · refine resetOf_conduct ?_ ch
      split
      · exact resetOf_status h _
      · rw [State.handOwner_chans]
        exact resetOf_status h _
  · split
    · refine resetOf_conduct ?_ ch
      unfold State.releaseIfStill
      dsimp only
      split
      · exact resetOf_status (resetOf_status h _) _
      · exact resetOf_status h _
    · exact h

theorem resetOf_setLevel (h : o.resetOf s.chans) (ch : Fin 16) : o.resetOf (s.setLevel ch false).chans := by
  unfold State.setLevel
  refine resetOf_conduct ?_ ch
  exact h.put ⟨rfl, (h ch).restart, (h ch).supervision, (h ch).cutOffs, (h ch).set, (h ch).cmpA⟩

theorem resetOf_ownerLevel (h : o.resetOf s.chans) (x : Owner) (ch : Option (Fin 16)) :
    o.resetOf (s.ownerLevel x ch false).chans := by
  cases ch with
  | none => exact h
  | some ch =>
    simp only [State.ownerLevel]
    split
    · exact resetOf_setLevel h ch
    · exact h

theorem resetOf_compareUpdate (h : o.resetOf s.chans) (r : Fin 4) (ch : Option (Fin 16)) (a : Nat) :
    o.resetOf (s.compareUpdate (.ramp r) ch a).chans := by
  cases ch with
  | none => exact h
  | some ch =>
    simp only [State.compareUpdate]
    split
    · rename_i owner
      refine resetOf_conductAll ?_ _
      refine Chans.resetOf.untimed ?_ (Chans.untimed_settle _ _)
      refine h.put ⟨(h ch).requested, (h ch).restart, (h ch).supervision, (h ch).cutOffs, ?_, fun free => ?_⟩
      · exact congrArg (fun set : ChannelSettings => { set with cmpA := a }) (h ch).set
      · exact absurd ((h ch).owner.symm.trans owner) (free r)
    · exact h

end

/-! ## The blocks (R97, R138, R159) -/

theorem State.resetOut_moves (s : State) : s.movesOut s.resetOut ∧ Chans.resetOf s.chans s.resetOut.chans := by
  have own := opsReset_row s.chans
  unfold State.resetOut
  dsimp only
  generalize (List.finRange 16).foldl (fun cs ch => cs.put ch (cs.row ch).opsReset) s.chans = cs at own ⊢
  have reset : Chans.resetOf s.chans cs := fun ch => by
    rw [own ch]
    exact ⟨rfl, rfl, rfl, rfl, rfl, fun _ => rfl⟩
  have same := Chans.untimed_resetTimers cs
  generalize resetTimers cs = ds at same ⊢
  have timed : Chans.resetOf s.chans (s.setChans ds).chans := reset.untimed same
  have timedMoves : s.movesOut (s.setChans ds) := rfl
  generalize s.setChans ds = u at timed timedMoves
  obtain ⟨moves, judged⟩ := foldl_holds (fun t : State => s.movesOut t ∧ Chans.resetOf s.chans t.chans)
    State.judgeForcing (fun t ch h => ⟨h.1.trans (t.judgeForcing_movesOut ch), resetOf_judgeForcing h.2 ch⟩)
    (List.finRange 16) u ⟨timedMoves, timed⟩
  exact ⟨moves.trans (State.movesOut_of_chans (State.conductAll_frame _ _)), resetOf_conductAll judged _⟩

/-- A ramp after the reset (R138). -/
def Ramp.opsReset (x : Ramp) : Ramp :=
  { x with
    state := .idle, plan := none, stage := none, phase := .pending, stageTimer := Stopwatch.zero,
    sPrev := 0, travel := .none, result := .none, overshoot := 0, callWait := .none,
    dwell := .stopped, stale := none, retry := none }

/-- The channels and the ramps, which are as the table's rows or reset, are all that moves. -/
structure State.RampsReset (s : State) (o : Chans) (done : Fin 4 → Prop) (t : State) : Prop where
  frame : t = { s with chans := t.chans, plan := { s.plan with ramps := t.plan.ramps } }
  reset : o.resetOf t.chans
  ramps : ∀ r, (done r → t.ramp r = (s.ramp r).opsReset) ∧ (¬ done r → t.ramp r = s.ramp r)

theorem State.RampsReset.resetRamp {o : Chans} {done : Fin 4 → Prop} (h : s.RampsReset o done t) (r : Fin 4)
    (fresh : ¬ done r) : s.RampsReset o (fun i => done i ∨ i = r) (t.resetRamp r) := by
  have same : t.ramp r = s.ramp r := (h.ramps r).2 fresh
  have eq : t.resetRamp r = (t.setRamp r (t.ramp r).opsReset).stopValves r := rfl
  have ramps : (t.resetRamp r).plan = { t.plan with ramps := t.plan.ramps.put r (s.ramp r).opsReset } := by
    rw [eq, State.stopValves_plan, same]; rfl
  refine ⟨?_, ?_, fun i => ?_⟩
  · have moved := (t.setRamp r (t.ramp r).opsReset).stopValves_frame r
    rw [← eq] at moved
    rw [moved]
    have frame := h.frame
    generalize t.ramp r = x
    generalize (t.resetRamp r).chans = cs
    rw [frame]
    rfl
  · rw [eq]
    unfold State.stopValves
    exact resetOf_compareUpdate (resetOf_ownerLevel (resetOf_compareUpdate
      (resetOf_ownerLevel (s := t.setRamp r (t.ramp r).opsReset) h.reset _ _) _ _ _) _ _) _ _ _
  · rw [State.ramp, ramps, Tbl.row_put]
    by_cases e : r = i
    · subst e
      rw [if_pos rfl]
      exact ⟨fun _ => rfl, fun out => absurd (.inr rfl) out⟩
    · rw [if_neg e]
      exact ⟨fun is => (h.ramps i).1 (is.resolve_right (Ne.symm e)), fun out => (h.ramps i).2 fun d => out (.inl d)⟩

theorem State.resetPlan_moves {o : Chans} (h : o.resetOf s.chans) : s.RampsReset o (fun _ => True) s.resetPlan := by
  have all (l : List (Fin 4)) (nodup : l.Nodup) (done : Fin 4 → Prop) (fresh : ∀ r ∈ l, ¬ done r) (t : State)
      (ht : s.RampsReset o done t) : s.RampsReset o (fun r => done r ∨ r ∈ l) (l.foldl State.resetRamp t) := by
    induction l generalizing done t with
    | nil => simpa using ht
    | cons r l ih =>
      obtain ⟨out, nodup⟩ := List.nodup_cons.mp nodup
      have rest := ih nodup (fun i => done i ∨ i = r)
        (fun i m => not_or.mpr ⟨fresh i (List.mem_cons_of_mem _ m), fun e => out (e ▸ m)⟩) _
        (ht.resetRamp r (fresh r List.mem_cons_self))
      rw [List.foldl_cons]
      simpa only [List.mem_cons, or_assoc] using rest
  have whole := all (List.finRange 4) (List.nodup_finRange 4) (fun _ => False) (fun _ _ h => h) s
    ⟨rfl, h, fun r => ⟨False.elim, fun _ => rfl⟩⟩
  unfold State.resetPlan
  simpa using whole

theorem row_map {α : Type} {n : Nat} (t : Tbl α n) (f : α → α) (i : Fin n) :
    Tbl.row (Vector.map f t) i = f (t.row i) := by
  simp [Tbl.row]

/-- A door after the reset (R159). -/
def Door.opsReset (x : Door) : Door :=
  { x with state := .unset, attempts := 0, timer := Stopwatch.zero, due := none }

theorem resetOf_doorLevels {o : Chans} (h : o.resetOf s.chans) {d : Fin 24}
    (unset : (s.door.doors.row d).state = .unset) : o.resetOf (s.doorLevels d).chans := by
  unfold State.doorLevels
  dsimp only
  rw [unset]
  exact resetOf_ownerLevel (resetOf_ownerLevel h _ _) _ _

theorem State.resetDoors_moves {o : Chans} (h : o.resetOf s.chans) :
    (∃ cs, s.resetDoors = { s with chans := cs, door := { s.door with doors := s.door.doors.map Door.opsReset } })
    ∧ o.resetOf s.resetDoors.chans := by
  have unset (d : Fin 24) : (Tbl.row (s.door.doors.map Door.opsReset) d).state = .unset := by
    rw [row_map]; rfl
  let u : State := { s with door := { s.door with doors := s.door.doors.map Door.opsReset } }
  obtain ⟨frame, reset⟩ := foldl_holds (fun t : State => t = u.setChans t.chans ∧ o.resetOf t.chans) State.doorLevels
    (fun t d ht => ⟨State.setChans_trans ht.1 (t.doorLevels_frame d),
      resetOf_doorLevels ht.2 (by rw [ht.1]; exact unset d)⟩) (List.finRange 24) u ⟨rfl, h⟩
  exact ⟨⟨_, frame⟩, reset⟩

end Sys2Proof.Machine
end

section
/-! PROOFS. REQ: operations reset: the calls, the conditions, and the whole (R52, R176, R188). -/

namespace Sys2Proof.Machine
variable {s t : State}

/-! ## CALL (R176) -/

/-- The ports are all of LINE that moves, and their CRC counts stand. -/
structure State.PortsMove (s t : State) : Prop where
  frame : t = { s with line := t.line }
  line : t.line = { s.line with up := t.line.up, dn := t.line.dn }
  crc : ∀ p, (t.port p).crcCount = (s.port p).crcCount

theorem State.PortsMove.refl (s : State) : s.PortsMove s := ⟨rfl, rfl, fun _ => rfl⟩

theorem State.PortsMove.trans {u : State} (h : s.PortsMove t) (g : t.PortsMove u) : s.PortsMove u := by
  refine ⟨?_, ?_, fun p => (g.crc p).trans (h.crc p)⟩
  · have last := g.frame
    refine last.trans ?_
    rw [h.frame]
  · refine g.line.trans ?_
    rw [h.line]

theorem State.emit_portsMove (s : State) (dst kind tag : Byte) (payload : List Byte) :
    s.PortsMove (s.emit dst kind tag payload) := by
  have frame := s.emit_frame dst kind tag payload
  refine ⟨?_, congrArg State.line frame, fun p =>
    s.emit_keeps (fun s => (s.port p).crcCount) (fun s q f => s.offer_crcCount q p f) dst kind tag payload⟩
  have line := congrArg State.line frame
  refine frame.trans ?_
  rw [line]

theorem State.callFrames_portsMove (s : State) (r : CallRun) : s.PortsMove (s.callFrames r) :=
  foldl_holds (fun t => s.PortsMove t) _ (fun t _ h => h.trans (t.emit_portsMove _ _ _ _)) _ s (.refl s)

theorem resetOf_setLamp {o : Chans} (h : Chans.resetOf o s.chans) {z : Fin 16}
    (free : (s.call.zones.row z).holder = none) : Chans.resetOf o (s.setLamp z).chans := by
  unfold State.setLamp
  dsimp only
  rw [free]
  exact resetOf_ownerLevel h _ _

/-- Freeing slots moves the zones' holders alone. -/
theorem CallRun.foldl_free_zone (l : List (Fin 16)) (r : CallRun) (z : Fin 16) :
    ({ (l.foldl CallRun.free r).call.zones.row z with holder := none } : Zone) =
      { r.call.zones.row z with holder := none } := by
  refine foldl_holds (fun q : CallRun => ({ q.call.zones.row z with holder := none } : Zone) =
    { r.call.zones.row z with holder := none }) CallRun.free (fun q k h => ?_) l r rfl
  cases slot : q.call.slots.row k with
  | none => rw [CallRun.free_of_none slot]; exact h
  | some x =>
    rw [CallRun.free_call slot, Call.vacate_zone]
    split <;> exact h

theorem State.setLamps_eq (s : State) : s.setLamps = s.setLampsOf (List.finRange 16) := rfl

theorem State.setLamps_frame (s : State) : s.setLamps = s.setChans s.setLamps.chans := by
  rw [State.setLamps_eq]
  exact s.setLampsOf_frame _

/-- What the end of every call leaves: the lamps follow last, with every zone without a holder. -/
structure State.CallsEnd (s t : State) : Prop where
  frame : t = { s with line := t.line, chans := t.chans, call := t.call }
  line : t.line = { s.line with up := t.line.up, dn := t.line.dn }
  crc : ∀ p, (t.port p).crcCount = (s.port p).crcCount
  call : t.call = { s.call with slots := t.call.slots, zones := t.call.zones }
  slots : ∀ k, t.call.slots.row k = none
  zones : ∀ z, t.call.zones.row z = { s.call.zones.row z with holder := none }
  frames : t.line = (s.cancelAll s (s.call.speakersIn (List.finRange 16))).line
  lamps : ∃ u : State, u.chans = s.chans ∧ u.call = t.call ∧ t = u.setLamps

theorem State.endAllCalls_ends (s : State) : s.CallsEnd s.endAllCalls := by
  have slots (k : Fin 16) : ((List.finRange 16).foldl CallRun.free s.call.run).call.slots.row k = none := by
    rw [CallRun.foldl_free_slot, if_pos (List.mem_finRange k)]
  have zones (z : Fin 16) := CallRun.foldl_free_zone (List.finRange 16) s.call.run z
  have rest := CallRun.foldl_free_rest (List.finRange 16) s.call.run
  have wins := CallRun.foldl_wins CallRun.silences_free (List.finRange 16) s.call.run
  have frames := fun u node => State.offers_cancelFrames (s := s) CallRun.silences_free (List.nodup_finRange 16)
    (r := s.call.run) rfl (fun _ => rfl) u node
  unfold State.endAllCalls
  dsimp only
  generalize (List.finRange 16).foldl CallRun.free s.call.run = r at slots zones rest wins frames ⊢
  generalize ended : ({ r.call with zones := r.call.zones.map (fun z => { z with holder := none }) } : Call) = c
  have slots' : ∀ k, c.slots.row k = none := fun k => by rw [← ended]; exact slots k
  have zones' : ∀ z, c.zones.row z = { s.call.zones.row z with holder := none } := fun z => by
    rw [← ended]
    exact (row_map _ _ _).trans (zones z)
  have rest' : c = { s.call with slots := c.slots, zones := c.zones } := by
    rw [← ended, rest]; rfl
  generalize offered : ({ r with call := c } : CallRun) = q
  have noWins : q.wins = [] := by rw [← offered]; exact wins
  have cancels : q.cancelFrames = r.cancelFrames := by rw [← offered]; rfl
  have moved := (s.setCall c).callFrames_portsMove q
  have line : ((s.setCall c).callFrames q).line = (s.cancelAll s (s.call.speakersIn (List.finRange 16))).line := by
    rw [State.callFrames_offers, noWins, cancels]
    change ((s.setCall c).offers r.cancelFrames).line = _
    rw [frames (s.setCall c) (by change c.paNode = _; rw [rest'])]
    exact State.cancelAll_line_congr (u := s.setCall c) (v := s) rfl _
  generalize (s.setCall c).callFrames q = u at moved line
  have uframe : u = { s with line := u.line, call := c } := moved.frame
  have uline := moved.line
  have ucrc := moved.crc
  have frame := u.setLamps_frame
  generalize is : u.setLamps = v at frame ⊢
  have vcall : v.call = c := by rw [frame, uframe]; rfl
  have vline : v.line = u.line := by rw [frame]; rfl
  have lamps : u.chans = s.chans ∧ u.call = v.call := ⟨by rw [uframe], by rw [vcall, uframe]⟩
  refine ⟨?_, ?_, fun p => ?_, ?_, fun k => ?_, fun z => ?_, vline.trans line, u, lamps.1, lamps.2, is.symm⟩
  · rw [vcall, vline]
    refine frame.trans ?_
    rw [uframe]
    rfl
  · rw [vline]
    exact uline
  · refine Eq.trans ?_ (ucrc p)
    cases p <;> simp only [State.port, vline]
  · rw [vcall]
    exact rest'
  · rw [vcall]
    exact slots' k
  · rw [vcall]
    exact zones' z

/-- What the reset of CALL leaves, in a state whose channels are as after the reset of `o`. -/
structure State.CallsReset (s : State) (o : Chans) (t : State) : Prop where
  frame : t = { s with line := t.line, chans := t.chans, call := t.call }
  line : t.line = { s.line with up := t.line.up, dn := t.line.dn }
  crc : ∀ p, (t.port p).crcCount = (s.port p).crcCount
  reset : o.resetOf t.chans
  call : t.call = { s.call with slots := t.call.slots, zones := t.call.zones, paRun := 0 }
  slots : ∀ k, t.call.slots.row k = none
  zones : ∀ z, t.call.zones.row z = { s.call.zones.row z with holder := none }
  frames : t.line = (s.cancelAll s (s.call.speakersIn (List.finRange 16))).line

theorem State.resetCall_resets {o : Chans} (h : o.resetOf s.chans) : s.CallsReset o s.resetCall := by
  have ends := s.endAllCalls_ends
  unfold State.resetCall
  dsimp only
  generalize s.endAllCalls = t at ends
  obtain ⟨u, chans, call, is⟩ := ends.lamps
  have reset : o.resetOf t.chans := by
    have free (z : Fin 16) : (u.call.zones.row z).holder = none := by rw [call, ends.zones]
    have both := foldl_holds (fun v : State => v = u.setChans v.chans ∧ o.resetOf v.chans) State.setLamp
      (fun v z hv => ⟨State.setChans_trans hv.1 (v.setLamp_frame z), resetOf_setLamp hv.2 (by rw [hv.1]; exact free z)⟩)
      (List.finRange 16) u ⟨rfl, by rw [chans]; exact h⟩
    rw [is]
    exact both.2
  have frame := ends.frame
  have rest := ends.call
  refine ⟨?_, ends.line, ends.crc, reset, ?_, ends.slots, ends.zones, ends.frames⟩
  · show ({ t with call := { t.call with paRun := 0 } } : State) = { s with line := t.line, chans := t.chans, call := { t.call with paRun := 0 } }
    rw [frame]
  · show ({ t.call with paRun := 0 } : Call) = { s.call with slots := t.call.slots, zones := t.call.zones, paRun := 0 }
    rw [rest]

/-! ## COND (R52) -/

/-- The conditions and the events handed on are all that moves, and every condition keeps its source. -/
structure State.CondsMove (s t : State) : Prop where
  frame : t = { s with board := { s.board with conds := t.board.conds }, handed := t.handed }
  source : ∀ c, (t.board.conds.row c).source = (s.board.conds.row c).source

theorem State.CondsMove.refl (s : State) : s.CondsMove s := ⟨rfl, fun _ => rfl⟩

theorem State.CondsMove.trans {u : State} (h : s.CondsMove t) (g : t.CondsMove u) : s.CondsMove u := by
  refine ⟨?_, fun c => (g.source c).trans (h.source c)⟩
  refine g.frame.trans ?_
  rw [h.frame]

theorem State.setCond_condsMove (s : State) (c : Fin 64) (v : Bool) : s.CondsMove (s.setCond c v) :=
  ⟨s.setCond_frame c v, fun c' => s.setCond_source c c' v⟩

theorem State.resetCond_condsMove (s : State) (c : Fin 64) : s.CondsMove (s.resetCond c) := by
  unfold State.resetCond
  split
  · exact ⟨s.setFrameCond_frame _ _ _ _, fun c' => s.setFrameCond_source _ _ _ _ c'⟩
  · exact s.setCond_condsMove _ _

theorem State.resetCond_other (s : State) {c c' : Fin 64} (ne : c ≠ c') :
    (s.resetCond c).board.conds.row c' = s.board.conds.row c' := by
  unfold State.resetCond
  split
  · exact s.setFrameCond_record_ne _ _ _ ne.symm
  · exact s.setCond_record_ne _ ne

theorem State.resetCond_frame (s : State) {c : Fin 64} (frame : (s.board.conds.row c).source = .frame) :
    (s.resetCond c).cond c = false ∧ ((s.resetCond c).board.conds.row c).hold = none := by
  unfold State.resetCond
  rw [frame]
  dsimp only
  rw [State.cond, State.setFrameCond_record_self]
  exact ⟨rfl, rfl⟩

theorem State.resetCond_fixed (s : State) {c : Fin 64} (fixed : (s.board.conds.row c).source = .fixed) :
    (s.resetCond c).cond c = s.cond c := by
  unfold State.resetCond
  rw [fixed]
  dsimp only
  rw [State.cond_recompute, if_pos rfl, fixed]
  rfl

/-- Each condition is reset once, whatever the order. -/
theorem State.foldl_resetCond {l : List (Fin 64)} (nodup : l.Nodup) (s : State) :
    s.CondsMove (l.foldl State.resetCond s) ∧ ∀ c,
      (c ∉ l → (l.foldl State.resetCond s).board.conds.row c = s.board.conds.row c)
      ∧ (c ∈ l → ∃ u : State, u.board.conds.row c = s.board.conds.row c
        ∧ (l.foldl State.resetCond s).board.conds.row c = (u.resetCond c).board.conds.row c) := by
  induction l generalizing s with
  | nil => exact ⟨.refl s, fun c => ⟨fun _ => rfl, fun m => absurd m List.not_mem_nil⟩⟩
  | cons a l ih =>
    obtain ⟨fresh, nodup⟩ := List.nodup_cons.mp nodup
    obtain ⟨moves, rows⟩ := ih nodup (s.resetCond a)
    rw [List.foldl_cons]
    refine ⟨(s.resetCond_condsMove a).trans moves, fun c => ⟨fun out => ?_, fun mem => ?_⟩⟩
    · have ne : a ≠ c := fun e => out (e ▸ List.mem_cons_self)
      rw [(rows c).1 fun m => out (List.mem_cons_of_mem _ m), s.resetCond_other ne]
    · by_cases e : a = c
      · subst e
        exact ⟨s, rfl, (rows a).1 fresh⟩
      · obtain ⟨u, row, last⟩ := (rows c).2 ((List.mem_cons.mp mem).resolve_left (Ne.symm e))
        exact ⟨u, row.trans (s.resetCond_other e), last⟩

theorem State.rampMoving_of_idle {r : Fin 4} (idle : (s.plan.ramps.row r).state = .idle) : s.rampMoving r = false := by
  unfold State.rampMoving
  dsimp only
  rw [idle]
  rfl

theorem State.anyMoving_of_idle (idle : ∀ r, (s.plan.ramps.row r).state = .idle) : s.anyMoving = false := by
  simp [State.anyMoving, fun r => State.rampMoving_of_idle (idle r)]

theorem condLane_ne (n : Fin 8) {c : Fin 64} (low : c.val < 8) : condLane n ≠ c := by
  intro e
  have := congrArg Fin.val e
  simp only [condLane] at this
  omega

/-- The fixed conditions after the resets of the blocks. -/
theorem State.resetFixed_conds (s : State) : s.CondsMove s.resetFixed
    ∧ (∀ c, c.val < 16 ∨ s.resetFixed.board.conds.row c = s.board.conds.row c)
    ∧ s.resetFixed.cond condScanValid = false ∧ s.resetFixed.cond condFaultA = s.faultA
    ∧ s.resetFixed.cond condFaultB = s.faultB ∧ s.resetFixed.cond condPaFault = false
    ∧ s.resetFixed.cond condMoving = s.anyMoving ∧ s.resetFixed.cond condService = s.cond condService := by
  have lanes (l : List (Fin 8)) (u : State) : u.CondsMove (l.foldl (fun s n => s.setCond (condLane n) (s.laneClear n)) u)
      ∧ ∀ c, (∀ n, condLane n ≠ c) →
        (l.foldl (fun s n => s.setCond (condLane n) (s.laneClear n)) u).board.conds.row c = u.board.conds.row c := by
    refine foldl_holds (fun t : State => u.CondsMove t ∧ ∀ c, (∀ n, condLane n ≠ c) →
      t.board.conds.row c = u.board.conds.row c) _ (fun t n h => ⟨h.1.trans (t.setCond_condsMove _ _), fun c out => ?_⟩)
      l u ⟨.refl u, fun _ _ => rfl⟩
    rw [t.setCond_record_ne _ (out n)]
    exact h.2 c out
  have moving : ((((s.setCond condScanValid false).setCond condFaultA s.faultA).setCond condFaultB s.faultB).setCond
      condPaFault false).anyMoving = s.anyMoving := by
    unfold State.anyMoving State.rampMoving
    simp only [State.setCond_plan]
  unfold State.resetFixed
  simp only [State.setCond_faultA, State.setCond_faultB, moving]
  generalize chain : (((((s.setCond condScanValid false).setCond condFaultA s.faultA).setCond condFaultB s.faultB).setCond
    condPaFault false).setCond condMoving s.anyMoving) = u
  obtain ⟨moves, rows⟩ := lanes (List.finRange 8) u
  have chained : s.CondsMove u := by
    rw [← chain]
    exact ((((s.setCond_condsMove _ _).trans (State.setCond_condsMove _ _ _)).trans (State.setCond_condsMove _ _ _)).trans
      (State.setCond_condsMove _ _ _)).trans (State.setCond_condsMove _ _ _)
  have value (c : Fin 64) (low : c.val < 8) :
      ((List.finRange 8).foldl (fun s n => s.setCond (condLane n) (s.laneClear n)) u).cond c = u.cond c := by
    rw [State.cond, rows c fun n => condLane_ne n low]; rfl
  generalize (List.finRange 8).foldl (fun s n => s.setCond (condLane n) (s.laneClear n)) u = v at moves rows value ⊢
  refine ⟨chained.trans moves, fun c => ?_, ?_, ?_, ?_, ?_, ?_, ?_⟩
  · by_cases low : c.val < 16
    · exact .inl low
    · right
      have ne (c' : Fin 64) (small : c'.val < 16) : c' ≠ c := fun e => low (e ▸ small)
      rw [rows c fun n => ne _ (by simp only [condLane]; omega), ← chain,
        State.setCond_record_ne _ _ (ne condMoving (by decide)), State.setCond_record_ne _ _ (ne condPaFault (by decide)),
        State.setCond_record_ne _ _ (ne condFaultB (by decide)), State.setCond_record_ne _ _ (ne condFaultA (by decide)),
        State.setCond_record_ne _ _ (ne condScanValid (by decide))]
  all_goals
    rw [value _ (by decide), ← chain]
    simp only [State.cond_setCond]
    rfl

/-- What the reset of COND leaves. -/
theorem State.resetBoard_conds (s : State) (sources : s.sourcesSafe) : s.CondsMove s.resetBoard
    ∧ (∀ c, (s.board.conds.row c).source = .frame →
      s.resetBoard.cond c = false ∧ (s.resetBoard.board.conds.row c).hold = none)
    ∧ ∀ c : Fin 64, c.val < 16 → s.resetBoard.cond c = s.resetFixed.cond c := by
  obtain ⟨fixedMoves, -, -⟩ := s.resetFixed_conds
  unfold State.resetBoard
  obtain ⟨moves, rows⟩ := State.foldl_resetCond (List.nodup_finRange 64) s.resetFixed
  generalize (List.finRange 64).foldl State.resetCond s.resetFixed = t at moves rows ⊢
  refine ⟨fixedMoves.trans moves, fun c frame => ?_, fun c low => ?_⟩
  · obtain ⟨u, row, last⟩ := (rows c).2 (List.mem_finRange c)
    rw [State.cond, last]
    refine u.resetCond_frame ?_
    rw [row, fixedMoves.source]
    exact frame
  · obtain ⟨u, row, last⟩ := (rows c).2 (List.mem_finRange c)
    have fixed : (u.board.conds.row c).source = .fixed := by
      rw [row, fixedMoves.source]
      exact sources c low
    rw [State.cond, last]
    refine (u.resetCond_fixed fixed).trans ?_
    rw [State.cond, row]
    rfl

end Sys2Proof.Machine
end

section
/-! PROOFS. REQ: operations reset, assembled from its blocks (R188). -/

namespace Sys2Proof.Machine
variable {s t : State}

/-- What the resets of OUT, PLAN, DOOR and CALL leave together. -/
structure State.BlocksReset (s t : State) : Prop where
  frame : t = { s with
    line := t.line, chans := t.chans, plan := t.plan, door := t.door, call := t.call, handed := t.handed }
  line : t.line = { s.line with up := t.line.up, dn := t.line.dn }
  crc : ∀ p, (t.port p).crcCount = (s.port p).crcCount
  reset : Chans.resetOf s.chans t.chans
  plan : t.plan = { s.plan with ramps := t.plan.ramps }
  ramps : ∀ r, t.ramp r = (s.ramp r).opsReset
  door : t.door = { s.door with doors := t.door.doors }
  doors : ∀ d, t.door.doors.row d = (s.door.doors.row d).opsReset
  call : t.call = { s.call with slots := t.call.slots, zones := t.call.zones, paRun := 0 }
  slots : ∀ k, t.call.slots.row k = none
  zones : ∀ z, t.call.zones.row z = { s.call.zones.row z with holder := none }
  frames : t.line = (s.cancelAll s (s.call.speakersIn (List.finRange 16))).line

theorem State.cancelOf_of_call {s' : State} (h : s'.call = s.call) (u : State) (k : Fin 16) :
    s'.cancelOf u k = s.cancelOf u k := by
  unfold State.cancelOf
  rw [h]

theorem State.cancelAll_of_call {s' : State} (h : s'.call = s.call) (u : State) (js : List (Fin 16)) :
    s'.cancelAll u js = s.cancelAll u js := by
  induction js generalizing u with
  | nil => rfl
  | cons j js ih => rw [State.cancelAll_cons, State.cancelAll_cons, ih, State.cancelOf_of_call h]

theorem State.blocksReset (s : State) : s.BlocksReset s.resetOut.resetPlan.resetDoors.resetCall := by
  obtain ⟨out, reset⟩ := s.resetOut_moves
  generalize s.resetOut = u at out reset ⊢
  have uframe : u = { s with chans := u.chans, handed := u.handed } := out
  obtain ⟨pframe, reset, ramps⟩ := State.resetPlan_moves reset
  generalize u.resetPlan = v at pframe reset ramps ⊢
  have vframe : v = { s with
      chans := v.chans, handed := v.handed, plan := { s.plan with ramps := v.plan.ramps } } := by
    have handed : v.handed = u.handed := by rw [pframe]
    rw [handed]
    refine pframe.trans ?_
    rw [uframe]
  have vramps (r : Fin 4) : v.ramp r = (s.ramp r).opsReset := by
    rw [(ramps r).1 trivial, State.ramp, State.ramp, uframe]
  clear pframe ramps uframe out
  obtain ⟨⟨cs, dframe⟩, reset⟩ := State.resetDoors_moves reset
  generalize v.resetDoors = x at dframe reset ⊢
  have xframe : x = { s with
      chans := cs, handed := v.handed, plan := { s.plan with ramps := v.plan.ramps }
      door := { s.door with doors := s.door.doors.map Door.opsReset } } := by
    refine dframe.trans ?_
    rw [vframe]
  obtain ⟨cframe, line, crc, reset, call, slots, zones, frames⟩ := State.resetCall_resets reset
  generalize x.resetCall = y at cframe line crc reset call slots zones frames ⊢
  have ydoor : y.door = { s.door with doors := s.door.doors.map Door.opsReset } := by rw [cframe, xframe]
  have yplan : y.plan = { s.plan with ramps := v.plan.ramps } := by rw [cframe, xframe]
  have xline : x.line = s.line := by rw [xframe]
  have xcall : x.call = s.call := by rw [xframe]
  refine ⟨?_, by rw [xline] at line; exact line, fun p => (crc p).trans ?_, reset, ?_, fun r => ?_, ?_, fun d => ?_, ?_, slots,
    ?_, ?_⟩
  · have handed : y.handed = v.handed := by rw [cframe, xframe]
    rw [ydoor, yplan, handed]
    refine cframe.trans ?_
    rw [xframe]
  · cases p <;> simp only [State.port, xline]
  · rw [yplan]
  · rw [State.ramp, yplan]
    exact vramps r
  · rw [ydoor]
  · rw [ydoor]
    exact row_map _ _ _
  · rw [← xcall]; exact call
  · intro z; rw [← xcall]; exact zones z
  · rw [frames, State.cancelAll_of_call xcall, xcall]
    exact State.cancelAll_line_congr xline _

/-! ## SCAN and MATCH (R21, R76) -/

theorem Scan.opsReset_cases (x : Scan) :
    (∀ run, x.scanner = .scanning run → x.opsReset.scanner = .idle)
    ∧ (∀ run, x.scanner = .trimming run → x.opsReset.trimCode = run.kept
        ∧ x.opsReset.scanner = if x.list = [] then .stopped else .idle)
    ∧ ((∀ run, x.scanner ≠ .trimming run) → x.opsReset.trimCode = x.trimCode
        ∧ ((∀ run, x.scanner ≠ .scanning run) → x.opsReset.scanner = x.scanner))
    ∧ ∀ ch, x.opsReset.sensors.row ch = { x.sensors.row ch with samples := 0 } := by
  have sensors (ch : Fin 24) : x.zeroSamples.sensors.row ch = { x.sensors.row ch with samples := 0 } := row_map _ _ _
  have scanner : x.zeroSamples.scanner = x.scanner := rfl
  have trim : x.zeroSamples.trimCode = x.trimCode := rfl
  have rest : x.zeroSamples.rest = if x.list = [] then .stopped else .idle := by
    change (if x.list.isEmpty = true then Scanner.stopped else .idle) = _
    simp only [List.isEmpty_iff]
  unfold Scan.opsReset
  dsimp only
  generalize x.zeroSamples = y at sensors scanner trim rest
  rw [scanner]
  cases held : x.scanner with
  | scanning run => exact ⟨fun _ _ => rfl, fun _ h => (nomatch h), fun _ => ⟨trim, fun h => absurd rfl (h run)⟩, sensors⟩
  | trimming run =>
    refine ⟨fun _ h => (nomatch h), fun _ h => ?_, fun h => absurd rfl (h run), sensors⟩
    cases h
    exact ⟨rfl, rest⟩
  | stopped =>
    exact ⟨fun _ h => (nomatch h), fun _ h => (nomatch h), fun _ => ⟨trim, fun _ => scanner.trans held⟩, sensors⟩
  | idle =>
    exact ⟨fun _ h => (nomatch h), fun _ h => (nomatch h), fun _ => ⟨trim, fun _ => scanner.trans held⟩, sensors⟩

/-! ## The whole (R188) -/

theorem exec_opsReset (rq : Requester) (running : s.inReset = false) (addressed : s.addressed = true) :
    exec (.opsReset rq) s = .next ((s.take (.opsReset rq)).opsReset rq) :=
  event_of_request s running addressed

/-- The state before the resets of the blocks: the REPLY is offered, MATCH and SCAN are reset. -/
def State.replied (s : State) (rq : Requester) : State :=
  let u := (s.reply rq 0x1A .done []).resetMatch
  u.setScan u.scan.opsReset

theorem State.opsReset_eq (s : State) (rq : Requester) : s.opsReset rq =
    ((s.replied rq).resetOut.resetPlan.resetDoors.resetCall).resetBoard.notice noticeReady 1 := rfl

theorem State.replied_frame (s : State) (rq : Requester) : s.replied rq = { s with
    line := (s.reply rq 0x1A .done []).line, scan := s.scan.opsReset
    table := s.table.map (fun m => { m with hits := 0, refusals := 0 }) } := by
  have frame := (s.emit_portsMove rq.node kindReply rq.tag [0x1A, Code.byte .done]).frame
  change s.reply rq 0x1A .done [] = _ at frame
  unfold State.replied
  dsimp only
  rw [frame]
  rfl

/-- Settles O58. -/
theorem opsResetResetsOperatingStateAlone : Obligations.OpsResetResetsOperatingStateAlone := by
  rintro s rq ⟨running, addressed⟩ sources
  dsimp only
  refine ⟨_, exec_opsReset rq running addressed, ?_⟩
  rw [State.opsReset_eq]
  have rframe := (s.take (.opsReset rq)).replied_frame rq
  have ports := (s.take (.opsReset rq)).emit_portsMove rq.node kindReply rq.tag [0x1A, Code.byte .done]
  have rline : ((s.take (.opsReset rq)).reply rq 0x1A .done []).line = (s.reply rq 0x1A .done []).line :=
    State.reply_line_congr (u := s.take _) (v := s) rfl _ _ _ _
  generalize (s.take (.opsReset rq)).replied rq = u at rframe ⊢
  have uline : u.line = (s.reply rq 0x1A .done []).line := by rw [rframe]; exact rline
  have utable : u.table = s.table.map (fun m => { m with hits := 0, refusals := 0 }) := by rw [rframe]; rfl
  have uscan : u.scan = s.scan.opsReset := by rw [rframe]; rfl
  have uchans : u.chans = s.chans := by rw [rframe]; rfl
  have uplan : u.plan = s.plan := by rw [rframe]; rfl
  have udoor : u.door = s.door := by rw [rframe]; rfl
  have ucall : u.call = s.call := by rw [rframe]; rfl
  have uboard : u.board = s.board := by rw [rframe]; rfl
  have ureq : u.req = s.req := by rw [rframe]; rfl
  have ufaults : u.faultA = s.faultA ∧ u.faultB = s.faultB := by rw [rframe]; exact ⟨rfl, rfl⟩
  have ulineFrame : u.line = { s.line with up := u.line.up, dn := u.line.dn } := by
    rw [rframe]; exact ports.line
  have ucrc (p : Port) : (u.port p).crcCount = (s.port p).crcCount := by
    refine Eq.trans ?_ (ports.crc p)
    rw [rframe]; cases p <;> rfl
  have blocks := u.blocksReset
  generalize u.resetOut.resetPlan.resetDoors.resetCall = v at blocks ⊢
  have vsources : v.sourcesSafe := by
    intro c low
    rw [blocks.frame]
    change (u.board.conds.row c).source = _
    rw [uboard]
    exact sources c low
  have vboard : v.board = s.board := by rw [blocks.frame]; exact uboard
  have vfaultA : v.faultA = s.faultA := by rw [blocks.frame]; exact ufaults.1
  have vfaultB : v.faultB = s.faultB := by rw [blocks.frame]; exact ufaults.2
  have still : v.anyMoving = false := State.anyMoving_of_idle fun r => by
    have := blocks.ramps r
    rw [State.ramp] at this
    rw [this]; rfl
  obtain ⟨-, -, scanValid, faultA, faultB, paFault, moving, service⟩ := v.resetFixed_conds
  obtain ⟨conds, frames, fixed⟩ := v.resetBoard_conds vsources
  generalize v.resetBoard = w at conds frames fixed ⊢
  have wline : w.line = v.line := by rw [conds.frame]
  have wreq : w.req = s.req := by rw [conds.frame, blocks.frame]; exact ureq
  have cond (c : Fin 64) : (w.notice noticeReady 1).cond c = w.cond c := by rw [State.cond, State.notice_board]; rfl
  have notice := w.notice_frame noticeReady 1
  have marks := w.notice_req noticeReady 1
  rw [State.notice_marks, wreq] at marks
  have tchans : (w.notice noticeReady 1).chans = v.chans := by rw [State.notice_chans, conds.frame]
  have tplan : (w.notice noticeReady 1).plan = v.plan := by rw [State.notice_plan, conds.frame]
  have tdoor : (w.notice noticeReady 1).door = v.door := by rw [State.notice_door, conds.frame]
  have tcall : (w.notice noticeReady 1).call = v.call := by rw [State.notice_call, conds.frame]
  have tscan : (w.notice noticeReady 1).scan = s.scan.opsReset := by
    rw [State.notice_scan, conds.frame, blocks.frame]; exact uscan
  have ttable : (w.notice noticeReady 1).table = s.table.map (fun m => { m with hits := 0, refusals := 0 }) := by
    rw [State.notice_table, conds.frame, blocks.frame]; exact utable
  have tboard : (w.notice noticeReady 1).board = w.board := State.notice_board _ _ _
  have tcrc (p : Port) : ((w.notice noticeReady 1).port p).crcCount = (s.port p).crcCount := by
    rw [State.notice_crcCount, ← ucrc p, ← blocks.crc p]
    cases p <;> simp only [State.port, wline]
  have tline : (w.notice noticeReady 1).line =
      { w.line with up := (w.notice noticeReady 1).line.up, dn := (w.notice noticeReady 1).line.dn } :=
    congrArg State.line notice
  have sent : (w.notice noticeReady 1).line = ((s.cancelAll (s.reply rq 0x1A .done [])
      (s.call.speakersIn (List.finRange 16))).notice noticeReady 1).line := by
    refine State.notice_line_congr ?_ ?_ _ _
    · rw [wline, blocks.frames, State.cancelAll_of_call ucall, ucall]
      exact State.cancelAll_line_congr uline _
    · rw [wreq, State.cancelAll_keeps State.req (fun _ _ _ _ _ => by simp)]
      simp [State.reply]
  generalize w.notice noticeReady 1 = t at *
  obtain ⟨scanning, trimming, resting, sensors⟩ := s.scan.opsReset_cases
  refine ⟨fun e => ?_, ?_, ?_, ?_, ?_, ?_, fun ch => ?_, fun r => ?_, fun d => ?_, fun k => ?_, fun zn => ?_, ?_, ?_, ?_,
    fun c frame => ?_, ?_, ?_, ?_, ?_, ?_, ?_, fun c => ?_, ?_, ?_, ?_, ?_, ?_, ?_, ?_, ?_, ?_, ?_, ?_, tcrc, marks,
    s.call.speakersIn (List.finRange 16), Call.speakersIn_pairwise _ _, fun k => ?_, sent⟩
  · rw [ttable]; exact row_map _ _ _
  · rw [tscan]; exact scanning
  · rw [tscan]; exact trimming
  · rw [tscan]; exact resting
  · rw [tscan]; exact sensors
  · rw [tscan]; exact Scan.opsReset_frame _
  · have reset := blocks.reset ch
    rw [uchans] at reset
    rw [tchans]
    exact ⟨reset.requested, reset.restart, reset.supervision, reset.cutOffs, reset.set, reset.cmpA⟩
  · rw [State.ramp, tplan]
    refine (blocks.ramps r).trans ?_
    rw [State.ramp, uplan]
    rfl
  · rw [tdoor, blocks.doors, udoor]; rfl
  · rw [tcall]; exact blocks.slots k
  · rw [tcall, blocks.zones, ucall]
  · rw [tcall, blocks.call]
  · rw [tcall, blocks.call, ucall]
  · rw [tcall, blocks.call, ucall]
  · rw [cond, tboard]
    exact frames c (by rw [vboard]; exact frame)
  · rw [cond, fixed _ (by decide)]; exact scanValid
  · rw [cond, fixed _ (by decide)]; exact paFault
  · rw [cond, fixed _ (by decide)]; exact moving.trans still
  · rw [cond, fixed _ (by decide)]; exact faultA.trans vfaultA
  · rw [cond, fixed _ (by decide)]; exact faultB.trans vfaultB
  · rw [cond, fixed _ (by decide)]
    refine service.trans ?_
    rw [State.cond, vboard]
    rfl
  · rw [tboard, conds.source, vboard]
  · rw [tboard, conds.frame]
    change v.board.terms = _
    rw [vboard]
  · rw [tboard, conds.frame]
    change v.board.ageDue = _
    rw [vboard]
  · rw [tplan, blocks.plan, uplan]
  · rw [tplan, blocks.plan, uplan]
  · rw [tdoor, blocks.door, udoor]
  · rw [tdoor, blocks.door, udoor]
  · rw [tcall, blocks.call, ucall]
  · rw [tcall, blocks.call, ucall]
  · rw [tcall, blocks.call, ucall]
  · rw [tcall, blocks.call, ucall]
  · refine tline.trans ?_
    rw [wline, blocks.line, ulineFrame]
  · simpa using Call.mem_speakersIn (c := s.call) (l := List.finRange 16) (k := k)

end Sys2Proof.Machine
end

section
/-! PROOFS. CALL: what a run of the arbiter keeps, and CALL_CANCEL (R165, R166, R172). -/

namespace Sys2Proof.Machine
variable {s : State}

/-! ## What a run of the arbiter keeps (R165) -/

/-- The slot holds the same call. -/
structure Slot.SameCall (x y : Slot) : Prop where
  template : y.template = x.template
  zones : y.zones = x.zones
  priority : y.priority = x.priority
  left : y.left = x.left
  arrival : y.arrival = x.arrival

theorem Slot.SameCall.refl (x : Slot) : x.SameCall x := ⟨rfl, rfl, rfl, rfl, rfl⟩

theorem Slot.SameCall.trans {x y z : Slot} (h : x.SameCall y) (g : y.SameCall z) : x.SameCall z :=
  ⟨g.template.trans h.template, g.zones.trans h.zones, g.priority.trans h.priority, g.left.trans h.left,
    g.arrival.trans h.arrival⟩

/-- Every call stands in its slot, and no other comes. -/
def Call.sameCalls (c c' : Call) : Prop :=
  ∀ j, (c.slots.row j = none → c'.slots.row j = none)
    ∧ ∀ y, c.slots.row j = some y → ∃ y', c'.slots.row j = some y' ∧ y.SameCall y'

theorem Call.sameCalls.refl (c : Call) : c.sameCalls c := fun _ => ⟨id, fun y slot => ⟨y, slot, .refl y⟩⟩

theorem Call.sameCalls.trans {a b c : Call} (h : a.sameCalls b) (g : b.sameCalls c) : a.sameCalls c := by
  intro j
  refine ⟨fun free => (g j).1 ((h j).1 free), fun y slot => ?_⟩
  obtain ⟨y', slot', same⟩ := (h j).2 y slot
  obtain ⟨y'', slot'', same'⟩ := (g j).2 y' slot'
  exact ⟨y'', slot'', same.trans same'⟩

namespace CallRun
variable {r : CallRun} {k : Fin 16} {x : Slot}

theorem win_sameCalls (slot : r.call.slots.row k = some x) (now : Nat) :
    r.call.sameCalls (r.win k x now).call := by
  intro j
  rw [win_slot]
  by_cases e : k = j
  · subst e
    rw [if_pos rfl]
    refine ⟨fun free => absurd (slot.symm.trans free) (by simp), fun y slot' => ?_⟩
    obtain rfl := Option.some.inj (slot.symm.trans slot')
    exact ⟨_, rfl, rfl, rfl, rfl, rfl, rfl⟩
  · rw [if_neg e]
    split
    · exact ⟨fun free => by rw [free]; rfl, fun y slot' => ⟨y.displaced, by rw [slot']; rfl, rfl, rfl, rfl, rfl, rfl⟩⟩
    · exact ⟨id, fun y slot' => ⟨y, slot', .refl y⟩⟩

theorem arbitrate_sameCalls (now n : Nat) (r : CallRun) : r.call.sameCalls (arbitrate now n r).call := by
  induction n generalizing r with
  | zero => exact .refl _
  | succ n ih =>
    unfold arbitrate
    cases first : r.call.firstWinner with
    | none => exact .refl _
    | some w => exact (win_sameCalls (Call.firstWinner_some first).1.1 now).trans (ih _)

/-! ### Zones keep their lamps -/

theorem free_zone (r : CallRun) (k z : Fin 16) : (r.free k).call.zones.row z =
    if (r.call.slots.row k).isSome ∧ (r.call.zones.row z).holder = some k
    then { r.call.zones.row z with holder := none } else r.call.zones.row z := by
  cases slot : r.call.slots.row k with
  | none => rw [free_of_none slot]; simp
  | some x => rw [free_call slot, Call.vacate_zone]; simp

theorem displace_zone (r : CallRun) (k z : Fin 16) : (r.displace k).call.zones.row z =
    if (r.call.slots.row k).isSome ∧ (r.call.zones.row z).holder = some k
    then { r.call.zones.row z with holder := none } else r.call.zones.row z := by
  cases slot : r.call.slots.row k with
  | none => rw [displace_of_none slot]; simp
  | some x => rw [displace_call slot, Call.vacate_zone]; simp

theorem free_lamp (r : CallRun) (k z : Fin 16) : ((r.free k).call.zones.row z).lamp = (r.call.zones.row z).lamp := by
  rw [free_zone]; split <;> rfl

theorem foldl_free_lamp (l : List (Fin 16)) (r : CallRun) (z : Fin 16) :
    ((l.foldl free r).call.zones.row z).lamp = (r.call.zones.row z).lamp :=
  foldl_keeps (fun r : CallRun => (r.call.zones.row z).lamp) free (fun r k => r.free_lamp k z) l r

theorem cleared_lamp (r : CallRun) (x : Slot) (z : Fin 16) :
    ((r.cleared x).call.zones.row z).lamp = (r.call.zones.row z).lamp :=
  foldl_keeps (fun r : CallRun => (r.call.zones.row z).lamp) displace
    (fun r k => by rw [displace_zone]; split <;> rfl) _ r

theorem win_lamp (r : CallRun) (k : Fin 16) (x : Slot) (now : Nat) (z : Fin 16) :
    ((r.win k x now).call.zones.row z).lamp = (r.call.zones.row z).lamp := by
  rw [win_zone]
  split <;> exact cleared_lamp r x z

theorem arbitrate_lamp (now n : Nat) (r : CallRun) (z : Fin 16) :
    ((arbitrate now n r).call.zones.row z).lamp = (r.call.zones.row z).lamp := by
  induction n generalizing r with
  | zero => rfl
  | succ n ih =>
    unfold arbitrate
    cases first : r.call.firstWinner with
    | none => rfl
    | some w => exact (ih _).trans (r.win_lamp _ _ _ z)

/-- A freed slot gives up its zones for good. -/
theorem foldl_free_holder_none {l : List (Fin 16)} {z : Fin 16} (h : (r.call.zones.row z).holder = none) :
    ((l.foldl free r).call.zones.row z).holder = none :=
  foldl_holds (fun r : CallRun => (r.call.zones.row z).holder = none) free
    (fun r k h => by rw [free_zone]; split <;> [rfl; exact h]) l r h

theorem foldl_free_gives_up {l : List (Fin 16)} (mem : k ∈ l) (slot : r.call.slots.row k = some x) {z : Fin 16}
    (held : (r.call.zones.row z).holder = some k) : ((l.foldl free r).call.zones.row z).holder = none := by
  induction l generalizing r with
  | nil => exact absurd mem List.not_mem_nil
  | cons a l ih =>
    rw [List.foldl_cons]
    by_cases e : a = k
    · subst e
      refine foldl_free_holder_none ?_
      rw [free_zone, if_pos ⟨by rw [slot]; rfl, held⟩]
    · have zone : (r.free a).call.zones.row z = r.call.zones.row z := by
        rw [free_zone, if_neg fun h => e (Option.some.inj (held.symm.trans h.2)).symm]
      refine ih ((List.mem_cons.mp mem).resolve_left (Ne.symm e)) ?_ ?_
      · rw [free_slot, if_neg e]; exact slot
      · rw [zone]; exact held

/-! ### A winner stands -/

/-- The SPEAKING call in slot `j` stands for the rest of the arbiter's run: no WAITING call above its priority can
win. -/
structure Stands (r : CallRun) (j : Fin 16) (y : Slot) : Prop where
  held : r.call.held
  slot : r.call.slots.row j = some y
  speaking : y.state = .speaking
  settled : r.call.settledAbove y.priority

theorem Stands.holder {j : Fin 16} {y : Slot} (h : r.Stands j y) {z : Fin 16} (of : y.zones.getLsbD z.val = true) :
    (r.call.zones.row z).holder = some j :=
  (h.held.holder z j).mpr ⟨y, h.slot, by rw [h.speaking]; decide, of⟩

theorem Stands.not_displaced {j : Fin 16} {y : Slot} (h : r.Stands j y) (can : r.call.candidate k x) :
    j ∉ r.holders x := by
  intro mem
  obtain ⟨z, of, holder⟩ := mem_holders.mp mem
  exact (Call.canWin_iff _ _).mp can.2.2 ⟨z, j, y, of, holder, h.slot, h.settled k x can⟩

theorem Stands.win {j : Fin 16} {y : Slot} (h : r.Stands j y) (can : r.call.candidate k x)
    (first : ∀ i z, r.call.candidate i z → z.before x = false) (now : Nat) : (r.win k x now).Stands j y := by
  have ne : k ≠ j := by
    rintro rfl
    have speaking := h.speaking
    rw [Option.some.inj (h.slot.symm.trans can.1), can.2.1] at speaking
    exact absurd speaking (by decide)
  refine ⟨win_held h.held can.1 can.2.1 now, ?_, h.speaking, fun i z candidate => ?_⟩
  · rw [win_slot, if_neg ne, if_neg (h.not_displaced can)]
    exact h.slot
  · exact (win_settledAbove h.held can first now i z candidate).trans (h.settled k x can)

theorem Stands.arbitrate {j : Fin 16} {y : Slot} (h : r.Stands j y) (now n : Nat) :
    (CallRun.arbitrate now n r).Stands j y := by
  induction n generalizing r with
  | zero => exact h
  | succ n ih =>
    unfold CallRun.arbitrate
    cases first : r.call.firstWinner with
    | none => exact h
    | some w =>
      obtain ⟨can, best⟩ := Call.firstWinner_some first
      exact ih (h.win can best now)

/-- The first winner of a run speaks at its end. -/
theorem arbitrate_first {n now : Nat} (held : r.call.held) (can : r.call.candidate k x)
    (first : ∀ j y, r.call.candidate j y → j ≠ k → x.before y = true) :
    (arbitrate now (n + 1) r).Stands k
      ((r.taken k x).spoken { x with lampStep := 0, lampDue := some (now + lampStepTime) } now) := by
  unfold arbitrate
  cases found : r.call.firstWinner with
  | none => exact absurd can (Call.not_candidate_of_none found k x)
  | some w =>
    obtain ⟨wcan, best⟩ := Call.firstWinner_some found
    have same : w.1 = k := by
      by_contra ne
      have := first w.1 w.2 wcan ne
      rw [best k x can] at this
      cases this
    have eq : w.2 = x := by
      have slot := wcan.1
      rw [same] at slot
      exact Option.some.inj (slot.symm.trans can.1)
    dsimp only
    rw [same, eq]
    refine Stands.arbitrate ⟨win_held held can.1 can.2.1 now, ?_, rfl, ?_⟩ now n
    · rw [win_slot, if_pos rfl]
    · exact win_settledAbove held can (fun j y c => eq ▸ best j y c) now

theorem taken_rest (r : CallRun) (k : Fin 16) (x : Slot) :
    (r.taken k x).call.paLimit = r.call.paLimit ∧ (r.taken k x).call.token = r.call.token
    ∧ (r.taken k x).call.slots = (r.cleared x).call.slots := by
  refine ⟨?_, ?_, rfl⟩
  · change (r.cleared x).call.paLimit = _; rw [cleared_rest]
  · change (r.cleared x).call.token = _; rw [cleared_rest]

end CallRun

/-! ## CALL_CANCEL (R172) -/

section
variable {form b : Byte}

/-- The slots that a cancel names. -/
def Call.names (c : Call) (form b : Byte) (k : Fin 16) : Prop :=
  (form = 0 ∧ b.toNat = k.val) ∨ (form = 1 ∧ ∃ x, c.slots.row k = some x ∧ x.template.val = b.toNat)

theorem Call.named_bad {c : Call}
    (bad : (form = 0 ∧ 16 ≤ b.toNat) ∨ (form = 1 ∧ 32 ≤ b.toNat) ∨ (form ≠ 0 ∧ form ≠ 1)) : c.named form b = none := by
  unfold Call.named
  rcases bad with ⟨rfl, out⟩ | ⟨rfl, out⟩ | ⟨zero, one⟩
  · rw [if_pos rfl, (fin?_eq_none_iff b).mpr out]; rfl
  · rw [if_neg (by decide), if_pos rfl, (fin?_eq_none_iff b).mpr out]; rfl
  · rw [if_neg zero, if_neg one]

theorem Call.named_slot {c : Call} {k : Fin 16} (h : b.toNat = k.val) : c.named 0 b = some [k] := by
  unfold Call.named
  rw [if_pos rfl, (fin?_eq_some_iff b k).mpr h]
  rfl

theorem Call.named_some {c : Call}
    (good : ¬ ((form = 0 ∧ 16 ≤ b.toNat) ∨ (form = 1 ∧ 32 ≤ b.toNat) ∨ (form ≠ 0 ∧ form ≠ 1))) :
    ∃ ks, c.named form b = some ks ∧ ∀ k, k ∈ ks ↔ c.names form b k := by
  by_cases zero : form = 0
  · subst zero
    have low : b.toNat < 16 := by
      by_contra high
      exact good (.inl ⟨rfl, by omega⟩)
    refine ⟨[⟨b.toNat, low⟩], Call.named_slot rfl, fun k => ?_⟩
    simp [Call.names, Fin.ext_iff, eq_comm]
  · by_cases one : form = 1
    · subst one
      have low : b.toNat < 32 := by
        by_contra high
        exact good (.inr (.inl ⟨rfl, by omega⟩))
      refine ⟨_, by unfold Call.named; rw [if_neg (by decide), if_pos rfl, (fin?_eq_some_iff b ⟨b.toNat, low⟩).mpr rfl]; rfl,
        fun k => ?_⟩
      rw [List.mem_filter]
      unfold Call.names
      cases c.slots.row k with
      | none => simp
      | some x => simp [Fin.ext_iff]
    · exact absurd (.inr (.inr ⟨zero, one⟩)) good

theorem callCancel_of_named {ks : List (Fin 16)} (h : s.call.named form b = some ks) :
    callCancel form b s = (.done, s.arbiter (ks.foldl CallRun.free s.call.run)) := by
  unfold callCancel
  rw [h]

theorem callCancel_of_bad (h : s.call.named form b = none) : callCancel form b s = (.badValue, s) := by
  unfold callCancel
  rw [h]

theorem exec_callCancel {o : CancelOrigin} {code : Code} {t : State} (running : s.inReset = false)
    (eq : callCancel form b (s.take (.callCancel o form b)) = (code, t)) :
    (∀ rq, o = .request rq → s.addressed = true → exec (.callCancel o form b) s = .next (t.reply rq 0x07 code []))
    ∧ (o = .release → exec (.callCancel o form b) s = .next t) := by
  refine ⟨?_, ?_⟩
  · rintro rq rfl addressed
    refine (event_of_request (f := answered rq 0x07 (callCancel form b)) s running addressed).trans ?_
    rw [answered_of_eq _ rq 0x07 eq]
  · rintro rfl
    refine (event_of_running s (.callCancel .release form b) (fun s => (callCancel form b s).2) running).trans ?_
    rw [eq]

/-- The calls and zones that a cancel leaves before the arbiter runs. -/
theorem freed_call (ks : List (Fin 16)) (c : Call) (j : Fin 16) :
    (ks.foldl CallRun.free c.run).call.slots.row j = if j ∈ ks then none else c.slots.row j :=
  CallRun.foldl_free_slot ks c.run j

theorem State.arbiter_call (s : State) (r : CallRun) :
    (s.arbiter r).call = (CallRun.arbitrate s.clock 16 r).call := State.endCall_call _ _

/-- A candidate after a cancel of slot `k`: a WAITING call that no remaining holder bars. -/
theorem freed_candidate {c : Call} {k : Fin 16} {x : Slot} (slot : c.slots.row k = some x) {j : Fin 16} {y : Slot} :
    (c.run.free k).call.candidate j y ↔ c.slots.row j = some y ∧ j ≠ k ∧ y.state = .waiting
      ∧ ∀ (zn h : Fin 16) (w : Slot), y.zones.getLsbD zn.val = true → (c.zones.row zn).holder = some h → h ≠ k →
        c.slots.row h = some w → w.priority < y.priority := by
  have freed : (c.run.free k).call = c.vacate k none := CallRun.free_call slot
  unfold Call.candidate
  rw [Call.canWin_iff, freed, Call.vacate_slot]
  have bars : (c.vacate k none).barred y ↔ ∃ (z h : Fin 16) (w : Slot), y.zones.getLsbD z.val = true
      ∧ (c.zones.row z).holder = some h ∧ h ≠ k ∧ c.slots.row h = some w ∧ y.priority ≤ w.priority := by
    unfold Call.barred
    refine exists_congr fun z => exists_congr fun h => exists_congr fun w => ?_
    rw [Call.vacate_holder, Call.vacate_slot]
    constructor
    · rintro ⟨of, ⟨holder, ne⟩, row, le⟩
      rw [if_neg ne.symm] at row
      exact ⟨of, holder, ne, row, le⟩
    · rintro ⟨of, holder, ne, row, le⟩
      exact ⟨of, ⟨holder, ne⟩, by rw [if_neg ne.symm]; exact row, le⟩
  rw [bars]
  by_cases e : k = j
  · subst e
    simp
  · rw [if_neg e]
    push Not
    exact ⟨fun ⟨row, waiting, free⟩ => ⟨row, Ne.symm e, waiting, free⟩,
      fun ⟨row, _, waiting, free⟩ => ⟨row, waiting, free⟩⟩

/-- The cancel of one SPEAKING call offers its cancel frame. -/
theorem State.endCall_free_line {s : State} {k : Fin 16} {x : Slot} {token : Byte} (slot : s.call.slots.row k = some x)
    (speaking : x.state = .speaking) (held : x.token = some token) :
    (s.endCall (s.call.run.free k)).line = (s.emit s.call.paNode 4 token (callPayload 0 x)).line := by
  have node : (s.setCall (s.call.run.free k).call).call.paNode = s.call.paNode := by
    change (s.call.run.free k).call.paNode = _
    rw [CallRun.free_rest]; rfl
  have only : s.call.speakersIn [k] = [k] := by
    refine List.perm_singleton.mp ((List.perm_ext_iff_of_nodup ((List.nodup_finRange 16).filter _)
      (List.nodup_singleton k)).mpr fun j => ?_)
    change j ∈ s.call.speakersIn [k] ↔ _
    rw [Call.mem_speakersIn, List.mem_singleton, and_iff_left_iff_imp]
    rintro rfl
    exact ⟨x, slot, speaking⟩
  have frames := State.offers_cancelFrames (s := s) CallRun.silences_free (List.nodup_singleton k) (r := s.call.run)
    rfl (fun _ => rfl) _ node
  rw [only] at frames
  rw [State.endCall_line, State.callFrames_offers, CallRun.free_wins]
  change ((s.setCall _).offers ([k].foldl CallRun.free s.call.run).cancelFrames).line = _
  rw [frames]
  change (s.cancelOf (s.setCall _) k).line = _
  unfold State.cancelOf
  rw [slot]
  dsimp only
  rw [held]
  exact State.emit_line_congr (u := s.setCall (s.call.run.free k).call) (v := s) rfl _ _ _ _

end

/-- Settles O49. -/
theorem callCancelFreesTheNamedSlots : Obligations.CallCancelFreesTheNamedSlots := by
  intro s o form b running
  dsimp only
  generalize taken : s.take (.callCancel o form b) = u
  have call : u.call = s.call := taken ▸ rfl
  have clock : u.clock = s.clock := taken ▸ rfl
  refine ⟨fun bad => exec_callCancel running (by rw [taken]; exact callCancel_of_bad (Call.named_bad bad)), fun good => ?_⟩
  obtain ⟨ks, named, mem⟩ := Call.named_some (c := u.call) good
  have names : ∀ k, k ∈ ks ↔ (form = 0 ∧ b.toNat = k.val)
      ∨ (form = 1 ∧ ∃ x, s.call.slots.row k = some x ∧ x.template.val = b.toNat) := fun k => by
    rw [mem, call]; rfl
  refine ⟨_, exec_callCancel running (by rw [taken]; exact callCancel_of_named named), ?_⟩
  simp only [← names]
  have freed := freed_call ks u.call
  have calls := CallRun.arbitrate_sameCalls u.clock 16 (ks.foldl CallRun.free u.call.run)
  refine ⟨fun k of => ?_, fun k x out slot => ?_, fun k free => ?_, ?_, ?_, ?_, fun still => ?_, ?_⟩
  · rw [State.arbiter_call]
    exact (calls k).1 (by rw [freed, if_pos of])
  · obtain ⟨y, row, same⟩ := (calls k).2 x (by rw [freed, if_neg out, call]; exact slot)
    rw [State.arbiter_call]
    exact ⟨y, row, same.template, same.zones, same.priority, same.left, same.arrival⟩
  · rw [State.arbiter_call]
    refine (calls k).1 ?_
    rw [freed, call, free]
    exact ite_self _
  · rw [State.arbiter_call, CallRun.arbitrate_rest, CallRun.foldl_free_rest, ← call]; rfl
  · rw [State.arbiter, State.endCall_board, ← taken]; rfl
  · rw [State.arbiter, State.endCall_req, ← taken]; rfl
  · have none : (ks.foldl CallRun.free u.call.run).call.firstWinner = none :=
      Call.firstWinner_of_no_waiting fun j y row => by
        rw [freed] at row
        split at row
        · cases row
        · rename_i out
          exact still j y out (call ▸ row)
    rw [State.arbiter, CallRun.arbitrate_of_none none, State.endCall_call]
    refine ⟨fun k out => by rw [freed, if_neg out, call], ?_, ?_⟩
    · rintro z ⟨k, x, of, slot, held⟩
      have gone : ((ks.foldl CallRun.free u.call.run).call.zones.row z).holder = .none :=
        CallRun.foldl_free_gives_up (r := u.call.run) of (call ▸ slot) (call ▸ held)
      refine ⟨gone, fun ch lamp owner => ?_⟩
      refine State.endCall_dark (z := z) ?_ (by rw [← taken]; exact owner) ?_ gone
      · rw [CallRun.foldl_free_lamp]
        exact call ▸ lamp
      · rw [call, held]
        exact Option.some_ne_none k
    · intro k x token zero names' slot speaking held
      subst zero
      obtain rfl : ks = [k] := Option.some.inj (named.symm.trans (Call.named_slot names'))
      refine (State.endCall_free_line (s := u) (call ▸ slot) speaking held).trans ?_
      rw [call]
      exact State.emit_line_congr (by rw [← taken]; rfl) _ _ _ _
  · intro zero slots zones k x names' slot
    subst zero
    obtain rfl : ks = [k] := Option.some.inj (named.symm.trans (Call.named_slot names'))
    have ruled : s.call.zonesRuled := State.zonesSafe_iff.mp zones
    have single : [k].foldl CallRun.free u.call.run = s.call.run.free k := by rw [call]; rfl
    have held : (s.call.run.free k).call.held := CallRun.free_held (r := s.call.run) ruled.held k
    have can {j : Fin 16} {y : Slot} := freed_candidate slot (j := j) (y := y)
    rw [single]
    refine ⟨fun nobody j ne => ?_, fun j y candidate best => ?_⟩
    · rw [State.arbiter_call, CallRun.arbitrate_of_none (Call.firstWinner_none_of fun j y c => nobody j y (can.mp c)),
        CallRun.free_slot, if_neg ne.symm]
      rfl
    · have stands := CallRun.arbitrate_first (n := 15) (now := u.clock) held (can.mpr candidate)
        fun i z c ne => Slot.before_iff.mpr ((best i z (can.mp c) ne).imp_right fun h => ⟨h.1.symm, h.2⟩)
      obtain ⟨limit, -, -⟩ := (s.call.run.free k).taken_rest j y
      have paLimit : (s.call.run.free k).call.paLimit = s.call.paLimit := by
        rw [CallRun.free_rest]; rfl
      have waiting : y.interval = .none := by
        by_contra running
        have := ((ruled.held.timed j y candidate.1).1.mp running)
        rw [candidate.2.2.1] at this
        cases this
      refine ⟨⟨((s.call.run.free k).taken j y).call.freeToken 16 ((s.call.run.free k).taken j y).call.token, ?_⟩,
        fun z of => ?_⟩
      · rw [State.arbiter_call, stands.slot, CallRun.spoken, limit, paLimit, clock, waiting]
        rfl
      · have holder := stands.holder of
        rw [State.arbiter_call]
        refine ⟨holder, fun ch lamp owner service _ => ?_⟩
        rw [State.arbiter, State.endCall_requested (z := z) ?_ ?_ ?_ ?_]
        · refine (Call.zoneLevel_of_held holder stands.slot).trans ?_
          rw [CallRun.arbitrate_rest, CallRun.free_rest]
          rfl
        · rw [CallRun.arbitrate_lamp, CallRun.free_lamp]
          exact lamp
        · rw [← taken]; exact owner
        · rw [holder, call]
          exact CallRun.Call.held.waiting_not_holder ruled.held candidate.1 candidate.2.2.1 z
        · left
          rw [← taken]; exact service

end Sys2Proof.Machine
end

section
/-! PROOFS. CALL: queue requests: refusals, MERGE, ACCEPTANCE and the run of the arbiter after it (R33, R164 to
R167). -/

namespace Sys2Proof.Machine
variable {s : State}

/-! ## How the two forms of the request answer (R33, R164) -/

theorem exec_queue {o : CallOrigin} {e : Fin 64} {b : Byte} {z : Option (BitVec 16)} {i : Instr} {code : Code}
    {t : State} (running : s.inReset = false) (eq : callQueue b z (s.take i) = (code, t)) :
    (i = .callQueue o b z →
        (∀ rq, o = .request rq → s.addressed = true → exec i s = .next (t.reply rq 0x06 code []))
        ∧ (∀ d, o = .warning d → exec i s = .next (t.hand (.warningCallResult d code)))
        ∧ (∀ r n, o = .stage r n → exec i s = .next (t.hand (.callStageResult r n code))))
      ∧ (i = .queueCall e b z → exec i s = .next (if code = .done then t else t.refuse e)) := by
  have result (o : CallOrigin) : (s.take i).takeQueue o b z = t.callResult o code := by
    unfold State.takeQueue
    rw [eq]
  refine ⟨?_, ?_⟩
  · rintro rfl
    refine ⟨?_, ?_, ?_⟩
    · rintro rq rfl addressed
      refine (event_of_request (f := fun s => s.takeQueue (.request rq) b z) s running addressed).trans ?_
      rw [result]
      rfl
    · rintro d rfl
      refine (event_of_running s _ (fun s => s.takeQueue (.warning d) b z) running).trans ?_
      rw [result]
      rfl
    · rintro r n rfl
      refine (event_of_running s _ (fun s => s.takeQueue (.stage r n) b z) running).trans ?_
      rw [result]
      rfl
  · rintro rfl
    refine (event_of_running s _ (asAction e (callQueue b z)) running).trans ?_
    split
    · rename_i done
      subst done
      rw [asAction_of_done _ e eq]
    · rename_i refused
      rw [asAction_of_refused _ e eq refused]

section
variable {b : Byte} {z : Option (BitVec 16)} {tpl : Fin 32}

theorem callQueue_of_bad (bad : 32 ≤ b.toNat ∨ z = some 0) : callQueue b z s = (.badValue, s) := by
  unfold callQueue
  cases names : fin? 32 b with
  | none => rfl
  | some tpl =>
    have low := (fin?_eq_some_iff b tpl).mp names
    exact if_pos (bad.resolve_left (by omega))

theorem callQueue_of_setup (low : b.toNat < 32) (named : z ≠ some 0) (setup : s.req.mode = .setup) :
    callQueue b z s = (.refusedMode, s) := by
  unfold callQueue
  rw [(fin?_eq_some_iff b ⟨b.toNat, low⟩).mpr rfl]
  dsimp only
  rw [if_neg named, if_pos setup]

theorem State.allows_iff : s.allows tpl = true ↔ ∃ a, (s.call.templates.row tpl).allow = some a ∧ s.term a = true := by
  unfold State.allows
  cases (s.call.templates.row tpl).allow <;> simp

theorem callQueue_of_service (names : b.toNat = tpl.val) (named : z ≠ some 0) (service : s.req.mode = .service) :
    callQueue b z s =
      if s.allows tpl then queueAllowed tpl (z.getD (s.call.templates.row tpl).zones) s else (.termFalse, s) := by
  unfold callQueue
  rw [(fin?_eq_some_iff b tpl).mpr names]
  dsimp only
  rw [if_neg named, if_neg (by rw [service]; decide)]

end

theorem find?_finRange_iff {n : Nat} {p : Fin n → Bool} {k : Fin n} :
    (List.finRange n).find? p = some k ↔ p k = true ∧ ∀ j, j < k → p j = false := by
  rw [← Fin.find?_eq_find?_finRange, Fin.find?_eq_some_iff]

section
variable {c : Call} {tpl : Fin 32} {zones : BitVec 16} {k : Fin 16}

/-- Slot `k` holds the same call, in record `x` (R164). -/
def Call.holdsSame (c : Call) (tpl : Fin 32) (zones : BitVec 16) (k : Fin 16) (x : Slot) : Prop :=
  c.slots.row k = some x ∧ x.template = tpl ∧ x.zones = zones

theorem Call.sameCall_none (h : ∀ k x, ¬ c.holdsSame tpl zones k x) : c.sameCall tpl zones = none := by
  refine List.find?_eq_none.mpr fun k _ => ?_
  have out := h k
  unfold holdsSame at out
  cases row : c.slots.row k with
  | none => simp
  | some x => simpa [row] using out x

theorem Call.sameCall_some {x : Slot} (same : c.holdsSame tpl zones k x)
    (first : ∀ j y, j < k → ¬ c.holdsSame tpl zones j y) : c.sameCall tpl zones = some k := by
  obtain ⟨row, template, of⟩ := same
  refine find?_finRange_iff.mpr ⟨by simp [row, template, of], fun j lt => ?_⟩
  have out := fun y => first j y lt
  unfold holdsSame at out
  cases row : c.slots.row j with
  | none => rfl
  | some y => simpa [row] using out y

theorem Call.freeSlot_none (h : ∀ k, c.slots.row k ≠ none) : c.freeSlot = none :=
  List.find?_eq_none.mpr fun k _ => by simpa using h k

theorem Call.freeSlot_some (free : c.slots.row k = none) (first : ∀ j, j < k → c.slots.row j ≠ none) :
    c.freeSlot = some k :=
  find?_finRange_iff.mpr ⟨by simp [free], fun j lt => by
    simpa [Option.isSome_iff_ne_none] using Option.isSome_iff_ne_none.mpr (first j lt)⟩

end

section
variable {tpl : Fin 32} {zones : BitVec 16} {k : Fin 16}

theorem queueAllowed_of_same {x : Slot} (same : s.call.holdsSame tpl zones k x)
    (first : ∀ j y, j < k → ¬ s.call.holdsSame tpl zones j y) : queueAllowed tpl zones s =
      (.done, s.setSlot k (some { x with left := (s.call.templates.row tpl).repeats })) := by
  unfold queueAllowed
  rw [Call.sameCall_some same first]
  dsimp only
  rw [same.1]

theorem queueAllowed_of_full (fresh : ∀ k x, ¬ s.call.holdsSame tpl zones k x)
    (full : ∀ k, s.call.slots.row k ≠ none) : queueAllowed tpl zones s = (.full, s) := by
  unfold queueAllowed
  rw [Call.sameCall_none fresh, Call.freeSlot_none full]

theorem queueAllowed_of_free (fresh : ∀ k x, ¬ s.call.holdsSame tpl zones k x) (free : s.call.slots.row k = none)
    (first : ∀ j, j < k → s.call.slots.row j ≠ none) : queueAllowed tpl zones s =
      (.done, s.arbiter (s.call.accept k tpl zones).run) := by
  unfold queueAllowed
  rw [Call.sameCall_none fresh, Call.freeSlot_some free first]

/-! ## ACCEPTANCE without renumbering (R164) -/

theorem Call.accept_of_low {c : Call} (low : c.arrival < 65535) : c.accept k tpl zones =
    { c with slots := c.slots.put k (some (c.accepted tpl zones)), arrival := c.arrival + 1 } := by
  have same : c.numbered = c := if_neg (by omega)
  rw [Call.accept_eq, same]

/-- The calls with a new WAITING call `x` in the free slot `k`. -/
def Call.with_ (c : Call) (k : Fin 16) (x : Slot) : Call :=
  { c with slots := c.slots.put k (some x), arrival := c.arrival + 1 }

theorem Call.with_slot (c : Call) (k : Fin 16) (x : Slot) (j : Fin 16) :
    (c.with_ k x).slots.row j = if k = j then some x else c.slots.row j := Tbl.row_put _ _ _ _

section
variable {c : Call} {x : Slot}

/-- A holder of a zone bars the new call, and every other, as before. -/
theorem Call.with_barred (free : c.slots.row k = none) {y : Slot} (h : c.barred y) : (c.with_ k x).barred y := by
  obtain ⟨z, j, w, of, holder, row, le⟩ := h
  refine ⟨z, j, w, of, holder, ?_, le⟩
  rw [Call.with_slot, if_neg fun e => by rw [e, row] at free; cases free]
  exact row

/-- Where the new call and every other WAITING call are barred, nobody wins. -/
theorem Call.with_nobody (free : c.slots.row k = none) (blocked : c.barred x)
    (others : ∀ j y, c.slots.row j = some y → y.state = .waiting → c.barred y) : (c.with_ k x).firstWinner = none := by
  refine Call.firstWinner_none_of fun j y can => ?_
  obtain ⟨row, waiting, canWin⟩ := can
  refine (Call.canWin_iff _ _).mp canWin ?_
  rw [Call.with_slot] at row
  split at row
  · exact Call.with_barred free (Option.some.inj row ▸ blocked)
  · exact Call.with_barred free (others j y row waiting)

theorem State.arbiter_of_nobody {s : State} {c : Call} (nobody : c.firstWinner = none) (zones : c.zones = s.call.zones) :
    s.arbiter c.run = s.setCall c := by
  rw [State.arbiter, CallRun.arbitrate_of_none (r := c.run) nobody,
    State.endCall_of_same_holders (r := c.run) fun z => by rw [← zones]; rfl, State.callFrames_eq,
    CallRun.cancelFrames_nil (r := c.run) rfl]
  rfl

/-! ## The win of the new call (R165 to R167) -/

/-- The new call's record after its win. -/
def Slot.won (x : Slot) (token : Byte) (now paLimit : Nat) : Slot :=
  { x with state := .speaking, token := some token, limit := some (now + seconds paLimit), interval := none,
           lampStep := 0, lampDue := some (now + lampStepTime) }

namespace CallRun
variable {r : CallRun}

/-- The token that the winner takes. -/
def winToken (r : CallRun) (k : Fin 16) (x : Slot) : Byte := (r.taken k x).call.freeToken 16 r.call.token

theorem win_self (r : CallRun) (k : Fin 16) (x : Slot) (now : Nat) :
    (r.win k x now).call.slots.row k = some (x.won (r.winToken k x) now r.call.paLimit) := by
  obtain ⟨limit, token, -⟩ := r.taken_rest k x
  rw [win_slot, if_pos rfl, spoken, limit, token]
  rfl

theorem win_token (r : CallRun) (k : Fin 16) (x : Slot) (now : Nat) :
    (r.win k x now).call.token = r.winToken k x + 1 := by
  obtain ⟨-, token, -⟩ := r.taken_rest k x
  rw [win_eq, speak]
  dsimp only
  rw [token]
  rfl

theorem win_wins (r : CallRun) (k : Fin 16) (x : Slot) (now : Nat) : (r.win k x now).wins =
    r.wins ++ [(r.winToken k x, callPayload (r.call.templates.row x.template).message x)] := by
  obtain ⟨-, token, -⟩ := r.taken_rest k x
  have templates : (r.taken k x).call.templates = r.call.templates := by
    change (r.cleared x).call.templates = _
    rw [cleared_rest]
  have wins : (r.taken k x).wins = r.wins := foldl_wins silences_displace (r.holders x) r
  rw [win_eq, speak]
  dsimp only
  rw [wins, token, templates]
  rfl

theorem win_cancels (r : CallRun) (k : Fin 16) (x : Slot) (now : Nat) :
    (r.win k x now).cancels = ((r.holders x).foldl displace r).cancels := rfl

theorem holders_nodup (r : CallRun) (x : Slot) : (r.holders x).Nodup := (List.nodup_finRange 16).filter _

/-- A zone outside the winner's set that no displaced slot holds stands. -/
theorem win_zone_stands (held : r.call.held) {x : Slot} {now : Nat} {z : Fin 16} (out : x.zones.getLsbD z.val = false)
    (kept : ∀ j, (r.call.zones.row z).holder = some j → j ∉ r.holders x) :
    (r.win k x now).call.zones.row z = r.call.zones.row z := by
  have lamp := r.win_lamp k x now z
  have holder : ((r.win k x now).call.zones.row z).holder = (r.call.zones.row z).holder := by
    refine Option.ext fun j => ?_
    rw [win_holder held, if_neg (by rw [out]; decide)]
    exact ⟨fun h => h.1, fun h => ⟨h, kept j h⟩⟩
  cases new : (r.win k x now).call.zones.row z
  cases old : r.call.zones.row z
  rw [new, old] at lamp holder
  obtain rfl := lamp
  obtain rfl := holder
  rfl

/-- One win, after which nobody can win: the run of the arbiter is over. -/
theorem arbitrate_once {n now : Nat} {x : Slot} (first : r.call.firstWinner = some (k, x))
    (last : (r.win k x now).call.firstWinner = none) : arbitrate now (n + 1) r = r.win k x now := by
  unfold arbitrate
  rw [first]
  exact arbitrate_of_none last

end CallRun

/-- The one candidate is the first winner. -/
theorem Call.firstWinner_of_only (can : c.candidate k x) (only : ∀ j y, c.candidate j y → j = k) :
    c.firstWinner = some (k, x) := by
  cases found : c.firstWinner with
  | none => exact absurd can (Call.not_candidate_of_none found k x)
  | some w =>
    obtain ⟨wcan, -⟩ := Call.firstWinner_some found
    have same := only _ _ wcan
    have row := wcan.1
    rw [same] at row
    rw [← same, Option.some.inj (can.1.symm.trans row)]

theorem Call.freeToken_congr {c c' : Call} (h : ∀ t, c'.tokenInPlay t = c.tokenInPlay t) (n : Nat) (t : Byte) :
    c'.freeToken n t = c.freeToken n t := by
  induction n generalizing t with
  | zero => rfl
  | succ n ih =>
    unfold Call.freeToken
    rw [h, ih]

end
end

end Sys2Proof.Machine
end

section
/-! PROOFS. CALL: what an accepted queue request leaves (R164 to R167). -/

namespace Sys2Proof.Machine
variable {s : State} {k : Fin 16} {x : Slot}

theorem ext_row {α : Type} {n : Nat} {t t' : Tbl α n} (h : ∀ i : Fin n, t'.row i = t.row i) : t' = t :=
  Vector.ext fun i lt => h ⟨i, lt⟩

/-- The events and frames of a new call that wins at once. -/
def State.winning (s : State) (k : Fin 16) (x : Slot) : CallRun := (s.call.with_ k x).run.win k x s.clock

/-- The token that the new call takes. -/
def State.newToken (s : State) (k : Fin 16) (x : Slot) : Byte := (s.call.with_ k x).run.winToken k x

theorem Call.with_inPlay {c : Call} (free : c.slots.row k = none) (waiting : x.state = .waiting) (t : Byte) :
    (c.with_ k x).tokenInPlay t = c.tokenInPlay t := by
  rw [Bool.eq_iff_iff, Call.tokenInPlay_iff, Call.tokenInPlay_iff]
  refine exists_congr fun j => exists_congr fun y => ?_
  rw [Call.with_slot]
  split
  · rename_i e
    subst e
    rw [free]
    refine ⟨fun ⟨row, speaking, _⟩ => ?_, fun ⟨row, _⟩ => nomatch row⟩
    rw [← Option.some.inj row, waiting] at speaking
    cases speaking
  · rfl

/-! ### Alone, over zones that nobody holds -/

section
variable (free : s.call.slots.row k = none) (waiting : x.state = .waiting)
  (alone : ∀ j y, s.call.slots.row j = some y → y.state ≠ .waiting)
  (open_ : ∀ zn : Fin 16, x.zones.getLsbD zn.val = true → (s.call.zones.row zn).holder = none)

include open_ in
theorem State.alone_holders : (s.call.with_ k x).run.holders x = [] := by
  refine List.eq_nil_iff_forall_not_mem.mpr fun j mem => ?_
  obtain ⟨z, of, holder⟩ := CallRun.mem_holders.mp mem
  exact Option.some_ne_none j (holder.symm.trans (open_ z of))

include open_ in
theorem State.alone_cleared : (s.call.with_ k x).run.cleared x = (s.call.with_ k x).run := by
  rw [CallRun.cleared, State.alone_holders open_]
  rfl

include open_ in
theorem State.alone_slots : (s.winning k x).call.slots =
    s.call.slots.put k (some (x.won (s.newToken k x) s.clock s.call.paLimit)) := by
  refine ext_row fun j => ?_
  rw [Tbl.row_put, State.winning]
  by_cases e : k = j
  · subst e
    rw [CallRun.win_self, if_pos rfl]
    rfl
  · rw [CallRun.win_slot, if_neg e, if_neg e, State.alone_holders open_]
    exact (Call.with_slot _ _ _ _).trans (if_neg e)

include open_ in
theorem State.alone_zone (z : Fin 16) : (s.winning k x).call.zones.row z = { s.call.zones.row z with
    holder := if x.zones.getLsbD z.val = true then some k else (s.call.zones.row z).holder } := by
  rw [State.winning, CallRun.win_zone, State.alone_cleared open_]
  split <;> rfl

include free waiting open_ in
theorem State.alone_token : s.newToken k x = s.call.freeToken 16 s.call.token := by
  refine Call.freeToken_congr (fun t => ?_) 16 s.call.token
  rw [← Call.with_inPlay (x := x) free waiting t, Bool.eq_iff_iff, Call.tokenInPlay_iff, Call.tokenInPlay_iff,
    (CallRun.taken_rest _ k x).2.2, State.alone_cleared open_]
  rfl

include waiting alone open_ in
theorem State.alone_arbiter : s.arbiter (s.call.with_ k x).run = s.endCall (s.winning k x) := by
  refine congrArg s.endCall (CallRun.arbitrate_once (n := 15) (Call.firstWinner_of_only ⟨?_, waiting, ?_⟩ ?_) ?_)
  · exact (Call.with_slot _ _ _ _).trans (if_pos rfl)
  · refine (Call.canWin_iff _ _).mpr fun ⟨z, j, w, of, holder, _⟩ => ?_
    exact Option.some_ne_none j (holder.symm.trans (open_ z of))
  · intro j y can
    by_contra ne
    have row := can.1
    rw [show (s.call.with_ k x).run.call = s.call.with_ k x from rfl, Call.with_slot, if_neg (Ne.symm ne)] at row
    exact alone j y row can.2.1
  · refine Call.firstWinner_of_no_waiting fun j y row => ?_
    change (s.winning k x).call.slots.row j = some y at row
    rw [State.alone_slots open_, Tbl.row_put] at row
    split at row
    · rw [← Option.some.inj row]
      intro h
      cases h
    · exact alone j y row

end

/-! ### The frames of a win -/

theorem State.winning_rest (s : State) (k : Fin 16) (x : Slot) : (s.winning k x).call = { s.call with
    slots := (s.winning k x).call.slots, zones := (s.winning k x).call.zones
    token := s.newToken k x + 1, arrival := s.call.arrival + 1 } := by
  have rest := CallRun.win_rest (s.call.with_ k x).run k x s.clock
  rw [CallRun.win_token] at rest
  exact rest

theorem Call.with_frameAt {c : Call} (free : c.slots.row k = none) (waiting : x.state = .waiting) (j : Fin 16) :
    (c.with_ k x).frameAt j = c.frameAt j := by
  by_cases e : k = j
  · subst e
    unfold Call.frameAt
    rw [Call.with_slot, if_pos rfl, free]
    exact if_neg (by rw [waiting]; decide)
  · exact Call.frameAt_congr ((Call.with_slot _ _ _ _).trans (if_neg e))

theorem State.winning_line (free : s.call.slots.row k = none) (waiting : x.state = .waiting) :
    (s.endCall (s.winning k x)).line =
      ((s.cancelAll s (s.call.speakersIn ((s.call.with_ k x).run.holders x))).emit s.call.paNode 4 (s.newToken k x)
        (callPayload (s.call.templates.row x.template).message x)).line := by
  have node : (s.setCall (s.winning k x).call).call.paNode = s.call.paNode := by
    change (s.winning k x).call.paNode = _
    rw [State.winning_rest]
  have frames := State.offers_cancelFrames (s := s) CallRun.silences_displace
    (CallRun.holders_nodup (s.call.with_ k x).run x) (r := (s.call.with_ k x).run) rfl
    (Call.with_frameAt free waiting) (s.setCall (s.winning k x).call) node
  have cancels : (s.winning k x).cancelFrames =
      (((s.call.with_ k x).run.holders x).foldl CallRun.displace (s.call.with_ k x).run).cancelFrames := rfl
  have wins : (s.winning k x).wins = [(s.newToken k x, callPayload (s.call.templates.row x.template).message x)] :=
    CallRun.win_wins (s.call.with_ k x).run k x s.clock
  rw [State.endCall_line, State.callFrames_offers, cancels, frames, wins]
  generalize s.call.speakersIn ((s.call.with_ k x).run.holders x) = js
  generalize quiet : s.setCall (s.winning k x).call = u at node ⊢
  change ((s.cancelAll u js).emit (s.cancelAll u js).call.paNode kindCall _ _).line = _
  rw [State.cancelAll_keeps State.call (fun _ _ _ _ _ => by simp), node]
  exact State.emit_line_congr (State.cancelAll_line_congr (quiet ▸ rfl) js) _ _ _ _

/-! ### Over zones whose holders it displaces -/

section
variable (free : s.call.slots.row k = none) (waiting : x.state = .waiting) (ruled : s.call.zonesRuled)
  (heldNew : (s.call.with_ k x).held) (unbarred : ¬ s.call.barred x)

theorem State.with_holder (s : State) (k : Fin 16) (x : Slot) {j : Fin 16} :
    j ∈ (s.call.with_ k x).run.holders x ↔
      ∃ z : Fin 16, x.zones.getLsbD z.val = true ∧ (s.call.zones.row z).holder = some j := CallRun.mem_holders

include free ruled in
/-- The new call holds nothing before it wins. -/
theorem State.new_not_holder (z : Fin 16) : (s.call.zones.row z).holder ≠ some k := by
  intro holder
  obtain ⟨y, row, -⟩ := (ruled.held.holder z k).mp holder
  rw [free] at row
  cases row

include free ruled waiting unbarred in
theorem State.new_candidate : (s.call.with_ k x).candidate k x := by
  refine ⟨(Call.with_slot _ _ _ _).trans (if_pos rfl), waiting, (Call.canWin_iff _ _).mpr ?_⟩
  rintro ⟨z, j, w, of, holder, row, le⟩
  rw [Call.with_slot, if_neg fun e => State.new_not_holder free ruled z (by rw [e]; exact holder)] at row
  exact unbarred ⟨z, j, w, of, holder, row, le⟩

include free ruled waiting unbarred in
theorem State.new_firstWinner : (s.call.with_ k x).firstWinner = some (k, x) := by
  refine Call.firstWinner_of_only (State.new_candidate free waiting ruled unbarred) fun j y can => ?_
  by_contra ne
  obtain ⟨row, waits, canWin⟩ := can
  rw [Call.with_slot, if_neg (Ne.symm ne)] at row
  exact (Call.canWin_iff _ _).mp canWin (Call.with_barred free (ruled.blocked j y row waits))

/-- The slots after the win: the new call speaks, a displaced call waits, and any other stands. -/
theorem State.winning_slot (s : State) (k : Fin 16) (x : Slot) (j : Fin 16) : (s.winning k x).call.slots.row j =
    if k = j then some (x.won (s.newToken k x) s.clock s.call.paLimit)
    else if j ∈ (s.call.with_ k x).run.holders x then (s.call.slots.row j).map Slot.displaced
    else s.call.slots.row j := by
  have row := CallRun.win_slot (s.call.with_ k x).run k x s.clock j
  by_cases e : k = j
  · subst e
    rw [if_pos rfl]
    exact CallRun.win_self _ _ _ _
  · rw [if_neg e] at row ⊢
    have same : (s.call.with_ k x).run.call.slots.row j = s.call.slots.row j :=
      (Call.with_slot _ _ _ _).trans (if_neg e)
    rw [same] at row
    exact row

include heldNew in
theorem State.winning_holder {z j : Fin 16} : ((s.winning k x).call.zones.row z).holder = some j ↔
    if x.zones.getLsbD z.val = true then j = k
    else (s.call.zones.row z).holder = some j ∧ j ∉ (s.call.with_ k x).run.holders x :=
  CallRun.win_holder (r := (s.call.with_ k x).run) heldNew s.clock

include free waiting ruled heldNew unbarred in
/-- Where every other WAITING call stays barred, the run of the arbiter is over after the win. -/
theorem State.new_arbiter
    (others : ∀ j y, s.call.slots.row j = some y → y.state = .waiting →
      ∃ zn : Fin 16, y.zones.getLsbD zn.val = true
        ∧ ((x.zones.getLsbD zn.val = true ∧ y.priority ≤ x.priority)
          ∨ ∃ h w, (s.call.zones.row zn).holder = some h ∧ h ∉ (s.call.with_ k x).run.holders x
              ∧ s.call.slots.row h = some w ∧ y.priority ≤ w.priority)) :
    s.arbiter (s.call.with_ k x).run = s.endCall (s.winning k x) := by
  refine congrArg s.endCall (CallRun.arbitrate_once (n := 15) (State.new_firstWinner free waiting ruled unbarred) ?_)
  change (s.winning k x).call.firstWinner = none
  have winner : (s.winning k x).call.slots.row k = some (x.won (s.newToken k x) s.clock s.call.paLimit) := by
    rw [State.winning_slot, if_pos rfl]
  have taken {z : Fin 16} (of : x.zones.getLsbD z.val = true) : ((s.winning k x).call.zones.row z).holder = some k := by
    rw [State.winning_holder heldNew, if_pos of]
  refine Call.firstWinner_none_of fun j y can => ?_
  obtain ⟨row, waits, canWin⟩ := can
  refine (Call.canWin_iff _ _).mp canWin ?_
  rw [State.winning_slot] at row
  split at row
  · rw [← Option.some.inj row] at waits
    cases waits
  · rename_i ne
    split at row
    · rename_i displaced
      obtain ⟨z, of, holder⟩ := (s.with_holder k x).mp displaced
      obtain ⟨w, slot, -, names⟩ := (ruled.held.holder z j).mp holder
      rw [slot] at row
      obtain rfl := Option.some.inj row
      have below : w.priority ≤ x.priority := by
        by_contra above
        exact unbarred ⟨z, j, w, of, holder, slot, by omega⟩
      exact ⟨z, k, _, names, taken of, winner, below⟩
    · obtain ⟨z, names, bars⟩ := others j y row waits
      by_cases of : x.zones.getLsbD z.val = true
      · rcases bars with ⟨-, le⟩ | ⟨h, w, holder, out, -⟩
        · exact ⟨z, k, _, names, taken of, winner, le⟩
        · exact absurd ((s.with_holder k x).mpr ⟨z, of, holder⟩) out
      · obtain ⟨h, w, holder, out, slot, le⟩ := bars.resolve_left fun h => of h.1
        refine ⟨z, h, w, names, ?_, ?_, le⟩
        · rw [State.winning_holder heldNew, if_neg of]
          exact ⟨holder, out⟩
        · rw [State.winning_slot, if_neg fun e => State.new_not_holder free ruled z (by rw [e]; exact holder), if_neg out]
          exact slot

/-- The token of the new call, against the calls that speak after its win. -/
theorem State.winning_tokenTaken (waits : x.state = .waiting) :
    s.tokenTaken (s.endCall (s.winning k x)) k (s.newToken k x) := by
  have play (t : Byte) : ((s.call.with_ k x).run.taken k x).call.tokenInPlay t = true ↔
      ∃ (j : Fin 16) (y : Slot), j ≠ k ∧ (s.endCall (s.winning k x)).call.slots.row j = some y
        ∧ y.state = .speaking ∧ y.token = some t := by
    rw [Call.tokenInPlay_iff, State.endCall_call, (CallRun.taken_rest _ k x).2.2]
    refine exists_congr fun j => exists_congr fun y => ?_
    rw [CallRun.cleared_slot, State.winning_slot]
    by_cases e : k = j
    · subst e
      have own : (s.call.with_ k x).run.call.slots.row k = some x := (Call.with_slot _ _ _ _).trans (if_pos rfl)
      rw [own]
      refine ⟨fun ⟨row, speaking, _⟩ => ?_, fun h => absurd rfl h.1⟩
      exfalso
      split at row
      · rw [← Option.some.inj row] at speaking
        cases speaking
      · rw [← Option.some.inj row, waits] at speaking
        cases speaking
    · have same : (s.call.with_ k x).run.call.slots.row j = s.call.slots.row j :=
        (Call.with_slot _ _ _ _).trans (if_neg e)
      rw [same, if_neg e]
      exact ⟨fun h => ⟨Ne.symm e, h⟩, fun h => h.2⟩
  obtain ⟨n, le, eq, before, -⟩ := ((s.call.with_ k x).run.taken k x).call.freeToken_eq 16 s.call.token
  have fresh := ((s.call.with_ k x).run.taken k x).call.freeToken_free s.call.token
  have token : s.newToken k x = ((s.call.with_ k x).run.taken k x).call.freeToken 16 s.call.token := rfl
  refine ⟨?_, fun other => ?_, n, le, token.trans eq, fun m lt => (play _).mp (before m lt)⟩
  · rw [State.endCall_call, State.winning_rest]
  · rw [token] at other
    rw [(play _).mpr other] at fresh
    cases fresh

end

end Sys2Proof.Machine
end

section
/-! PROOFS. CALL: renumbering, and the queue requests assembled (R164 to R167). -/

namespace Sys2Proof.Machine
variable {s : State}

/-! ## Renumbering (R164) -/

/-- A count grows where another member is counted. -/
theorem countP_lt_of_mem {α : Type} {p q : α → Bool} {l : List α} {a : α} (mem : a ∈ l)
    (le : ∀ b, p b = true → q b = true) (out : p a = false) (counted : q a = true) : l.countP p < l.countP q := by
  induction l with
  | nil => exact absurd mem List.not_mem_nil
  | cons b l ih =>
    rw [List.countP_cons, List.countP_cons]
    have tail : l.countP p ≤ l.countP q := List.countP_mono_left fun c _ => le c
    rcases List.mem_cons.mp mem with rfl | rest
    · rw [out, counted]
      simp only [Bool.false_eq_true, if_false, if_true]
      omega
    · have less := ih rest
      split <;> rename_i yes
      · rw [if_pos (le b yes)]; omega
      · omega

/-- The age order of the calls: by arrival number, then by slot. -/
theorem Call.older_iff {c : Call} {k j : Fin 16} {x : Slot} : c.older k x j = true ↔
    ∃ y, c.slots.row j = some y ∧ (y.arrival < x.arrival ∨ (y.arrival = x.arrival ∧ j.val < k.val)) := by
  unfold Call.older
  cases c.slots.row j <;> simp

theorem Call.not_older_self {c : Call} {k : Fin 16} {x : Slot} (slot : c.slots.row k = some x) :
    c.older k x k = false := by
  rw [Bool.eq_false_iff, Ne, Call.older_iff]
  rintro ⟨y, row, older⟩
  rw [← Option.some.inj (slot.symm.trans row)] at older
  omega

/-- The rank of a call in the age order. -/
def Call.rank (c : Call) (k : Fin 16) (x : Slot) : Nat := (List.finRange 16).countP (c.older k x)

theorem Call.rank_lt_occupied {c : Call} {k : Fin 16} {x : Slot} (slot : c.slots.row k = some x) :
    c.rank k x < c.occupied := by
  refine countP_lt_of_mem (List.mem_finRange k) (fun j older => ?_) (Call.not_older_self slot) (by rw [slot]; rfl)
  obtain ⟨y, row, -⟩ := Call.older_iff.mp older
  rw [row]; rfl

theorem Call.rank_lt {c : Call} {j k : Fin 16} {x y : Slot} (slot : c.slots.row j = some y)
    (older : y.arrival < x.arrival ∨ (y.arrival = x.arrival ∧ j.val < k.val)) : c.rank j y < c.rank k x := by
  refine countP_lt_of_mem (List.mem_finRange j) (fun i before => ?_) (Call.not_older_self slot)
    (Call.older_iff.mpr ⟨y, slot, older⟩)
  obtain ⟨z, row, lt⟩ := Call.older_iff.mp before
  exact Call.older_iff.mpr ⟨z, row, by omega⟩

theorem Call.rank_ne {c : Call} {j k : Fin 16} {x y : Slot} (slot : c.slots.row j = some y)
    (slot' : c.slots.row k = some x) (ne : j ≠ k) : c.rank j y ≠ c.rank k x := by
  have distinct : j.val ≠ k.val := fun e => ne (Fin.ext e)
  rcases Nat.lt_trichotomy y.arrival x.arrival with lt | eq | gt
  · exact Nat.ne_of_lt (Call.rank_lt slot (.inl lt))
  · rcases Nat.lt_or_ge j.val k.val with before | after
    · exact Nat.ne_of_lt (Call.rank_lt slot (.inr ⟨eq, before⟩))
    · exact (Nat.ne_of_lt (Call.rank_lt slot' (.inr ⟨eq.symm, by omega⟩))).symm
  · exact (Nat.ne_of_lt (Call.rank_lt slot' (.inl gt))).symm

section
variable {c : Call} {k : Fin 16} {tpl : Fin 32} {zones : BitVec 16}

theorem Call.accept_of_full (full : c.arrival = 65535) (free : c.slots.row k = none) :
    (c.accept k tpl zones).arrival = c.occupied + 1
    ∧ (∃ x, (c.accept k tpl zones).slots.row k = some x ∧ x.arrival = c.occupied ∧ x.template = tpl ∧ x.zones = zones)
    ∧ ∀ j y, c.slots.row j = some y →
      (c.accept k tpl zones).slots.row j = some { y with arrival := c.rank j y } := by
  have renumbered : c.numbered = c.renumber := if_pos (by omega)
  rw [Call.accept_eq, renumbered]
  refine ⟨rfl, ⟨_, Tbl.row_put_self _ _ _, rfl, rfl, rfl⟩, fun j y slot => ?_⟩
  have ne : k ≠ j := fun e => Option.some_ne_none y (slot.symm.trans (e ▸ free))
  change (Tbl.put _ k _).row j = _
  rw [Tbl.row_put_ne _ _ ne, Call.renumber_slot, slot]
  rfl

end

section
variable {u : State} {k : Fin 16} {tpl : Fin 32} {zones : BitVec 16}
  (free : s.call.slots.row k = none)
  (call : u.call = s.call) (clock : u.clock = s.clock) (line : u.line = s.line) (chans : u.chans = s.chans)
  (service : u.req.mode = .service)

/-- The new call's record. -/
def State.newCall (s : State) (tpl : Fin 32) (zones : BitVec 16) : Slot := s.call.accepted tpl zones

include call clock in
theorem State.queued_slot : u.call.slots.put k (some ((s.newCall tpl zones).won (u.newToken k (s.newCall tpl zones))
    u.clock u.call.paLimit)) = s.call.slots.put k (some { s.newCall tpl zones with
      state := .speaking, token := some (u.newToken k (s.newCall tpl zones)),
      limit := some (s.clock + s.call.paLimit * 1000000), lampDue := some (s.clock + 62500) }) := by
  rw [call, clock]
  rfl

include free call clock line chans service in
/-- The call that wins alone over zones that nobody holds. -/
theorem State.queued_alone (alone : ∀ j y, s.call.slots.row j = some y → y.state ≠ .waiting)
    (open_ : ∀ zn : Fin 16, zones.getLsbD zn.val = true → (s.call.zones.row zn).holder = none) :
    let x := s.newCall tpl zones
    let token := s.call.freeToken 16 s.call.token
    let t := u.arbiter (s.call.with_ k x).run
    t.call.slots = s.call.slots.put k (some { x with
        state := .speaking, token := some token,
        limit := some (s.clock + s.call.paLimit * 1000000), lampDue := some (s.clock + 62500) })
    ∧ (∀ zn : Fin 16, t.call.zones.row zn = { s.call.zones.row zn with
        holder := if zones.getLsbD zn.val = true then some k else (s.call.zones.row zn).holder })
    ∧ t.call.token = token + 1 ∧ t.call.arrival = s.call.arrival + 1
    ∧ t.line = (s.emit s.call.paNode 4 token (callPayload (s.call.templates.row tpl).message x)).line
    ∧ (∀ (zn ch : Fin 16), zones.getLsbD zn.val = true →
        (s.call.zones.row zn).lamp = some ch → (s.chans.row ch).set.owner = .lamp zn →
        (t.chans.row ch).requested = (s.call.templates.row tpl).pattern.getLsbD 0)
    ∧ t.board = u.board ∧ t.req = u.req ∧ t.plan = u.plan ∧ t.door = u.door := by
  intro x token t
  have waiting : x.state = .waiting := rfl
  have free' : u.call.slots.row k = none := by rw [call]; exact free
  have alone' : ∀ j y, u.call.slots.row j = some y → y.state ≠ .waiting := by rw [call]; exact alone
  have open' : ∀ zn : Fin 16, x.zones.getLsbD zn.val = true → (u.call.zones.row zn).holder = none := by
    rw [call]; exact open_
  have ended : t = u.endCall (u.winning k x) := by
    rw [← State.alone_arbiter waiting alone' open', call]
  have taken : u.newToken k x = token := by rw [State.alone_token free' waiting open', call]
  have slots := State.alone_slots (s := u) (k := k) open'
  have zone := State.alone_zone (s := u) (k := k) open'
  have rest := u.winning_rest k x
  have sent := State.winning_line (s := u) free' waiting
  rw [State.alone_holders open'] at sent
  have silent : u.call.speakersIn [] = [] := by simp [Call.speakersIn]
  rw [silent] at sent
  rw [ended, State.endCall_call, State.endCall_board, State.endCall_req, State.endCall_plan, State.endCall_door]
  refine ⟨?_, fun zn => ?_, ?_, ?_, ?_, fun zn ch of lamp owner => ?_, rfl, rfl, rfl, rfl⟩
  · rw [slots, State.queued_slot call clock, taken]
  · rw [zone, call]; rfl
  · rw [rest, taken]
  · rw [rest, call]
  · rw [sent, taken, call]
    exact State.emit_line_congr line _ _ _ _
  · have holder : ((u.winning k x).call.zones.row zn).holder = some k := by
      rw [zone]
      exact if_pos of
    rw [State.endCall_requested (z := zn) ?_ (by rw [chans]; exact owner) ?_ (.inl service)]
    · refine (Call.zoneLevel_of_held holder (by rw [slots]; exact Tbl.row_put_self _ _ _)).trans ?_
      rw [rest, call]
      rfl
    · rw [zone, call]; exact lamp
    · rw [open' zn of, holder]
      exact (Option.some_ne_none k).symm

include free call clock line chans in
/-- The call that displaces the holders of its zones, where every other WAITING call stays barred. -/
theorem State.queued_displaces (ruled : s.call.zonesRuled)
    (heldNew : (s.call.with_ k (s.newCall tpl zones)).held)
    (unbarred : ¬ s.call.barred (s.newCall tpl zones))
    (others : ∀ j y, s.call.slots.row j = some y → y.state = .waiting →
      ∃ zn : Fin 16, y.zones.getLsbD zn.val = true
        ∧ ((zones.getLsbD zn.val = true ∧ y.priority ≤ (s.call.templates.row tpl).priority)
          ∨ ∃ h w, (s.call.zones.row zn).holder = some h
              ∧ (¬ ∃ zn : Fin 16, zones.getLsbD zn.val = true ∧ (s.call.zones.row zn).holder = some h)
              ∧ s.call.slots.row h = some w ∧ y.priority ≤ w.priority)) :
    let x := s.newCall tpl zones
    let displaced (j : Fin 16) : Prop :=
      ∃ zn : Fin 16, zones.getLsbD zn.val = true ∧ (s.call.zones.row zn).holder = some j
    let t := u.arbiter (s.call.with_ k x).run
    ∃ (token : Byte) (js : List (Fin 16)),
      t.call.slots.row k = some { x with
          state := .speaking, token := some token,
          limit := some (s.clock + s.call.paLimit * 1000000), lampDue := some (s.clock + 62500) }
      ∧ s.tokenTaken t k token
      ∧ (∀ j y, s.call.slots.row j = some y →
          (displaced j → t.call.slots.row j = some { y with
            state := .waiting, token := none, limit := none, interval := none, lampDue := none })
          ∧ (¬ displaced j → t.call.slots.row j = some y))
      ∧ (∀ zn : Fin 16, (zones.getLsbD zn.val = true → (t.call.zones.row zn).holder = some k)
          ∧ (zones.getLsbD zn.val = false →
            (∀ j, (s.call.zones.row zn).holder = some j → displaced j →
              (t.call.zones.row zn).holder = none
              ∧ ∀ ch, (s.call.zones.row zn).lamp = some ch → (s.chans.row ch).set.owner = .lamp zn →
                  (t.chans.row ch).requested = false)
            ∧ ((∀ j, (s.call.zones.row zn).holder = some j → ¬ displaced j) →
              t.call.zones.row zn = s.call.zones.row zn)))
      ∧ js.Pairwise (fun a b => a < b)
      ∧ (∀ j, j ∈ js ↔ displaced j ∧ ∃ y, s.call.slots.row j = some y ∧ y.state = .speaking)
      ∧ t.line = ((s.cancelAll s js).emit s.call.paNode 4 token
          (callPayload (s.call.templates.row tpl).message x)).line := by
  intro x displaced t
  have waiting : x.state = .waiting := rfl
  have mem (j : Fin 16) : j ∈ (s.call.with_ k x).run.holders x ↔ displaced j := s.with_holder k x
  have ended : t = u.endCall (u.winning k x) := by
    have := State.new_arbiter (s := u) (k := k) (x := x) (by rw [call]; exact free) waiting
      (by rw [call]; exact ruled) (by rw [call]; exact heldNew) (by rw [call]; exact unbarred)
      (by rw [call]; simp only [mem]; exact others)
    rw [call] at this
    exact this
  have slot (j : Fin 16) := u.winning_slot k x j
  have sent := State.winning_line (s := u) (k := k) (by rw [call]; exact free) waiting
  have holder {z j : Fin 16} := State.winning_holder (s := u) (k := k) (x := x) (by rw [call]; exact heldNew) (z := z)
    (j := j)
  have token := u.winning_tokenTaken (k := k) waiting
  have stands {z : Fin 16} := CallRun.win_zone_stands (r := (u.call.with_ k x).run) (k := k)
    (by rw [call]; exact heldNew) (x := x) (now := u.clock) (z := z)
  have lamp (z : Fin 16) := (u.call.with_ k x).run.win_lamp k x u.clock z
  rw [call] at slot sent holder stands lamp
  have won : u.winning k x = (s.call.with_ k x).run.win k x u.clock := by rw [State.winning, call]
  refine ⟨u.newToken k x, s.call.speakersIn ((s.call.with_ k x).run.holders x), ?_, ?_, fun j y row => ?_, fun zn => ?_,
    Call.speakersIn_pairwise _ _, fun j => by rw [Call.mem_speakersIn, mem], ?_⟩
  · rw [ended, State.endCall_call, slot, if_pos rfl, clock]
    rfl
  · rw [ended]
    unfold State.tokenTaken at token ⊢
    rw [call] at token
    exact token
  · have ne : k ≠ j := fun e => Option.some_ne_none y (row.symm.trans (e ▸ free))
    rw [ended, State.endCall_call, slot, if_neg ne, row]
    exact ⟨fun d => by rw [if_pos ((mem j).mpr d)]; rfl, fun d => if_neg fun m => d ((mem j).mp m)⟩
  · rw [ended, State.endCall_call]
    refine ⟨fun of => holder.mpr (by rw [if_pos (show x.zones.getLsbD zn.val = true from of)]), fun out => ⟨fun j held d => ?_, fun kept => ?_⟩⟩
    · have out' : ¬ x.zones.getLsbD zn.val = true := by
        change ¬ zones.getLsbD zn.val = true
        rw [out]; decide
      have none : ((u.winning k x).call.zones.row zn).holder = none := by
        refine Option.eq_none_iff_forall_ne_some.mpr fun i h => ?_
        have := holder.mp h
        rw [if_neg out'] at this
        have same : i = j := Option.some.inj (this.1.symm.trans held)
        exact this.2 ((mem i).mpr (same ▸ d))
      refine ⟨none, fun ch lit owner => ?_⟩
      refine State.endCall_dark (z := zn) (by rw [won]; exact (lamp zn).trans lit) (by rw [chans]; exact owner) ?_ none
      rw [call, held]
      exact Option.some_ne_none j
    · rw [won]
      exact stands out fun j held m => kept j held ((mem j).mp m)
  · rw [ended, sent]
    exact State.emit_line_congr
      ((State.cancelAll_line_congr line _).trans (by rw [State.cancelAll_of_call call])) _ _ _ _

end

/-- Settles O48. -/
theorem queueRequestsAreRefusedMergedOrAccepted : Obligations.QueueRequestsAreRefusedMergedOrAccepted := by
  intro s o e b z i running _
  dsimp only
  generalize hu : s.take i = u
  have answer (code : Code) (t : State) (eq : callQueue b z u = (code, t)) :=
    exec_queue (o := o) (e := e) (b := b) (z := z) (i := i) (code := code) (t := t) running (by rw [hu]; exact eq)
  have call : u.call = s.call := hu ▸ rfl
  have clock : u.clock = s.clock := hu ▸ rfl
  have chans : u.chans = s.chans := hu ▸ rfl
  have line : u.line = s.line := hu ▸ rfl
  have req : u.req = s.req := hu ▸ rfl
  have blocks : u.board = s.board ∧ u.plan = s.plan ∧ u.door = s.door := hu ▸ ⟨rfl, rfl, rfl⟩
  have term (a : Fin 32) : u.term a = s.term a := hu ▸ rfl
  refine ⟨fun bad => answer _ _ (callQueue_of_bad bad),
    fun low named setup => answer _ _ (callQueue_of_setup low named (by rw [req]; exact setup)),
    fun tpl names named service => ?_⟩
  have allows : u.allows tpl = true ↔ ∃ a, (s.call.templates.row tpl).allow = some a ∧ s.term a = true := by
    rw [State.allows_iff, call]
    simp only [term]
  have served := callQueue_of_service (s := u) names named (by rw [req]; exact service)
  rw [call] at served
  have zonesNamed (held : s.call.held) (allowed : ∃ a, (s.call.templates.row tpl).allow = some a ∧ s.term a = true) :
      z.getD (s.call.templates.row tpl).zones ≠ 0 := by
    obtain ⟨a, allow, -⟩ := allowed
    cases z with
    | none => exact held.templates tpl (by rw [allow]; exact Option.some_ne_none a)
    | some w => exact fun h => named (congrArg some h)
  generalize z.getD (s.call.templates.row tpl).zones = zones at served zonesNamed ⊢
  have admits (allowed : ∃ a, (s.call.templates.row tpl).allow = some a ∧ s.term a = true) :
      callQueue b z u = queueAllowed tpl zones u := served.trans (if_pos (allows.mpr allowed))
  refine ⟨fun refused => answer _ _ (served.trans (if_neg fun h => refused (allows.mp h))),
    fun allowed k x same first => answer _ _ ?_, fun allowed fresh full => answer _ _ ?_,
    fun allowed fresh k free first low => ?_, fun allowed fresh k free first full => ?_⟩
  · rw [admits allowed, queueAllowed_of_same (by rw [call]; exact same) (by rw [call]; exact first), call]
  · rw [admits allowed]
    exact queueAllowed_of_full (by rw [call]; exact fresh) (by rw [call]; exact full)
  · have accepted : callQueue b z u = (.done, u.arbiter (s.call.with_ k (s.newCall tpl zones)).run) := by
      rw [admits allowed, queueAllowed_of_free (k := k) (by rw [call]; exact fresh) (by rw [call]; exact free)
        (by rw [call]; exact first), call, Call.accept_of_low low]
      rfl
    refine ⟨fun blocked quiet => ?_, fun alone open_ => ⟨_, answer _ _ accepted, ?_⟩,
      fun _ safe unblocked others => ?_⟩
    · have nobody : (s.call.with_ k (s.newCall tpl zones)).firstWinner = none :=
        Call.with_nobody free blocked fun j y row waits =>
          quiet.elim (fun alone => absurd waits (alone j y row))
            fun safe => (State.zonesSafe_iff.mp safe).blocked j y row waits
      refine answer _ _ (accepted.trans ?_)
      rw [State.arbiter_of_nobody nobody (by rw [call]; rfl)]
      rfl
    · have := State.queued_alone (u := u) (tpl := tpl) free call clock line chans (by rw [req]; exact service) alone open_
      rw [blocks.1, blocks.2.1, blocks.2.2, req] at this
      exact this
    · have ruled := State.zonesSafe_iff.mp safe
      have heldNew : (s.call.with_ k (s.newCall tpl zones)).held := by
        have := Call.accept_held ruled.held free tpl (zonesNamed ruled.held allowed)
        rw [Call.accept_of_low low] at this
        exact this
      obtain ⟨token, js, rest⟩ := State.queued_displaces (u := u) free call clock line chans ruled heldNew unblocked others
      exact ⟨_, token, js, answer _ _ accepted, rest⟩
  · have accepted : callQueue b z u = (.done, u.arbiter (s.call.accept k tpl zones).run) := by
      rw [admits allowed, queueAllowed_of_free (k := k) (by rw [call]; exact fresh) (by rw [call]; exact free)
        (by rw [call]; exact first), call]
    have occupied : ((List.finRange 16).filter fun j => (s.call.slots.row j).isSome).length = s.call.occupied :=
      List.countP_eq_length_filter.symm
    obtain ⟨arrival, ⟨x, slot, at_, template, zone⟩, others⟩ := Call.accept_of_full (tpl := tpl) (zones := zones) full free
    have calls := CallRun.arbitrate_sameCalls u.clock 16 (s.call.accept k tpl zones).run
    have ranked (j : Fin 16) (y : Slot) (row : s.call.slots.row j = some y) :
        ∃ y', (u.arbiter (s.call.accept k tpl zones).run).call.slots.row j = some y'
          ∧ { y with arrival := s.call.rank j y }.SameCall y' := by
      rw [State.arbiter_call]
      exact (calls j).2 _ (others j y row)
    refine ⟨_, answer _ _ accepted, ?_, ?_, fun j y row => ?_, fun j j' y y' z z' row row' new new' => ?_⟩
    · rw [State.arbiter_call, CallRun.arbitrate_rest, occupied]
      exact arrival
    · obtain ⟨y, row, same⟩ := (calls k).2 x slot
      rw [State.arbiter_call, occupied]
      exact ⟨y, row, same.arrival.trans at_, same.template.trans template, same.zones.trans zone⟩
    · obtain ⟨y', slot', same⟩ := ranked j y row
      rw [occupied]
      exact ⟨y', slot', same.arrival.trans_lt (Call.rank_lt_occupied row), same.template, same.zones, same.priority, same.left⟩
    · obtain ⟨w, slot', same⟩ := ranked j y row
      obtain ⟨w', slot'', same'⟩ := ranked j' y' row'
      obtain rfl := Option.some.inj (slot'.symm.trans new)
      obtain rfl := Option.some.inj (slot''.symm.trans new')
      rw [same.arrival, same'.arrival]
      exact ⟨fun older => Call.rank_lt row (.inl older), Call.rank_ne row row'⟩

end Sys2Proof.Machine
end

section
/-! PROOFS. PLAN: a ramp that stops, and what a fault, a pause and a hold leave (R118, R126, R127, R130). -/

namespace Sys2Proof.Machine
variable {s t : State} {r : Fin 4}

/-! ## The valves of a ramp that stops (R118) -/

theorem Channel.requested_of_untimed {c c' : Channel} (h : c'.untimed = c.untimed) : c'.requested = c.requested :=
  (congrArg Channel.requested h : c'.untimed.requested = c.untimed.requested)

theorem State.compareUpdate_requested (s : State) (o : Owner) (ch : Option (Fin 16)) (a : Nat) (c : Fin 16) :
    ((s.compareUpdate o ch a).chans.row c).requested = (s.chans.row c).requested := by
  cases ch with
  | none => rfl
  | some ch =>
    simp only [State.compareUpdate]
    split
    · rw [State.conductAll_requested]
      refine (Channel.requested_of_untimed (untimed_row (Chans.untimed_settle _ _) c)).trans ?_
      rw [Tbl.row_put]
      split
      · rename_i e; rw [e]
      · rfl
    · rfl

theorem State.compareUpdate_set (s : State) (o : Owner) (ch : Option (Fin 16)) (a : Nat) (c : Fin 16) :
    ((s.compareUpdate o ch a).chans.row c).set =
      if ch = some c ∧ (s.chans.row c).set.owner = o then { (s.chans.row c).set with cmpA := a }
      else (s.chans.row c).set := by
  cases ch with
  | none => simp [State.compareUpdate]
  | some ch =>
    simp only [State.compareUpdate]
    by_cases owner : (s.chans.row ch).set.owner = o
    · rw [if_pos owner, State.conductAll_set]
      refine (Channel.set_of_untimed (untimed_row (Chans.untimed_settle _ _) c)).trans ?_
      rw [Tbl.row_put]
      by_cases e : ch = c
      · subst e; rw [if_pos rfl, if_pos ⟨rfl, owner⟩]
      · rw [if_neg e, if_neg fun h => e (Option.some.inj h.1)]
    · rw [if_neg owner, if_neg (by rintro ⟨e, h⟩; cases e; exact owner h)]

/-- What an owner that sets a level asks of each channel. -/
theorem State.ownerLevel_requested (s : State) (o : Owner) (ch : Option (Fin 16)) (on : Bool)
    (admitted : on = false ∨ s.req.mode = .service) (c : Fin 16) :
    ((s.ownerLevel o ch on).chans.row c).requested =
      if ch = some c ∧ (s.chans.row c).set.owner = o then on else (s.chans.row c).requested := by
  have taken : ¬ (on = true ∧ s.req.mode = .setup) := by
    rintro ⟨isOn, setup⟩
    rcases admitted with off | service
    · rw [isOn] at off; cases off
    · rw [service] at setup; cases setup
  cases ch with
  | none => simp [State.ownerLevel]
  | some ch =>
    by_cases owner : (s.chans.row ch).set.owner = o
    · rw [s.ownerLevel_of_owner owner taken]
      by_cases e : ch = c
      · subst e; rw [if_pos ⟨rfl, owner⟩, State.setLevel_requested]
      · rw [if_neg fun h => e (Option.some.inj h.1), s.setLevel_chan_ne on e]
    · rw [s.ownerLevel_of_other owner, if_neg (by rintro ⟨e, h⟩; cases e; exact owner h)]

/-- A valve is switched off: level OFF and compare 0. -/
def State.valveOff (s : State) (r : Fin 4) (ch : Option (Fin 16)) : State :=
  (s.ownerLevel (.ramp r) ch false).compareUpdate (.ramp r) ch 0

theorem State.valveOff_row (s : State) (r : Fin 4) (ch : Option (Fin 16)) (c : Fin 16) :
    ((s.valveOff r ch).chans.row c).set = (if ch = some c ∧ (s.chans.row c).set.owner = .ramp r
      then { (s.chans.row c).set with cmpA := 0 } else (s.chans.row c).set)
    ∧ ((s.valveOff r ch).chans.row c).requested =
      (if ch = some c ∧ (s.chans.row c).set.owner = .ramp r then false else (s.chans.row c).requested) := by
  unfold State.valveOff
  rw [State.compareUpdate_set, State.compareUpdate_requested, State.ownerLevel_set,
    State.ownerLevel_requested _ _ _ _ (.inl rfl)]
  exact ⟨rfl, rfl⟩

theorem State.stopValves_eq (s : State) (r : Fin 4) :
    s.stopValves r = (s.valveOff r (s.ramp r).extend).valveOff r (s.ramp r).retract := rfl

/-- A stop touches the settings of a channel in its compare A alone. -/
theorem State.stopValves_set (s : State) (r : Fin 4) (c : Fin 16) : ((s.stopValves r).chans.row c).set =
    { (s.chans.row c).set with cmpA := ((s.stopValves r).chans.row c).set.cmpA } := by
  rw [State.stopValves_eq, (State.valveOff_row _ _ _ _).1, (State.valveOff_row _ _ _ _).1]
  split <;> split <;> rfl

theorem State.stopValves_owner (s : State) (r : Fin 4) (c : Fin 16) :
    ((s.stopValves r).chans.row c).set.owner = (s.chans.row c).set.owner := by
  rw [State.stopValves_set]

theorem State.stopValves_valvesOff (s : State) (r : Fin 4) : s.valvesOff (s.stopValves r) r := by
  intro valve is owner
  obtain ⟨set, requested⟩ := s.valveOff_row r (s.ramp r).extend valve
  obtain ⟨set', requested'⟩ := (s.valveOff r (s.ramp r).extend).valveOff_row r (s.ramp r).retract valve
  have kept : ((s.valveOff r (s.ramp r).extend).chans.row valve).set.owner = .ramp r := by
    rw [set]; split <;> exact owner
  rw [State.stopValves_eq]
  by_cases retract : (s.ramp r).retract = some valve
  · rw [if_pos ⟨retract, kept⟩] at set' requested'
    rw [set', requested']
    exact ⟨rfl, rfl⟩
  · rw [if_neg fun h => retract h.1] at set' requested'
    rw [if_pos ⟨is.resolve_right retract, owner⟩] at set requested
    rw [set', requested', set, requested]
    exact ⟨rfl, rfl⟩

theorem State.valvesOff_of_ramp {u : State} (chans : u.chans = s.chans)
    (extend : (u.ramp r).extend = (s.ramp r).extend) (retract : (u.ramp r).retract = (s.ramp r).retract)
    (h : u.valvesOff t r) : s.valvesOff t r := by
  unfold State.valvesOff at h ⊢
  rwa [extend, retract, chans] at h

/-! ## A ramp that stops (R118) -/

theorem State.setRamp_ramp_ne {i : Fin 4} (ne : i ≠ r) (s : State) (x : Ramp) : (s.setRamp r x).ramp i = s.ramp i :=
  Tbl.row_put_ne _ _ (Ne.symm ne)

theorem State.setRamp_setRamp (s : State) (r : Fin 4) (x y : Ramp) : (s.setRamp r x).setRamp r y = s.setRamp r y := by
  have ramps : (s.plan.ramps.put r x).put r y = s.plan.ramps.put r y := ext_row fun i => by
    rw [Tbl.row_put, Tbl.row_put, Tbl.row_put]; split <;> rfl
  unfold State.setRamp
  dsimp only
  rw [ramps]

/-- Ramp `r` rests in record `x`: no other ramp moves, and its valves are OFF. -/
structure State.RampRests (s t : State) (r : Fin 4) (x : Ramp) : Prop where
  plan : t.plan = { s.plan with ramps := s.plan.ramps.put r x }
  valves : s.valvesOff t r
  req : t.req = s.req
  door : t.door = s.door
  call : t.call = s.call
  scan : t.scan = s.scan

theorem State.RampRests.ramp {x : Ramp} (h : s.RampRests t r x) : t.ramp r = x := by
  rw [State.ramp, h.plan]; exact Tbl.row_put_self _ _ _

theorem State.RampRests.others {x : Ramp} (h : s.RampRests t r x) (other : Fin 4) (ne : other ≠ r) :
    t.ramp other = s.ramp other := by
  rw [State.ramp, h.plan]; exact Tbl.row_put_ne _ _ ne.symm

theorem State.restRamp_rests (s : State) (r : Fin 4) {x : Ramp} (extend : x.extend = (s.ramp r).extend)
    (retract : x.retract = (s.ramp r).retract) : s.RampRests (s.restRamp r x) r { x with sPrev := 0 } where
  plan := s.restRamp_plan r x
  valves := by
    have stopped := (s.setRamp r { x with sPrev := 0 }).stopValves_valvesOff r
    refine State.valvesOff_of_ramp (u := s.setRamp r { x with sPrev := 0 }) rfl ?_ ?_ ?_
    · rw [State.setRamp_ramp]; exact extend
    · rw [State.setRamp_ramp]; exact retract
    · unfold State.valvesOff at stopped ⊢
      unfold State.restRamp
      rw [State.followRamp_chans]
      exact stopped
  req := by simp
  door := by simp
  call := by simp
  scan := by simp

theorem State.RampRests.notice {x : Ramp} (h : s.RampRests t r x) (k : Fin 13) (subject : Nat) :
    (t.notice k subject).ramp r = x ∧ (∀ other, other ≠ r → (t.notice k subject).ramp other = s.ramp other)
    ∧ s.valvesOff (t.notice k subject) r
    ∧ (t.notice k subject).req.marks = s.req.marks ||| BitVec.ofNat 16 (2 ^ (k.val - 1))
    ∧ (t.notice k subject).door = s.door ∧ (t.notice k subject).call = s.call
    ∧ (t.notice k subject).scan = s.scan := by
  have plan : (t.notice k subject).plan = t.plan := State.notice_plan _ _ _
  refine ⟨?_, fun other ne => ?_, ?_, ?_, ?_, ?_, ?_⟩
  · rw [State.ramp, plan]; exact h.ramp
  · rw [State.ramp, plan]; exact h.others other ne
  · have off := h.valves
    unfold State.valvesOff at off ⊢
    rw [State.notice_chans]
    exact off
  · rw [State.notice_marks, h.req]
  · rw [State.notice_door, h.door]
  · rw [State.notice_call, h.call]
  · rw [State.notice_scan, h.scan]

/-- A ramp's record when it is FAULTED (R130). -/
def Ramp.faulted (x : Ramp) (reason : FaultReason) (now : Nat) : Ramp :=
  { x with
    state := .faulted, sPrev := 0, stageTimer := { acc := x.stageTimer.elapsed now, since := none }, stale := none,
    dwell := .stopped, retry := none, result := .fault reason }

/-- A ramp's record when it is HELD (R127). -/
def Ramp.heldAt (x : Ramp) (now : Nat) : Ramp :=
  { x with
    state := .held, sPrev := 0, stageTimer := { acc := x.stageTimer.elapsed now, since := none }, stale := none,
    dwell := x.dwell.hold now, retry := none }

/-- A ramp's record when it is PAUSED (R126). -/
def Ramp.pausedAt (x : Ramp) (now : Nat) : Ramp :=
  { x with
    state := .paused, sPrev := 0, stageTimer := { acc := x.stageTimer.elapsed now, since := none }, stale := none }

/-- A ramp's record when it becomes IDLE (R118, R129, R131). -/
def Ramp.idleWith (x : Ramp) (result : LastResult) : Ramp :=
  { x with
    state := .idle, stage := none, phase := .pending, stageTimer := { acc := 0, since := none }, stale := none,
    dwell := .stopped, retry := none, result := result, sPrev := 0 }

theorem State.holdRamp_rests (s : State) (r : Fin 4) :
    s.RampRests (s.holdRamp r) r ((s.ramp r).heldAt s.clock) := s.restRamp_rests r rfl rfl

theorem State.pauseRamp_rests (s : State) (r : Fin 4) :
    s.RampRests (s.pauseRamp r) r ((s.ramp r).pausedAt s.clock) := s.restRamp_rests r rfl rfl

theorem State.idleRamp_rests (s : State) (r : Fin 4) (result : LastResult) :
    s.RampRests (s.idleRamp r result) r ((s.ramp r).idleWith result) := s.restRamp_rests r rfl rfl

/-- What a fault leaves (R130). -/
theorem State.faultRamp_faults (s : State) (r : Fin 4) (reason : FaultReason) :
    (s.faultRamp r reason).ramp r = (s.ramp r).faulted reason s.clock
    ∧ (∀ other, other ≠ r → (s.faultRamp r reason).ramp other = s.ramp other)
    ∧ s.valvesOff (s.faultRamp r reason) r
    ∧ (s.faultRamp r reason).req.marks = s.req.marks ||| 128
    ∧ (s.faultRamp r reason).door = s.door ∧ (s.faultRamp r reason).call = s.call
    ∧ (s.faultRamp r reason).scan = s.scan :=
  (s.restRamp_rests r (x := { s.ramp r with
    state := .faulted, stageTimer := (s.ramp r).stageTimer.stop s.clock, stale := none
    dwell := .stopped, retry := none, result := .fault reason }) rfl rfl).notice noticePlanFault r.val

/-- What the end of a plan leaves (R131). -/
theorem State.planComplete_completes (s : State) (r : Fin 4) :
    (s.planComplete r).ramp r = (s.ramp r).idleWith .complete
    ∧ (∀ other, other ≠ r → (s.planComplete r).ramp other = s.ramp other)
    ∧ s.valvesOff (s.planComplete r) r
    ∧ (s.planComplete r).req.marks = s.req.marks ||| 64
    ∧ (s.planComplete r).door = s.door ∧ (s.planComplete r).call = s.call
    ∧ (s.planComplete r).scan = s.scan :=
  (s.idleRamp_rests r .complete).notice noticePlanComplete r.val

/-! ## The faults of a ramp (R130) -/

theorem State.timeoutRuns_iff : (s.timeoutRuns r).isSome = true ↔
    (s.ramp r).state = .running ∧ ∃ k, (s.ramp r).stage = some k ∧ (s.stage k).timeout ≠ 0 := by
  unfold State.timeoutRuns
  dsimp only
  cases state : (s.ramp r).state <;> cases stage : (s.ramp r).stage <;> simp

theorem State.enteredKind_iff {kind : StageKind} : s.enteredKind r = some kind ↔
    ∃ k, (s.ramp r).stage = some k ∧ (s.ramp r).phase = .entered ∧ (s.stage k).kind = kind := by
  unfold State.enteredKind
  dsimp only
  cases stage : (s.ramp r).stage <;> cases phase : (s.ramp r).phase <;> simp

theorem State.timeoutReason_iff : (s.timeoutReason r = .callFull ↔
      (∃ k m, (s.ramp r).stage = some k ∧ (s.ramp r).phase = .entered ∧ (s.stage k).kind = .call m)
        ∧ ((s.ramp r).callWait = .asked ∨ (s.ramp r).callWait = .refused))
    ∧ (s.timeoutReason r = .callFull ∨ s.timeoutReason r = .timeout) := by
  have calling : (∃ k m, (s.ramp r).stage = some k ∧ (s.ramp r).phase = .entered ∧ (s.stage k).kind = .call m)
      ↔ ∃ m, s.enteredKind r = some (.call m) := by
    simp only [State.enteredKind_iff]
    exact exists_comm
  rw [calling]
  unfold State.timeoutReason
  generalize s.enteredKind r = found
  rcases found with _ | kind
  · simp
  · cases kind <;> cases wait : (s.ramp r).callWait <;> simp

theorem State.driving_iff {d : Drive} : s.driving r = some d ↔
    (s.ramp r).state = .running ∧ (s.ramp r).phase = .entered
      ∧ ∃ k, (s.ramp r).stage = some k ∧ (s.stage k).kind = .drive d := by
  refine ⟨State.driving_some, fun ⟨running, entered, k, stage, kind⟩ => ?_⟩
  unfold State.driving
  dsimp only
  rw [stage]
  dsimp only
  rw [running, entered, kind]

theorem Ramp.drives_iff {x : Ramp} {ch : Fin 16} : x.drives ch = true ↔ x.extend = some ch ∨ x.retract = some ch := by
  simp [Ramp.drives]

theorem RampState.busy_iff (x : RampState) : x.busy = true ↔ x = .running ∨ x = .paused ∨ x = .held := by
  cases x <;> simp [RampState.busy]

/-- The event of a fault: whether it acts, and for what reason. -/
def State.faultEvent (s : State) (r : Fin 4) (acts : Bool) (reason : FaultReason) : State :=
  if acts then s.faultRamp r reason else s

/-- Settles O40: each of the three events is a fault under its condition. -/
theorem faultsStopTheRampAndKeepItsPlace : Obligations.FaultsStopTheRampAndKeepItsPlace := by
  intro s r ch i reason acts running
  dsimp only
  intro cases_
  have event_ : ∃ b : Bool, (acts ↔ b = true) ∧ exec i s = .next ((s.take i).faultEvent r b reason) := by
    rcases cases_ with ⟨rfl, when, full, either⟩ | ⟨rfl, when, rfl⟩ | ⟨rfl, when, rfl⟩
    · have same : s.timeoutReason r = reason := by
        obtain ⟨iff, other⟩ := s.timeoutReason_iff (r := r)
        rcases either with rfl | rfl
        · exact iff.mpr (full.mp rfl)
        · exact other.resolve_left fun h => nomatch full.mpr (iff.mp h)
      refine ⟨(s.timeoutRuns r).isSome, when.trans State.timeoutRuns_iff.symm, ?_⟩
      rw [← same]
      exact event_of_running s _ (fun s => if (s.timeoutRuns r).isSome then s.faultRamp r (s.timeoutReason r) else s) running
    · refine ⟨(s.driving r).isSome && (s.ramp r).stale.isSome, when.trans ?_,
        event_of_running s _ (fun s => if (s.driving r).isSome && (s.ramp r).stale.isSome
          then s.faultRamp r .positionLost else s) running⟩
      rw [Bool.and_eq_true, Option.isSome_iff_exists, Option.isSome_iff_ne_none]
      simp only [State.driving_iff]
      constructor
      · rintro ⟨runs, entered, stale, k, d, stage, kind⟩
        exact ⟨⟨d, runs, entered, k, stage, kind⟩, stale⟩
      · rintro ⟨⟨d, runs, entered, k, stage, kind⟩, stale⟩
        exact ⟨runs, entered, stale, k, d, stage, kind⟩
    · refine ⟨(s.ramp r).drives ch && (s.ramp r).state.busy, when.trans ?_,
        event_of_running s _ (fun s => s.rampCutoff r ch) running⟩
      rw [Bool.and_eq_true, Ramp.drives_iff, RampState.busy_iff]
  obtain ⟨b, iff, event_⟩ := event_
  refine ⟨fun no => ?_, fun yes => ⟨(s.take i).faultRamp r reason, ?_, ?_⟩⟩
  · rw [event_, State.faultEvent, if_neg fun h => no (iff.mpr h)]
  · rw [event_, State.faultEvent, if_pos (iff.mp yes)]
  · obtain ⟨ramp, others, valves, marks, door, call, scan⟩ := (s.take i).faultRamp_faults r reason
    exact ⟨ramp, others, marks, valves, door, call, scan⟩

end Sys2Proof.Machine
end

section
/-! PROOFS. PLAN: what a ramp waits on, the entry of a stage, and where a completed stage leaves its ramp
(R120 to R125, R131). -/

namespace Sys2Proof.Machine
variable {s t u : State} {r : Fin 4}

/-! ## What a stage reads, and what a ramp waits on (R47, R120, R126) -/

theorem State.termNames_iff {w : Fin 32} {c : Fin 64} : s.termNames w c = true ↔ s.names w c := by
  unfold State.termNames State.names
  rw [List.any_eq_true]
  constructor
  · rintro ⟨⟨c', v⟩, mem, same⟩
    obtain rfl : c' = c := beq_iff_eq.mp same
    exact ⟨v, mem⟩
  · rintro ⟨v, mem⟩
    exact ⟨(c, v), mem, beq_self_eq_true c⟩

theorem State.lanesClear_iff {lanes : BitVec 8} : s.lanesClear lanes = true ↔
    ∀ n : Fin 8, lanes.getLsbD n.val = true → s.cond ⟨8 + n.val, by omega⟩ = true := by
  unfold State.lanesClear
  rw [List.all_eq_true]
  refine ⟨fun clear n named => ?_, fun clear n _ => ?_⟩
  · have here := clear n (List.mem_finRange n)
    rw [named] at here
    exact here
  · cases named : lanes.getLsbD n.val
    · rfl
    · exact clear n named

theorem State.driveHolds_iff {st : Stage} : s.driveHolds st = true ↔ s.mayRun st := by
  unfold State.driveHolds State.mayRun
  rw [Bool.and_eq_true, Bool.and_eq_true, State.lanesClear_iff, and_assoc, and_congr_right_iff]
  exact fun _ => And.comm

theorem State.mayEnter_iff {st : Stage} : s.mayEnter st = true ↔ s.enters st := by
  unfold State.mayEnter State.enters
  cases kind : st.kind with
  | drive d =>
    have bridge : (!st.needsBridge || s.cond condBridge) = true ↔ (st.needsBridge = true → s.cond 0 = true) := by
      cases st.needsBridge <;> simp [condBridge]
    dsimp only
    rw [Bool.and_eq_true, State.driveHolds_iff, bridge]
    refine ⟨fun ⟨run, bridge⟩ => ⟨run.1, fun _ _ => ⟨run, bridge⟩⟩, fun ⟨_, all⟩ => all d rfl⟩
  | _ => simp

theorem condLane_eq_iff {c : Fin 64} {n : Fin 8} : c = condLane n ↔ c.val = 8 + n.val := by
  unfold condLane; rw [Fin.ext_iff]

theorem State.driveNames_iff {st : Stage} {c : Fin 64} : s.driveNames st c = true ↔ s.driveWaits st c := by
  unfold State.driveNames State.driveWaits
  simp only [Bool.or_eq_true, Bool.and_eq_true, State.termNames_iff, beq_iff_eq, List.any_eq_true, condLane_eq_iff,
    List.mem_finRange, true_and]
  change ((_ ∨ c = 1) ∨ _) ∨ (_ ∧ c = 0) ↔ _
  rw [or_assoc, or_assoc, or_comm (b := _ ∧ c = 0)]

theorem State.rampWaits_iff {c : Fin 64} : s.rampWaits r c = true ↔ s.waitsOn r c := by
  unfold State.rampWaits State.waitsOn State.ramp State.stage
  dsimp only
  cases stage : (s.plan.ramps.row r).stage with
  | none => simp
  | some k =>
    simp only [Option.some.injEq, exists_eq_left']
    cases state : (s.plan.ramps.row r).state <;> cases kind : (s.plan.stages.row k).kind <;>
      cases phase : (s.plan.ramps.row r).phase <;> simp [State.driveNames_iff, State.termNames_iff]

/-! ## What a stage entry keeps (R120) -/

/-- The board, the handed events and REQ stand, and ramp `r` keeps its plan, its state and its valves. -/
structure State.RampOn (s t : State) (r : Fin 4) : Prop where
  board : t.board = s.board
  handed : t.handed = s.handed
  req : t.req = s.req
  clock : t.clock = s.clock
  plans : t.plan.plans = s.plan.plans
  stages : t.plan.stages = s.plan.stages
  state : (t.ramp r).state = (s.ramp r).state
  plan : (t.ramp r).plan = (s.ramp r).plan
  extend : (t.ramp r).extend = (s.ramp r).extend
  retract : (t.ramp r).retract = (s.ramp r).retract
  owner : ∀ c, (t.chans.row c).set.owner = (s.chans.row c).set.owner

theorem State.RampOn.refl (s : State) (r : Fin 4) : s.RampOn s r :=
  ⟨rfl, rfl, rfl, rfl, rfl, rfl, rfl, rfl, rfl, rfl, fun _ => rfl⟩

theorem State.RampOn.trans (h : s.RampOn t r) (g : t.RampOn u r) : s.RampOn u r where
  board := g.board.trans h.board
  handed := g.handed.trans h.handed
  req := g.req.trans h.req
  clock := g.clock.trans h.clock
  plans := g.plans.trans h.plans
  stages := g.stages.trans h.stages
  state := g.state.trans h.state
  plan := g.plan.trans h.plan
  extend := g.extend.trans h.extend
  retract := g.retract.trans h.retract
  owner c := (g.owner c).trans (h.owner c)

theorem State.RampOn.setRamp (h : s.RampOn t r) {x : Ramp} (state : x.state = (t.ramp r).state)
    (plan : x.plan = (t.ramp r).plan) (extend : x.extend = (t.ramp r).extend)
    (retract : x.retract = (t.ramp r).retract) : s.RampOn (t.setRamp r x) r := by
  refine h.trans ⟨rfl, rfl, rfl, rfl, rfl, rfl, ?_, ?_, ?_, ?_, fun _ => rfl⟩ <;> rw [State.setRamp_ramp]
  exacts [state, plan, extend, retract]

theorem State.RampOn.setChans (h : s.RampOn t r) {cs : Chans}
    (owner : ∀ c, (cs.row c).set.owner = (t.chans.row c).set.owner) : s.RampOn (t.setChans cs) r :=
  h.trans ⟨rfl, rfl, rfl, rfl, rfl, rfl, rfl, rfl, rfl, rfl, owner⟩

theorem State.RampOn.ownerLevel (h : s.RampOn t r) (o : Owner) (ch : Option (Fin 16)) (on : Bool) :
    s.RampOn (t.ownerLevel o ch on) r := by
  rw [State.ownerLevel_frame]
  exact h.setChans fun c => by rw [State.ownerLevel_set]

theorem State.RampOn.stopValves (h : s.RampOn t r) (r' : Fin 4) : s.RampOn (t.stopValves r') r := by
  rw [State.stopValves_frame]
  exact h.setChans fun c => t.stopValves_owner r' c

theorem State.RampOn.valvesOff (h : s.RampOn t r) (off : t.valvesOff u r) : s.valvesOff u r := by
  intro valve is owner
  exact off valve (by rwa [h.extend, h.retract]) (by rwa [h.owner])

theorem State.enters_of_board (h : t.board = s.board) (st : Stage) : t.enters st ↔ s.enters st := by
  unfold State.enters State.mayRun State.term State.cond
  rw [h]

theorem State.passes_of_board (h : t.board = s.board) (st : Stage) (p : Nat) : t.passes st p ↔ s.passes st p := by
  unfold State.passes State.term State.cond
  rw [h]

/-! ## The entry of a stage (R120 to R125) -/

/-- Ramp `r` stands at its stage, ENTERED. -/
def State.entered (s : State) (r : Fin 4) : State := s.setRamp r { s.ramp r with phase := .entered }

theorem State.entered_on (s : State) (r : Fin 4) : s.RampOn (s.entered r) r :=
  (State.RampOn.refl s r).setRamp rfl rfl rfl rfl

/-- Ramp `r` begins a DRIVE stage: command 0 and both valves OFF (R125). -/
def State.driveBegun (s : State) (r : Fin 4) : State :=
  ((s.entered r).setRamp r { (s.entered r).ramp r with sPrev := 0 }).stopValves r

theorem State.entered_ramp (s : State) (r : Fin 4) : (s.entered r).ramp r = { s.ramp r with phase := .entered } :=
  State.setRamp_ramp _ _ _

theorem State.stopValves_ramp (s : State) (r i : Fin 4) : (s.stopValves r).ramp i = s.ramp i := by
  rw [State.ramp, State.stopValves_plan]; rfl

theorem State.driveBegun_ramp (s : State) (r : Fin 4) :
    (s.driveBegun r).ramp r = { s.ramp r with phase := .entered, sPrev := 0 } := by
  rw [State.driveBegun, State.stopValves_ramp, State.setRamp_ramp, State.entered_ramp]

theorem State.driveBegun_ramp_ne {i : Fin 4} (ne : i ≠ r) (s : State) : (s.driveBegun r).ramp i = s.ramp i := by
  rw [State.driveBegun, State.stopValves_ramp, State.setRamp_ramp_ne ne, State.entered, State.setRamp_ramp_ne ne]

theorem State.driveBegun_on (s : State) (r : Fin 4) : s.RampOn (s.driveBegun r) r :=
  ((s.entered_on r).setRamp (x := { (s.entered r).ramp r with sPrev := 0 }) rfl rfl rfl rfl).stopValves r

theorem State.driveBegun_valvesOff (s : State) (r : Fin 4) : s.valvesOff (s.driveBegun r) r :=
  ((s.entered_on r).setRamp (x := { (s.entered r).ramp r with sPrev := 0 }) rfl rfl rfl rfl).valvesOff
    (State.stopValves_valvesOff _ r)

theorem State.enterStage_eq (s : State) (r : Fin 4) (k : Fin 64) : s.enterStage r k =
    (match (s.stage k).kind with
      | .set role1 level1 role2 level2 => (((s.entered r).setPair r role1 level1).setPair r role2 level2, true)
      | .wait w => (s.entered r, s.term w)
      | .dwell n => if n = 0 then (s.entered r, true) else
        ((s.entered r).setRamp r { (s.entered r).ramp r with dwell := .running (s.clock + tenths n) }, false)
      | .call m => ((s.entered r).askCall r m, false)
      | .drive d => (s.entered r).enterDrive r d) := rfl

theorem State.enterStage_set {k : Fin 64} {role1 role2 : Role} {level1 level2 : Bool}
    (kind : (s.stage k).kind = .set role1 level1 role2 level2) :
    s.enterStage r k = (((s.entered r).setPair r role1 level1).setPair r role2 level2, true) := by
  rw [State.enterStage_eq, kind]

theorem State.enterStage_wait {k : Fin 64} {w : Fin 32} (kind : (s.stage k).kind = .wait w) :
    s.enterStage r k = (s.entered r, s.term w) := by
  rw [State.enterStage_eq, kind]

theorem State.enterStage_dwell {k : Fin 64} {n : Nat} (kind : (s.stage k).kind = .dwell n) :
    s.enterStage r k = if n = 0 then (s.entered r, true)
      else ((s.entered r).setRamp r { (s.entered r).ramp r with dwell := .running (s.clock + tenths n) }, false) := by
  rw [State.enterStage_eq, kind]

theorem State.enterStage_call {k : Fin 64} {m : Fin 32} (kind : (s.stage k).kind = .call m) :
    s.enterStage r k = ((s.entered r).askCall r m, false) := by
  rw [State.enterStage_eq, kind]

theorem State.enterStage_drive {k : Fin 64} {d : Drive} (kind : (s.stage k).kind = .drive d) :
    s.enterStage r k =
      if distance d.target (s.ramp r).lastPos ≤ d.deadBand
      then ((s.driveBegun r).setRamp r { (s.driveBegun r).ramp r with travel := .none, overshoot := 0 }, true)
      else ((s.driveBegun r).setRamp r { (s.driveBegun r).ramp r with
        travel := if (s.ramp r).lastPos < d.target then .extend else .retract
        stale := (s.driveBegun r).staleDue r }, false) := by
  have begun : s.enterStage r k = (s.entered r).enterDrive r d := by
    rw [State.enterStage_eq, kind]
  have lastPos : ((s.driveBegun r).ramp r).lastPos = (s.ramp r).lastPos := by rw [State.driveBegun_ramp]
  rw [begun, State.enterDrive]
  change (if distance d.target ((s.driveBegun r).ramp r).lastPos ≤ d.deadBand then _ else _) = _
  rw [lastPos]
  change (if _ then _ else ((s.driveBegun r).setRamp r { (s.driveBegun r).ramp r with
    travel := if ((s.driveBegun r).ramp r).lastPos < d.target then .extend else .retract
    stale := (s.driveBegun r).staleDue r }, false)) = _
  rw [lastPos]
  rfl

theorem State.askCall_eq (s : State) (r : Fin 4) (m : Fin 32) : s.askCall r m =
    (s.setRamp r { s.ramp r with callWait := .asked, ask := (s.ramp r).ask + 1, retry := none }).hand
      (.callQueue (.stage r ((s.ramp r).ask + 1)) (BitVec.ofNat 8 m.val) none) := rfl

/-- A stage that does not complete at its entry is ENTERED as its kind says. -/
theorem State.enterStage_stands {k : Fin 64} (not : ¬ s.passes (s.stage k) (s.ramp r).lastPos) :
    (s.enterStage r k).2 = false
    ∧ s.standsAt (s.enterStage r k).1 r (s.stage k) { s.ramp r with phase := .entered } := by
  unfold State.standsAt
  unfold State.passes at not
  cases kind : (s.stage k).kind with
  | set role1 level1 role2 level2 => exact absurd (.inl ⟨_, _, _, _, kind⟩) not
  | wait w =>
    have reads : s.term w = false := Bool.eq_false_iff.mpr fun yes => not (.inr (.inr (.inl ⟨w, kind, yes⟩)))
    rw [State.enterStage_wait kind, reads]
    refine ⟨rfl, fun _ _ => rfl, ?_, ?_, ?_⟩ <;> intro _ h <;> cases h
  | dwell n =>
    have lasts : n ≠ 0 := fun zero => not (.inr (.inl (by rw [kind, zero])))
    rw [State.enterStage_dwell kind, if_neg lasts]
    refine ⟨rfl, (fun _ h => nomatch h), fun n' h => ?_, (fun _ h => nomatch h), fun _ h => nomatch h⟩
    cases h
    rw [State.entered_ramp, State.entered, State.setRamp_setRamp]
    rfl
  | call m =>
    rw [State.enterStage_call kind]
    refine ⟨rfl, (fun _ h => nomatch h), (fun _ h => nomatch h), fun m' h => ?_, fun _ h => nomatch h⟩
    cases h
    rw [State.askCall_eq, State.entered_ramp, State.entered, State.setRamp_setRamp]
  | drive d =>
    have apart : ¬ distance d.target (s.ramp r).lastPos ≤ d.deadBand :=
      fun near => not (.inr (.inr (.inr ⟨d, kind, near⟩)))
    rw [State.enterStage_drive kind, if_neg apart]
    refine ⟨rfl, (fun _ h => nomatch h), (fun _ h => nomatch h), (fun _ h => nomatch h), fun d' h => ?_⟩
    cases h
    have on_ := s.driveBegun_on r
    refine ⟨?_, fun other ne => ?_, s.driveBegun_valvesOff r, on_.board, on_.handed, on_.req⟩
    · dsimp only
      rw [State.setRamp_ramp, State.staleDue, State.driveBegun_ramp, on_.clock]
      rfl
    · dsimp only
      rw [State.setRamp_ramp_ne ne, State.driveBegun_ramp_ne ne]

theorem State.RampOn.setPair (h : s.RampOn t r) (r' : Fin 4) (role : Role) (level : Bool) :
    s.RampOn (t.setPair r' role level) r := h.ownerLevel _ _ _

theorem State.setPair_ramp (s : State) (r i : Fin 4) (role : Role) (level : Bool) :
    (s.setPair r role level).ramp i = s.ramp i := by
  rw [State.setPair, State.ramp, State.ownerLevel_plan]; rfl

/-- A stage that completes at its entry leaves the ramp at it, with its plan. -/
theorem State.enterStage_passes {k : Fin 64} (passes : s.passes (s.stage k) (s.ramp r).lastPos) :
    (s.enterStage r k).2 = true ∧ s.RampOn (s.enterStage r k).1 r
    ∧ ((s.enterStage r k).1.ramp r).stage = (s.ramp r).stage := by
  rcases passes with ⟨role1, level1, role2, level2, kind⟩ | kind | ⟨w, kind, reads⟩ | ⟨d, kind, near⟩
  · rw [State.enterStage_set kind]
    refine ⟨rfl, ((s.entered_on r).setPair r role1 level1).setPair r role2 level2, ?_⟩
    dsimp only
    rw [State.setPair_ramp, State.setPair_ramp, State.entered_ramp]
  · rw [State.enterStage_dwell kind, if_pos rfl]
    exact ⟨rfl, s.entered_on r, (congrArg Ramp.stage (s.entered_ramp r) :)⟩
  · rw [State.enterStage_wait kind]
    exact ⟨reads, s.entered_on r, (congrArg Ramp.stage (s.entered_ramp r) :)⟩
  · change distance d.target (s.ramp r).lastPos ≤ d.deadBand at near
    rw [State.enterStage_drive kind, if_pos near]
    refine ⟨rfl, (s.driveBegun_on r).setRamp (x := { (s.driveBegun r).ramp r with travel := .none, overshoot := 0 })
      rfl rfl rfl rfl, ?_⟩
    dsimp only
    rw [State.setRamp_ramp, State.driveBegun_ramp]

/-! ## Where a completed stage leaves its ramp (R131) -/

/-- Stage `k` is complete, with `n` stages of the plan after it. -/
def State.after (s : State) (r : Fin 4) (k : Fin 64) : Nat → State
  | 0 => s.planComplete r
  | n + 1 => State.arrive r n (k + 1) s

theorem State.arrive_eq (s : State) (r : Fin 4) (n : Nat) (k : Fin 64) : State.arrive r n k s =
    if (s.arriveAt r k).2 then (s.arriveAt r k).1.after r k n else (s.arriveAt r k).1 := by
  cases n <;> rfl

theorem State.arrived_stage (s : State) (r : Fin 4) (k j : Fin 64) : (s.arrived r k).stage j = s.stage j := rfl

theorem State.arrived_on (s : State) (r : Fin 4) (k : Fin 64) : s.RampOn (s.arrived r k) r :=
  (State.RampOn.refl s r).setRamp rfl rfl rfl rfl

/-- A stage whose entry conditions do not hold is PENDING. -/
theorem State.arrive_pending {k : Fin 64} (not : ¬ s.enters (s.stage k)) (n : Nat) :
    State.arrive r n k s = s.arrived r k := by
  have no : (s.arrived r k).mayEnter ((s.arrived r k).stage k) = false := by
    rw [← Bool.not_eq_true, State.mayEnter_iff, State.enters_of_board (s.arrived_on r k).board]
    exact not
  rw [State.arrive_eq, State.arriveAt_eq, no]
  rfl

theorem State.arrive_enters {k : Fin 64} (enters : s.enters (s.stage k)) (n : Nat) :
    State.arrive r n k s = if ((s.arrived r k).enterStage r k).2
      then ((s.arrived r k).enterStage r k).1.after r k n else ((s.arrived r k).enterStage r k).1 := by
  have yes : (s.arrived r k).mayEnter ((s.arrived r k).stage k) = true := by
    rw [State.mayEnter_iff, State.enters_of_board (s.arrived_on r k).board]
    exact enters
  rw [State.arrive_eq, State.arriveAt_eq, if_pos yes]

theorem State.arrived_ramp (s : State) (r : Fin 4) (k : Fin 64) :
    (s.arrived r k).ramp r = (s.ramp r).arrived k s.clock := State.setRamp_ramp _ _ _

/-- The number of stages after stage `k` in plan `m`. -/
def State.left (s : State) (m : Fin 8) (k : Fin 64) : Nat :=
  (s.plan.plans.row m).first.val + (s.plan.plans.row m).count - 1 - k.val

theorem State.left_last {m : Fin 8} {k : Fin 64}
    (last : (s.plan.plans.row m).first.val + (s.plan.plans.row m).count = k.val + 1) : s.left m k = 0 := by
  unfold State.left; omega

theorem State.left_next {m : Fin 8} {k next : Fin 64} (is : next.val = k.val + 1)
    (within : next.val < (s.plan.plans.row m).first.val + (s.plan.plans.row m).count) :
    next = k + 1 ∧ ∃ n, s.left m k = n + 1 := by
  have small := next.isLt
  refine ⟨Fin.ext ?_, s.left m k - 1, ?_⟩
  · rw [Fin.val_add]; change next.val = (k.val + 1) % 64; omega
  · unfold State.left; omega

theorem State.RampOn.goesOn {m : Fin 8} {k : Fin 64} (h : s.RampOn t r) (running : (s.ramp r).state = .running)
    (plan : (s.ramp r).plan = some m) : s.goesOn (t.after r k (s.left m k)) r m k := by
  refine ⟨fun last => ?_, fun next is within not => ?_⟩
  · rw [State.left_last last]
    obtain ⟨ramp, -, valves, marks, -, -, -⟩ := t.planComplete_completes r
    change (t.after r k 0).ramp r = _ at ramp
    rw [ramp]
    exact ⟨rfl, rfl, rfl, h.plan.trans plan, rfl, marks.trans (by rw [h.req]), h.valvesOff valves⟩
  · obtain ⟨rfl, n, count⟩ := State.left_next is within
    have still : ¬ t.enters (t.stage (k + 1)) := by
      rw [State.enters_of_board h.board, State.stage, h.stages]; exact not
    rw [count, State.after, State.arrive_pending still, State.arrived_ramp]
    exact ⟨h.state.trans running, rfl, rfl, by rw [← h.clock]; rfl, rfl, h.plan.trans plan, h.board, h.handed, h.req⟩

/-- The timers of a completed stage stop (R131). -/
def Ramp.stageDone (x : Ramp) : Ramp := { x with dwell := .stopped, retry := none, stale := none }

theorem State.stagesAfter_eq {m : Fin 8} (plan : (s.ramp r).plan = some m) (k : Fin 64) :
    s.stagesAfter r k = s.left m k := by
  unfold State.stagesAfter
  rw [plan]; rfl

/-- A ramp leaves its completed stage (R131). -/
def State.onward (s : State) (r : Fin 4) : State :=
  match (s.ramp r).stage with
  | none => s
  | some k =>
    match s.stagesAfter r k with
    | 0 => s.planComplete r
    | n + 1 => State.arrive r n (k + 1) s

theorem State.onward_eq {m : Fin 8} {k : Fin 64} (stage : (s.ramp r).stage = some k)
    (plan : (s.ramp r).plan = some m) : s.onward r = s.after r k (s.left m k) := by
  unfold State.onward
  rw [stage]
  dsimp only
  rw [State.stagesAfter_eq plan]
  cases s.left m k <;> rfl

theorem State.completeStage_eq {m : Fin 8} {k : Fin 64} (stage : (s.ramp r).stage = some k)
    (plan : (s.ramp r).plan = some m) :
    s.completeStage r = (s.setRamp r (s.ramp r).stageDone).after r k (s.left m k) := by
  have same : (s.setRamp r (s.ramp r).stageDone).left m k = s.left m k := rfl
  have stage' : ((s.setRamp r (s.ramp r).stageDone).ramp r).stage = some k := by rw [State.setRamp_ramp]; exact stage
  have plan' : ((s.setRamp r (s.ramp r).stageDone).ramp r).plan = some m := by rw [State.setRamp_ramp]; exact plan
  change (s.setRamp r (s.ramp r).stageDone).onward r = _
  rw [← same]
  exact State.onward_eq stage' plan'

theorem State.completeStage_goesOn {m : Fin 8} {k : Fin 64} (on_ : s.RampOn t r)
    (running : (s.ramp r).state = .running) (plan : (s.ramp r).plan = some m) (stage : (t.ramp r).stage = some k) :
    s.goesOn (t.completeStage r) r m k := by
  have left : t.left m k = s.left m k := by unfold State.left; rw [on_.plans]
  rw [State.completeStage_eq stage (on_.plan.trans plan), left]
  exact (on_.setRamp (x := (t.ramp r).stageDone) rfl rfl rfl rfl).goesOn running plan

/-- A PENDING stage reads its entry conditions (R120). -/
theorem State.tryEnter_reads {m : Fin 8} {k : Fin 64} (running : (s.ramp r).state = .running)
    (plan : (s.ramp r).plan = some m) (stage : (s.ramp r).stage = some k) :
    (¬ s.enters (s.stage k) → s.tryEnter r k = s)
    ∧ (s.enters (s.stage k) → ¬ s.passes (s.stage k) (s.ramp r).lastPos →
        s.standsAt (s.tryEnter r k) r (s.stage k) { s.ramp r with phase := .entered })
    ∧ (s.enters (s.stage k) → s.passes (s.stage k) (s.ramp r).lastPos → s.goesOn (s.tryEnter r k) r m k) := by
  unfold State.tryEnter
  refine ⟨fun no => ?_, fun yes not => ?_, fun yes passes => ?_⟩
  · rw [if_neg fun h => no (State.mayEnter_iff.mp h)]
  · obtain ⟨stands, at_⟩ := State.enterStage_stands not
    rw [if_pos (State.mayEnter_iff.mpr yes)]
    dsimp only
    rw [stands]
    exact at_
  · obtain ⟨through, on_, same⟩ := State.enterStage_passes passes
    rw [if_pos (State.mayEnter_iff.mpr yes)]
    dsimp only
    rw [if_pos through]
    exact State.completeStage_goesOn on_ running plan (same.trans stage)

end Sys2Proof.Machine
end

section
/-! PROOFS. PLAN: pause, hold and resume at a change (R126, R127). -/

namespace Sys2Proof.Machine
variable {s t u : State} {r : Fin 4}

theorem exec_rampChange (running : s.inReset = false) (c : Fin 64) (v : Bool) :
    exec (.conditionChange c v (.ramp r)) s = .next ((s.take (.conditionChange c v (.ramp r))).rampChange r c v) :=
  event_of_running s _ (fun s => s.rampChange r c v) running

theorem exec_rampForced (running : s.inReset = false) (ch : Fin 16) :
    exec (.forcedEvent (.ramp r) ch) s = .next ((s.take (.forcedEvent (.ramp r) ch)).rampForced r ch) :=
  event_of_running s _ (fun s => s.rampForced r ch) running

theorem exec_forcedEvent_other (running : s.inReset = false) {o : Owner} (other : ∀ r, o ≠ .ramp r) (ch : Fin 16) :
    exec (.forcedEvent o ch) s = .next (s.take (.forcedEvent o ch)) := by
  cases o with
  | ramp r => exact absurd rfl (other r)
  | _ => exact event_of_running s _ (fun s => s) running

/-- A change that the ramp's stage does not name does nothing. -/
theorem State.rampChange_of_idle {c : Fin 64} (not : ¬ s.waitsOn r c) (v : Bool) : s.rampChange r c v = s :=
  if_neg fun h => not (State.rampWaits_iff.mp h)

theorem State.rampChange_of_waits {c : Fin 64} (waits : s.waitsOn r c) (v : Bool) :
    s.rampChange r c v = s.rampTold r (c == condBridge && !v) :=
  if_pos (State.rampWaits_iff.mpr waits)

theorem State.rampTold_pending {k : Fin 64} (stage : (s.ramp r).stage = some k) (running : (s.ramp r).state = .running)
    (pending : (s.ramp r).phase = .pending) (fell : Bool) : s.rampTold r fell = s.tryEnter r k := by
  unfold State.rampTold
  dsimp only
  rw [stage]
  dsimp only
  rw [running, pending]

theorem State.rampTold_wait {k : Fin 64} {w : Fin 32} (stage : (s.ramp r).stage = some k)
    (running : (s.ramp r).state = .running) (entered : (s.ramp r).phase = .entered)
    (kind : (s.stage k).kind = .wait w) (fell : Bool) :
    (s.term w = true → s.rampTold r fell = s.completeStage r) ∧ (s.term w = false → s.rampTold r fell = s) := by
  unfold State.rampTold
  dsimp only
  rw [stage]
  dsimp only
  rw [running, entered, kind]
  dsimp only
  exact ⟨fun reads => if_pos reads, fun reads => by rw [reads]; rfl⟩

theorem State.rampTold_drive {k : Fin 64} {d : Drive} (stage : (s.ramp r).stage = some k)
    (entered : (s.ramp r).phase = .entered) (kind : (s.stage k).kind = .drive d) (fell : Bool) :
    ((s.ramp r).state = .running → s.rampTold r fell =
      if fell && (s.stage k).needsBridge then s.holdRamp r
      else if s.driveHolds (s.stage k) then s else s.pauseRamp r)
    ∧ ((s.ramp r).state = .paused → s.rampTold r fell =
      if fell && (s.stage k).needsBridge then s.holdRamp r
      else if s.driveHolds (s.stage k) then s.runRamp r (s.staleDue r) else s) := by
  unfold State.rampTold
  dsimp only
  rw [stage]
  dsimp only
  rw [entered, kind]
  constructor <;> intro state <;> rw [state]

theorem bridgeFell_iff {c : Fin 64} {v needs : Bool} :
    ((c == condBridge && !v) && needs) = true ↔ c = 0 ∧ v = false ∧ needs = true := by
  simp [condBridge, and_assoc]

/-- A change at an ENTERED DRIVE stage: the fall of BRIDGE_LINK holds the ramp, and otherwise its running
conditions run or pause it (R126, R127). -/
theorem State.rampTold_at_drive {k : Fin 64} {d : Drive} (stage : (s.ramp r).stage = some k)
    (entered : (s.ramp r).phase = .entered) (kind : (s.stage k).kind = .drive d)
    (busy : (s.ramp r).state = .running ∨ (s.ramp r).state = .paused) (c : Fin 64) (v : Bool) :
    let told := s.rampTold r (c == condBridge && !v)
    let fell := c = 0 ∧ v = false ∧ (s.stage k).needsBridge = true
    (fell → told = s.holdRamp r)
    ∧ (¬ fell → (s.ramp r).state = .running → s.mayRun (s.stage k) → told = s)
    ∧ (¬ fell → (s.ramp r).state = .running → ¬ s.mayRun (s.stage k) → told = s.pauseRamp r)
    ∧ (¬ fell → (s.ramp r).state = .paused → ¬ s.mayRun (s.stage k) → told = s)
    ∧ (¬ fell → (s.ramp r).state = .paused → s.mayRun (s.stage k) → told = s.runRamp r (s.staleDue r)) := by
  obtain ⟨run, pause⟩ := s.rampTold_drive stage entered kind (c == condBridge && !v)
  have fell_iff := bridgeFell_iff (c := c) (v := v) (needs := (s.stage k).needsBridge)
  have run_iff := State.driveHolds_iff (s := s) (st := s.stage k)
  refine ⟨fun fell => ?_, fun not state may => ?_, fun not state no => ?_, fun not state no => ?_,
    fun not state may => ?_⟩
  · rcases busy with state | state
    · rw [run state, if_pos (fell_iff.mpr fell)]
    · rw [pause state, if_pos (fell_iff.mpr fell)]
  · rw [run state, if_neg (mt fell_iff.mp not), if_pos (run_iff.mpr may)]
  · rw [run state, if_neg (mt fell_iff.mp not), if_neg (mt run_iff.mp no)]
  · rw [pause state, if_neg (mt fell_iff.mp not), if_neg (mt run_iff.mp no)]
  · rw [pause state, if_neg (mt fell_iff.mp not), if_pos (run_iff.mpr may)]

theorem State.rampForced_eq (s : State) (r : Fin 4) (ch : Fin 16) :
    (¬ (((s.ramp r).extend = some ch ∨ (s.ramp r).retract = some ch)
        ∧ ((s.ramp r).state = .running ∨ (s.ramp r).state = .paused)) → s.rampForced r ch = s)
    ∧ (((s.ramp r).extend = some ch ∨ (s.ramp r).retract = some ch)
        ∧ ((s.ramp r).state = .running ∨ (s.ramp r).state = .paused) → s.rampForced r ch = s.holdRamp r) := by
  unfold State.rampForced
  dsimp only
  rw [← Ramp.drives_iff]
  cases (s.ramp r).drives ch
  · simp
  · cases (s.ramp r).state <;> simp

/-- Settles O43, by the change that is told: one the ramp does not wait on, one at a PENDING stage, one at an
ENTERED DRIVE stage, and a FORCED event. -/
theorem driveStagePausesHoldsAndResumes : Obligations.DriveStagePausesHoldsAndResumes := by
  intro s r running
  dsimp only
  refine ⟨?_, ?_, ?_, ?_, ?_⟩
  · rintro c v i rfl not
    rw [exec_rampChange running]
    exact congrArg _ (State.rampChange_of_idle (s := s.take _) not v)
  · rintro c v k m i rfl waits stage plan state pending
    obtain ⟨stays, stands, goesOn⟩ :=
      State.tryEnter_reads (s := s.take (.conditionChange c v (.ramp r))) state plan stage
    rw [exec_rampChange running, State.rampChange_of_waits (s := s.take _) waits,
      State.rampTold_pending (s := s.take _) stage state pending]
    exact ⟨fun no => congrArg _ (stays no), fun yes => ⟨_, rfl, stands yes, goesOn yes⟩⟩
  · rintro c v k d i rfl waits stage entered kind busy
    obtain ⟨hold, run, pause, wait, resume⟩ :=
      State.rampTold_at_drive (s := s.take (.conditionChange c v (.ramp r))) stage entered kind busy c v
    have holds := (s.take (.conditionChange c v (.ramp r))).holdRamp_rests r
    have pauses := (s.take (.conditionChange c v (.ramp r))).pauseRamp_rests r
    rw [exec_rampChange running, State.rampChange_of_waits (s := s.take _) waits]
    exact ⟨fun fell => ⟨_, congrArg _ (hold fell), holds.ramp, holds.valves⟩,
      fun not state may => congrArg _ (run not state may),
      fun not state no => ⟨_, congrArg _ (pause not state no), pauses.valves, pauses.ramp⟩,
      fun not state no => congrArg _ (wait not state no), fun not state may => congrArg _ (resume not state may)⟩
  · rintro ch i rfl
    obtain ⟨still, holds⟩ := (s.take (.forcedEvent (.ramp r) ch)).rampForced_eq r ch
    have rests := (s.take (.forcedEvent (.ramp r) ch)).holdRamp_rests r
    rw [exec_rampForced running]
    exact ⟨fun no => congrArg _ (still no), fun yes => ⟨_, congrArg _ (holds yes), rests.ramp, rests.valves, rests.others⟩⟩
  · rintro o ch i rfl other
    exact exec_forcedEvent_other running other ch

end Sys2Proof.Machine
end

section
/-! PROOFS. PLAN: the completion of a stage, and the answers to a CALL stage (R122, R123, R124, R131). -/

namespace Sys2Proof.Machine
variable {s t u : State} {r : Fin 4} {k : Fin 64} {m : Fin 8}

/-- A ramp's record when its stage is complete, with the call wait as it is left (R131). -/
def Ramp.doneWith (x : Ramp) (wait : CallWait) : Ramp :=
  { x with dwell := .stopped, retry := none, stale := none, callWait := wait }

/-- The last stage of a plan completes it. -/
theorem State.after_last (x : Ramp)
    (last : (s.plan.plans.row m).first.val + (s.plan.plans.row m).count = k.val + 1) :
    ((s.setRamp r x).after r k (s.left m k)).ramp r = x.idleWith .complete
    ∧ ((s.setRamp r x).after r k (s.left m k)).req.marks = s.req.marks ||| 64 := by
  rw [State.left_last last]
  obtain ⟨ramp, -, -, marks, -, -, -⟩ := (s.setRamp r x).planComplete_completes r
  rw [State.setRamp_ramp] at ramp
  exact ⟨ramp, marks⟩

/-- A next stage whose entry conditions do not hold is PENDING. -/
theorem State.after_next (x : Ramp) {next : Fin 64} (is : next.val = k.val + 1)
    (within : next.val < (s.plan.plans.row m).first.val + (s.plan.plans.row m).count)
    (not : ¬ s.enters (s.stage next)) :
    (s.setRamp r x).after r k (s.left m k) = s.setRamp r (x.arrived next s.clock) := by
  obtain ⟨rfl, n, count⟩ := State.left_next is within
  rw [count, State.after, State.arrive_pending (s := s.setRamp r x) not, State.arrived_eq, State.setRamp_ramp,
    State.setRamp_setRamp]
  rfl

/-- Ramp `r` awaits the answer to its CALL_QUEUE number `n`, at its CALL stage of template `c`. -/
structure State.Asks (s : State) (r : Fin 4) (c : Fin 32) (n : BitVec 16) : Prop where
  kind : s.enteredKind r = some (.call c)
  asked : (s.ramp r).callWait = .asked
  ask : (s.ramp r).ask = n

theorem State.callStageResult_other {c : Fin 32} (kind : s.enteredKind r = some (.call c)) {n : BitVec 16}
    (other : (s.ramp r).callWait ≠ .asked ∨ (s.ramp r).ask ≠ n) (code : Code) : s.callStageResult r n code = s := by
  unfold State.callStageResult
  dsimp only
  rw [kind]
  refine if_neg ?_
  rintro ⟨asked, ask, -⟩
  exact other.elim (· asked) (· ask)

theorem State.callStageResult_done {c : Fin 32} {n : BitVec 16} (asks : s.Asks r c n) :
    ((s.ramp r).state = .running → s.callStageResult r n .done =
      (s.setRamp r { s.ramp r with callWait := .none }).completeStage r)
    ∧ ((s.ramp r).state = .held → s.callStageResult r n .done = s.setRamp r { s.ramp r with callWait := .none }) := by
  unfold State.callStageResult
  dsimp only
  rw [asks.kind]
  dsimp only
  constructor <;> intro state
  · rw [if_pos ⟨asks.asked, asks.ask, .inl state⟩, if_pos state]
  · rw [if_pos ⟨asks.asked, asks.ask, .inr state⟩, if_neg (by rw [state]; decide)]

theorem State.callStageResult_refused {c : Fin 32} {n : BitVec 16} (asks : s.Asks r c n) {code : Code}
    (refused : code = .full ∨ code = .termFalse) :
    ((s.ramp r).state = .running → s.callStageResult r n code =
      s.setRamp r { s.ramp r with callWait := .refused, retry := some (s.clock + ms 100) })
    ∧ ((s.ramp r).state = .held → s.callStageResult r n code =
      s.setRamp r { s.ramp r with callWait := .refused, retry := none }) := by
  unfold State.callStageResult
  dsimp only
  rw [asks.kind]
  dsimp only
  refine ⟨fun state => ?_, fun state => ?_⟩
  · rw [if_pos ⟨asks.asked, asks.ask, .inl state⟩]
    rcases refused with rfl | rfl <;> dsimp only <;> rw [if_pos state]
  · have not : ¬ (s.ramp r).state = .running := by rw [state]; decide
    rw [if_pos ⟨asks.asked, asks.ask, .inr state⟩]
    rcases refused with rfl | rfl <;> dsimp only <;> rw [if_neg not]

theorem exec_callStageResult (running : s.inReset = false) (n : BitVec 16) (code : Code) :
    exec (.callStageResult r n code) s =
      .next ((s.take (.callStageResult r n code)).callStageResult r n code) :=
  event_of_running s _ (fun s => s.callStageResult r n code) running

theorem Countdown.isRunning_iff {c : Countdown} : c.isRunning = true ↔ ∃ due, c = .running due := by
  cases c <;> simp [Countdown.isRunning]

theorem exec_dwellTimerExpiry (running : s.inReset = false) :
    exec (.dwellTimerExpiry r) s = .next (if (s.ramp r).state = .running ∧ (s.ramp r).dwell.isRunning = true
      then (s.take (.dwellTimerExpiry r)).completeStage r else s.take (.dwellTimerExpiry r)) :=
  event_of_running s _ (fun s => if (s.ramp r).state = .running ∧ (s.ramp r).dwell.isRunning = true
    then s.completeStage r else s) running

theorem exec_retryIntervalExpiry (running : s.inReset = false) {c : Fin 32} (retrying : s.retrying r = some c) :
    exec (.retryIntervalExpiry r) s = .next ((s.take (.retryIntervalExpiry r)).askCall r c) := by
  have retries : (s.take (.retryIntervalExpiry r)).retrying r = some c := retrying
  refine (event_of_running s (.retryIntervalExpiry r) (fun s => match s.retrying r with
    | none => s
    | some t => s.askCall r t) running).trans ?_
  rw [retries]

theorem State.retrying_at {c : Fin 32} {due : Nat} (running : (s.ramp r).state = .running)
    (stage : (s.ramp r).stage = some k) (entered : (s.ramp r).phase = .entered)
    (kind : (s.stage k).kind = .call c) (retry : (s.ramp r).retry = some due) : s.retrying r = some c := by
  unfold State.retrying
  dsimp only
  rw [running, State.enteredKind_iff.mpr ⟨k, stage, entered, kind⟩, retry]
  rfl

theorem State.names_waits {c : Fin 64} {w : Fin 32} (stage : (s.ramp r).stage = some k)
    (running : (s.ramp r).state = .running) (entered : (s.ramp r).phase = .entered)
    (kind : (s.stage k).kind = .wait w) (names : s.names w c) : s.waitsOn r c :=
  ⟨k, stage, .inr (.inr ⟨running, entered, w, kind, names⟩)⟩

/-- The completed stage of ramp `r` in state `s`, from its record. -/
theorem State.completeStage_doneWith (stage : (s.ramp r).stage = some k) (plan : (s.ramp r).plan = some m) :
    s.completeStage r = (s.setRamp r ((s.ramp r).doneWith (s.ramp r).callWait)).after r k (s.left m k) :=
  State.completeStage_eq stage plan

/-- The three events that complete a stage. -/
theorem exec_completes {i : Instr} {n : BitVec 16} (running : s.inReset = false) (stage : (s.ramp r).stage = some k)
    (entered : (s.ramp r).phase = .entered) (plan : (s.ramp r).plan = some m)
    (is : (i = .dwellTimerExpiry r ∧ (s.ramp r).state = .running ∧ (∃ due, (s.ramp r).dwell = .running due))
      ∨ (∃ c v w, i = .conditionChange c v (.ramp r) ∧ (s.ramp r).state = .running
        ∧ (s.stage k).kind = .wait w ∧ s.names w c ∧ s.term w = true)
      ∨ i = .callStageResult r n .done ∧ (s.ramp r).state = .running ∧ (s.ramp r).callWait = .asked
        ∧ (s.ramp r).ask = n ∧ ∃ c, (s.stage k).kind = .call c) :
    ∃ wait, exec i s = .next (((s.take i).setRamp r ((s.ramp r).doneWith wait)).after r k ((s.take i).left m k)) := by
  rcases is with ⟨rfl, state, dwell⟩ | ⟨c, v, w, rfl, state, kind, names, reads⟩ | ⟨rfl, state, asked, ask, c, kind⟩
  · refine ⟨(s.ramp r).callWait, ?_⟩
    rw [exec_dwellTimerExpiry running, if_pos ⟨state, Countdown.isRunning_iff.mpr dwell⟩]
    exact congrArg _ (State.completeStage_doneWith (s := s.take _) stage plan)
  · refine ⟨(s.ramp r).callWait, ?_⟩
    rw [exec_rampChange running,
      State.rampChange_of_waits (s := s.take _) (State.names_waits (s := s) stage state entered kind names),
      (State.rampTold_wait (s := s.take _) stage state entered kind _).1 reads]
    exact congrArg _ (State.completeStage_doneWith (s := s.take _) stage plan)
  · refine ⟨.none, ?_⟩
    have asks : (s.take (.callStageResult r n .done)).Asks r c n :=
      ⟨State.enteredKind_iff.mpr ⟨k, stage, entered, kind⟩, asked, ask⟩
    rw [exec_callStageResult running, (State.callStageResult_done asks).1 state,
      State.completeStage_eq (k := k) (m := m), State.setRamp_setRamp, State.setRamp_ramp]
    · rfl
    · rw [State.setRamp_ramp]; exact stage
    · rw [State.setRamp_ramp]; exact plan

/-- Settles O41: the events that complete a stage by what they leave, and the answers to a CALL stage. -/
theorem dwellAndCallStagesComplete : Obligations.DwellAndCallStagesComplete := by
  intro s r k m n running
  dsimp only
  intro stage entered plan
  refine ⟨fun c v w state kind reads => ?_, fun i is => ?_, fun c kind => ?_⟩
  · rw [exec_rampChange running]
    by_cases waits : s.waitsOn r c
    · rw [State.rampChange_of_waits (s := s.take _) waits,
        (State.rampTold_wait (s := s.take _) stage state entered kind _).2 reads]
    · exact congrArg _ (State.rampChange_of_idle (s := s.take _) waits v)
  · obtain ⟨wait, done⟩ := exec_completes running stage entered plan is
    refine ⟨fun last => ⟨_, done, ?_⟩, fun next is_ within not => ?_⟩
    · obtain ⟨ramp, marks⟩ := State.after_last (s := s.take i) (r := r) ((s.ramp r).doneWith wait) last
      rw [ramp, marks]
      exact ⟨rfl, rfl, rfl, plan, rfl, rfl⟩
    · rw [done, State.after_next (s := s.take i) _ is_ within not]
      rfl
  · have kind' (i : Instr) : (s.take i).enteredKind r = some (.call c) :=
      State.enteredKind_iff.mpr ⟨k, stage, entered, kind⟩
    refine ⟨fun code other => ?_, fun code refused asked ask => ?_, fun asked ask state => ?_, fun due state retry => ?_⟩
    · rw [exec_callStageResult running, State.callStageResult_other (kind' _) other]
    · obtain ⟨run, hold⟩ := State.callStageResult_refused
        (s := s.take (.callStageResult r n code)) ⟨kind' _, asked, ask⟩ refused
      rw [exec_callStageResult running]
      exact ⟨fun state => congrArg _ (run state), fun state => congrArg _ (hold state)⟩
    · rw [exec_callStageResult running]
      exact congrArg _ ((State.callStageResult_done (s := s.take _) ⟨kind' _, asked, ask⟩).2 state)
    · exact exec_retryIntervalExpiry running (State.retrying_at state stage entered kind retry)

end Sys2Proof.Machine
end

section
/-! PROOFS. PLAN: PLAN_ABORT and PLAN_RESUME (R128, R129). -/

namespace Sys2Proof.Machine
variable {s t u : State} {r : Fin 4} {k : Fin 64} {m : Fin 8}

/-! ## A request that names a ramp -/

theorem onRamp_setup (setup : s.req.mode = .setup) (b : Byte) (f : Fin 4 → State → Code × State) :
    onRamp b f s = (.refusedMode, s) := if_pos setup

theorem not_setup_of_service (service : s.req.mode = .service) : ¬ s.req.mode = .setup := by rw [service]; decide

theorem onRamp_outside (service : s.req.mode = .service) {b : Byte} (outside : 4 ≤ b.toNat)
    (f : Fin 4 → State → Code × State) : onRamp b f s = (.badValue, s) := by
  unfold onRamp
  rw [if_neg (not_setup_of_service service), (fin?_eq_none_iff b).mpr outside]

theorem onRamp_of_names (service : s.req.mode = .service) {b : Byte} (names : b.toNat = r.val)
    (f : Fin 4 → State → Code × State) : onRamp b f s = f r s := by
  unfold onRamp
  rw [if_neg (not_setup_of_service service), (fin?_eq_some_iff b r).mpr names]

theorem exec_planAbort (takes : s.takesRequests) (rq : Requester) (b : Byte) {code : Code}
    (result : onRamp b planAbort (s.take (.planAbort rq b)) = (code, t)) :
    exec (.planAbort rq b) s = .next (t.reply rq 0x02 code []) :=
  (event_of_request s takes.1 takes.2).trans (congrArg _ (answered_of_eq _ rq 0x02 result))

theorem exec_planResume (takes : s.takesRequests) (rq : Requester) (b : Byte) {code : Code}
    (result : onRamp b planResume (s.take (.planResume rq b)) = (code, t)) :
    exec (.planResume rq b) s = .next (t.reply rq 0x03 code []) :=
  (event_of_request s takes.1 takes.2).trans (congrArg _ (answered_of_eq _ rq 0x03 result))

/-! ## What an abort and a resume do by the ramp's state (R128, R129) -/

theorem planAbort_idle (idle : (s.ramp r).state = .idle) : planAbort r s = (.done, s) := by
  unfold planAbort; rw [idle]

theorem planAbort_placed (placed : (s.ramp r).state ≠ .idle) :
    planAbort r s = (.done, s.idleRamp r (s.ramp r).abortResult) := by
  unfold planAbort
  split
  · contradiction
  · rfl

theorem planResume_busy (resting : (s.ramp r).state = .idle ∨ (s.ramp r).state = .faulted) :
    planResume r s = (.busy, s) := by
  unfold planResume; rcases resting with state | state <;> rw [state]

theorem planResume_moves (moves : (s.ramp r).state = .running ∨ (s.ramp r).state = .paused) :
    planResume r s = (.done, s) := by
  unfold planResume; rcases moves with state | state <;> rw [state]

theorem planResume_held (held : (s.ramp r).state = .held) :
    planResume r s = if s.holdCause r then (.termFalse, s) else (.done, s.resumeRamp r) := by
  unfold planResume; rw [held]

theorem State.channelForced_iff {ch : Option (Fin 16)} :
    s.channelForced ch = true ↔ ∃ c, ch = some c ∧ (s.chans.row c).state = .forced := by
  cases ch <;> simp [State.channelForced]

theorem State.atDrive_at {d : Drive} (stage : (s.ramp r).stage = some k) (entered : (s.ramp r).phase = .entered)
    (kind : (s.stage k).kind = .drive d) : s.atDrive r = some (s.stage k) := by
  unfold State.atDrive
  dsimp only
  rw [stage]
  dsimp only
  rw [entered, kind]

theorem State.atDrive_away (stage : (s.ramp r).stage = some k)
    (away : (s.ramp r).phase = .pending ∨ ∀ d, (s.stage k).kind ≠ .drive d) : s.atDrive r = none := by
  unfold State.atDrive
  dsimp only
  rw [stage]
  dsimp only
  rcases away with pending | other
  · rw [pending]
  · cases kind : (s.stage k).kind with
    | drive d => exact absurd kind (other d)
    | _ => cases (s.ramp r).phase <;> rfl

theorem State.atDrive_some_iff {st : Stage} : s.atDrive r = some st ↔
    ∃ k d, (s.ramp r).stage = some k ∧ (s.ramp r).phase = .entered ∧ (s.stage k).kind = .drive d ∧ s.stage k = st := by
  refine ⟨fun is => ?_, fun ⟨k, d, stage, entered, kind, same⟩ => same ▸ State.atDrive_at stage entered kind⟩
  cases stage : (s.ramp r).stage with
  | none =>
    unfold State.atDrive at is
    dsimp only at is
    rw [stage] at is
    cases is
  | some k =>
    cases phase : (s.ramp r).phase with
    | pending => rw [State.atDrive_away stage (.inl phase)] at is; cases is
    | entered =>
      cases kind : (s.stage k).kind with
      | drive d =>
        rw [State.atDrive_at stage phase kind] at is
        exact ⟨k, d, rfl, rfl, kind, Option.some.inj is⟩
      | _ =>
        rw [State.atDrive_away stage (.inr fun d h => nomatch kind.symm.trans h)] at is
        cases is

/-- The ramp stands at an ENTERED DRIVE stage that needs the bridge, which is down (R128). -/
def State.bridgeDown (s : State) (r : Fin 4) : Bool :=
  match s.atDrive r with
  | none => false
  | some st => st.needsBridge && !s.cond condBridge

theorem State.bridgeDown_iff : s.bridgeDown r = true ↔
    ∃ k d, (s.ramp r).stage = some k ∧ (s.ramp r).phase = .entered ∧ (s.stage k).kind = .drive d
      ∧ (s.stage k).needsBridge = true ∧ s.cond 0 = false := by
  unfold State.bridgeDown
  cases drive : s.atDrive r with
  | none =>
    refine ⟨fun h => (by cases h), fun ⟨k, d, stage, entered, kind, _⟩ => ?_⟩
    rw [State.atDrive_at stage entered kind] at drive
    cases drive
  | some st =>
    obtain ⟨k, d, stage, entered, kind, rfl⟩ := State.atDrive_some_iff.mp drive
    dsimp only
    rw [Bool.and_eq_true, Bool.not_eq_true']
    refine ⟨fun ⟨needs, down⟩ => ⟨k, d, stage, entered, kind, needs, down⟩, ?_⟩
    rintro ⟨k', d', stage', -, -, needs, down⟩
    obtain rfl : k = k' := Option.some.inj (stage.symm.trans stage')
    exact ⟨needs, down⟩

/-- The hold causes of ramp `r` (R128). -/
def State.held (s : State) (r : Fin 4) : Prop :=
  (∃ ch, ((s.ramp r).extend = some ch ∨ (s.ramp r).retract = some ch) ∧ (s.chans.row ch).state = .forced)
    ∨ ∃ k d, (s.ramp r).stage = some k ∧ (s.ramp r).phase = .entered ∧ (s.stage k).kind = .drive d
      ∧ (s.stage k).needsBridge = true ∧ s.cond 0 = false

/-- A hold cause of the ramp persists (R128). -/
theorem State.holdCause_iff : s.holdCause r = true ↔ s.held r := by
  unfold State.held
  change ((s.channelForced (s.ramp r).extend || s.channelForced (s.ramp r).retract) || s.bridgeDown r) = true ↔ _
  rw [Bool.or_eq_true, Bool.or_eq_true, State.channelForced_iff, State.channelForced_iff, State.bridgeDown_iff]
  refine or_congr ?_ Iff.rfl
  simp only [or_and_right, exists_or]

theorem planResume_caused (held : (s.ramp r).state = .held) (cause : s.held r) : planResume r s = (.termFalse, s) :=
  (planResume_held held).trans (if_pos (State.holdCause_iff.mpr cause))

theorem planResume_free (held : (s.ramp r).state = .held) (free : ¬ s.held r) :
    planResume r s = (.done, s.resumeRamp r) :=
  (planResume_held held).trans (if_neg (mt State.holdCause_iff.mp free))

/-! ## A ramp that leaves HELD (R128) -/

theorem State.resumeRamp_drive {d : Drive} (stage : (s.ramp r).stage = some k)
    (entered : (s.ramp r).phase = .entered) (kind : (s.stage k).kind = .drive d) :
    (s.mayRun (s.stage k) → s.resumeRamp r = s.runRamp r (s.staleDue r))
    ∧ (¬ s.mayRun (s.stage k) → s.resumeRamp r = s.pauseRamp r) := by
  unfold State.resumeRamp
  rw [State.atDrive_at stage entered kind]
  exact ⟨fun may => if_pos (State.driveHolds_iff.mpr may), fun no => if_neg (mt State.driveHolds_iff.mp no)⟩

theorem State.resumeRamp_away (stage : (s.ramp r).stage = some k)
    (away : (s.ramp r).phase = .pending ∨ ∀ d, (s.stage k).kind ≠ .drive d) :
    s.resumeRamp r = (s.runRamp r none).resumeStage r := by
  unfold State.resumeRamp
  rw [State.atDrive_away stage away]

theorem State.resumeStage_pending (stage : (s.ramp r).stage = some k) (pending : (s.ramp r).phase = .pending) :
    s.resumeStage r = s.tryEnter r k := by
  unfold State.resumeStage
  dsimp only
  rw [stage]
  dsimp only
  rw [pending]

theorem State.resumeStage_wait {w : Fin 32} (stage : (s.ramp r).stage = some k)
    (entered : (s.ramp r).phase = .entered) (kind : (s.stage k).kind = .wait w) :
    (s.term w = true → s.resumeStage r = s.completeStage r) ∧ (s.term w = false → s.resumeStage r = s) := by
  unfold State.resumeStage
  dsimp only
  rw [stage]
  dsimp only
  rw [entered, kind]
  exact ⟨fun reads => if_pos reads, fun reads => if_neg (Bool.eq_false_iff.mp reads)⟩

theorem State.resumeStage_call {c : Fin 32} (stage : (s.ramp r).stage = some k)
    (entered : (s.ramp r).phase = .entered) (kind : (s.stage k).kind = .call c) :
    ((s.ramp r).callWait = .none → s.resumeStage r = s.completeStage r)
    ∧ ((s.ramp r).callWait = .asked → s.resumeStage r = s)
    ∧ ((s.ramp r).callWait = .refused → s.resumeStage r = s.askCall r c) := by
  unfold State.resumeStage
  dsimp only
  rw [stage]
  dsimp only
  rw [entered, kind]
  refine ⟨fun wait => ?_, fun wait => ?_, fun wait => ?_⟩ <;> rw [wait]

theorem State.resumeStage_dwell {n : Nat} (stage : (s.ramp r).stage = some k)
    (entered : (s.ramp r).phase = .entered) (kind : (s.stage k).kind = .dwell n) : s.resumeStage r = s := by
  unfold State.resumeStage
  dsimp only
  rw [stage]
  dsimp only
  rw [entered, kind]

/-- A ramp's record when it is RUNNING again (R126, R128). -/
def Ramp.runsAt (x : Ramp) (now : Nat) (stale : Option Nat) : Ramp :=
  { x with
    state := .running, stageTimer := { acc := x.stageTimer.elapsed now, since := some now }, stale := stale
    dwell := x.dwell.resume now }

theorem State.runRamp_eq (s : State) (r : Fin 4) (stale : Option Nat) :
    s.runRamp r stale = (s.setRamp r ((s.ramp r).runsAt s.clock stale)).followRamp r := rfl

theorem State.runRamp_ramp (s : State) (r : Fin 4) (stale : Option Nat) :
    (s.runRamp r stale).ramp r = (s.ramp r).runsAt s.clock stale := by
  rw [State.runRamp_eq, State.followRamp_ramp, State.setRamp_ramp]

theorem State.runRamp_stage (s : State) (r : Fin 4) (stale : Option Nat) (j : Fin 64) :
    (s.runRamp r stale).stage j = s.stage j := by
  rw [State.runRamp_eq, State.stage, State.followRamp_plan]; rfl

/-- Where the resume of a HELD ramp away from an ENTERED DRIVE stage leaves it. -/
theorem State.resumeStage_runs (plan : (u.ramp r).plan = some m) (running : (u.ramp r).state = .running)
    (stage : (u.ramp r).stage = some k) :
    ((u.ramp r).phase = .pending →
      (¬ u.enters (u.stage k) → u.resumeStage r = u)
      ∧ (u.enters (u.stage k) → ¬ u.passes (u.stage k) (u.ramp r).lastPos →
          u.standsAt (u.resumeStage r) r (u.stage k) { u.ramp r with phase := .entered })
      ∧ (u.enters (u.stage k) → u.passes (u.stage k) (u.ramp r).lastPos → u.goesOn (u.resumeStage r) r m k))
    ∧ ((u.ramp r).phase = .entered → ∀ w, (u.stage k).kind = .wait w → u.term w = true →
        u.goesOn (u.resumeStage r) r m k)
    ∧ ((u.ramp r).phase = .entered → ∀ c, (u.stage k).kind = .call c → (u.ramp r).callWait = .none →
        u.goesOn (u.resumeStage r) r m k) := by
  have completes := State.completeStage_goesOn (State.RampOn.refl u r) running plan stage
  refine ⟨fun pending => ?_, fun entered w kind reads => ?_, fun entered c kind wait => ?_⟩
  · rw [State.resumeStage_pending stage pending]
    exact State.tryEnter_reads running plan stage
  · rw [(State.resumeStage_wait stage entered kind).1 reads]; exact completes
  · rw [(State.resumeStage_call stage entered kind).1 wait]; exact completes

/-- Settles O42, by the mode, the ramp named, its state, and for a HELD ramp its stage and phase. -/
theorem abortAndResumeActByTheRampState : Obligations.AbortAndResumeActByTheRampState := by
  intro s rq b takes
  dsimp only
  refine ⟨fun setup => ?_, fun service outside => ?_, fun r names service => ?_⟩
  · exact ⟨exec_planAbort takes rq b (onRamp_setup (s := s.take _) setup b _),
      exec_planResume takes rq b (onRamp_setup (s := s.take _) setup b _)⟩
  · exact ⟨exec_planAbort takes rq b (onRamp_outside (s := s.take _) service outside _),
      exec_planResume takes rq b (onRamp_outside (s := s.take _) service outside _)⟩
  have abort {code : Code} {t : State} (result : planAbort r (s.take (.planAbort rq b)) = (code, t)) :=
    exec_planAbort takes rq b ((onRamp_of_names (s := s.take _) service names _).trans result)
  have resume {code : Code} {t : State} (result : planResume r (s.take (.planResume rq b)) = (code, t)) :=
    exec_planResume takes rq b ((onRamp_of_names (s := s.take _) service names _).trans result)
  have leaves (held : (s.ramp r).state = .held) (free : ¬ s.held r) :=
    resume (planResume_free (s := s.take (.planResume rq b)) held free)
  refine ⟨fun idle => ?_, fun placed => ?_, fun faulted => ?_, fun moves => ?_, fun held cause => ?_,
    fun held no => ?_, fun held no => ?_⟩
  · exact ⟨abort (planAbort_idle (s := s.take _) idle), resume (planResume_busy (s := s.take _) (.inl idle))⟩
  · have rests := (s.take (.planAbort rq b)).idleRamp_rests r ((s.take (.planAbort rq b)).ramp r).abortResult
    refine ⟨_, abort (planAbort_placed (s := s.take _) placed), ?_, rests.req, rests.valves⟩
    rw [rests.ramp]
    change (s.ramp r).idleWith (s.ramp r).abortResult = _
    unfold Ramp.idleWith Ramp.abortResult
    cases (s.ramp r).state <;> cases (s.ramp r).result <;> rfl
  · exact resume (planResume_busy (s := s.take _) (.inr faulted))
  · exact resume (planResume_moves (s := s.take _) moves)
  · exact resume (planResume_caused (s := s.take _) held cause)
  · intro k stage entered
    rw [leaves held no]
    refine ⟨fun d kind may => ?_, fun d kind still => ?_, fun n left kind dwell => ?_⟩
    · rw [(State.resumeRamp_drive (s := s.take _) stage entered kind).1 may]
      rfl
    · refine ⟨_, rfl, ?_⟩
      rw [(State.resumeRamp_drive (s := s.take _) stage entered kind).2 still,
        (State.pauseRamp_rests (s.take _) r).ramp]
      exact ⟨rfl, stage⟩
    · have other (d : Drive) : (s.stage k).kind ≠ .drive d := fun h => nomatch kind.symm.trans h
      rw [State.resumeRamp_away (s := s.take _) stage (.inr other),
        State.resumeStage_dwell (k := k) (n := n), State.runRamp_eq]
      · have resumes : (s.ramp r).dwell.resume s.clock = .running (s.clock + left) := by rw [dwell]; rfl
        rw [← resumes]
        rfl
      · rw [State.runRamp_ramp]; exact stage
      · rw [State.runRamp_ramp]; exact entered
      · rw [State.runRamp_stage]; exact kind
  · intro k m stage plan
    have away (out : (s.ramp r).phase = .pending ∨ ∀ d, (s.stage k).kind ≠ .drive d) :=
      State.resumeRamp_away (s := s.take (.planResume rq b)) stage out
    have is : ((s.take (.planResume rq b)).runRamp r none).ramp r = (s.ramp r).runsAt s.clock none :=
      State.runRamp_ramp _ _ _
    have same : ((s.take (.planResume rq b)).runRamp r none).stage k = s.stage k := State.runRamp_stage _ _ _ _
    have stage' : (((s.take (.planResume rq b)).runRamp r none).ramp r).stage = some k := by rw [is]; exact stage
    have kind {kd : StageKind} (kind : (s.stage k).kind = kd) :
        (((s.take (.planResume rq b)).runRamp r none).stage k).kind = kd := by rw [same]; exact kind
    obtain ⟨pending, wait, call⟩ := State.resumeStage_runs (u := (s.take (.planResume rq b)).runRamp r none)
      (m := m) (by rw [is]; exact plan) (by rw [is]; rfl) stage'
    rw [leaves held no]
    rw [is, same] at pending
    refine ⟨fun phase => ?_, fun entered w is_ => ?_, fun entered c is_ => ?_⟩
    · obtain ⟨stays, stands, goesOn⟩ := pending phase
      rw [away (.inl phase)]
      exact ⟨fun no => by rw [stays no]; rfl, fun yes => ⟨_, rfl, stands yes, goesOn yes⟩⟩
    · have entered' : (((s.take (.planResume rq b)).runRamp r none).ramp r).phase = .entered := by
        rw [is]; exact entered
      rw [away (.inr fun d h => nomatch is_.symm.trans h)]
      exact ⟨fun reads => by rw [(State.resumeStage_wait stage' entered' (kind is_)).2 reads]; rfl,
        fun reads => ⟨_, rfl, wait entered' w (kind is_) reads⟩⟩
    · have entered' : (((s.take (.planResume rq b)).runRamp r none).ramp r).phase = .entered := by
        rw [is]; exact entered
      obtain ⟨-, waits, asks⟩ := State.resumeStage_call stage' entered' (kind is_)
      rw [is] at waits asks call
      rw [away (.inr fun d h => nomatch is_.symm.trans h)]
      refine ⟨fun none => ⟨_, rfl, call entered c (kind is_) none⟩, fun asked => by rw [waits asked]; rfl, fun refused => ?_⟩
      rw [asks refused, State.askCall_eq, is]
      rfl

end Sys2Proof.Machine
end

section
/-! PROOFS. PLAN: PLAN_START and START_PLAN (R119 to R125). -/

namespace Sys2Proof.Machine
variable {s t u : State} {r : Fin 4} {k : Fin 64} {m : Fin 8}

/-! ## What PLAN_START answers (R119) -/

theorem planStart_outside {rb pb : Byte} (outside : 4 ≤ rb.toNat ∨ 8 ≤ pb.toNat) :
    planStart rb pb s = (.badValue, s) := by
  unfold planStart
  rcases outside with ramp | plan
  · rw [(fin?_eq_none_iff rb).mpr ramp]
  · rw [(fin?_eq_none_iff pb).mpr plan]
    cases fin? 4 rb <;> rfl

theorem planStart_names {rb pb : Byte} (ramp : rb.toNat = r.val) (plan : pb.toNat = m.val) :
    planStart rb pb s =
      if (s.plan.plans.row m).ramp ≠ r then (.badValue, s)
      else if s.req.mode = .setup then (.refusedMode, s)
      else if (s.ramp r).state = .idle then (.done, s.startPlan r m)
      else (.busy, s) := by
  unfold planStart
  rw [(fin?_eq_some_iff rb r).mpr ramp, (fin?_eq_some_iff pb m).mpr plan]

theorem planStart_refused {rb pb : Byte} {code : Code}
    (refused : (4 ≤ rb.toNat ∨ 8 ≤ pb.toNat) ∧ code = .badValue
      ∨ ∃ (r : Fin 4) (p : Fin 8), rb.toNat = r.val ∧ pb.toNat = p.val ∧
        ((s.plan.plans.row p).ramp ≠ r ∧ code = .badValue
        ∨ (s.plan.plans.row p).ramp = r ∧
          (s.req.mode = .setup ∧ code = .refusedMode
          ∨ s.req.mode = .service ∧ (s.ramp r).state ≠ .idle ∧ code = .busy))) :
    planStart rb pb s = (code, s) ∧ code ≠ .done := by
  rcases refused with ⟨outside, rfl⟩ | ⟨r, p, ramp, plan, ⟨other, rfl⟩ | ⟨own, ⟨setup, rfl⟩ | ⟨service, placed, rfl⟩⟩⟩
  · exact ⟨planStart_outside outside, by decide⟩
  · exact ⟨by rw [planStart_names ramp plan, if_pos other], by decide⟩
  · exact ⟨by rw [planStart_names ramp plan, if_neg (not_not_intro own), if_pos setup], by decide⟩
  · exact ⟨by rw [planStart_names ramp plan, if_neg (not_not_intro own), if_neg (not_setup_of_service service),
      if_neg placed], by decide⟩

theorem planStart_taken {rb pb : Byte} (ramp : rb.toNat = r.val) (plan : pb.toNat = m.val)
    (own : (s.plan.plans.row m).ramp = r) (service : s.req.mode = .service) (idle : (s.ramp r).state = .idle) :
    planStart rb pb s = (.done, s.startPlan r m) := by
  rw [planStart_names ramp plan, if_neg (not_not_intro own), if_neg (not_setup_of_service service), if_pos idle]

theorem exec_planStart (running : s.inReset = false) (addressed : s.addressed = true) (rq : Requester) (rb pb : Byte) :
    exec (.planStart rq rb pb) s =
      .next (answered rq 0x01 (planStart rb pb) (s.take (.planStart rq rb pb))) :=
  event_of_request s running addressed

theorem exec_startPlan (running : s.inReset = false) (e : Fin 64) (rb pb : Byte) :
    exec (.startPlan e rb pb) s = .next (asAction e (planStart rb pb) (s.take (.startPlan e rb pb))) :=
  event_of_running s _ (asAction e (planStart rb pb)) running

/-! ## The arrival at the first stage (R120) -/

theorem State.hand_ramp (s : State) (i : Instr) (r : Fin 4) : (s.hand i).ramp r = s.ramp r := rfl

theorem State.enterStage_plan (s : State) (r : Fin 4) (k : Fin 64) :
    ((s.enterStage r k).1.ramp r).plan = (s.ramp r).plan := by
  by_cases passes : s.passes (s.stage k) (s.ramp r).lastPos
  · exact (State.enterStage_passes passes).2.1.plan
  · obtain ⟨wait, dwell, call, drive⟩ := (State.enterStage_stands passes).2
    cases kind : (s.stage k).kind with
    | set a b c d => exact absurd (.inl ⟨a, b, c, d, kind⟩) passes
    | wait w => rw [wait w kind, State.setRamp_ramp]
    | dwell n => rw [dwell n kind, State.setRamp_ramp]
    | call c => rw [call c kind, State.hand_ramp, State.setRamp_ramp]
    | drive d => rw [(drive d kind).1]

theorem State.arrived_plan (s : State) (r : Fin 4) (k : Fin 64) : ((s.arrived r k).ramp r).plan = (s.ramp r).plan := by
  rw [State.arrived_ramp]; rfl

theorem State.arriveAt_plan (s : State) (r : Fin 4) (k : Fin 64) :
    ((s.arriveAt r k).1.ramp r).plan = (s.ramp r).plan := by
  rw [State.arriveAt_eq]
  split
  · rw [State.enterStage_plan, State.arrived_plan]
  · exact s.arrived_plan r k

theorem State.planComplete_plan (s : State) (r : Fin 4) : ((s.planComplete r).ramp r).plan = (s.ramp r).plan := by
  rw [(s.planComplete_completes r).1]; rfl

/-- An arrival keeps the ramp's plan, however many stages pass in it. -/
theorem State.arrive_plan (r : Fin 4) (n : Nat) (k : Fin 64) (s : State) :
    ((State.arrive r n k s).ramp r).plan = (s.ramp r).plan := by
  induction n generalizing k s with
  | zero =>
    rw [State.arrive_eq]
    split
    · exact (State.planComplete_plan _ r).trans (s.arriveAt_plan r k)
    · exact s.arriveAt_plan r k
  | succ n ih =>
    rw [State.arrive_eq]
    split
    · exact (ih _ _).trans (s.arriveAt_plan r k)
    · exact s.arriveAt_plan r k

/-- The entry of a stage is told from the state before the ramp's record was set. -/
theorem State.standsAt_of_setRamp {x y : Ramp} {st : Stage} (extend : x.extend = (u.ramp r).extend)
    (retract : x.retract = (u.ramp r).retract) (h : (u.setRamp r x).standsAt t r st y) : u.standsAt t r st y := by
  obtain ⟨wait, dwell, call, drive⟩ := h
  refine ⟨fun w kind => ?_, fun n kind => ?_, fun c kind => ?_, fun d kind => ?_⟩
  · rw [wait w kind, State.setRamp_setRamp]
  · rw [dwell n kind, State.setRamp_setRamp]; rfl
  · rw [call c kind, State.setRamp_setRamp]
  · obtain ⟨ramp, others, valves, rest⟩ := drive d kind
    refine ⟨ramp, fun other ne => (others other ne).trans (State.setRamp_ramp_ne ne u x), ?_, rest⟩
    refine State.valvesOff_of_ramp (u := u.setRamp r x) rfl ?_ ?_ valves
    · rw [State.setRamp_ramp]; exact extend
    · rw [State.setRamp_ramp]; exact retract

/-- Where the arrival of ramp `r` at stage `k` of plan `m` leaves it (R120, R131). -/
theorem State.arrive_reads (running : (u.ramp r).state = .running) (plan : (u.ramp r).plan = some m) {n : Nat}
    (left : u.left m k = n) :
    (¬ u.enters (u.stage k) → State.arrive r n k u = u.setRamp r ((u.ramp r).arrived k u.clock))
    ∧ (u.enters (u.stage k) → ¬ u.passes (u.stage k) (u.ramp r).lastPos →
        u.standsAt (State.arrive r n k u) r (u.stage k) { (u.ramp r).arrived k u.clock with phase := .entered })
    ∧ (u.enters (u.stage k) → u.passes (u.stage k) (u.ramp r).lastPos →
        u.goesOn (State.arrive r n k u) r m k
        ∧ State.arrive r n k u = ((u.arrived r k).enterStage r k).1.after r k n) := by
  have ramp := u.arrived_ramp r k
  have same (p : Nat) : (u.arrived r k).passes ((u.arrived r k).stage k) p ↔ u.passes (u.stage k) p :=
    State.passes_of_board rfl _ _
  refine ⟨fun no => State.arrive_pending no n, fun yes not => ?_, fun yes passes => ?_⟩
  · obtain ⟨stands, at_⟩ := State.enterStage_stands (s := u.arrived r k) (k := k) (r := r)
      (by rw [same, ramp]; exact not)
    rw [State.arrive_enters yes, stands, ← ramp]
    exact State.standsAt_of_setRamp (x := (u.ramp r).arrived k u.clock) rfl rfl at_
  · obtain ⟨through, on_, -⟩ := State.enterStage_passes (s := u.arrived r k) (k := k) (r := r)
      (by rw [same, ramp]; exact passes)
    rw [State.arrive_enters yes, if_pos through, ← left]
    exact ⟨((u.arrived_on r k).trans on_).goesOn running plan, rfl⟩

/-! ## The levels of a SET stage (R121) -/

theorem Ramp.roleChannel_iff {x : Ramp} {role : Role} {ch : Fin 16} : x.roleChannel role = some ch ↔
    (role = .extend ∧ x.extend = some ch) ∨ (role = .retract ∧ x.retract = some ch) := by
  cases role <;> simp [Ramp.roleChannel]

theorem State.setPair_requested (service : s.req.mode = .service) (role : Role) (level : Bool) {c : Fin 16}
    (owner : (s.chans.row c).set.owner = .ramp r) :
    ((s.setPair r role level).chans.row c).requested =
      if (s.ramp r).roleChannel role = some c then level else (s.chans.row c).requested := by
  unfold State.setPair
  rw [State.ownerLevel_requested _ _ _ _ (.inr service)]
  simp only [owner, and_true]

theorem State.setPair_set (s : State) (r : Fin 4) (role : Role) (level : Bool) (c : Fin 16) :
    ((s.setPair r role level).chans.row c).set = (s.chans.row c).set := State.ownerLevel_set ..

/-- A SET stage sets its levels, the second pair last. -/
theorem State.enterStage_levels {role1 role2 : Role} {level1 level2 : Bool}
    (kind : (s.stage k).kind = .set role1 level1 role2 level2) (service : s.req.mode = .service) {c : Fin 16}
    (owner : (s.chans.row c).set.owner = .ramp r) :
    ((s.enterStage r k).1.chans.row c).set = (s.chans.row c).set
    ∧ ((s.enterStage r k).1.chans.row c).requested =
      if (s.ramp r).roleChannel role2 = some c then level2
      else if (s.ramp r).roleChannel role1 = some c then level1 else (s.chans.row c).requested := by
  have first := (s.entered r).setPair_set r role1 level1 c
  have channels (role : Role) : ((s.entered r).ramp r).roleChannel role = (s.ramp r).roleChannel role := by
    rw [State.entered_ramp]; rfl
  rw [State.enterStage_set kind]
  refine ⟨(State.setPair_set _ _ _ _ _).trans first, ?_⟩
  dsimp only
  rw [State.setPair_requested (((s.entered_on r).setPair r role1 level1).req ▸ service) role2 level2
      (by rw [first]; exact owner),
    State.setPair_ramp, State.setPair_requested (s := s.entered r) service role1 level1 owner, channels, channels]
  rfl

theorem State.passes_drive {d : Drive} {st : Stage} {p : Nat} (kind : st.kind = .drive d) :
    s.passes st p ↔ distance d.target p ≤ d.deadBand := by
  unfold State.passes
  simp only [kind, reduceCtorEq, exists_false, false_and, false_or, StageKind.drive.injEq, exists_eq_left']
  rfl

/-- A DRIVE stage that begins within its dead band leaves no travel and no overshoot (R125). -/
theorem State.enterStage_near {d : Drive} (kind : (s.stage k).kind = .drive d)
    (near : distance d.target (s.ramp r).lastPos ≤ d.deadBand) :
    ((s.enterStage r k).1.ramp r).travel = .none ∧ ((s.enterStage r k).1.ramp r).overshoot = 0 := by
  rw [State.enterStage_drive kind, if_pos near]
  dsimp only
  rw [State.setRamp_ramp]
  exact ⟨rfl, rfl⟩

/-- A plan of one DRIVE stage that begins within its dead band leaves no travel and no overshoot. -/
theorem State.arrive_near {d : Drive} (kind : (u.stage k).kind = .drive d) (enters : u.enters (u.stage k))
    (near : distance d.target (u.ramp r).lastPos ≤ d.deadBand) :
    ((State.arrive r 0 k u).ramp r).travel = .none ∧ ((State.arrive r 0 k u).ramp r).overshoot = 0 := by
  have at_ : distance d.target ((u.arrived r k).ramp r).lastPos ≤ d.deadBand := by rw [State.arrived_ramp]; exact near
  obtain ⟨through, -, -⟩ := State.enterStage_passes (s := u.arrived r k) (r := r) ((State.passes_drive kind).mpr at_)
  rw [State.arrive_enters enters, if_pos through, State.after, (State.planComplete_completes _ r).1]
  exact State.enterStage_near (s := u.arrived r k) kind at_

/-- A SET stage before a PENDING one leaves the levels it sets. -/
theorem State.arrive_levels {role1 role2 : Role} {level1 level2 : Bool}
    (kind : (u.stage k).kind = .set role1 level1 role2 level2) (enters : u.enters (u.stage k))
    (service : u.req.mode = .service) (not : ¬ u.enters (u.stage (k + 1))) (n : Nat) {c : Fin 16}
    (owner : (u.chans.row c).set.owner = .ramp r) :
    ((State.arrive r (n + 1) k u).chans.row c).set = (u.chans.row c).set
    ∧ ((State.arrive r (n + 1) k u).chans.row c).requested =
      if (u.ramp r).roleChannel role2 = some c then level2
      else if (u.ramp r).roleChannel role1 = some c then level1 else (u.chans.row c).requested := by
  obtain ⟨through, on_, -⟩ := State.enterStage_passes (s := u.arrived r k) (k := k) (r := r)
    (.inl ⟨role1, level1, role2, level2, kind⟩)
  have pending : ¬ ((u.arrived r k).enterStage r k).1.enters (((u.arrived r k).enterStage r k).1.stage (k + 1)) := by
    rw [State.enters_of_board on_.board, State.stage, on_.stages]
    exact not
  have levels := State.enterStage_levels (s := u.arrived r k) (r := r) (c := c) kind service owner
  rw [State.arrived_ramp] at levels
  rw [State.arrive_enters enters, if_pos through, State.after, State.arrive_pending pending]
  exact levels

/-- Settles O37: the refusals by their order, and the arrival of an IDLE ramp by its first stage. -/
theorem planStartArrivesAtTheFirstStage : Obligations.PlanStartArrivesAtTheFirstStage := by
  intro s rq e rb pb running
  refine ⟨fun code is => ⟨fun addressed => ?_, ?_⟩, ?_⟩
  · obtain ⟨result, -⟩ := planStart_refused (s := s.take (.planStart rq rb pb)) is
    rw [exec_planStart running addressed, answered_of_eq _ rq 0x01 result]
  · obtain ⟨result, refused⟩ := planStart_refused (s := s.take (.startPlan e rb pb)) is
    rw [exec_startPlan running, asAction_of_refused _ e result refused]
  intro r p i ramp plan own service idle is
  dsimp only
  have result (i : Instr) := planStart_taken (s := s.take i) ramp plan own service idle
  obtain ⟨u, hu⟩ : ∃ u, u = (s.take i).starting r p := ⟨_, rfl⟩
  have ramp_u : u.ramp r = (s.ramp r).started p := hu ▸ (s.take i).starting_ramp r p
  have clock_u : u.clock = s.clock := by rw [hu, State.starting, State.followRamp_clock]; rfl
  have req_u : u.req = s.req := by rw [hu]; exact (s.take i).starting_req r p
  have chans_u : u.chans = s.chans := by rw [hu, State.starting, State.followRamp_chans]; rfl
  have plans_u : u.plan.plans = s.plan.plans := by rw [hu, State.starting_plan]; rfl
  have stages_u (j : Fin 64) : u.stage j = s.stage j := by rw [hu, State.stage, State.starting_plan]; rfl
  have left : u.left p (s.plan.plans.row p).first = (s.plan.plans.row p).count - 1 := by
    unfold State.left; rw [plans_u]; omega
  obtain ⟨pends, stands, passes⟩ := State.arrive_reads (r := r) (k := (s.plan.plans.row p).first)
    (by rw [ramp_u]; rfl) (by rw [ramp_u]; rfl) left
  rw [ramp_u, stages_u] at pends stands passes
  rw [clock_u] at pends stands
  change ∃ t : State, _ ∧ _ ∧ _ ∧ (¬ ((s.take i).starting r p).enters _ → t = ((s.take i).starting r p).setRamp r _)
    ∧ (((s.take i).starting r p).enters _ → ¬ ((s.take i).starting r p).passes _ _ →
        ((s.take i).starting r p).standsAt t r _ _)
    ∧ (((s.take i).starting r p).enters _ → ((s.take i).starting r p).passes _ _ →
        ((s.take i).starting r p).goesOn t r _ _ ∧ _ ∧ _)
  rw [← hu]
  refine ⟨State.arrive r ((s.plan.plans.row p).count - 1) (s.plan.plans.row p).first u, ?_, ?_,
    (State.arrive_plan r _ _ u).trans (by rw [ramp_u]; rfl), pends, stands, fun enters through => ?_⟩
  · rintro rfl addressed
    rw [exec_planStart running addressed, answered_of_eq _ rq 0x01 (result _), hu]
    rfl
  · rintro rfl
    rw [exec_startPlan running, asAction_of_done _ e (result _), hu]
    rfl
  obtain ⟨goesOn, -⟩ := passes enters through
  refine ⟨goesOn, fun d kind one => ?_, fun role1 level1 role2 level2 next kind is_ more not ch owner => ?_⟩
  · rw [one]
    exact State.arrive_near (by rw [stages_u]; exact kind) (by rw [stages_u]; exact enters)
      (by rw [ramp_u]; exact (State.passes_drive kind).mp through)
  · obtain ⟨rfl, n, count⟩ := State.left_next (s := s) (m := p) is_ (by omega)
    have more_ : (s.plan.plans.row p).count - 1 = n + 1 := by rw [← count]; unfold State.left; omega
    change ¬ ((s.take i).starting r p).enters (s.stage ((s.plan.plans.row p).first + 1)) at not
    rw [← hu] at not
    obtain ⟨set, requested⟩ := State.arrive_levels (u := u) (r := r) (c := ch) (by rw [stages_u]; exact kind)
      (by rw [stages_u]; exact enters) (by rw [req_u]; exact service) (by rw [stages_u]; exact not) n
      (by rw [chans_u]; exact owner)
    rw [ramp_u, chans_u] at requested
    rw [chans_u] at set
    rw [more_, requested]
    simp only [← Ramp.roleChannel_iff]
    exact ⟨set, fun named => if_pos named, fun not2 named => (if_neg not2).trans (if_pos named),
      fun not2 not1 => (if_neg not2).trans (if_neg not1)⟩

end Sys2Proof.Machine
end

section
/-! PROOFS. PLAN: the approach law at a position sample (R132 to R135). -/

namespace Sys2Proof.Machine
variable {s t u : State} {r : Fin 4} {k : Fin 64} {m : Fin 8}

/-! ## The other ramps stand -/

/-- Every ramp but ramp `r` stands. -/
def State.othersStand (s t : State) (r : Fin 4) : Prop := ∀ other, other ≠ r → t.ramp other = s.ramp other

theorem State.othersStand.trans (h : s.othersStand t r) (g : t.othersStand u r) : s.othersStand u r :=
  fun other ne => (g other ne).trans (h other ne)

theorem State.othersStand.of_plan (plan : t.plan = s.plan) : s.othersStand t r := fun other _ => by
  rw [State.ramp, plan]; rfl

theorem State.setRamp_othersStand (s : State) (x : Ramp) : s.othersStand (s.setRamp r x) r :=
  fun _ ne => State.setRamp_ramp_ne ne s x

theorem State.planComplete_othersStand (s : State) (r : Fin 4) : s.othersStand (s.planComplete r) r :=
  (s.planComplete_completes r).2.1

theorem State.enterStage_othersStand (s : State) (r : Fin 4) (k : Fin 64) : s.othersStand (s.enterStage r k).1 r := by
  have entered : s.othersStand (s.entered r) r := s.setRamp_othersStand _
  have begun : s.othersStand (s.driveBegun r) r := fun _ ne => s.driveBegun_ramp_ne ne
  cases kind : (s.stage k).kind with
  | set role1 level1 role2 level2 =>
    rw [State.enterStage_set kind]
    exact entered.trans fun other _ => (State.setPair_ramp _ _ _ _ _).trans (State.setPair_ramp _ _ _ _ _)
  | wait w => rw [State.enterStage_wait kind]; exact entered
  | dwell n =>
    rw [State.enterStage_dwell kind]
    split
    · exact entered
    · exact entered.trans (State.setRamp_othersStand _ _)
  | call c =>
    rw [State.enterStage_call kind]
    exact entered.trans fun other ne => (State.hand_ramp _ _ _).trans (State.setRamp_ramp_ne ne _ _)
  | drive d =>
    rw [State.enterStage_drive kind]
    split <;> exact begun.trans (State.setRamp_othersStand _ _)

theorem State.arriveAt_othersStand (s : State) (r : Fin 4) (k : Fin 64) : s.othersStand (s.arriveAt r k).1 r := by
  have arrived : s.othersStand (s.arrived r k) r := s.setRamp_othersStand _
  rw [State.arriveAt_eq]
  split
  · exact arrived.trans (State.enterStage_othersStand _ r k)
  · exact arrived

theorem State.arrive_othersStand (r : Fin 4) (n : Nat) (k : Fin 64) (s : State) :
    s.othersStand (State.arrive r n k s) r := by
  induction n generalizing k s with
  | zero =>
    rw [State.arrive_eq]
    split
    · exact (s.arriveAt_othersStand r k).trans (State.planComplete_othersStand _ r)
    · exact s.arriveAt_othersStand r k
  | succ n ih =>
    rw [State.arrive_eq]
    split
    · exact (s.arriveAt_othersStand r k).trans (ih _ _)
    · exact s.arriveAt_othersStand r k

theorem State.onward_othersStand (s : State) (r : Fin 4) : s.othersStand (s.onward r) r := by
  unfold State.onward
  split
  · exact fun _ _ => rfl
  · split
    · exact s.planComplete_othersStand r
    · exact State.arrive_othersStand r _ _ s

theorem State.completeStage_othersStand (s : State) (r : Fin 4) : s.othersStand (s.completeStage r) r :=
  (s.setRamp_othersStand (s.ramp r).stageDone).trans (State.onward_othersStand _ r)

/-! ## The three ends of a sample (R133, R134, R135) -/

/-- The DRIVE stage's valve is off, and its ramp's record as a sample leaves it (R133). -/
def State.driveStopped (s : State) (r : Fin 4) (overshoot : Nat) : State :=
  (((s.ownerLevel (.ramp r) (s.ramp r).travelChannels.1 false).compareUpdate (.ramp r) (s.ramp r).travelChannels.1 0).setRamp
    r { s.ramp r with sPrev := 0, overshoot := overshoot }).followRamp r

theorem State.driveDone_eq (s : State) (r : Fin 4) (overshoot : Nat) :
    s.driveDone r overshoot = (s.driveStopped r overshoot).completeStage r := rfl

theorem State.driveStopped_plan (s : State) (r : Fin 4) (overshoot : Nat) : (s.driveStopped r overshoot).plan =
    { s.plan with ramps := s.plan.ramps.put r { s.ramp r with sPrev := 0, overshoot := overshoot } } := by
  rw [State.driveStopped, State.followRamp_plan, State.setRamp_plan, State.compareUpdate_plan, State.ownerLevel_plan]

theorem State.driveStopped_ramp (s : State) (r : Fin 4) (overshoot : Nat) :
    (s.driveStopped r overshoot).ramp r = { s.ramp r with sPrev := 0, overshoot := overshoot } := by
  rw [State.ramp, State.driveStopped_plan]
  exact Tbl.row_put_self _ _ _

theorem State.driveStopped_req (s : State) (r : Fin 4) (overshoot : Nat) :
    (s.driveStopped r overshoot).req = s.req := by
  rw [State.driveStopped, State.followRamp_req, State.setRamp_req, State.compareUpdate_req, State.ownerLevel_req]

theorem State.driveDone_othersStand (s : State) (r : Fin 4) (overshoot : Nat) :
    s.othersStand (s.driveDone r overshoot) r := by
  refine State.othersStand.trans (t := s.driveStopped r overshoot) (fun other ne => ?_)
    (State.completeStage_othersStand _ r)
  rw [State.ramp, State.driveStopped_plan]
  exact Tbl.row_put_ne _ _ ne.symm

/-- A DRIVE stage that is the last one of the plan completes it (R131, R133). -/
theorem State.driveDone_last (stage : (s.ramp r).stage = some k) (plan : (s.ramp r).plan = some m)
    (last : (s.plan.plans.row m).first.val + (s.plan.plans.row m).count = k.val + 1) (overshoot : Nat) :
    (s.driveDone r overshoot).ramp r =
      ({ s.ramp r with sPrev := 0, overshoot := overshoot : Ramp }.stageDone).idleWith .complete
    ∧ (s.driveDone r overshoot).req.marks = s.req.marks ||| 64 := by
  have ramp := s.driveStopped_ramp r overshoot
  have plans : (s.driveStopped r overshoot).plan.plans = s.plan.plans := by rw [State.driveStopped_plan]
  obtain ⟨record, marks⟩ := State.after_last (s := s.driveStopped r overshoot) (m := m) (k := k) (r := r)
    ((s.driveStopped r overshoot).ramp r).stageDone (by rw [plans]; exact last)
  rw [State.driveDone_eq, State.completeStage_eq (k := k) (m := m) (by rw [ramp]; exact stage) (by rw [ramp]; exact plan)]
  rw [record, marks, ramp, State.driveStopped_req]
  exact ⟨rfl, rfl⟩

theorem State.drive_plan (s : State) (r : Fin 4) (command : Nat) : (s.drive r command).plan =
    { s.plan with ramps := s.plan.ramps.put r { s.ramp r with sPrev := command } } := by
  unfold State.drive
  dsimp only
  rw [State.followRamp_plan, State.setRamp_plan, State.ownerLevel_plan, State.ownerLevel_plan, State.compareUpdate_plan]

theorem State.drive_ramp (s : State) (r : Fin 4) (command : Nat) :
    (s.drive r command).ramp r = { s.ramp r with sPrev := command } := by
  rw [State.ramp, State.drive_plan]
  exact Tbl.row_put_self _ _ _

theorem State.drive_othersStand (s : State) (r : Fin 4) (command : Nat) : s.othersStand (s.drive r command) r :=
  fun other ne => by
    rw [State.ramp, State.drive_plan]
    exact Tbl.row_put_ne _ _ ne.symm

/-- DUTY: the travel channel takes the compare and the level of the command, the counter channel is OFF (R135). -/
theorem State.drive_channels {ch other : Fin 16} (channels : (s.ramp r).travelChannels = (some ch, some other))
    (apart : ch ≠ other) (own : (s.chans.row ch).set.owner = .ramp r) (own' : (s.chans.row other).set.owner = .ramp r)
    (service : s.req.mode = .service) (command : Nat) :
    ((s.drive r command).chans.row ch).set.cmpA = command * (s.chans.row ch).set.period / 1000
    ∧ (((s.drive r command).chans.row ch).requested = true ↔ 0 < command)
    ∧ ((s.drive r command).chans.row other).requested = false := by
  have set (c : Fin 16) : ((s.compareUpdate (.ramp r) (some ch)
      (command * s.periodOf (some ch) / 1000)).chans.row c).set.owner = (s.chans.row c).set.owner := by
    rw [State.compareUpdate_set]; split <;> rfl
  unfold State.drive
  dsimp only
  rw [channels]
  dsimp only
  rw [State.followRamp_chans, State.setRamp_chans, State.ownerLevel_set, State.ownerLevel_set, State.compareUpdate_set,
    State.ownerLevel_requested _ _ _ _ (.inl rfl), State.ownerLevel_requested _ _ _ _ (.inl rfl),
    State.ownerLevel_requested _ _ _ _ (.inr (by rw [State.compareUpdate_req]; exact service))]
  rw [if_pos ⟨rfl, own⟩, if_neg fun h => apart (Option.some.inj h.1).symm, if_pos ⟨rfl, (set ch).trans own⟩,
    if_pos ⟨rfl, by rw [State.ownerLevel_set, set]; exact own'⟩]
  exact ⟨rfl, decide_eq_true_iff, rfl⟩

theorem Travel.beyond_iff {x : Travel} {target p : Nat} :
    x.beyond target p = true ↔ (x = .extend ∧ target < p) ∨ (x = .retract ∧ p < target) := by
  cases x <;> simp [Travel.beyond]

/-- What a sample at an ENTERED DRIVE stage does, by its distance and side. -/
theorem State.approach_eq (s : State) (r : Fin 4) (d : Drive) (p : Nat) :
    (distance d.target p ≤ d.deadBand → s.approach r d p =
      s.driveDone r (if (s.ramp r).travel.beyond d.target p then distance d.target p else 0))
    ∧ (d.deadBand < distance d.target p → (s.ramp r).travel.beyond d.target p = true →
      distance d.target p ≤ d.allow → s.approach r d p = s.driveDone r (distance d.target p))
    ∧ (d.deadBand < distance d.target p → (s.ramp r).travel.beyond d.target p = true →
      d.allow < distance d.target p → s.approach r d p =
        (s.setRamp r { s.ramp r with overshoot := distance d.target p }).faultRamp r .overrun)
    ∧ (d.deadBand < distance d.target p → (s.ramp r).travel.beyond d.target p = false →
      s.approach r d p = s.drive r (d.command (s.ramp r).sPrev (distance d.target p))) := by
  unfold State.approach
  dsimp only
  refine ⟨fun near => if_pos near, fun far beyond within => ?_, fun far beyond outside => ?_, fun far short => ?_⟩
  · rw [if_neg (Nat.not_le.mpr far), if_pos beyond, if_pos within]
  · rw [if_neg (Nat.not_le.mpr far), if_pos beyond, if_neg (Nat.not_le.mpr outside)]
  · rw [if_neg (Nat.not_le.mpr far), if_neg (Bool.eq_false_iff.mp short)]

theorem exec_positionSample (running : s.inReset = false) (p : Nat) :
    exec (.positionSample r p) s = .next ((s.take (.positionSample r p)).position r p) :=
  event_of_running s _ (fun s => s.position r p) running

theorem State.approach_othersStand (s : State) (r : Fin 4) (d : Drive) (p : Nat) :
    s.othersStand (s.approach r d p) r := by
  unfold State.approach
  dsimp only
  split
  · exact s.driveDone_othersStand r _
  · split
    · split
      · exact s.driveDone_othersStand r _
      · exact (s.setRamp_othersStand _).trans (State.faultRamp_faults _ r _).2.1
    · exact s.drive_othersStand r _

/-- A ramp's record when a sample is told (R132). -/
def Ramp.told (x : Ramp) (p now : Nat) : Ramp := { x with lastPos := p, stale := some (now + ms x.staleLimit) }

theorem Ramp.told_sPrev (x : Ramp) (p now : Nat) : (x.told p now).sPrev = x.sPrev := rfl

theorem State.position_away (none : s.driving r = none) (p : Nat) :
    s.position r p = s.setRamp r { s.ramp r with lastPos := p } := by
  unfold State.position
  rw [none]

theorem State.position_driving {d : Drive} (driving : s.driving r = some d) (p : Nat) :
    s.position r p = (s.setRamp r ((s.ramp r).told p s.clock)).approach r d p := by
  unfold State.position
  rw [driving]
  rfl

/-- The two channels of the ramp that travels. -/
theorem Ramp.travelChannels_of {x : Ramp} {ch other : Fin 16}
    (h : (x.travel = .extend ∧ x.extend = some ch ∧ x.retract = some other)
      ∨ (x.travel = .retract ∧ x.retract = some ch ∧ x.extend = some other)) :
    x.travelChannels = (some ch, some other) := by
  unfold Ramp.travelChannels
  rcases h with ⟨travel, extend, retract⟩ | ⟨travel, retract, extend⟩ <;> rw [travel, extend, retract]

/-- Settles O39, by the distance of the sample and its side of the target. -/
theorem positionSampleRunsTheApproachLaw : Obligations.PositionSampleRunsTheApproachLaw := by
  intro s r p running
  dsimp only
  have sample := exec_positionSample (r := r) running p
  refine ⟨fun away => ?_, fun d driving => ?_⟩
  · rw [sample, State.position_away (s := s.take _) away]
    rfl
  rw [sample, State.position_driving (s := s.take _) driving]
  obtain ⟨v, hv⟩ : ∃ v, v = (s.take (.positionSample r p)).setRamp r ((s.ramp r).told p s.clock) := ⟨_, rfl⟩
  have ramp : v.ramp r = (s.ramp r).told p s.clock := by rw [hv, State.setRamp_ramp]
  have others : s.othersStand v r := hv ▸ State.setRamp_othersStand (s.take _) _
  have chans : v.chans = s.chans := by rw [hv]; rfl
  have req : v.req = s.req := by rw [hv]; rfl
  have clock : v.clock = s.clock := by rw [hv]; rfl
  have plans : v.plan.plans = s.plan.plans := by rw [hv]; rfl
  have beyond_iff := Travel.beyond_iff (x := (s.ramp r).travel) (target := d.target) (p := p)
  obtain ⟨near, past, outside, short⟩ := v.approach_eq r d p
  rw [ramp] at near past outside short
  refine ⟨v.approach r d p, hv ▸ rfl, others.trans (v.approach_othersStand r d p), fun far not => ?_,
    fun far beyond out => ?_, fun ends k m stage plan last => ?_⟩
  · rw [short far (Bool.eq_false_iff.mpr (mt beyond_iff.mp not)), State.drive_ramp, ramp]
    refine ⟨rfl, fun ch other is apart own own' service => ?_⟩
    have duty := State.drive_channels (s := v) (r := r) (by rw [ramp]; exact Ramp.travelChannels_of is) apart
      (by rw [chans]; exact own) (by rw [chans]; exact own') (by rw [req]; exact service)
      (d.command (s.ramp r).sPrev (distance d.target p))
    rw [chans] at duty
    rw [Ramp.told_sPrev]
    exact duty
  · obtain ⟨faulted, -, -, marks, -⟩ := State.faultRamp_faults
      (v.setRamp r { (s.ramp r).told p s.clock with overshoot := distance d.target p }) r .overrun
    rw [outside far (beyond_iff.mpr beyond) out, faulted, marks, State.setRamp_ramp, State.setRamp_req,
      State.setRamp_clock, req, clock]
    exact ⟨rfl, rfl⟩
  · obtain ⟨ov, done, amount⟩ : ∃ ov, v.approach r d p = v.driveDone r ov
        ∧ ((s.ramp r).travel.beyond d.target p = true → ov = distance d.target p)
        ∧ ((s.ramp r).travel.beyond d.target p = false → ov = 0) := by
      by_cases within : distance d.target p ≤ d.deadBand
      · exact ⟨_, near within, fun yes => if_pos yes, fun no => if_neg (Bool.eq_false_iff.mp no)⟩
      · obtain ⟨beyond, allowed⟩ := ends.resolve_left within
        have yes := beyond_iff.mpr beyond
        exact ⟨_, past (Nat.lt_of_not_le within) yes allowed, fun _ => rfl, fun no => nomatch yes.symm.trans no⟩
    obtain ⟨record, marks⟩ := State.driveDone_last (s := v) (r := r) (k := k) (m := m) (by rw [ramp]; exact stage)
      (by rw [ramp]; exact plan) (by rw [plans]; exact last) ov
    rw [done, record, marks, ramp, req]
    exact ⟨rfl, rfl, rfl, plan, rfl, fun yes => amount.1 (beyond_iff.mpr yes),
      fun no => amount.2 (Bool.eq_false_iff.mpr (mt beyond_iff.mp no)), rfl⟩

end Sys2Proof.Machine
end

section
/-! PROOFS. OUT: what a judging of a forcing source does to its channel (R88, R89). -/

namespace Sys2Proof.Machine
variable {s t : State} {ch : Fin 16}

/-- A channel's record but for its forcing status and its switch. -/
def Channel.unjudged (c : Channel) : Channel :=
  { c with status := .clear, conducting := false, pin := .bothOff, supervision := none, current := 0 }

theorem State.conduct_unjudged (s : State) (ch m : Fin 16) :
    ((s.conduct ch).chans.row m).unjudged = (s.chans.row m).unjudged := by
  by_cases e : ch = m
  · subst e
    by_cases same : (s.chans.row ch).conducting = s.conducts ch
    · rw [s.conduct_of_same same, State.setChan_row]; rfl
    · rw [s.conduct_of_changed same, State.setChan_row]; rfl
  · rw [s.conduct_chan_ne e]

theorem Channel.unjudged_status (c : Channel) (x : ForceStatus) : { c with status := x }.unjudged = c.unjudged := rfl

theorem Channel.set_of_unjudged {c c' : Channel} (h : c'.unjudged = c.unjudged) : c'.set = c.set :=
  (congrArg Channel.set h : c'.unjudged.set = c.unjudged.set)

theorem Channel.running_of_unjudged {c c' : Channel} (h : c'.unjudged = c.unjudged) : c'.running = c.running :=
  (congrArg Channel.running h : c'.unjudged.running = c.unjudged.running)

theorem Channel.requestedOf_unjudged {c c' : Channel} (h : c'.unjudged = c.unjudged) : c'.requested = c.requested :=
  (congrArg Channel.requested h : c'.unjudged.requested = c.unjudged.requested)

theorem Channel.restart_of_unjudged {c c' : Channel} (h : c'.unjudged = c.unjudged) : c'.restart = c.restart :=
  (congrArg Channel.restart h : c'.unjudged.restart = c.unjudged.restart)

/-- The status that a judging leaves (R88, R89). -/
def State.judgedStatus (s : State) (ch : Fin 16) : ForceStatus :=
  if s.forcingActive (s.chans.row ch).set.forcing = true then .engaged
  else if (s.chans.row ch).status = .engaged ∧ (s.chans.row ch).set.latched = false then s.fallenStatus ch
  else (s.chans.row ch).status

/-- The FORCED event of a judging (R88). -/
def State.judgedEvents (s : State) (ch : Fin 16) : List Instr :=
  if s.forcingActive (s.chans.row ch).set.forcing = true ∧ (s.chans.row ch).status = .clear
    ∧ (s.chans.row ch).cutOff = false ∧ (s.chans.row ch).set.owner ≠ .free
  then [.forcedEvent (s.chans.row ch).set.owner ch] else []

/-- What a judging does: the status moves, a FORCED event may be handed, and the switch follows. -/
structure State.Judged (s t : State) (ch : Fin 16) : Prop where
  moves : s.movesChan ch t
  status : (t.chans.row ch).status = s.judgedStatus ch
  handed : t.handed = s.handed ++ s.judgedEvents ch
  unjudged : ∀ m, (t.chans.row m).unjudged = (s.chans.row m).unjudged

theorem State.setStatus_unjudged (s : State) (ch m : Fin 16) (x : ForceStatus) :
    ((s.setChan ch { s.chans.row ch with status := x }).chans.row m).unjudged = (s.chans.row m).unjudged := by
  by_cases e : ch = m
  · subst e; rw [State.setChan_row]; rfl
  · rw [State.setChan_chans, Tbl.row_put_ne _ _ e]

theorem State.setStatus_row (s : State) (ch : Fin 16) (x : ForceStatus) :
    (s.setChan ch { s.chans.row ch with status := x }).chans.row ch = { s.chans.row ch with status := x } :=
  s.setChan_row ch _

/-- A judging that stands. -/
theorem State.judgeForcing_stands
    (h : (s.forcingActive (s.chans.row ch).set.forcing = true ∧ (s.chans.row ch).status = .engaged)
      ∨ (s.forcingActive (s.chans.row ch).set.forcing = false
        ∧ ¬ ((s.chans.row ch).status = .engaged ∧ (s.chans.row ch).set.latched = false))) :
    s.judgeForcing ch = s := by
  unfold State.judgeForcing
  dsimp only
  rcases h with ⟨active, engaged⟩ | ⟨inactive, not⟩
  · rw [if_pos active, engaged]
  · rw [if_neg (Bool.eq_false_iff.mp inactive), if_neg not]

/-- A judging that moves the status sets it, hands its event, and recomputes conduction. -/
theorem State.judgeForcing_moved
    (h : ¬ ((s.forcingActive (s.chans.row ch).set.forcing = true ∧ (s.chans.row ch).status = .engaged)
      ∨ (s.forcingActive (s.chans.row ch).set.forcing = false
        ∧ ¬ ((s.chans.row ch).status = .engaged ∧ (s.chans.row ch).set.latched = false)))) :
    ∃ u : State, s.judgeForcing ch = u.conduct ch
      ∧ u = { s.setChan ch { s.chans.row ch with status := s.judgedStatus ch } with
          handed := s.handed ++ s.judgedEvents ch } := by
  refine ⟨_, ?_, rfl⟩
  unfold State.judgeForcing State.judgedStatus State.judgedEvents
  dsimp only
  cases active : s.forcingActive (s.chans.row ch).set.forcing with
  | true =>
    cases status : (s.chans.row ch).status with
    | engaged => exact absurd (.inl ⟨active, status⟩) h
    | awaitingWrap => simp; rfl
    | clear =>
      cases cut : (s.chans.row ch).cutOff with
      | true => simp; rfl
      | false =>
        by_cases free : (s.chans.row ch).set.owner = .free
        · simp [State.handOwner, free]; rfl
        · simp [State.handOwner, free, State.hand]
  | false =>
    have falls := Decidable.not_not.mp fun not => h (.inr ⟨active, not⟩)
    simp only [Bool.false_eq_true, if_false, if_pos falls, State.releaseIfStill_of_fallen, false_and, List.append_nil]
    rfl

theorem State.judgedStatus_stands
    (h : (s.forcingActive (s.chans.row ch).set.forcing = true ∧ (s.chans.row ch).status = .engaged)
      ∨ (s.forcingActive (s.chans.row ch).set.forcing = false
        ∧ ¬ ((s.chans.row ch).status = .engaged ∧ (s.chans.row ch).set.latched = false))) :
    s.judgedStatus ch = (s.chans.row ch).status ∧ s.judgedEvents ch = [] := by
  unfold State.judgedStatus State.judgedEvents
  rcases h with ⟨active, engaged⟩ | ⟨inactive, not⟩
  · simp [active, engaged]
  · simp [inactive, not]

theorem State.judgeForcing_judged (s : State) (ch : Fin 16) : s.Judged (s.judgeForcing ch) ch := by
  by_cases h : (s.forcingActive (s.chans.row ch).set.forcing = true ∧ (s.chans.row ch).status = .engaged)
      ∨ (s.forcingActive (s.chans.row ch).set.forcing = false
        ∧ ¬ ((s.chans.row ch).status = .engaged ∧ (s.chans.row ch).set.latched = false))
  · obtain ⟨status, events⟩ := State.judgedStatus_stands h
    rw [State.judgeForcing_stands h]
    exact ⟨.refl s ch, status.symm, by rw [events, List.append_nil], fun _ => rfl⟩
  · obtain ⟨u, is, hu⟩ := State.judgeForcing_moved h
    have chans : u.chans = (s.setChan ch { s.chans.row ch with status := s.judgedStatus ch }).chans := by rw [hu]
    have moves : s.movesChan ch u := by
      rw [hu]
      exact ⟨rfl, (s.setChan_movesChan ch { s.chans.row ch with status := s.judgedStatus ch }).others⟩
    rw [is]
    refine ⟨moves.trans (u.conduct_movesChan ch), ?_, ?_, fun m => ?_⟩
    · rw [State.conduct_status, chans, State.setStatus_row]
    · rw [State.conduct_handed, hu]
    · rw [State.conduct_unjudged, chans]
      exact s.setStatus_unjudged ch m _

theorem State.Judged.board (h : s.Judged t ch) : t.board = s.board := by rw [h.moves.frame]

theorem State.Judged.set (h : s.Judged t ch) (m : Fin 16) : (t.chans.row m).set = (s.chans.row m).set :=
  Channel.set_of_unjudged (h.unjudged m)

theorem State.Judged.counting (h : s.Judged t ch) (m : Fin 16) : counting t.chans m = counting s.chans m :=
  counting_congr ⟨fun c => h.set c, fun c => Channel.running_of_unjudged (h.unjudged c)⟩ m

theorem exec_gateChange (running : s.inReset = false) (c : Fin 64) (v : Bool) :
    exec (.conditionChange c v (.gate ch)) s = .next ((s.take (.conditionChange c v (.gate ch))).conduct ch) :=
  event_of_running s _ (fun s => s.conduct ch) running

theorem exec_forcingChange (running : s.inReset = false) {c : Fin 64}
    (names : s.forcingNames (s.chans.row ch).set.forcing c = true) (v : Bool) :
    exec (.conditionChange c v (.forcing ch)) s =
      .next ((s.take (.conditionChange c v (.forcing ch))).judgeForcing ch) :=
  (event_of_running s (.conditionChange c v (.forcing ch))
    (fun s => if s.forcingNames (s.chans.row ch).set.forcing c then s.judgeForcing ch else s) running).trans
    (congrArg _ (if_pos names))

theorem State.judgedStatus_of_active (active : s.forcingActive (s.chans.row ch).set.forcing = true) :
    s.judgedStatus ch = .engaged := if_pos active

theorem State.judgedStatus_of_fallen (inactive : s.forcingActive (s.chans.row ch).set.forcing = false)
    (engaged : (s.chans.row ch).status = .engaged) (unlatched : (s.chans.row ch).set.latched = false) :
    s.judgedStatus ch = s.fallenStatus ch := by
  unfold State.judgedStatus
  rw [if_neg (Bool.eq_false_iff.mp inactive), if_pos ⟨engaged, unlatched⟩]

end Sys2Proof.Machine
end

section
/-! PROOFS. The timers: heads and members of a pair, and settling as a fixed point (R99, R101, R104, R110, R111). -/

namespace Sys2Proof.Machine
variable {cs cs' : Chans} {h ch m : Fin 16}

/-! ## Heads and members (R110, R111) -/

theorem isOdd_partner (ch : Fin 16) : isOdd (partner ch) = !isOdd ch := by
  revert ch; decide

theorem isOdd_iff (ch : Fin 16) : isOdd ch = false ↔ ch.val % 2 = 0 := by
  revert ch; decide

theorem evenOf_even (even : isOdd ch = false) : evenOf ch = ch := by
  revert even ch; decide

theorem evenOf_odd (odd : isOdd ch = true) : evenOf ch = partner ch := by
  revert odd ch; decide

theorem head_even (cs : Chans) (even : isOdd ch = false) : head cs ch = ch := by
  unfold head
  rw [even]
  rfl

theorem head_odd (cs : Chans) (odd : isOdd ch = true) :
    head cs ch = if (cs.row (partner ch)).set.joined then partner ch else ch := by
  unfold head
  rw [odd, evenOf_odd odd]
  rfl

theorem paired_iff : paired cs h = true ↔ isOdd h = false ∧ (cs.row h).set.joined = true := by
  unfold paired
  rw [Bool.and_eq_true, Bool.not_eq_true']

/-- The members of a channel's timer are the channels of the same timer. -/
theorem mem_members_head : m ∈ members cs (head cs ch) ↔ head cs m = head cs ch := by
  have partner_joined (e : Fin 16) (even : isOdd e = false) (joined : (cs.row e).set.joined = true) :
      head cs (partner e) = e := by
    rw [head_odd cs (by rw [isOdd_partner, even]; rfl), partner_partner, if_pos joined]
  have self : head cs (head cs ch) = head cs ch := by
    cases odd : isOdd ch with
    | false => rw [head_even cs odd, head_even cs odd]
    | true =>
      rw [head_odd cs odd]
      split
      · exact head_even cs (by rw [isOdd_partner, odd]; rfl)
      · rename_i apart; rw [head_odd cs odd, if_neg apart]
  rw [mem_members, paired_iff]
  constructor
  · rintro (rfl | ⟨⟨even, joined⟩, rfl⟩)
    · exact self
    · exact partner_joined _ even joined
  · intro same
    cases odd : isOdd m with
    | false => rw [head_even cs odd] at same; exact .inl same
    | true =>
      rw [head_odd cs odd] at same
      split at same
      · rename_i joined
        refine .inr ⟨?_, by rw [← same, partner_partner]⟩
        rw [← same, isOdd_partner, odd]
        exact ⟨rfl, joined⟩
      · exact .inl same

theorem mem_members_self (cs : Chans) (ch : Fin 16) : ch ∈ members cs (head cs ch) := mem_members_head.mpr rfl

theorem head_of_mem (mem : m ∈ members cs (head cs ch)) : head cs m = head cs ch := mem_members_head.mp mem

theorem actingMode_of_mem (mem : m ∈ members cs (head cs ch)) :
    actingMode cs m = (cs.row (head cs ch)).set.mode := by
  unfold actingMode; rw [head_of_mem mem]

/-! ## Settling (R99, R101, R104) -/

theorem settle_row (cs : Chans) (h m : Fin 16) :
    (settle cs h).row m = if m ∈ members cs h then settled cs h (cs.row m) else cs.row m := by
  rw [settle_eq, onMembers_row]

theorem settle_sameTimers (cs : Chans) (h : Fin 16) : Chans.sameTimers cs (settle cs h) := by
  rw [settle_eq]
  exact onMembers_sameTimers cs h (fun _ => rfl) (fun _ => rfl)

theorem heldByTrigger_iff : heldByTrigger cs h = true ↔
    (∃ c, (cs.row h).set.sync = .trigger c) ∧ (cs.row h).running = false := by
  unfold heldByTrigger
  cases (cs.row h).set.sync <;> simp

theorem hasPeriod_iff : hasPeriod cs h = true ↔ ∀ m ∈ members cs h, (cs.row m).set.period ≠ 0 := by
  simp [hasPeriod]

/-- A timer does not count in STEADY, with period 0, or HELD (R99, R107). -/
theorem countingHead_iff : countingHead cs h = false ↔
    (cs.row h).set.mode = .steady ∨ ¬ (∀ m ∈ members cs h, (cs.row m).set.period ≠ 0)
    ∨ ((∃ c, (cs.row h).set.sync = .trigger c) ∧ (cs.row h).running = false) := by
  rw [← heldByTrigger_iff, ← hasPeriod_iff]
  unfold countingHead
  cases (cs.row h).set.mode <;> cases hasPeriod cs h <;> cases heldByTrigger cs h <;> simp

theorem pwmOut_congr (same : Chans.sameTimers cs cs')
    (rows : ∀ m ∈ members cs h, (cs'.row m).aInForce = (cs.row m).aInForce ∧ (cs'.row m).count = (cs.row m).count) :
    pwmOut cs' h = pwmOut cs h := by
  obtain ⟨a, count⟩ := rows h (head_mem_members cs h)
  unfold pwmOut
  dsimp only
  rw [hasPeriod_congr same.1, heldByTrigger_congr same, paired_congr same.1, a, count, same.1 h]
  cases pair : paired cs h with
  | false => rfl
  | true =>
    obtain ⟨a', count'⟩ := rows (partner h) (mem_members.mpr (.inr ⟨pair, rfl⟩))
    rw [a', count']

theorem pwmOut_iff : pwmOut cs h = true ↔ (∀ m ∈ members cs h, (cs.row m).set.period ≠ 0)
    ∧ ¬ ((∃ c, (cs.row h).set.sync = .trigger c) ∧ (cs.row h).running = false)
    ∧ (∃ m ∈ members cs h, (cs.row m).aInForce ≠ 0)
    ∧ ((cs.row h).set.period ≤ (cs.row h).aInForce ∨ (cs.row h).count < (cs.row h).aInForce
      ∨ (paired cs h = true ∧ (cs.row h).count = (cs.row h).aInForce
        ∧ (cs.row (partner h)).count < (cs.row (partner h)).aInForce)) := by
  rw [← heldByTrigger_iff, ← hasPeriod_iff]
  unfold pwmOut
  cases hasPeriod cs h with
  | false => simp
  | true =>
    cases heldByTrigger cs h with
    | true => simp
    | false =>
      cases pair : paired cs h with
      | false =>
        simp only [mem_members, pair]
        by_cases zero : (cs.row h).aInForce = 0
        · simp [zero]
        · by_cases full : (cs.row h).set.period ≤ (cs.row h).aInForce <;> simp [zero, full]
      | true =>
        simp only [mem_members, pair]
        by_cases zero : (cs.row h).aInForce = 0 ∧ (cs.row (partner h)).aInForce = 0
        · simp [zero]
        · by_cases full : (cs.row h).set.period ≤ (cs.row h).aInForce
          · have some_ : (cs.row h).aInForce ≠ 0 ∨ (cs.row (partner h)).aInForce ≠ 0 := by omega
            simpa [zero, full] using some_
          · have some_ : (cs.row h).aInForce ≠ 0 ∨ (cs.row (partner h)).aInForce ≠ 0 := by omega
            simpa [zero, full] using fun _ => some_

/-- What settling makes of a channel goes by the timer's rows alone. -/
theorem settled_congr (same : Chans.sameTimers cs cs')
    (rows : (cs.row h).set.mode = .pwm → countingHead cs h = true → ∀ m ∈ members cs h,
      (cs'.row m).aInForce = (cs.row m).aInForce ∧ (cs'.row m).count = (cs.row m).count) (c : Channel) :
    settled cs' h c = settled cs h c := by
  have out : (cs.row h).set.mode = .pwm → pwmOut cs' h = pwmOut cs h := fun pwm => by
    cases counts : countingHead cs h with
    | true => exact pwmOut_congr same (rows pwm counts)
    | false =>
      rw [pwmOut_of_still counts pwm, pwmOut_of_still ((countingHead_congr same h).trans counts)
        (by rw [same.1 h]; exact pwm)]
  unfold settled
  rw [countingHead_congr same, hasPeriod_congr same.1, same.1 h]
  cases mode : (cs.row h).set.mode with
  | pwm => rw [out mode]
  | _ => rfl

/-- A timer counts only with a period. -/
theorem hasPeriod_of_counting (counts : countingHead cs h = true) : hasPeriod cs h = true := by
  simp only [countingHead, Bool.and_eq_true] at counts
  exact counts.1.2

theorem settled_idem (cs : Chans) (h : Fin 16) (c : Channel) :
    settled (settle cs h) h (settled cs h c) = settled cs h c := by
  have same := settle_sameTimers cs h
  rw [settled_congr same]
  · unfold settled
    cases countingHead cs h <;> cases (cs.row h).set.mode <;> cases hasPeriod cs h <;> rfl
  · intro pwm counts m mem
    rw [settle_row, if_pos mem]
    unfold settled
    rw [counts, hasPeriod_of_counting counts]
    simp

/-- A settled timer stands under another settling. -/
theorem settle_idem (cs : Chans) (h : Fin 16) : settle (settle cs h) h = settle cs h := by
  refine Chans.ext_row fun m => ?_
  rw [settle_row, members_congr (settle_sameTimers cs h).1]
  split
  · rename_i mem
    rw [settle_row, if_pos mem, settled_idem]
  · rfl

/-- The settling of another timer leaves a settled one settled, and its channels alone. -/
theorem settle_row_of_out (out : m ∉ members cs h) : (settle cs h).row m = cs.row m := by
  rw [settle_row, if_neg out]

/-- The two timers of a pair of channels settled: each of its channels is settled once. -/
def settledPair (cs : Chans) (ch : Fin 16) : Chans := settle (settle cs (head cs ch)) (head cs (partner ch))

theorem settledPair_sameTimers (cs : Chans) (ch : Fin 16) : Chans.sameTimers cs (settledPair cs ch) := by
  have one := settle_sameTimers cs (head cs ch)
  have two := settle_sameTimers (settle cs (head cs ch)) (head cs (partner ch))
  exact ⟨fun m => (two.1 m).trans (one.1 m), fun m => (two.2 m).trans (one.2 m)⟩

/-- Channels of two timers. -/
theorem not_mem_of_head_ne {a b : Fin 16} (ne : head cs a ≠ head cs b) (mem : m ∈ members cs (head cs a)) :
    m ∉ members cs (head cs b) :=
  fun other => ne ((head_of_mem mem).symm.trans (head_of_mem other))

theorem settledPair_row (cs : Chans) (ch : Fin 16) (of : h = head cs ch ∨ h = head cs (partner ch))
    (mem : m ∈ members cs h) : (settledPair cs ch).row m = settled cs h (cs.row m) := by
  have same := settle_sameTimers cs (head cs ch)
  unfold settledPair
  by_cases one : head cs ch = head cs (partner ch)
  · rw [← one, settle_idem]
    obtain rfl : h = head cs ch := of.elim id fun e => e.trans one.symm
    rw [settle_row, if_pos mem]
  · rcases of with rfl | rfl
    · rw [settle_row_of_out (by rw [members_congr same.1]; exact not_mem_of_head_ne one mem), settle_row, if_pos mem]
    · have out := not_mem_of_head_ne (Ne.symm one) mem
      rw [settle_row, members_congr same.1, if_pos mem, settle_row_of_out out, settled_congr same]
      exact fun _ _ m' mem' => by rw [settle_row_of_out (not_mem_of_head_ne (Ne.symm one) mem')]; exact ⟨rfl, rfl⟩

theorem settledPair_row_of_out (ne : m ≠ ch) (ne' : m ≠ partner ch) : (settledPair cs ch).row m = cs.row m := by
  have out (c : Fin 16) (is : c = ch ∨ c = partner ch) : m ∉ members cs (head cs c) := by
    intro mem
    rw [mem_members, paired_iff] at mem
    have heads : head cs c = ch ∨ head cs c = partner ch := by
      cases odd : isOdd c with
      | false => rw [head_even cs odd]; exact is
      | true =>
        rw [head_odd cs odd]
        rcases is with rfl | rfl
        · split
          · exact .inr rfl
          · exact .inl rfl
        · rw [partner_partner]
          split
          · exact .inl rfl
          · exact .inr rfl
    rcases heads with e | e <;> rw [e] at mem
    · exact mem.elim ne fun h => ne' h.2
    · exact mem.elim ne' fun h => ne (by rw [h.2, partner_partner])
  unfold settledPair
  rw [settle_row_of_out, settle_row_of_out (out ch (.inl rfl))]
  rw [members_congr (settle_sameTimers cs (head cs ch)).1]
  exact out (partner ch) (.inr rfl)

/-- The two timers of a pair of channels stand settled. -/
theorem settledPair_fixed (cs : Chans) (ch : Fin 16) (of : h = head cs ch ∨ h = head cs (partner ch)) :
    settle (settledPair cs ch) h = settledPair cs ch := by
  have same := settledPair_sameTimers cs ch
  have one := settle_sameTimers cs h
  refine Chans.ext_row fun m => ?_
  rw [settle_row, members_congr same.1]
  split
  · rename_i mem
    have as_one : settled (settledPair cs ch) h = settled (settle cs h) h := funext fun c =>
      settled_congr (cs := settle cs h)
        ⟨fun m => (same.1 m).trans (one.1 m).symm, fun m => (same.2 m).trans (one.2 m).symm⟩
        (fun _ _ m' mem' => by
          rw [members_congr one.1] at mem'
          rw [settledPair_row cs ch of mem', settle_row, if_pos mem']
          exact ⟨rfl, rfl⟩) c
    rw [settledPair_row cs ch of mem, as_one, settled_idem]
  · rfl

end Sys2Proof.Machine
end

section
/-! PROOFS. The timers: what a taken channel entry write does to the timers of its pair (R99 to R104, R107, R110). -/

namespace Sys2Proof.Machine
variable {old cs cs' : Chans} {h ch m : Fin 16}

/-! ## The entry of a mode (R101 to R104) -/

/-- A channel that enters a mode. -/
def Channel.entering (mode : TimerMode) (c : Channel) : Channel :=
  { c with
    timerOut := entryOut mode c.requested
    phase := if mode == .pulseOnce || mode == .pulseRepeat then .waitA else c.phase
    aInForce := if mode == .pwm then c.set.cmpA else c.aInForce }

theorem enterMode_eq (cs : Chans) (ch : Fin 16) :
    enterMode cs ch = cs.put ch ((cs.row ch).entering (actingMode cs ch)) := rfl

theorem put_sameSet {c : Channel} (set : c.set = (cs.row ch).set) : Chans.sameSet cs (cs.put ch c) := fun m => by
  rw [Tbl.row_put]
  split
  · rename_i e; rw [set, e]
  · rfl

/-- The channels of a timer enter its mode together. -/
theorem enterMode_members (own : head cs ch = ch) :
    (members cs ch).foldl enterMode cs = onMembers cs ch (Channel.entering (cs.row ch).set.mode) := by
  have acting (c : Fin 16) (mem : c ∈ members cs ch) : actingMode cs c = (cs.row ch).set.mode := by
    rw [← own] at mem
    rw [actingMode_of_mem mem, own]
  unfold onMembers
  cases pair : paired cs ch with
  | false =>
    unfold members
    rw [pair]
    simp only [Bool.false_eq_true, if_false, List.foldl_cons, List.foldl_nil]
    rw [enterMode_eq, acting ch (head_mem_members cs ch)]
  | true =>
    have second := acting (partner ch) (mem_members.mpr (.inr ⟨pair, rfl⟩))
    unfold members
    rw [pair]
    simp only [if_true, List.foldl_cons, List.foldl_nil]
    rw [enterMode_eq cs ch, acting ch (head_mem_members cs ch), enterMode_eq,
      actingMode_congr (put_sameSet (cs := cs) (ch := ch) (c := (cs.row ch).entering (cs.row ch).set.mode) rfl), second]

/-! ## A change of the cascade field (R110) -/

/-- A channel of a pair joined or split anew. -/
def Channel.cascaded (mode was : TimerMode) (c : Channel) : Channel :=
  { c with
    count := 0, timerOut := entryOut mode c.requested, phase := .waitA, running := false
    aInForce := if mode == .pwm && was != .pwm then c.set.cmpA else c.aInForce }

/-- One channel of a pair is joined or split anew. -/
def cascadeOne (old cs : Chans) (ch : Fin 16) : Chans :=
  cs.put ch ((cs.row ch).cascaded (actingMode cs ch) (actingMode old ch))

theorem joinOrSplit_eq (old cs : Chans) (ch : Fin 16) :
    joinOrSplit old cs ch = cascadeOne old (cascadeOne old cs ch) (partner ch) := rfl

theorem cascadeOne_sameSet (old cs : Chans) (ch : Fin 16) : Chans.sameSet cs (cascadeOne old cs ch) :=
  put_sameSet rfl

theorem joinOrSplit_sameSet (old cs : Chans) (ch : Fin 16) : Chans.sameSet cs (joinOrSplit old cs ch) :=
  fun m => (cascadeOne_sameSet old _ _ m).trans (cascadeOne_sameSet old cs ch m)

theorem joinOrSplit_row (old cs : Chans) (of : m = ch ∨ m = partner ch) :
    (joinOrSplit old cs ch).row m = (cs.row m).cascaded (actingMode cs m) (actingMode old m) := by
  have first := cascadeOne_sameSet old cs ch
  have other : (cascadeOne old cs ch).row (partner ch) = cs.row (partner ch) := Tbl.row_put_ne _ _ (partner_ne ch).symm
  rw [joinOrSplit_eq]
  rcases of with rfl | rfl
  · exact (Tbl.row_put_ne _ _ (partner_ne m)).trans (Tbl.row_put_self _ _ _)
  · refine (Tbl.row_put_self _ _ _).trans ?_
    rw [actingMode_congr first, other]

/-! ## A change of the sync field (R107) -/

/-- The write changes the sync of channel `ch` into TRIGGER. -/
def stopsAt (old cs : Chans) (ch : Fin 16) : Prop :=
  (cs.row ch).set.sync ≠ (old.row ch).set.sync ∧ ∃ c, (cs.row ch).set.sync = .trigger c

theorem syncWritten_stands (not : ¬ stopsAt old cs ch) : syncWritten old cs ch = cs := by
  unfold syncWritten
  split
  · rename_i c sync
    refine if_pos (beq_iff_eq.mpr ?_)
    by_contra ne
    exact not ⟨Ne.symm ne, c, sync⟩
  · rfl

theorem syncWritten_stops (stops : stopsAt old cs ch) :
    syncWritten old cs ch = zeroCount (cs.put ch { cs.row ch with running := false }) ch := by
  obtain ⟨ne, c, sync⟩ := stops
  unfold syncWritten
  rw [sync]
  refine if_neg fun same => ne ?_
  rw [sync]
  exact (beq_iff_eq.mp same).symm

theorem zeroCount_sameTimers (cs : Chans) (h : Fin 16) : Chans.sameTimers cs (zeroCount cs h) :=
  onMembers_sameTimers cs h (fun _ => rfl) (fun _ => rfl)

theorem syncWritten_sameSet (old cs : Chans) (ch : Fin 16) : Chans.sameSet cs (syncWritten old cs ch) := by
  by_cases stops : stopsAt old cs ch
  · rw [syncWritten_stops stops]
    exact fun m => ((zeroCount_sameTimers _ ch).1 m).trans
      (put_sameSet (cs := cs) (ch := ch) (c := { cs.row ch with running := false }) rfl m)
  · rw [syncWritten_stands stops]
    exact fun _ => rfl

/-- What the sync field's write keeps of every channel. -/
theorem syncWritten_row (old cs : Chans) (ch m : Fin 16) :
    ((syncWritten old cs ch).row m).requested = (cs.row m).requested
    ∧ ((syncWritten old cs ch).row m).timerOut = (cs.row m).timerOut
    ∧ ((syncWritten old cs ch).row m).phase = (cs.row m).phase
    ∧ ((syncWritten old cs ch).row m).aInForce = (cs.row m).aInForce := by
  by_cases stops : stopsAt old cs ch
  · rw [syncWritten_stops stops, zeroCount, onMembers_row, Tbl.row_put]
    by_cases e : ch = m
    · subst e; rw [if_pos rfl]; split <;> exact ⟨rfl, rfl, rfl, rfl⟩
    · rw [if_neg e]; split <;> exact ⟨rfl, rfl, rfl, rfl⟩
  · rw [syncWritten_stands stops]
    exact ⟨rfl, rfl, rfl, rfl⟩

/-- A timer that the write makes HELD stands at 0. -/
theorem syncWritten_held (stops : stopsAt old cs ch) :
    (∀ m ∈ members cs ch, ((syncWritten old cs ch).row m).count = 0)
    ∧ ((syncWritten old cs ch).row ch).running = false := by
  have same : Chans.sameSet cs (cs.put ch { cs.row ch with running := false }) := put_sameSet rfl
  rw [syncWritten_stops stops, zeroCount]
  refine ⟨fun m mem => ?_, ?_⟩
  · rw [onMembers_row, members_congr same, if_pos mem]
  · rw [onMembers_row, members_congr same, if_pos (head_mem_members cs ch), Tbl.row_put_self]

/-! ## The mode written (R101, R102) -/

/-- The write enters the mode of channel `ch`. -/
def entersAt (old cs : Chans) (ch : Fin 16) : Prop :=
  (cs.row ch).set.mode ≠ (old.row ch).set.mode ∨ (cs.row ch).set.mode = .pulseOnce

theorem modeWritten_stands (not : ¬ entersAt old cs ch) : modeWritten old cs ch = cs := by
  unfold modeWritten
  unfold entersAt at not
  rw [if_pos]
  rw [Bool.and_eq_true, beq_iff_eq, bne_iff_ne]
  exact ⟨Decidable.not_not.mp fun ne => not (.inl (Ne.symm ne)), fun is => not (.inr is)⟩

theorem modeWritten_enters (enters : entersAt old cs ch) (own : head cs ch = ch) :
    modeWritten old cs ch = onMembers cs ch (Channel.entering (cs.row ch).set.mode) := by
  unfold modeWritten
  rw [if_neg, enterMode_members own]
  rw [Bool.and_eq_true, beq_iff_eq, bne_iff_ne]
  rintro ⟨same, not⟩
  exact enters.elim (fun ne => ne same.symm) not

/-! ## The write of an entry (R98 to R111) -/

/-- The write changes the cascade field of its pair. -/
def cascadesAt (old cs : Chans) (ch : Fin 16) : Prop :=
  isOdd ch = false ∧ (cs.row ch).set.joined ≠ (old.row ch).set.joined

/-- The timers as a write leaves them before they are settled. -/
def timerEntered (old cs : Chans) (ch : Fin 16) : Chans :=
  if (old.row ch).set.joined != (cs.row ch).set.joined && !isOdd ch then joinOrSplit old cs ch
  else if head cs ch == ch then modeWritten old (syncWritten old cs ch) ch
  else cs

theorem timerWritten_eq (old cs : Chans) (ch : Fin 16) :
    timerWritten old cs ch = settledPair (timerEntered old cs ch) ch := rfl

theorem timerEntered_cascades (cascades : cascadesAt old cs ch) : timerEntered old cs ch = joinOrSplit old cs ch := by
  unfold timerEntered
  rw [if_pos]
  rw [Bool.and_eq_true, bne_iff_ne, Bool.not_eq_true']
  exact ⟨Ne.symm cascades.2, cascades.1⟩

theorem timerEntered_apart (not : ¬ cascadesAt old cs ch) : timerEntered old cs ch =
    if head cs ch = ch then modeWritten old (syncWritten old cs ch) ch else cs := by
  unfold timerEntered
  rw [if_neg]
  · simp only [beq_iff_eq]
  · rw [Bool.and_eq_true, bne_iff_ne, Bool.not_eq_true']
    exact fun ⟨ne, even⟩ => not ⟨even, Ne.symm ne⟩

theorem modeWritten_sameSet (own : head cs ch = ch) : Chans.sameSet cs (modeWritten old cs ch) := by
  by_cases enters : entersAt old cs ch
  · rw [modeWritten_enters enters own]
    exact fun m => by rw [onMembers_row]; split <;> rfl
  · rw [modeWritten_stands enters]
    exact fun _ => rfl

theorem timerEntered_sameSet (old cs : Chans) (ch : Fin 16) : Chans.sameSet cs (timerEntered old cs ch) := by
  by_cases cascades : cascadesAt old cs ch
  · rw [timerEntered_cascades cascades]; exact joinOrSplit_sameSet old cs ch
  · rw [timerEntered_apart cascades]
    split
    · rename_i own
      have sync := syncWritten_sameSet old cs ch
      have mode := modeWritten_sameSet (old := old) (cs := syncWritten old cs ch) ((head_congr sync ch).trans own)
      exact fun m => (mode m).trans (sync m)
    · exact fun _ => rfl

/-- What a write that does not change the cascade makes of a channel of the timer it names. -/
theorem timerEntered_row_own (not : ¬ cascadesAt old cs ch) (own : head cs ch = ch) (mem : m ∈ members cs ch) :
    (stopsAt old cs ch → ((timerEntered old cs ch).row m).count = 0)
    ∧ (¬ stopsAt old cs ch → ((timerEntered old cs ch).row m).count = (cs.row m).count)
    ∧ ((timerEntered old cs ch).row m).requested = (cs.row m).requested
    ∧ (stopsAt old cs ch → ((timerEntered old cs ch).row ch).running = false)
    ∧ (¬ stopsAt old cs ch → ((timerEntered old cs ch).row ch).running = (cs.row ch).running)
    ∧ (entersAt old cs ch → ((timerEntered old cs ch).row m).timerOut = entryOut (cs.row ch).set.mode (cs.row m).requested
      ∧ ((timerEntered old cs ch).row m).phase =
        (if (cs.row ch).set.mode == .pulseOnce || (cs.row ch).set.mode == .pulseRepeat then .waitA else (cs.row m).phase)
      ∧ ((timerEntered old cs ch).row m).aInForce =
        (if (cs.row ch).set.mode == .pwm then (cs.row m).set.cmpA else (cs.row m).aInForce))
    ∧ (¬ entersAt old cs ch → ((timerEntered old cs ch).row m).timerOut = (cs.row m).timerOut
      ∧ ((timerEntered old cs ch).row m).phase = (cs.row m).phase
      ∧ ((timerEntered old cs ch).row m).aInForce = (cs.row m).aInForce) := by
  have sync := syncWritten_sameSet old cs ch
  obtain ⟨requested, out, phase, a⟩ := syncWritten_row old cs ch m
  have own' : head (syncWritten old cs ch) ch = ch := (head_congr sync ch).trans own
  have mem' : m ∈ members (syncWritten old cs ch) ch := by rw [members_congr sync]; exact mem
  have enters_iff : entersAt old (syncWritten old cs ch) ch ↔ entersAt old cs ch := by unfold entersAt; rw [sync ch]
  have count : ((modeWritten old (syncWritten old cs ch) ch).row m).count = ((syncWritten old cs ch).row m).count
      ∧ ((modeWritten old (syncWritten old cs ch) ch).row m).requested = ((syncWritten old cs ch).row m).requested
      ∧ ((modeWritten old (syncWritten old cs ch) ch).row ch).running = ((syncWritten old cs ch).row ch).running := by
    by_cases enters : entersAt old (syncWritten old cs ch) ch
    · rw [modeWritten_enters enters own', onMembers_row, onMembers_row, if_pos mem', if_pos (head_mem_members _ ch)]
      exact ⟨rfl, rfl, rfl⟩
    · rw [modeWritten_stands enters]
      exact ⟨rfl, rfl, rfl⟩
  obtain ⟨count, requested', running⟩ := count
  rw [timerEntered_apart not, if_pos own]
  refine ⟨fun stops => count.trans ((syncWritten_held stops).1 m mem), fun stands => ?_, requested'.trans requested,
    fun stops => running.trans (syncWritten_held stops).2, fun stands => ?_, fun enters => ?_, fun stays => ?_⟩
  · rw [count, syncWritten_stands stands]
  · rw [running, syncWritten_stands stands]
  · rw [modeWritten_enters (enters_iff.mpr enters) own', onMembers_row, if_pos mem', sync ch]
    unfold Channel.entering
    rw [requested, phase, a, sync m]
    exact ⟨rfl, rfl, rfl⟩
  · rw [modeWritten_stands fun h => stays (enters_iff.mp h)]
    exact ⟨out, phase, a⟩

end Sys2Proof.Machine
end

section
/-! PROOFS. REQ: the images that can be read as an entry are those without a bad code (R182, R190, R193). -/

namespace Sys2Proof.Machine
variable {s t : State}

/-! ## Fields of an image -/

theorem isSome_bind {α β : Type} {o : Option α} {f : α → Option β} :
    (o.bind f).isSome = true ↔ ∃ a, o = some a ∧ (f a).isSome = true := by
  cases o <;> simp

theorem isSome_iff_exists {α : Type} {o : Option α} : (∃ a, o = some a) ↔ o.isSome = true := by
  cases o <;> simp

theorem isSome_guard {α : Type} {p : Prop} [Decidable p] {a : α} : (if p then some a else none).isSome = true ↔ p := by
  split <;> simp [*]

theorem exists_and_and {α : Type} {p q : α → Prop} {b : Prop} : (∃ a, p a ∧ b ∧ q a) ↔ b ∧ ∃ a, p a ∧ q a :=
  ⟨fun ⟨a, h, hb, g⟩ => ⟨hb, a, h, g⟩, fun ⟨hb, a, h, g⟩ => ⟨a, h, hb, g⟩⟩

theorem fin?_known {n : Nat} {b : Byte} : (∃ i, fin? n b = some i) ↔ ¬ n ≤ b.toNat := by
  rw [isSome_iff_exists, ← fin?_eq_none_iff]
  cases fin? n b <;> simp

theorem code?_known {α : Type} {values : List α} {b : Byte} :
    (∃ a, code? values b = some a) ↔ ¬ values.length ≤ b.toNat := by
  rw [isSome_iff_exists, code?, Nat.not_le]
  simp

theorem flag?_known {b : Byte} : (∃ v, flag? b = some v) ↔ ¬ 2 ≤ b.toNat := by
  refine ⟨fun ⟨v, is⟩ => ?_, fun h => flag?_of_lt (Nat.lt_of_not_le h)⟩
  unfold flag? at is
  split at is
  · rename_i zero; rw [zero]; decide
  · split at is
    · rename_i one; rw [one]; decide
    · cases is

theorem byte_ne_iff {b : Byte} (n : Nat) (h : n < 256) : b = BitVec.ofNat 8 n ↔ b.toNat = n := by
  rw [← BitVec.toNat_inj, BitVec.toNat_ofNat, Nat.mod_eq_of_lt h]

theorem ref?_known {n : Nat} {b : Byte} : (∃ r, ref? n b = some r) ↔ ¬ (n ≤ b.toNat ∧ b.toNat ≠ 255) := by
  unfold ref?
  by_cases none_ : b = 0xFF
  · have : b.toNat = 255 := (byte_ne_iff 255 (by decide)).mp none_
    simp [none_]
  · have : b.toNat ≠ 255 := mt (byte_ne_iff 255 (by decide)).mpr none_
    rw [if_neg none_]
    simp only [Option.map_eq_some_iff, exists_comm (α := Option (Fin n))]
    simp [fin?_known, this]

theorem readOwner_known {kind number : Byte} : (∃ o, readOwner kind number = some o) ↔
    ¬ (4 ≤ kind.toNat ∨ (kind.toNat = 1 ∧ 4 ≤ number.toNat) ∨ (kind.toNat = 2 ∧ 24 ≤ number.toNat)
      ∨ (kind.toNat = 3 ∧ 16 ≤ number.toNat)) := by
  unfold readOwner
  rw [isSome_iff_exists]
  generalize kind.toNat = k
  match k with
  | 0 => simp
  | 1 | 2 | 3 => simp [← isSome_iff_exists, fin?_known]
  | k + 4 => simp

theorem readForcing_known {kind term : Byte} : (∃ f, readForcing kind term = some f) ↔
    ¬ (4 ≤ kind.toNat ∨ (kind.toNat = 3 ∧ 32 ≤ term.toNat)) := by
  unfold readForcing
  rw [isSome_iff_exists]
  generalize kind.toNat = k
  match k with
  | 0 | 1 | 2 => simp
  | 3 => simp [← isSome_iff_exists, fin?_known]
  | k + 4 => simp

theorem syncAllowed_free (ch : Fin 16) (joined : Bool) : syncAllowed ch .free joined = !(joined && isOdd ch) := by
  cases joined <;> simp [syncAllowed, Sync.channel]

theorem syncAllowed_of_channel {sync : Sync} {c : Fin 16} (is : sync.channel = some c) (ch : Fin 16) (joined : Bool) :
    syncAllowed ch sync joined = true ↔ c ≠ ch ∧ ¬ (joined = true ∧ c = partner ch) ∧ ¬ (joined = true ∧ isOdd ch = true) := by
  unfold syncAllowed
  rw [is]
  cases joined <;> simp [and_assoc]

/-- The sync and the cascade of an image are allowed together (R98). -/
theorem readSync_known {ch : Fin 16} {kind c : Byte} {joined : Bool} :
    (∃ x, readSync kind c = some x ∧ syncAllowed ch x joined = true) ↔
    ¬ (3 ≤ kind.toNat
      ∨ (kind.toNat ≠ 0 ∧ (16 ≤ c.toNat ∨ c.toNat = ch.val ∨ (joined = true ∧ isOdd ch = false ∧ c.toNat = ch.val + 1)))
      ∨ (isOdd ch = true ∧ joined = true)) := by
  have named (mk : Fin 16 → Sync) (channel : ∀ c, (mk c).channel = some c) :
      (∃ x, (fin? 16 c).map mk = some x ∧ syncAllowed ch x joined = true) ↔
      ¬ ((16 ≤ c.toNat ∨ c.toNat = ch.val ∨ (joined = true ∧ isOdd ch = false ∧ c.toNat = ch.val + 1))
        ∨ (isOdd ch = true ∧ joined = true)) := by
    cases at_ : fin? 16 c with
    | none =>
      have out := (fin?_eq_none_iff c).mp at_
      simp [out]
    | some c' =>
      have is := (fin?_eq_some_iff c c').mp at_
      have small := c'.isLt
      have next : isOdd ch = false → (c' = partner ch ↔ c'.val = ch.val + 1) := by
        intro even
        have other : ¬ ch.val % 2 = 1 := by have := (isOdd_iff ch).mp even; omega
        rw [Fin.ext_iff, partner, dif_neg other]
      simp only [Option.map_some, Option.some.injEq, exists_eq_left', syncAllowed_of_channel (channel c'), is, ne_eq,
        Fin.ext_iff]
      cases odd : isOdd ch with
      | false =>
        have := next odd
        rw [Fin.ext_iff] at this
        rw [this]
        simp
      | true =>
        cases joined <;> simp
  unfold readSync
  generalize kind.toNat = k
  match k with
  | 0 => simp [syncAllowed_free]; cases joined <;> cases isOdd ch <;> simp
  | 1 => simpa using named .sync fun _ => rfl
  | 2 => simpa using named .trigger fun _ => rfl
  | k + 3 => simp

theorem flag?_eq_some_iff {b : Byte} {v : Bool} : flag? b = some v ↔ b.toNat = v.toNat := by
  have zero_iff : b = 0 ↔ b.toNat = 0 := byte_ne_iff 0 (by decide)
  have one_iff : b = 1 ↔ b.toNat = 1 := byte_ne_iff 1 (by decide)
  unfold flag?
  simp only [zero_iff, one_iff]
  by_cases zero : b.toNat = 0
  · cases v <;> simp [zero]
  · by_cases one : b.toNat = 1
    · cases v <;> simp [one]
    · cases v <;> simp [zero, one]

/-- The cascade flag, and the sync that it and the channel allow (R98, R110). -/
theorem readSync_joined_known {ch : Fin 16} {kind c flag : Byte} :
    (∃ x, readSync kind c = some x ∧ ∃ joined, flag? flag = some joined ∧ syncAllowed ch x joined = true) ↔
    ¬ (3 ≤ kind.toNat ∨ 2 ≤ flag.toNat
      ∨ (kind.toNat ≠ 0 ∧ (16 ≤ c.toNat ∨ c.toNat = ch.val
        ∨ (flag.toNat = 1 ∧ ch.val % 2 = 0 ∧ c.toNat = ch.val + 1)))
      ∨ (ch.val % 2 = 1 ∧ flag.toNat = 1)) := by
  have swap : (∃ x, readSync kind c = some x ∧ ∃ joined, flag? flag = some joined ∧ syncAllowed ch x joined = true) ↔
      ∃ joined : Bool, flag.toNat = joined.toNat ∧ ∃ x, readSync kind c = some x ∧ syncAllowed ch x joined = true := by
    simp only [flag?_eq_some_iff]
    exact ⟨fun ⟨x, is, j, f, a⟩ => ⟨j, f, x, is, a⟩, fun ⟨j, f, x, is, a⟩ => ⟨x, is, j, f, a⟩⟩
  simp only [swap, readSync_known, isOdd_iff]
  have odd : isOdd ch = true ↔ ch.val % 2 = 1 := by simp [isOdd]
  rw [odd]
  constructor
  · rintro ⟨joined, is, ok⟩
    cases joined <;> simp [is] at ok ⊢
    all_goals omega
  · intro ok
    have : flag.toNat = 0 ∨ flag.toNat = 1 := by omega
    rcases this with is | is
    · refine ⟨false, is, ?_⟩
      simp
      omega
    · refine ⟨true, is, ?_⟩
      simp
      omega

theorem readChannel_known {ch : Fin 16} {img : List Byte} :
    (∃ e, readChannel ch img = some e) ↔ ¬ TableId.channels.badCodes ch.val img := by
  rw [isSome_iff_exists]
  unfold readChannel TableId.badCodes
  simp only [Option.bind_eq_bind, isSome_bind, Option.pure_def, isSome_guard, exists_and_right, exists_and_and,
    code?_known, flag?_known, readOwner_known, ref?_known, readForcing_known, readSync_joined_known]
  simp only [imgByte, timerModes, List.length_cons, List.length_nil, not_or, and_assoc, Nat.zero_add, Nat.reduceAdd,
    ne_eq]
  iterate 12 refine and_congr Iff.rfl ?_
  exact ⟨fun ⟨stop, kind, joined, sync, odd⟩ => ⟨kind, sync, stop, joined, odd⟩,
    fun ⟨kind, sync, stop, joined, odd⟩ => ⟨stop, kind, joined, sync, odd⟩⟩

/-! ## The images of each table -/

theorem assignable?_known {b : Byte} : (∃ c, assignable? b = some c) ↔ ¬ (b.toNat < 16 ∨ 64 ≤ b.toNat) := by
  unfold assignable?
  cases at_ : fin? 64 b with
  | none => simp [(fin?_eq_none_iff b).mp at_]
  | some c =>
    have is := (fin?_eq_some_iff b c).mp at_
    have small := c.isLt
    by_cases low : 16 ≤ c.val
    · simp [low]; omega
    · simp [low]; omega

theorem readSwitch_known {b : Byte} :
    (∃ c, readSwitch b = some c) ↔ ¬ ((b.toNat < 16 ∨ 64 ≤ b.toNat) ∧ b.toNat ≠ 255) := by
  have none_iff : b = 0xFF ↔ b.toNat = 255 := byte_ne_iff 255 (by decide)
  unfold readSwitch
  simp only [none_iff]
  by_cases none_ : b.toNat = 255
  · simp [none_]
  · rw [if_neg none_]
    simp only [isSome_iff_exists, Option.isSome_map]
    rw [← isSome_iff_exists, assignable?_known]
    simp [none_]

theorem readSource_known {b : Byte} : (∃ c, readSource b = some c) ↔ ¬ 127 ≤ b.toNat := by
  have zero_iff : b = 0 ↔ b.toNat = 0 := byte_ne_iff 0 (by decide)
  unfold readSource
  simp only [zero_iff]
  by_cases zero : b.toNat = 0
  · simp [zero]
  · simp only [zero, if_false, isSome_iff_exists, isSome_guard]
    omega

theorem isSome_map_known {α β : Type} {o : Option α} {f : α → β} : (o.map f).isSome = true ↔ ∃ a, o = some a := by
  cases o <;> simp

theorem word_eq_zero_iff {img : List Byte} {k : Nat} :
    imgWord img k = 0 ↔ (imgByte img k).toNat = 0 ∧ (imgByte img (k + 1)).toNat = 0 := by
  unfold imgWord
  rw [← BitVec.toNat_inj, BitVec.toNat_append]
  simp [Nat.shiftLeft_eq]

theorem readAction_known {code a c : Byte} {img : List Byte} {k : Nat} :
    (∃ x, readAction code a (imgWord img k) c = some x) ↔ ¬ (8 ≤ code.toNat
      ∨ ((code.toNat = 0 ∨ code.toNat = 1) ∧ (a.toNat < 16 ∨ 64 ≤ a.toNat))
      ∨ (code.toNat = 2 ∧ (4 ≤ a.toNat ∨ 8 ≤ c.toNat))
      ∨ ((code.toNat = 3 ∨ code.toNat = 4) ∧ a.toNat = 0) ∨ (code.toNat = 3 ∧ 2 ≤ c.toNat)
      ∨ (code.toNat = 5 ∧ (32 ≤ a.toNat ∨ 2 ≤ c.toNat
        ∨ (c.toNat = 1 ∧ (imgByte img k).toNat = 0 ∧ (imgByte img (k + 1)).toNat = 0)))
      ∨ (code.toNat = 7 ∧ 32 ≤ a.toNat)) := by
  have zero_iff : a = 0 ↔ a.toNat = 0 := byte_ne_iff 0 (by decide)
  have queued (t : Fin 32) : (∃ present, flag? c = some present ∧ (if present = true then
        (if imgWord img k = 0 then none else some (Action.queueCall t (some (imgWord img k))))
        else some (Action.queueCall t none)).isSome = true) ↔
      ¬ (2 ≤ c.toNat ∨ (c.toNat = 1 ∧ (imgByte img k).toNat = 0 ∧ (imgByte img (k + 1)).toNat = 0)) := by
    simp only [flag?_eq_some_iff, Bool.exists_bool, word_eq_zero_iff]
    by_cases word : (imgByte img k).toNat = 0 ∧ (imgByte img (k + 1)).toNat = 0
    · simp [word]; omega
    · simp [word]; omega
  unfold readAction
  rw [isSome_iff_exists]
  generalize code.toNat = n
  match n with
  | 0 | 1 => simp only [isSome_map_known, assignable?_known]; simp
  | 2 => simp [isSome_bind, fin?_known]
  | 3 =>
    simp only [zero_iff]
    by_cases zero : a.toNat = 0
    · simp [zero]
    · rw [if_neg zero, isSome_map_known, flag?_known]
      simp [zero]
  | 4 =>
    simp only [zero_iff]
    by_cases zero : a.toNat = 0 <;> simp [zero]
  | 5 =>
    simp only [Option.bind_eq_bind, isSome_bind, Option.pure_def, queued, exists_and_right, fin?_known]
    simp
  | 6 => simp
  | 7 => simp only [isSome_map_known, fin?_known]; simp
  | n + 8 => simp

theorem readSide_known {i : Nat} {img : List Byte} :
    (∃ e, readSide img = some e) ↔ ¬ TableId.sides.badCodes i img := by
  rw [isSome_iff_exists]
  unfold readSide TableId.badCodes
  simp only [Option.bind_eq_bind, isSome_bind, Option.pure_def, Option.isSome_some, and_true, exists_and_right,
    code?_known, flag?_known]
  simp [imgByte]

theorem readEntry_known {i : Nat} {img : List Byte} :
    (∃ e, readEntry img = some e) ↔ ¬ TableId.entries.badCodes i img := by
  have zero_iff : imgByte img 7 = 0 ↔ (imgByte img 7).toNat = 0 := byte_ne_iff 0 (by decide)
  have masked {x : Entry} : (if imgByte img 7 ≠ 0 ∧ 47 < (imgByte img 6).toNat then none else some x).isSome = true ↔
      ¬ (48 ≤ (imgByte img 6).toNat ∧ (imgByte img 7).toNat ≠ 0) := by
    simp only [ne_eq, zero_iff]
    by_cases out : ¬ (imgByte img 7).toNat = 0 ∧ 47 < (imgByte img 6).toNat
    · simp [out]; omega
    · simp [out]; omega
  rw [isSome_iff_exists]
  unfold readEntry TableId.badCodes
  simp only [Option.bind_eq_bind, isSome_bind, Option.pure_def, masked, exists_and_right,
    code?_known, flag?_known, readSource_known, readAction_known]
  simp only [imgByte, List.length_cons, List.length_nil, not_or, and_assoc, Nat.reduceAdd]
  exact ⟨fun ⟨valid, source, port, known, cond, plan, group, imm, call, hold, stop, mask⟩ =>
      ⟨valid, source, port, mask, known, stop, cond, plan, group, imm, call, hold⟩,
    fun ⟨valid, source, port, mask, known, stop, cond, plan, group, imm, call, hold⟩ =>
      ⟨valid, source, port, known, cond, plan, group, imm, call, hold, stop, mask⟩⟩

theorem readCond_known {i : Nat} {img : List Byte} :
    (∃ e, readCond img = some e) ↔ ¬ TableId.conds.badCodes i img := by
  rw [isSome_iff_exists]
  unfold readCond TableId.badCodes imgByte
  dsimp only
  generalize (img.getD 1 0).toNat = n
  match n with
  | 0 | 6 => simp
  | 1 | 2 | 3 | 5 => simp only [isSome_map_known, fin?_known]; simp
  | 4 =>
    simp only [Option.bind_eq_bind, isSome_bind, Option.pure_def, Option.isSome_some, and_true, exists_and_right,
      fin?_known]
    simp
  | n + 7 => simp

theorem readLiterals_known {img : List Byte} (n k : Nat) :
    (∃ l, readLiterals img n k = some l) ↔
      ∀ j < n, ¬ (64 ≤ (imgByte img (k + 2 * j)).toNat ∨ 2 ≤ (imgByte img (k + 1 + 2 * j)).toNat) := by
  induction n generalizing k with
  | zero => simp [readLiterals]
  | succ n ih =>
    have here (j : Nat) : k + 2 * (j + 1) = k + 2 + 2 * j := by omega
    have next (j : Nat) : k + 1 + 2 * (j + 1) = k + 2 + 1 + 2 * j := by omega
    rw [isSome_iff_exists, Nat.forall_lt_succ_left, readLiterals]
    simp only [Option.bind_eq_bind, isSome_bind, Option.pure_def, Option.isSome_some, and_true, exists_and_right,
      fin?_known, flag?_known, ih, not_or, and_assoc, here, next, Nat.mul_zero, Nat.add_zero]

theorem readTerm_known {i : Nat} {img : List Byte} :
    (∃ e, readTerm img = some e) ↔ ¬ TableId.terms.badCodes i img := by
  rw [isSome_iff_exists, readTerm, isSome_map_known, readLiterals_known]
  simp only [TableId.badCodes, imgByte, not_exists, not_and, Nat.reduceAdd]

theorem readSensor_known {i : Nat} {img : List Byte} :
    (∃ e, readSensor img = some e) ↔ ¬ TableId.sensors.badCodes i img := by
  rw [isSome_iff_exists]
  unfold readSensor TableId.badCodes
  simp only [Option.bind_eq_bind, isSome_bind, Option.pure_def, Option.isSome_some, and_true, exists_and_right,
    code?_known, flag?_known]
  simp [imgByte]

theorem mapM_known {α β : Type} {f : α → Option β} (l : List α) :
    (∃ bs, l.mapM f = some bs) ↔ ∀ a ∈ l, ∃ b, f a = some b := by
  induction l with
  | nil => simp
  | cons a l ih =>
    rw [isSome_iff_exists, List.mapM_cons]
    simp only [Option.bind_eq_bind, isSome_bind, Option.pure_def, Option.isSome_some, and_true, exists_and_right, ih]
    simp

theorem readList_known {i : Nat} {img : List Byte} :
    (∃ e, readList img = some e) ↔ ¬ TableId.list.badCodes i img := by
  rw [isSome_iff_exists, readList, isSome_map_known, mapM_known]
  simp only [fin?_known, TableId.badCodes, imgByte, not_exists, not_and]
  constructor
  · intro h k small
    by_cases there : 1 + k < img.length
    · rw [List.getD_eq_getElem _ _ there]
      refine h _ (List.mem_take_iff_getElem.mpr ⟨k, ?_, ?_⟩)
      · rw [List.length_tail]
        omega
      simp [Nat.add_comm]
    · rw [List.getD_eq_default _ _ (by omega)]
      simp
  · intro h b mem
    obtain ⟨k, small, rfl⟩ := List.mem_take_iff_getElem.mp mem
    have there : 1 + k < img.length := by
      rw [List.length_tail] at small
      omega
    have is := h k (by omega)
    rw [List.getD_eq_getElem _ _ there] at is
    simpa [Nat.add_comm] using is

theorem readSettings_known {i : Nat} {img : List Byte} :
    (∃ e, readSettings img = some e) ↔ ¬ TableId.settings.badCodes i img := by
  rw [isSome_iff_exists]
  unfold readSettings TableId.badCodes
  simp only [Option.bind_eq_bind, isSome_bind, Option.pure_def, Option.isSome_some, and_true, exists_and_right,
    code?_known, flag?_known]
  simp [imgByte]

theorem readThreshold_known {i : Nat} {old : Threshold} {img : List Byte} :
    (∃ e, readThreshold old img = some e) ↔ ¬ TableId.thresholds.badCodes i img := by
  rw [isSome_iff_exists]
  unfold readThreshold TableId.badCodes
  simp only [Option.bind_eq_bind, isSome_bind, Option.pure_def, Option.isSome_some, and_true, exists_and_right,
    code?_known, fin?_known]
  simp [imgByte]

theorem readRamp_known {i : Nat} {img : List Byte} :
    (∃ e, readRamp img = some e) ↔ ¬ TableId.ramps.badCodes i img := by
  rw [isSome_iff_exists]
  unfold readRamp TableId.badCodes
  simp only [Option.bind_eq_bind, isSome_bind, Option.pure_def, Option.isSome_some, and_true, exists_and_right,
    ref?_known, imgByte, not_or]

theorem readPlan_known {i : Nat} {img : List Byte} :
    (∃ e, readPlan img = some e) ↔ ¬ TableId.plans.badCodes i img := by
  rw [isSome_iff_exists]
  unfold readPlan TableId.badCodes
  simp only [Option.bind_eq_bind, isSome_bind, Option.pure_def, Option.isSome_some, and_true, exists_and_right,
    fin?_known, imgByte, not_or]

theorem readStageKind_known {img : List Byte} : (∃ k, readStageKind img = some k) ↔
    ¬ (5 ≤ (imgByte img 0).toNat ∨ ((imgByte img 0).toNat = 1 ∧ (3 ≤ (imgByte img 6).toNat ∨ 2 ≤ (imgByte img 7).toNat
        ∨ 3 ≤ (imgByte img 8).toNat ∨ 2 ≤ (imgByte img 9).toNat))
      ∨ (((imgByte img 0).toNat = 2 ∨ (imgByte img 0).toNat = 4) ∧ 32 ≤ (imgByte img 6).toNat)) := by
  rw [isSome_iff_exists]
  unfold readStageKind readRole
  generalize (imgByte img 0).toNat = n
  match n with
  | 0 | 3 => simp
  | 1 =>
    simp only [Option.bind_eq_bind, isSome_bind, Option.pure_def, Option.isSome_some, and_true, exists_and_right,
      code?_known, flag?_known]
    simp
  | 2 | 4 => simp only [isSome_map_known, fin?_known]; simp
  | n + 5 => simp

theorem readStage_known {i : Nat} {img : List Byte} :
    (∃ e, readStage img = some e) ↔ ¬ TableId.stages.badCodes i img := by
  rw [isSome_iff_exists]
  unfold readStage TableId.badCodes
  simp only [Option.bind_eq_bind, isSome_bind, Option.pure_def, Option.isSome_some, and_true, exists_and_right,
    fin?_known, flag?_known, readStageKind_known, imgByte, not_or, and_assoc]
  exact ⟨fun ⟨kind, set, wait, permit, bridge⟩ => ⟨kind, permit, bridge, set, wait⟩,
    fun ⟨kind, permit, bridge, set, wait⟩ => ⟨kind, set, wait, permit, bridge⟩⟩

theorem readDoor_known {i : Nat} {img : List Byte} :
    (∃ e, readDoor img = some e) ↔ ¬ TableId.doors.badCodes i img := by
  rw [isSome_iff_exists]
  unfold readDoor TableId.badCodes
  simp only [Option.bind_eq_bind, isSome_bind, Option.pure_def, Option.isSome_some, and_true, exists_and_right,
    ref?_known, readSwitch_known, imgByte, not_or]

theorem readGroup_known {i : Nat} {img : List Byte} :
    (∃ e, readGroup img = some e) ↔ ¬ TableId.groups.badCodes i img := by
  rw [isSome_iff_exists]
  unfold readGroup TableId.badCodes
  simp only [Option.bind_eq_bind, isSome_bind, Option.pure_def, Option.isSome_some, and_true, exists_and_right,
    ref?_known, imgByte, not_or]

/-- A template with an allow-term and no zones cannot be read (R160). -/
theorem isSome_of_zones {α : Type} {n k : Nat} {b : Byte} {img : List Byte} {x : Option (Fin n) → α} :
    (∃ allow, ref? n b = some allow
      ∧ (if imgWord img k = 0 ∧ allow.isSome = true then none else some (x allow)).isSome = true) ↔
    ¬ ((n ≤ b.toNat ∧ b.toNat ≠ 255)
      ∨ (b.toNat ≠ 255 ∧ (imgByte img k).toNat = 0 ∧ (imgByte img (k + 1)).toNat = 0)) := by
  have none_iff : b = 0xFF ↔ b.toNat = 255 := byte_ne_iff 255 (by decide)
  unfold ref?
  simp only [none_iff, word_eq_zero_iff]
  by_cases none_ : b.toNat = 255
  · simp [none_]
  · cases at_ : fin? n b with
    | none => simp [none_, (fin?_eq_none_iff b).mp at_]
    | some r =>
      have is := (fin?_eq_some_iff b r).mp at_
      have small : ¬ n ≤ b.toNat := by have := r.isLt; omega
      by_cases zones : (imgByte img k).toNat = 0 ∧ (imgByte img (k + 1)).toNat = 0
      · simp [none_, zones]
      · simp [none_, zones, small]

theorem readTemplate_known {i : Nat} {img : List Byte} :
    (∃ e, readTemplate img = some e) ↔ ¬ TableId.templates.badCodes i img := by
  rw [isSome_iff_exists]
  unfold readTemplate TableId.badCodes
  simp only [Option.bind_eq_bind, isSome_bind, Option.pure_def]
  rw [isSome_of_zones]
  rfl

theorem readZone_known {i : Nat} {img : List Byte} :
    (∃ e, readZone img = some e) ↔ ¬ TableId.zones.badCodes i img := by
  rw [isSome_iff_exists, readZone, isSome_map_known, ref?_known]
  rfl

theorem readPa_known {i : Nat} {img : List Byte} :
    (∃ e, readPa img = some e) ↔ ¬ TableId.pa.badCodes i img := by
  rw [isSome_iff_exists, readPa, isSome_guard]
  show _ ↔ ¬ 127 ≤ (imgByte img 0).toNat
  omega

/-- An image of a table's entry can be read exactly where it holds no bad code (R182). -/
theorem State.parseEntry_known {t : TableId} {i : Nat} (there : t.inRange i = true) (img : List Byte) :
    (∃ e, s.parseEntry t i img = some e) ↔ ¬ t.badCodes i img := by
  simp only [TableId.inRange, Bool.and_eq_true, decide_eq_true_eq] at there
  obtain ⟨low, high⟩ := there
  cases t with
  | directory | slots | notices => simp [State.parseEntry, TableId.badCodes]
  | line => simp [State.parseEntry, TableId.badCodes, readLine]
  | sides => exact readSide_known
  | entries => exact readEntry_known
  | conds => exact readCond_known
  | terms => exact readTerm_known
  | sensors => exact readSensor_known
  | list => exact readList_known
  | settings => exact readSettings_known
  | thresholds =>
    have small : i < 48 := high
    simp only [State.parseEntry, dif_pos small]
    exact readThreshold_known
  | channels =>
    have small : i < 16 := high
    simp only [State.parseEntry, dif_pos small]
    exact readChannel_known (ch := ⟨i, small⟩)
  | ramps => exact readRamp_known
  | plans => exact readPlan_known
  | stages => exact readStage_known
  | doors => exact readDoor_known
  | groups => exact readGroup_known
  | templates => exact readTemplate_known
  | zones => exact readZone_known
  | pa => exact readPa_known

end Sys2Proof.Machine
end

section
/-! PROOFS. OUT: what a channel does at a write of its entry, once its timer has acted (R82, R88, R89, R95). -/

namespace Sys2Proof.Machine
variable {s t : State} {ch m : Fin 16}

/-! ## A recomputation that has nothing left to do (R82) -/

/-- What conduction depends on, but for the forcing status, is in the record without its switch. -/
theorem State.conducts_congr (unjudged : ∀ m, (t.chans.row m).unjudged = (s.chans.row m).unjudged)
    (status : (t.chans.row ch).status = (s.chans.row ch).status) (board : t.board = s.board) :
    t.conducts ch = s.conducts ch ∧ effectiveLevel t.chans ch = effectiveLevel s.chans ch := by
  have set : Chans.sameSet s.chans t.chans := fun m => Channel.set_of_unjudged (unjudged m)
  have out : (t.chans.row ch).timerOut = (s.chans.row ch).timerOut :=
    (congrArg Channel.timerOut (unjudged ch) : (t.chans.row ch).unjudged.timerOut = _)
  have level : effectiveLevel t.chans ch = effectiveLevel s.chans ch := by
    simp only [effectiveLevel, timedLevel, status, Channel.requestedOf_unjudged (unjudged ch), out, set ch,
      actingMode_congr set]
    congr
  have gate : t.gateOpen = s.gateOpen := by
    funext g; simp only [State.gateOpen, State.cond, board]
  refine ⟨?_, level⟩
  simp only [State.conducts, level, gate, set ch, Channel.cutOff, Channel.restart_of_unjudged (unjudged ch)]

theorem State.setChan_self (s : State) (ch : Fin 16) : s.setChan ch (s.chans.row ch) = s := by
  show { s with chans := s.chans.put ch (s.chans.row ch) } = s
  rw [Tbl.put_row]

/-- A recomputation changes nothing where switch and pin are as the channel's inputs call for. -/
theorem State.conduct_fixed_iff : s.conduct ch = s ↔ (s.chans.row ch).conducting = s.conducts ch
    ∧ (s.chans.row ch).pin = pinDrive (s.chans.row ch).set.config (s.conducts ch) (effectiveLevel s.chans ch) := by
  constructor
  · intro fixed
    have chan := s.conduct_chan ch
    rw [fixed] at chan
    exact chan
  · intro ⟨on, pin⟩
    rw [s.conduct_of_same on, ← pin]
    exact s.setChan_self ch

theorem State.conduct_conduct (s : State) (ch : Fin 16) : (s.conduct ch).conduct ch = s.conduct ch := by
  obtain ⟨conducts, level⟩ := State.conducts_congr (ch := ch) (s.conduct_unjudged ch) (s.conduct_status ch ch)
    (s.conduct_board ch)
  refine State.conduct_fixed_iff.mpr ⟨s.conduct_conducting ch, ?_⟩
  rw [(s.conduct_chan ch).2, conducts, level, s.conduct_set]

/-- A recomputation of another channel leaves this one's as it is. -/
theorem State.conduct_fixed_conduct (fixed : s.conduct ch = s) (m : Fin 16) :
    (s.conduct m).conduct ch = s.conduct m := by
  by_cases e : m = ch
  · rw [e, fixed, fixed]
  · obtain ⟨conducts, level⟩ := State.conducts_congr (ch := ch) (s.conduct_unjudged m) (s.conduct_status m ch)
      (s.conduct_board m)
    rw [State.conduct_fixed_iff, conducts, level, s.conduct_chan_ne e]
    exact State.conduct_fixed_iff.mp fixed

/-! ## The switch of a channel whose conduction is recomputed (R82, R92) -/

/-- The supervision of a switch that moves is QUIET; of one that stands it stands. -/
structure Channel.Switches (c y : Channel) : Prop where
  moved : y.conducting ≠ c.conducting → y.supervision = none ∧ y.current = 0
  still : y.conducting = c.conducting → y.supervision = c.supervision ∧ y.current = c.current

theorem Channel.Switches.refl (c : Channel) : c.Switches c := ⟨fun ne => absurd rfl ne, fun _ => ⟨rfl, rfl⟩⟩

theorem State.conduct_switches (s : State) (ch : Fin 16) : (s.chans.row ch).Switches ((s.conduct ch).chans.row ch) := by
  by_cases same : (s.chans.row ch).conducting = s.conducts ch
  · rw [s.conduct_of_same same, State.setChan_row]
    exact ⟨fun ne => absurd rfl ne, fun _ => ⟨rfl, rfl⟩⟩
  · rw [s.conduct_of_changed same, State.setChan_row]
    exact ⟨fun _ => ⟨rfl, rfl⟩, fun e => absurd e.symm same⟩

/-- After a judging and a recomputation the switch has moved from where it stood before the judging. -/
theorem State.judged_switches (s : State) (ch : Fin 16) :
    (s.chans.row ch).Switches (((s.judgeForcing ch).conduct ch).chans.row ch) := by
  by_cases h : (s.forcingActive (s.chans.row ch).set.forcing = true ∧ (s.chans.row ch).status = .engaged)
      ∨ (s.forcingActive (s.chans.row ch).set.forcing = false
        ∧ ¬ ((s.chans.row ch).status = .engaged ∧ (s.chans.row ch).set.latched = false))
  · rw [State.judgeForcing_stands h]
    exact s.conduct_switches ch
  · obtain ⟨u, is, hu⟩ := State.judgeForcing_moved h
    have row : u.chans.row ch = { s.chans.row ch with status := s.judgedStatus ch } := by
      rw [hu]
      exact s.setStatus_row ch _
    have switches := u.conduct_switches ch
    rw [is, State.conduct_conduct]
    rw [row] at switches
    exact ⟨switches.moved, switches.still⟩

/-! ## A new limit class (R95) -/

/-- The supervision that a comparison of the current with the limit class leaves. -/
def State.compared (s : State) (ch : Fin 16) : Option Nat :=
  if (s.chans.row ch).conducting = false then (s.chans.row ch).supervision
  else if (s.chans.row ch).set.limit.milliamps < (s.chans.row ch).current then
    (if (s.chans.row ch).supervision = none then some (s.clock + (s.chans.row ch).set.cutDelay.micros)
      else (s.chans.row ch).supervision)
  else none

theorem State.supervise_eq (s : State) (ch : Fin 16) :
    s.supervise ch = s.setChan ch { s.chans.row ch with supervision := s.compared ch } := by
  have stands (h : s.compared ch = (s.chans.row ch).supervision) :
      s = s.setChan ch { s.chans.row ch with supervision := s.compared ch } := by
    rw [h]
    exact (s.setChan_self ch).symm
  unfold State.supervise
  dsimp only
  by_cases off : (s.chans.row ch).conducting = false
  · rw [if_pos off]
    exact stands (if_pos off)
  · rw [if_neg off]
    cases timing : (s.chans.row ch).supervision with
    | none =>
      by_cases above : (s.chans.row ch).set.limit.milliamps < (s.chans.row ch).current
      · simp [State.compared, off, timing, above]
      · rw [if_neg above]
        exact stands (by simp [State.compared, off, timing, above])
    | some due =>
      by_cases above : (s.chans.row ch).set.limit.milliamps < (s.chans.row ch).current
      · dsimp only
        rw [if_neg (Nat.not_le.mpr above)]
        exact stands (by simp [State.compared, off, timing, above])
      · dsimp only
        rw [if_pos (Nat.le_of_not_lt above)]
        simp [State.compared, off, above]

theorem State.supervise_unjudged (s : State) (ch m : Fin 16) :
    ((s.supervise ch).chans.row m).unjudged = (s.chans.row m).unjudged
    ∧ ((s.supervise ch).chans.row m).status = (s.chans.row m).status
    ∧ ((s.supervise ch).chans.row m).conducting = (s.chans.row m).conducting
    ∧ ((s.supervise ch).chans.row m).pin = (s.chans.row m).pin := by
  rw [s.supervise_eq, State.setChan_chans, Tbl.row_put]
  split
  · rename_i e; subst e; exact ⟨rfl, rfl, rfl, rfl⟩
  · exact ⟨rfl, rfl, rfl, rfl⟩

theorem State.conduct_fixed_supervise (fixed : s.conduct m = s) (ch : Fin 16) :
    (s.supervise ch).conduct m = s.supervise ch := by
  obtain ⟨unjudged, status, on, pin⟩ := s.supervise_unjudged ch m
  obtain ⟨conducts, level⟩ := State.conducts_congr (ch := m) (fun c => (s.supervise_unjudged ch c).1) status
    (by rw [s.supervise_eq]; rfl)
  rw [State.conduct_fixed_iff, conducts, level, on, pin, Channel.set_of_unjudged unjudged]
  exact State.conduct_fixed_iff.mp fixed

/-! ## The channel at the write (R82, R88, R89, R92, R95) -/

/-- What a channel does once its settings are stored and its timer has acted: it is judged where `judges`, and its
current compared where `limits`. -/
def State.acted (s : State) (ch : Fin 16) (judges limits : Bool) : State :=
  let s := (if judges then s.judgeForcing ch else s).conductAll [ch, partner ch]
  if limits then s.supervise ch else s

/-- What it leaves. -/
structure State.Acted (s u : State) (ch : Fin 16) (judges limits : Bool) : Prop where
  frame : u = { s with chans := u.chans, handed := u.handed }
  unjudged : ∀ m, (u.chans.row m).unjudged = (s.chans.row m).unjudged
  status : (u.chans.row ch).status = if judges then s.judgedStatus ch else (s.chans.row ch).status
  handed : u.handed = s.handed ++ if judges then s.judgedEvents ch else []
  fixed : u.conduct ch = u ∧ u.conduct (partner ch) = u
  others : ∀ m, m ≠ ch → m ≠ partner ch → u.chans.row m = s.chans.row m
  partnerStatus : (u.chans.row (partner ch)).status = (s.chans.row (partner ch)).status
  partnerSwitches : (s.chans.row (partner ch)).Switches (u.chans.row (partner ch))
  moved : (u.chans.row ch).conducting ≠ (s.chans.row ch).conducting → (u.chans.row ch).supervision = none
  still : (u.chans.row ch).conducting = (s.chans.row ch).conducting →
    (u.chans.row ch).current = (s.chans.row ch).current
    ∧ (u.chans.row ch).supervision = if limits then s.compared ch else (s.chans.row ch).supervision

theorem State.acted_acts (s : State) (ch : Fin 16) (judges limits : Bool) :
    s.Acted (s.acted ch judges limits) ch judges limits := by
  have judged : ∃ j, j = (if judges then s.judgeForcing ch else s)
      ∧ s.movesChan ch j
      ∧ (j.chans.row ch).status = (if judges then s.judgedStatus ch else (s.chans.row ch).status)
      ∧ j.handed = s.handed ++ (if judges then s.judgedEvents ch else [])
      ∧ (∀ m, (j.chans.row m).unjudged = (s.chans.row m).unjudged)
      ∧ (s.chans.row ch).Switches ((j.conduct ch).chans.row ch) := by
    refine ⟨_, rfl, ?_⟩
    cases judges with
    | false => exact ⟨.refl s ch, rfl, (List.append_nil _).symm, fun _ => rfl, s.conduct_switches ch⟩
    | true =>
      have j := s.judgeForcing_judged ch
      exact ⟨j.moves, j.status, j.handed, j.unjudged, s.judged_switches ch⟩
  obtain ⟨j, is, moves, status, handed, unjudged, switches⟩ := judged
  obtain ⟨w, hw⟩ : ∃ w, w = (j.conduct ch).conduct (partner ch) := ⟨_, rfl⟩
  have own : w.chans.row ch = (j.conduct ch).chans.row ch := by rw [hw]; exact State.conduct_chan_ne _ (partner_ne ch)
  have other : (j.conduct ch).chans.row (partner ch) = s.chans.row (partner ch) :=
    (State.conduct_chan_ne _ (partner_ne ch).symm).trans (moves.others _ (partner_ne ch))
  have fixed : w.conduct ch = w := by rw [hw]; exact State.conduct_fixed_conduct (j.conduct_conduct ch) _
  have fixed' : w.conduct (partner ch) = w := by rw [hw]; exact State.conduct_conduct _ _
  have frame : w = { s with chans := w.chans, handed := w.handed } := by
    rw [hw, State.conduct_frame, State.conduct_frame, moves.frame]
    rfl
  have partner_ : (s.chans.row (partner ch)).Switches (w.chans.row (partner ch)) := by
    have := (j.conduct ch).conduct_switches (partner ch)
    rw [other] at this
    rwa [hw]
  have bare (m : Fin 16) : (w.chans.row m).unjudged = (s.chans.row m).unjudged := by
    rw [hw, State.conduct_unjudged, State.conduct_unjudged, unjudged]
  have acted : s.acted ch judges limits = if limits then w.supervise ch else w := by
    rw [hw, is]
    rfl
  have stands : (w.chans.row ch).status = (if judges then s.judgedStatus ch else (s.chans.row ch).status)
      ∧ (w.chans.row (partner ch)).status = (s.chans.row (partner ch)).status
      ∧ w.handed = s.handed ++ (if judges then s.judgedEvents ch else []) := by
    simp only [hw, State.conduct_status, State.conduct_handed]
    exact ⟨status, by rw [moves.others _ (partner_ne ch)], handed⟩
  have others (m : Fin 16) (ne : m ≠ ch) (ne' : m ≠ partner ch) : w.chans.row m = s.chans.row m := by
    rw [hw, State.conduct_chan_ne _ ne'.symm, State.conduct_chan_ne _ ne.symm, moves.others m ne]
  rw [← own] at switches
  obtain ⟨status, partnerStatus, handed⟩ := stands
  cases limits with
  | false =>
    rw [acted]
    exact ⟨frame, bare, status, handed, ⟨fixed, fixed'⟩, others, partnerStatus, partner_,
      fun ne => (switches.moved ne).1, fun e => (switches.still e).symm⟩
  | true =>
    have sup := w.supervise_unjudged ch
    have row : (w.supervise ch).chans.row ch = { w.chans.row ch with supervision := w.compared ch } := by
      rw [State.supervise_eq]
      exact State.setChan_row ..
    have row' {m : Fin 16} (ne : m ≠ ch) : (w.supervise ch).chans.row m = w.chans.row m := by
      rw [State.supervise_eq]
      exact Tbl.row_put_ne _ _ ne.symm
    rw [acted, if_pos rfl]
    refine ⟨?_, fun m => (sup m).1.trans (bare m), (sup ch).2.1.trans status, ?_,
      ⟨State.conduct_fixed_supervise fixed ch, State.conduct_fixed_supervise fixed' ch⟩,
      fun m ne ne' => (row' ne).trans (others m ne ne'), ?_, ?_, ?_, ?_⟩
    · rw [State.supervise_eq, frame]
      rfl
    · rw [State.supervise_eq]
      exact handed
    · rw [row' (partner_ne ch), partnerStatus]
    · rw [row' (partner_ne ch)]
      exact partner_
    · rw [row]
      intro ne
      obtain ⟨quiet, none_⟩ := switches.moved ne
      show w.compared ch = none
      unfold State.compared
      rw [quiet, none_, if_neg (Nat.not_lt_zero _)]
      exact ite_self _
    · rw [row]
      intro e
      obtain ⟨sup, current⟩ := switches.still e
      refine ⟨current, ?_⟩
      show w.compared ch = s.compared ch
      have set := Channel.set_of_unjudged (bare ch)
      have clock : w.clock = s.clock := by rw [frame]
      have on : (w.chans.row ch).conducting = (s.chans.row ch).conducting := e
      unfold State.compared
      rw [on, sup, current, set, clock]

/-- A channel entry's write: the level, the timer, then the channel (R78, R91, R95). -/
theorem State.channelWritten_eq (old : Chans) (ch : Fin 16) (s : State) : s.channelWritten old ch =
    let levels := if (old.row ch).set.owner = (s.chans.row ch).set.owner then s
      else s.setChan ch { s.chans.row ch with requested := false }
    (levels.setChans (timerWritten old levels.chans ch)).acted ch
      (!decide ((old.row ch).set.forcing = (s.chans.row ch).set.forcing
        ∧ (old.row ch).set.forced = (s.chans.row ch).set.forced
        ∧ (old.row ch).set.latched = (s.chans.row ch).set.latched))
      (!decide ((old.row ch).set.limit = (s.chans.row ch).set.limit)) := by
  unfold State.channelWritten State.acted
  dsimp only
  generalize (if (old.row ch).set.owner = (s.chans.row ch).set.owner then s
      else s.setChan ch { s.chans.row ch with requested := false }) = levels
  by_cases judged : (old.row ch).set.forcing = (s.chans.row ch).set.forcing
        ∧ (old.row ch).set.forced = (s.chans.row ch).set.forced
        ∧ (old.row ch).set.latched = (s.chans.row ch).set.latched
  · by_cases limit : (old.row ch).set.limit = (s.chans.row ch).set.limit <;> simp [judged, limit]
  · by_cases limit : (old.row ch).set.limit = (s.chans.row ch).set.limit <;> simp only [judged, limit] <;> simp

end Sys2Proof.Machine
end

section
/-! PROOFS. OUT: what a taken channel entry write does to the timers (R99 to R104, R107, R110, R111). -/

namespace Sys2Proof.Machine
variable {old cs new : Chans} {h ch m : Fin 16}

/-! ## The timers of the pair, from the table before the write to the one after it -/

/-- The channel's own record takes its settings, and its level where its owner changes; no field of a timer moves. -/
def Chans.stores (old cs : Chans) : Prop := ∀ m,
  (cs.row m).count = (old.row m).count ∧ (cs.row m).running = (old.row m).running
  ∧ (cs.row m).phase = (old.row m).phase ∧ (cs.row m).aInForce = (old.row m).aInForce
  ∧ (cs.row m).timerOut = (old.row m).timerOut

/-- What a write of channel `ch` does to the timer of head `h`, from the table before it to the one after it: as the
obligation GateAndForcingActAtAChange states it. -/
def Chans.timerActs (old new : Chans) (ch h : Fin 16) : Prop :=
  let mode := (new.row h).set.mode
  let hasPeriod := ∀ m ∈ members new h, (new.row m).set.period ≠ 0
  let held := (∃ c, (new.row h).set.sync = .trigger c) ∧ (new.row h).running = false
  let still := mode = .steady ∨ ¬ hasPeriod ∨ held
  let joinedAnew := ch.val % 2 = 0 ∧ (new.row ch).set.joined ≠ (old.row ch).set.joined
  let entered := h = ch ∧ ((new.row ch).set.mode ≠ (old.row ch).set.mode ∨ (new.row ch).set.mode = .pulseOnce)
  let stopped := h = ch ∧ (new.row ch).set.sync ≠ (old.row ch).set.sync ∧ ∃ c, (new.row ch).set.sync = .trigger c
  let taken (m : Fin 16) := mode = .pwm ∧ (¬ hasPeriod
    ∨ (joinedAnew ∧ actingMode old m ≠ .pwm)
    ∨ (¬ joinedAnew ∧ h = ch ∧ (new.row ch).set.mode ≠ (old.row ch).set.mode))
  (∀ m ∈ members new h,
    (taken m → (new.row m).aInForce = (new.row m).set.cmpA)
    ∧ (¬ taken m → (new.row m).aInForce = (old.row m).aInForce)
    ∧ (mode = .steady → (new.row m).timerOut = (new.row m).requested)
    ∧ (mode = .pwm → ((new.row m).timerOut = true ↔ hasPeriod ∧ ¬ held
      ∧ (∃ m' ∈ members new h, (new.row m').aInForce ≠ 0)
      ∧ ((new.row h).set.period ≤ (new.row h).aInForce ∨ (new.row h).count < (new.row h).aInForce
        ∨ (paired new h = true ∧ (new.row h).count = (new.row h).aInForce
          ∧ (new.row (partner h)).count < (new.row (partner h)).aInForce)))))
  ∧ (¬ joinedAnew → (new.row h).running = (if stopped then false else (old.row h).running)
    ∧ ∀ m ∈ members new h,
      (still → (new.row m).count = 0) ∧ (¬ still → (new.row m).count = (old.row m).count)
      ∧ (new.row m).phase = (if entered ∧ (mode = .pulseOnce ∨ mode = .pulseRepeat) then .waitA
          else (old.row m).phase)
      ∧ (mode ≠ .steady → mode ≠ .pwm → (new.row m).timerOut =
          if entered then decide (mode = .clearAtA) else (old.row m).timerOut))
  ∧ (joinedAnew → ∀ m ∈ members new h,
    (new.row m).count = 0 ∧ (new.row m).phase = .waitA ∧ (new.row m).running = false
    ∧ (mode ≠ .steady → mode ≠ .pwm → (new.row m).timerOut = decide (mode = .clearAtA)))

/-- A write that does not change the cascade leaves the other timer of the pair. -/
theorem timerEntered_row_other (not : ¬ cascadesAt old cs ch) (out : head cs ch = ch → m ∉ members cs ch) :
    (timerEntered old cs ch).row m = cs.row m := by
  rw [timerEntered_apart not]
  split
  · rename_i own
    have out := out own
    have ne : m ≠ ch := fun e => out (e ▸ head_mem_members cs ch)
    have sync := syncWritten_sameSet old cs ch
    have written : (syncWritten old cs ch).row m = cs.row m := by
      by_cases stops : stopsAt old cs ch
      · have put : Chans.sameSet cs (cs.put ch { cs.row ch with running := false }) := put_sameSet rfl
        rw [syncWritten_stops stops, zeroCount, onMembers_row, members_congr put, if_neg out, Tbl.row_put_ne _ _ ne.symm]
      · rw [syncWritten_stands stops]
    by_cases enters : entersAt old (syncWritten old cs ch) ch
    · rw [modeWritten_enters enters ((head_congr sync ch).trans own), onMembers_row, members_congr sync, if_neg out,
        written]
    · rw [modeWritten_stands enters, written]
  · rfl

/-- A timer of the pair has no channel outside it. -/
theorem mem_pair (of : h = head cs ch ∨ h = head cs (partner ch)) (mem : m ∈ members cs h) :
    m = ch ∨ m = partner ch := by
  have inPair {a : Fin 16} : a = ch ∨ a = partner ch → partner a = ch ∨ partner a = partner ch := by
    rintro (rfl | rfl)
    · exact .inr rfl
    · exact .inl (partner_partner ch)
  have heads {c : Fin 16} (is : c = ch ∨ c = partner ch) : head cs c = ch ∨ head cs c = partner ch := by
    cases odd : isOdd c with
    | false => rw [head_even cs odd]; exact is
    | true =>
      rw [head_odd cs odd]
      split
      · exact inPair is
      · exact is
  have head_ : h = ch ∨ h = partner ch := by
    rcases of with rfl | rfl
    · exact heads (.inl rfl)
    · exact heads (.inr rfl)
  rcases mem_members.mp mem with rfl | ⟨-, rfl⟩
  · exact head_
  · exact inPair head_

/-- The timer of the other head has no channel of the written one's own timer. -/
theorem not_mem_own (of : h = head cs ch ∨ h = head cs (partner ch)) (other : h ≠ ch) (mem : m ∈ members cs h)
    (own : head cs ch = ch) : m ∉ members cs ch := by
  rcases of with rfl | rfl
  · exact absurd own other
  · rw [← own]
    exact not_mem_of_head_ne (fun e => other (e.trans own)) mem

theorem entryOut_timed {mode : TimerMode} (steady : mode ≠ .steady) (requested : Bool) :
    entryOut mode requested = decide (mode = .clearAtA) := by
  cases mode <;> first | rfl | exact absurd rfl steady

theorem Channel.timer_of_unjudged {c c' : Channel} (e : c'.unjudged = c.unjudged) :
    c'.count = c.count ∧ c'.timerOut = c.timerOut ∧ c'.phase = c.phase ∧ c'.aInForce = c.aInForce :=
  ⟨(congrArg Channel.count e : c'.unjudged.count = c.unjudged.count),
    (congrArg Channel.timerOut e : c'.unjudged.timerOut = c.unjudged.timerOut),
    (congrArg Channel.phase e : c'.unjudged.phase = c.unjudged.phase),
    (congrArg Channel.aInForce e : c'.unjudged.aInForce = c.unjudged.aInForce)⟩

section
variable (unjudged : ∀ m, (new.row m).unjudged = ((timerWritten old cs ch).row m).unjudged)
include unjudged

theorem timerWritten_sameTimers : Chans.sameTimers (timerEntered old cs ch) new := by
  have settled := settledPair_sameTimers (timerEntered old cs ch) ch
  exact ⟨fun m => (Channel.set_of_unjudged (unjudged m)).trans (settled.1 m),
    fun m => (Channel.running_of_unjudged (unjudged m)).trans (settled.2 m)⟩

theorem timerWritten_sameSet : Chans.sameSet cs new := fun m =>
  ((timerWritten_sameTimers unjudged).1 m).trans (timerEntered_sameSet old cs ch m)

/-- A channel of the pair after the write: its timer is settled. -/
theorem timerWritten_row (of : h = head cs ch ∨ h = head cs (partner ch)) (mem : m ∈ members cs h) :
    (new.row m).count = (if countingHead new h = true then ((timerEntered old cs ch).row m).count else 0)
    ∧ (new.row m).aInForce = (if (cs.row h).set.mode = .pwm ∧ hasPeriod cs h = false then (cs.row m).set.cmpA
        else ((timerEntered old cs ch).row m).aInForce)
    ∧ ((cs.row h).set.mode = .steady → (new.row m).timerOut = (new.row m).requested)
    ∧ ((cs.row h).set.mode = .pwm → (new.row m).timerOut = pwmOut new h)
    ∧ ((cs.row h).set.mode ≠ .steady → (cs.row h).set.mode ≠ .pwm →
        (new.row m).timerOut = ((timerEntered old cs ch).row m).timerOut)
    ∧ (new.row m).phase = ((timerEntered old cs ch).row m).phase
    ∧ (new.row m).running = ((timerEntered old cs ch).row m).running := by
  have entered := timerEntered_sameSet old cs ch
  obtain ⟨count, out, phase, a⟩ := Channel.timer_of_unjudged (unjudged m)
  have same := timerWritten_sameTimers unjudged
  have of' : h = head (timerEntered old cs ch) ch ∨ h = head (timerEntered old cs ch) (partner ch) := by
    rw [head_congr entered, head_congr entered]; exact of
  have mem' : m ∈ members (timerEntered old cs ch) h := by rw [members_congr entered]; exact mem
  have row := settledPair_row (timerEntered old cs ch) ch of' mem'
  rw [← timerWritten_eq] at row
  have pwm : (cs.row h).set.mode = .pwm → ((timerWritten old cs ch).row m).timerOut = pwmOut (timerWritten old cs ch) h := by
    intro pwm
    have fixed := settledPair_fixed (timerEntered old cs ch) ch of'
    have settledSet := (settledPair_sameTimers (timerEntered old cs ch) ch).1
    have there : m ∈ members (settledPair (timerEntered old cs ch) ch) h := by rw [members_congr settledSet]; exact mem'
    have := settle_row (settledPair (timerEntered old cs ch) ch) h m
    rw [fixed, if_pos there] at this
    rw [timerWritten_eq, this]
    unfold settled
    simp [settledSet h, entered h, pwm]
  have pwm' : pwmOut new h = pwmOut (timerWritten old cs ch) h :=
    pwmOut_congr ⟨fun c => Channel.set_of_unjudged (unjudged c), fun c => Channel.running_of_unjudged (unjudged c)⟩
      fun c _ => ⟨(Channel.timer_of_unjudged (unjudged c)).2.2.2, (Channel.timer_of_unjudged (unjudged c)).1⟩
  refine ⟨?_, ?_, fun steady => ?_, fun is => ?_, fun steady notPwm => ?_, ?_, same.2 m⟩
  · rw [count, row, countingHead_congr same]
    rfl
  · rw [a, row]
    unfold settled
    simp [entered h, entered m, hasPeriod_congr entered]
  · rw [out, row, Channel.requestedOf_unjudged (unjudged m), row]
    unfold settled
    simp [entered h, steady]
  · rw [out, pwm is, pwm']
  · rw [out, row]
    unfold settled
    simp [entered h, steady, notPwm]
  · rw [phase, row]
    rfl

end

/-- A write that changes the cascade enters both channels of the pair anew. -/
theorem timerEntered_row_cascades (cascades : cascadesAt old cs ch) (of : h = head cs ch ∨ h = head cs (partner ch))
    (mem : m ∈ members cs h) :
    (timerEntered old cs ch).row m = (cs.row m).cascaded (cs.row h).set.mode (actingMode old m) := by
  have mode : actingMode cs m = (cs.row h).set.mode := by
    rcases of with rfl | rfl <;> exact actingMode_of_mem mem
  rw [timerEntered_cascades cascades, joinOrSplit_row old cs (mem_pair of mem), mode]

section
variable (stores : Chans.stores old cs)
  (unjudged : ∀ m, (new.row m).unjudged = ((timerWritten old cs ch).row m).unjudged)
include stores unjudged

theorem timerWritten_acts_cascades (cascades : cascadesAt old cs ch) (of : h = head cs ch ∨ h = head cs (partner ch))
    (mem : m ∈ members cs h) :
    (new.row m).count = 0 ∧ (new.row m).phase = .waitA ∧ (new.row m).running = false
    ∧ ((cs.row h).set.mode ≠ .steady → (cs.row h).set.mode ≠ .pwm →
        (new.row m).timerOut = decide ((cs.row h).set.mode = .clearAtA))
    ∧ ((cs.row h).set.mode = .pwm → (hasPeriod cs h = false ∨ actingMode old m ≠ .pwm) →
        (new.row m).aInForce = (cs.row m).set.cmpA)
    ∧ (¬ ((cs.row h).set.mode = .pwm ∧ (hasPeriod cs h = false ∨ actingMode old m ≠ .pwm)) →
        (new.row m).aInForce = (old.row m).aInForce) := by
  obtain ⟨count, a, -, -, out, phase, running⟩ := timerWritten_row unjudged of mem
  rw [timerEntered_row_cascades cascades of mem] at count a out phase running
  refine ⟨count.trans (ite_self _), phase, running, fun steady pwm => (out steady pwm).trans (entryOut_timed steady _),
    fun pwm taken => a.trans ?_, fun stands => a.trans ?_⟩
  · by_cases period : hasPeriod cs h = false
    · rw [if_pos ⟨pwm, period⟩]
    · rw [if_neg fun h => period h.2]
      show (if _ then _ else _) = _
      rw [if_pos]
      have := taken.resolve_left period
      simp [pwm, this]
  · rw [if_neg fun h => stands ⟨h.1, .inl h.2⟩]
    show (if _ then _ else _) = _
    rw [if_neg]
    · exact (stores m).2.2.2.1
    · intro h
      simp only [Bool.and_eq_true, beq_iff_eq, bne_iff_ne] at h
      exact stands ⟨h.1, .inr h.2⟩

theorem timerWritten_acts_apart (not : ¬ cascadesAt old cs ch) (of : h = head cs ch ∨ h = head cs (partner ch))
    (mem : m ∈ members cs h) :
    ((h = ch ∧ stopsAt old cs ch) → (new.row h).running = false)
    ∧ (¬ (h = ch ∧ stopsAt old cs ch) → (new.row h).running = (old.row h).running)
    ∧ (countingHead new h = false → (new.row m).count = 0)
    ∧ (countingHead new h = true → (new.row m).count = (old.row m).count)
    ∧ ((h = ch ∧ entersAt old cs ch) ∧ ((cs.row h).set.mode = .pulseOnce ∨ (cs.row h).set.mode = .pulseRepeat) →
        (new.row m).phase = .waitA)
    ∧ (¬ ((h = ch ∧ entersAt old cs ch) ∧ ((cs.row h).set.mode = .pulseOnce ∨ (cs.row h).set.mode = .pulseRepeat)) →
        (new.row m).phase = (old.row m).phase)
    ∧ ((cs.row h).set.mode ≠ .steady → (cs.row h).set.mode ≠ .pwm →
        ((h = ch ∧ entersAt old cs ch) → (new.row m).timerOut = decide ((cs.row h).set.mode = .clearAtA))
        ∧ (¬ (h = ch ∧ entersAt old cs ch) → (new.row m).timerOut = (old.row m).timerOut))
    ∧ ((cs.row h).set.mode = .pwm → (hasPeriod cs h = false ∨ (h = ch ∧ entersAt old cs ch)) →
        (new.row m).aInForce = (cs.row m).set.cmpA)
    ∧ (¬ ((cs.row h).set.mode = .pwm ∧ (hasPeriod cs h = false ∨ (h = ch ∧ entersAt old cs ch))) →
        (new.row m).aInForce = (old.row m).aInForce) := by
  obtain ⟨count, a, -, -, out, phase, -⟩ := timerWritten_row unjudged of mem
  have headIn : h ∈ members cs h := head_mem_members cs h
  obtain ⟨-, -, -, -, -, -, running⟩ := timerWritten_row unjudged of headIn
  obtain ⟨oldCount, -, oldPhase, oldA, oldOut⟩ := stores m
  have takes (taken : (cs.row h).set.mode = .pwm ∧ hasPeriod cs h = false) :
      (new.row m).aInForce = (cs.row m).set.cmpA := a.trans (if_pos taken)
  have keeps (stands : ¬ ((cs.row h).set.mode = .pwm ∧ hasPeriod cs h = false)) :
      (new.row m).aInForce = ((timerEntered old cs ch).row m).aInForce := a.trans (if_neg stands)
  by_cases own : h = ch
  · have self : head cs ch = ch := by
      have : head cs h = h := by rcases of with rfl | rfl <;> exact head_of_mem headIn
      rwa [own] at this
    subst own
    obtain ⟨c0, c, -, r0, r, enters, stays⟩ := timerEntered_row_own not self mem
    refine ⟨fun h => running.trans (r0 h.2), fun h => running.trans ((r fun e => h ⟨rfl, e⟩).trans (stores _).2.1),
      fun still => count.trans (by rw [still]; rfl), fun counts => ?_, fun ⟨e, pulse⟩ => phase.trans ?_,
      fun stands => phase.trans ?_, fun steady pwm => ⟨fun e => ?_, fun e => ?_⟩, fun pwm taken => ?_, fun stands => ?_⟩
    · have stands : ¬ stopsAt old cs h := by
        intro stops
        have ⟨_, c', sync⟩ := stops
        have still : countingHead new h = false := countingHead_iff.mpr (.inr (.inr
          ⟨⟨c', by rw [timerWritten_sameSet unjudged h]; exact sync⟩, running.trans (r0 stops)⟩))
        rw [counts] at still
        cases still
      rw [count, counts, if_pos rfl, c stands, oldCount]
    · rw [(enters e.2).2.1, if_pos (by simpa using pulse)]
    · by_cases e : entersAt old cs h
      · rw [(enters e).2.1, if_neg, oldPhase]
        simpa using fun p => stands ⟨⟨rfl, e⟩, p⟩
      · rw [(stays e).2.1, oldPhase]
    · rw [out steady pwm, (enters e.2).1, entryOut_timed steady]
    · rw [out steady pwm, (stays fun h => e ⟨rfl, h⟩).1, oldOut]
    · by_cases period : hasPeriod cs h = false
      · exact takes ⟨pwm, period⟩
      · rw [keeps fun h => period h.2, (enters (taken.resolve_left period).2).2.2, pwm]
        rfl
    · rw [keeps fun h => stands ⟨h.1, .inl h.2⟩]
      by_cases e : entersAt old cs h
      · rw [(enters e).2.2, if_neg, oldA]
        simpa using fun pwm => stands ⟨pwm, .inr ⟨rfl, e⟩⟩
      · rw [(stays e).2.2, oldA]
  · have row {c : Fin 16} (mem : c ∈ members cs h) : (timerEntered old cs ch).row c = cs.row c :=
      timerEntered_row_other not fun self => not_mem_own of own mem self
    rw [row mem] at count phase out keeps
    rw [row headIn] at running
    refine ⟨fun h => absurd h.1 own, fun _ => running.trans (stores h).2.1,
      fun still => count.trans (by rw [still]; rfl), fun counts => ?_, fun h => absurd h.1.1 own,
      fun _ => phase.trans oldPhase, fun steady pwm => ⟨fun h => absurd h.1 own, fun _ => (out steady pwm).trans oldOut⟩,
      fun pwm taken => takes ⟨pwm, taken.resolve_right fun h => own h.1⟩,
      fun stands => (keeps fun h => stands ⟨h.1, .inl h.2⟩).trans oldA⟩
    rw [count, counts, if_pos rfl, oldCount]

/-- What a taken channel entry write does to the timers of its pair. -/
theorem timerWritten_acts (of : h = head new ch ∨ h = head new (partner ch)) : Chans.timerActs old new ch h := by
  have set := timerWritten_sameSet unjudged
  have of' : h = head cs ch ∨ h = head cs (partner ch) := by rwa [head_congr set, head_congr set] at of
  have member {m : Fin 16} : m ∈ members new h ↔ m ∈ members cs h := by rw [members_congr set]
  have sets : ∀ m, (new.row m).set = (cs.row m).set := set
  have out := pwmOut_iff (cs := new) (h := h)
  have still := countingHead_iff (cs := new) (h := h)
  have period := (hasPeriod_iff (cs := new) (h := h)).symm
  rw [hasPeriod_congr set] at period
  have cascades : (ch.val % 2 = 0 ∧ (cs.row ch).set.joined ≠ (old.row ch).set.joined) ↔ cascadesAt old cs ch := by
    rw [cascadesAt, isOdd_iff]
  have enters : ((cs.row ch).set.mode ≠ (old.row ch).set.mode ∨ (cs.row ch).set.mode = .pulseOnce) ↔
      entersAt old cs ch := Iff.rfl
  have stops : ((cs.row ch).set.sync ≠ (old.row ch).set.sync ∧ ∃ c, (cs.row ch).set.sync = .trigger c) ↔
      stopsAt old cs ch := Iff.rfl
  simp only [period, Bool.not_eq_true] at still out
  unfold Chans.timerActs
  dsimp only
  simp only [period, Bool.not_eq_true, ← still, ← out]
  simp only [sets, cascades, enters, stops]
  refine ⟨fun m mem => ?_, fun not => ?_, fun casc m mem => ?_⟩
  · obtain ⟨-, -, steady, pwm, -⟩ := timerWritten_row unjudged of' (member.mp mem)
    by_cases casc : cascadesAt old cs ch
    · obtain ⟨-, -, -, -, takes, keeps⟩ := timerWritten_acts_cascades stores unjudged casc of' (member.mp mem)
      refine ⟨fun ⟨is, taken⟩ => ?_, fun stands => keeps fun ⟨is, taken⟩ => stands ⟨is, ?_⟩, steady,
        fun is => by rw [pwm is]⟩
      · exact takes is (taken.imp_right fun h => h.elim (·.2) fun h => absurd casc h.1)
      · exact taken.imp_right fun h => .inl ⟨casc, h⟩
    · obtain ⟨-, -, -, -, -, -, -, takes, keeps⟩ :=
        timerWritten_acts_apart stores unjudged casc of' (member.mp mem)
      have entersPwm (own : h = ch) (is : (cs.row h).set.mode = .pwm) :
          entersAt old cs ch ↔ (cs.row ch).set.mode ≠ (old.row ch).set.mode := by
        rw [own] at is
        unfold entersAt
        rw [is]
        simp
      refine ⟨fun ⟨is, taken⟩ => ?_, fun stands => keeps fun ⟨is, taken⟩ => stands ⟨is, ?_⟩, steady,
        fun is => by rw [pwm is]⟩
      · exact takes is (taken.imp_right fun h =>
          h.elim (fun h => absurd h.1 casc) fun h => ⟨h.2.1, (entersPwm h.2.1 is).mpr h.2.2⟩)
      · exact taken.imp_right fun h => .inr ⟨casc, h.1, (entersPwm h.1 is).mp h.2⟩
  · have acts {m : Fin 16} (mem : m ∈ members cs h) := timerWritten_acts_apart stores unjudged not of' mem
    refine ⟨?_, fun m mem => ?_⟩
    · obtain ⟨stopped, runs, -⟩ := acts (head_mem_members cs h)
      split
      · rename_i h; simp only [sets, stops] at h; exact stopped h
      · rename_i h; simp only [sets, stops] at h; exact runs h
    · obtain ⟨-, -, zero, counts, waits, stands, out, -⟩ := acts (member.mp mem)
      refine ⟨zero, fun counting => counts (Bool.not_eq_false _ ▸ counting), ?_, fun steady pwm => ?_⟩
      · split
        · rename_i h; simp only [sets, enters] at h; exact waits h
        · rename_i h; simp only [sets, enters] at h; exact stands h
      · split
        · rename_i h; simp only [sets, enters] at h; exact (out steady pwm).1 h
        · rename_i h; simp only [sets, enters] at h; exact (out steady pwm).2 h
  · obtain ⟨count, phase, running, out, -⟩ := timerWritten_acts_cascades stores unjudged casc of' (member.mp mem)
    exact ⟨count, phase, running, out⟩

end

end Sys2Proof.Machine
end

section
/-! PROOFS. OUT: gates, forcing, and the taken write of a channel entry (R78, R86 to R89, R95). -/

namespace Sys2Proof.Machine
variable {s t : State} {ch m : Fin 16}

/-! ## Events that hold no warning call of a door -/

/-- An event that is no warning call of a door. -/
def noWarning (i : Instr) : Prop := ∀ d, isWarning i d = false

theorem warningsInOrder_of_none {l : List Instr} (h : ∀ i ∈ l, noWarning i) : warningsInOrder l = l := by
  have none_ (d : Fin 24) : l.filter (fun c => isWarning c d) = [] :=
    List.filter_eq_nil_iff.mpr fun i mem => by simp [h i mem d]
  have all : l.filter (fun c => !(List.finRange 24).any (isWarning c)) = l :=
    List.filter_eq_self.mpr fun i mem => by simp [h i mem _]
  unfold warningsInOrder
  rw [all]
  simp [none_]

/-- An event of DOOR that moves no door and hands no warning call sets nothing in order. -/
theorem doorEvent_of_quiet {f : State → State} (door : (f s).door = s.door) (handed : s.handsOn noWarning (f s)) :
    doorEvent f s = f s := by
  obtain ⟨l, is, quiet⟩ := handed
  simp only [doorEvent, door, is, bne_self_eq_false, List.filter_false, List.foldl_nil, List.take_left', List.drop_left',
    warningsInOrder_of_none quiet]
  rw [← is, ← door]

theorem doorEvent_of_is {f : State → State} {u : State} (is : f s = u) (door : u.door = s.door)
    (handed : s.handsOn noWarning u) : doorEvent f s = u := by
  rw [← is] at door handed ⊢
  exact doorEvent_of_quiet door handed

/-! ## The taken write (R78) -/

/-- The channel table as a write of channel `ch` stores it: the settings, and the level OFF where the owner changes. -/
def Chans.entered (cs : Chans) (ch : Fin 16) (n : ChannelSettings) : Chans :=
  cs.put ch { cs.row ch with
    set := n, requested := if n.owner = (cs.row ch).set.owner then (cs.row ch).requested else false }

theorem Chans.entered_stores (cs : Chans) (ch : Fin 16) (n : ChannelSettings) : Chans.stores cs (Chans.entered cs ch n) :=
  fun m => by
    rw [Chans.entered, Tbl.row_put]
    split
    · rename_i e; subst e; exact ⟨rfl, rfl, rfl, rfl, rfl⟩
    · exact ⟨rfl, rfl, rfl, rfl, rfl⟩

/-- The forcing fields of a channel differ between two settings. -/
def ChannelSettings.reforces (o n : ChannelSettings) : Bool :=
  !decide (o.forcing = n.forcing ∧ o.forced = n.forced ∧ o.latched = n.latched)

theorem State.judgedEvents_quiet (s : State) (ch : Fin 16) : ∀ i ∈ s.judgedEvents ch, noWarning i := by
  intro i mem
  unfold State.judgedEvents at mem
  split at mem
  · rw [List.mem_singleton.mp mem]
    exact fun _ => rfl
  · cases mem

theorem State.Acted.handsOn {u : State} {judges limits : Bool} (h : s.Acted u ch judges limits) :
    s.handsOn noWarning u := by
  refine ⟨_, h.handed, fun i mem => ?_⟩
  split at mem
  · exact s.judgedEvents_quiet ch i mem
  · cases mem

theorem State.channelWritten_stored (s : State) (ch : Fin 16) (n : ChannelSettings) :
    (s.setChans (s.chans.put ch { s.chans.row ch with set := n })).channelWritten s.chans ch =
      (s.setChans (timerWritten s.chans (Chans.entered s.chans ch n) ch)).acted ch
        ((s.chans.row ch).set.reforces n) (!decide ((s.chans.row ch).set.limit = n.limit)) := by
  have row : (s.setChans (s.chans.put ch { s.chans.row ch with set := n })).chans.row ch =
      { s.chans.row ch with set := n } := Tbl.row_put_self _ _ _
  have levels : (if (s.chans.row ch).set.owner = n.owner
        then s.setChans (s.chans.put ch { s.chans.row ch with set := n })
        else (s.setChans (s.chans.put ch { s.chans.row ch with set := n })).setChan ch
          { s.chans.row ch with set := n, requested := false }) = s.setChans (Chans.entered s.chans ch n) := by
    unfold Chans.entered
    by_cases same : (s.chans.row ch).set.owner = n.owner
    · rw [if_pos same, if_pos same.symm]
    · rw [if_neg same, if_neg (Ne.symm same)]
      exact congrArg s.setChans (Vector.set_set ..)
  rw [State.channelWritten_eq, row]
  dsimp only
  rw [levels]
  rfl

theorem State.takeWrite_channel {w : Written} (at_ : w.index = ch.val)
    (known : ¬ TableId.channels.badCodes ch.val w.image) : ∃ n, s.takeWrite .channels [w] =
      (s.setChans (timerWritten s.chans (Chans.entered s.chans ch n) ch)).acted ch
        ((s.chans.row ch).set.reforces n) (!decide ((s.chans.row ch).set.limit = n.limit)) := by
  have there : TableId.channels.inRange ch.val = true := by
    have := ch.isLt
    simp [TableId.inRange, TableId.first, TableId.count]
  obtain ⟨e, read⟩ := (State.parseEntry_known (s := s) there w.image).mpr known
  obtain ⟨table, -⟩ := State.parseEntry_table read
  cases e with
  | channel n =>
    rw [← at_] at read
    have row : (s.store1 w.index (.channel n)) = s.setChans (s.chans.put ch { s.chans.row ch with set := n }) := by
      show s.setChans (putAt s.chans w.index _) = _
      rw [at_, putAt, dif_pos ch.isLt]
    refine ⟨n, ?_⟩
    rw [s.takeWrite_single read, row]
    have acts : State.act1 s (s.setChans (s.chans.put ch { s.chans.row ch with set := n })) w.index (.channel n) =
        (s.setChans (s.chans.put ch { s.chans.row ch with set := n })).channelWritten s.chans ch := by
      show (if h : w.index < 16 then _ else _) = _
      rw [dif_pos (at_ ▸ ch.isLt)]
      congr 1
      exact Fin.ext at_
    refine doorEvent_of_is (acts.trans (s.channelWritten_stored ch n)) ?_ ?_
    · rw [(State.acted_acts _ _ _ _).frame, State.setChans_door]
      exact State.setChans_door ..
    · obtain ⟨l, is, quiet⟩ := (State.acted_acts (s.setChans (timerWritten s.chans (Chans.entered s.chans ch n) ch)) ch
        ((s.chans.row ch).set.reforces n) (!decide ((s.chans.row ch).set.limit = n.limit))).handsOn
      rw [State.setChans_handed] at is
      exact ⟨l, by rw [State.setChans_handed]; exact is, quiet⟩
  | _ => cases table

/-! ## Gates and forcing at a change (R86 to R89) -/

theorem gateChange_acts {c : Fin 64} (v : Bool) (running : s.inReset = false) (gate : (s.chans.row ch).set.gate = some c) :
    ∃ t : State, exec (.conditionChange c v (.gate ch)) s = .next t
      ∧ t = (s.take (.conditionChange c v (.gate ch))).conduct ch
      ∧ (s.cond c = false → (t.chans.row ch).conducting = false)
      ∧ (t.chans.row ch).requested = (s.chans.row ch).requested
      ∧ (t.chans.row ch).status = (s.chans.row ch).status
      ∧ (t.chans.row ch).count = (s.chans.row ch).count
      ∧ t.door = s.door ∧ t.plan = s.plan ∧ t.req = s.req ∧ t.line = s.line ∧ t.board = s.board := by
  refine ⟨_, exec_gateChange running c v, rfl, fun closed => ?_, State.conduct_requested _ _ _,
    State.conduct_status _ _ _, State.conduct_count _ _ _, State.conduct_door _ _, State.conduct_plan _ _,
    State.conduct_req _ _, State.conduct_line _ _, State.conduct_board _ _⟩
  rw [(State.conduct_chan _ _).1, ← Bool.not_eq_true, State.conducts_iff]
  rintro ⟨-, -, opens, -⟩
  have open_ : s.cond c = true := opens c gate
  rw [closed] at open_
  cases open_

theorem State.judgedStatus_of_stands (inactive : s.forcingActive (s.chans.row ch).set.forcing = false)
    (stands : ¬ ((s.chans.row ch).status = .engaged ∧ (s.chans.row ch).set.latched = false)) :
    s.judgedStatus ch = (s.chans.row ch).status := by
  unfold State.judgedStatus
  rw [if_neg (Bool.eq_false_iff.mp inactive), if_neg stands]

theorem State.fallenStatus_eq (s : State) (ch : Fin 16) : s.fallenStatus ch =
    if (s.chans.row ch).cutOff = false ∧ counting s.chans ch = false then .clear else .awaitingWrap := rfl

theorem forcingChange_acts {c : Fin 64} (v : Bool) (running : s.inReset = false)
    (names : s.forcingNames (s.chans.row ch).set.forcing c = true) :
    let i := Instr.conditionChange c v (.forcing ch)
    let u := s.take i
    let x := s.chans.row ch
    let active := s.forcingActive x.set.forcing
    ∃ t : State, exec i s = .next t
      ∧ (active = true → (t.chans.row ch).status = .engaged)
      ∧ (active = false → x.status = .engaged → x.set.latched = false →
          (t.chans.row ch).status =
            if x.cutOff = false ∧ counting s.chans ch = false then .clear else .awaitingWrap)
      ∧ (active = false → ¬ (x.status = .engaged ∧ x.set.latched = false) → t = u)
      ∧ (active = true → x.status = .engaged → t = u)
      ∧ t.handed = u.handed ++
          (if active = true ∧ x.status = .clear ∧ x.cutOff = false ∧ x.set.owner ≠ .free then
            [.forcedEvent x.set.owner ch] else [])
      ∧ (t.chans.row ch).requested = x.requested ∧ (t.chans.row ch).set = x.set
      ∧ (∀ other, other ≠ ch → t.chans.row other = s.chans.row other)
      ∧ t = { u with chans := t.chans, handed := t.handed } := by
  have judged := (s.take (.conditionChange c v (.forcing ch))).judgeForcing_judged ch
  refine ⟨_, exec_forcingChange running names v, fun active => judged.status.trans ?_,
    fun inactive engaged unlatched => judged.status.trans ?_, fun inactive stands => ?_, fun active engaged => ?_,
    judged.handed, Channel.requestedOf_unjudged (judged.unjudged ch), judged.set ch, judged.moves.others,
    judged.moves.frame⟩
  · exact State.judgedStatus_of_active active
  · exact State.judgedStatus_of_fallen inactive engaged unlatched
  · exact State.judgeForcing_stands (.inr ⟨inactive, stands⟩)
  · exact State.judgeForcing_stands (.inl ⟨active, engaged⟩)

/-! ## What the write does (R78, R82, R88, R89, R95) -/

theorem ChannelSettings.reforces_iff {o n : ChannelSettings} : o.reforces n = true ↔
    n.forcing ≠ o.forcing ∨ n.forced ≠ o.forced ∨ n.latched ≠ o.latched := by
  unfold ChannelSettings.reforces
  rw [Bool.not_eq_true', decide_eq_false_iff_not, ne_comm, ne_comm (a := n.forced), ne_comm (a := n.latched)]
  tauto

theorem Chans.entered_row_ne {cs : Chans} {n : ChannelSettings} (ne : m ≠ ch) :
    (Chans.entered cs ch n).row m = cs.row m := Tbl.row_put_ne _ _ ne.symm

theorem State.forcingActive_congr (board : t.board = s.board) (f : Forcing) : t.forcingActive f = s.forcingActive f := by
  have term (x : Fin 32) : t.term x = s.term x := by simp only [State.term, State.cond, board]
  unfold State.forcingActive
  simp only [State.cond, term, board]

/-- A write moves no timer but those of its pair. -/
theorem timerEntered_row_apart {old cs : Chans} (ne : m ≠ ch) (ne' : m ≠ partner ch) :
    (timerEntered old cs ch).row m = cs.row m := by
  by_cases cascades : cascadesAt old cs ch
  · rw [timerEntered_cascades cascades, joinOrSplit_eq]
    exact (Tbl.row_put_ne _ _ ne'.symm).trans (Tbl.row_put_ne _ _ ne.symm)
  · refine timerEntered_row_other cascades fun own mem => ?_
    exact (mem_pair (.inl own.symm) mem).elim ne ne'

/-- What the timers keep of a channel's record. -/
theorem Channel.kept_of_untimed {c c' : Channel} (e : c'.untimed = c.untimed) :
    c'.requested = c.requested ∧ c'.status = c.status ∧ c'.restart = c.restart ∧ c'.cutOffs = c.cutOffs
    ∧ c'.conducting = c.conducting ∧ c'.supervision = c.supervision ∧ c'.current = c.current :=
  ⟨(congrArg Channel.requested e : c'.untimed.requested = _), (congrArg Channel.status e : c'.untimed.status = _),
    (congrArg Channel.restart e : c'.untimed.restart = _), (congrArg Channel.cutOffs e : c'.untimed.cutOffs = _),
    (congrArg Channel.conducting e : c'.untimed.conducting = _),
    (congrArg Channel.supervision e : c'.untimed.supervision = _), (congrArg Channel.current e : c'.untimed.current = _)⟩

theorem Channel.cutOffs_of_unjudged {c c' : Channel} (h : c'.unjudged = c.unjudged) : c'.cutOffs = c.cutOffs :=
  (congrArg Channel.cutOffs h : c'.unjudged.cutOffs = c.unjudged.cutOffs)

section
variable (s : State) (ch : Fin 16) (n : ChannelSettings)

/-- The state at a write of a channel entry once its timer has acted. -/
def State.timed : State := s.setChans (timerWritten s.chans (Chans.entered s.chans ch n) ch)

theorem State.timed_chans : (s.timed ch n).chans = timerWritten s.chans (Chans.entered s.chans ch n) ch := by
  rw [State.timed, State.setChans_chans]

theorem State.timed_board : (s.timed ch n).board = s.board := by rw [State.timed, State.setChans_board]

theorem State.timed_untimed (m : Fin 16) :
    ((s.timed ch n).chans.row m).untimed = ((Chans.entered s.chans ch n).row m).untimed := by
  rw [State.timed_chans]
  exact untimed_row (Chans.untimed_timerWritten s.chans (Chans.entered s.chans ch n) ch) m

/-- The channel's own record then. -/
theorem State.timed_own : ((s.timed ch n).chans.row ch).set = n
    ∧ ((s.timed ch n).chans.row ch).requested =
      (if n.owner = (s.chans.row ch).set.owner then (s.chans.row ch).requested else false)
    ∧ ((s.timed ch n).chans.row ch).status = (s.chans.row ch).status
    ∧ ((s.timed ch n).chans.row ch).restart = (s.chans.row ch).restart
    ∧ ((s.timed ch n).chans.row ch).cutOffs = (s.chans.row ch).cutOffs
    ∧ ((s.timed ch n).chans.row ch).conducting = (s.chans.row ch).conducting
    ∧ ((s.timed ch n).chans.row ch).supervision = (s.chans.row ch).supervision
    ∧ ((s.timed ch n).chans.row ch).current = (s.chans.row ch).current := by
  have e := s.timed_untimed ch n ch
  rw [Chans.entered, Tbl.row_put_self] at e
  exact ⟨Channel.set_of_untimed e, Channel.kept_of_untimed e⟩

/-- The record of another channel then. -/
theorem State.timed_other {m : Fin 16} (ne : m ≠ ch) :
    ((s.timed ch n).chans.row m).untimed = (s.chans.row m).untimed := by
  rw [State.timed_untimed, Chans.entered_row_ne ne]

theorem State.timed_apart {m : Fin 16} (ne : m ≠ ch) (ne' : m ≠ partner ch) :
    (s.timed ch n).chans.row m = s.chans.row m := by
  rw [State.timed_chans, timerWritten_eq, settledPair_row_of_out ne ne', timerEntered_row_apart ne ne',
    Chans.entered_row_ne ne]

/-- The status that a judging then leaves (R88, R89). -/
theorem State.timed_judged (active : Bool) (is : s.forcingActive n.forcing = active) :
    (active = true → (s.timed ch n).judgedStatus ch = .engaged)
    ∧ (active = false → (s.chans.row ch).status = .engaged → n.latched = false → (s.timed ch n).judgedStatus ch =
        if (s.chans.row ch).cutOff = false ∧ counting (s.timed ch n).chans ch = false then .clear else .awaitingWrap)
    ∧ (active = false → ¬ ((s.chans.row ch).status = .engaged ∧ n.latched = false) →
        (s.timed ch n).judgedStatus ch = (s.chans.row ch).status)
    ∧ (s.timed ch n).judgedEvents ch = (if active = true ∧ (s.chans.row ch).status = .clear
        ∧ (s.chans.row ch).cutOff = false ∧ n.owner ≠ .free then [.forcedEvent n.owner ch] else []) := by
  obtain ⟨set, -, status, restart, -⟩ := s.timed_own ch n
  have same : (s.timed ch n).forcingActive ((s.timed ch n).chans.row ch).set.forcing = active := by
    rw [set, State.forcingActive_congr (s.timed_board ch n)]; exact is
  have cut : ((s.timed ch n).chans.row ch).cutOff = (s.chans.row ch).cutOff := by simp only [Channel.cutOff, restart]
  refine ⟨fun on => State.judgedStatus_of_active (same.trans on), fun off engaged unlatched => ?_,
    fun off stands => ?_, ?_⟩
  · rw [State.judgedStatus_of_fallen (same.trans off) (status.trans engaged) (by rw [set]; exact unlatched),
      State.fallenStatus_eq, cut]
  · rw [State.judgedStatus_of_stands (same.trans off) (by rw [set, status]; exact stands), status]
  · unfold State.judgedEvents
    rw [same, set, status, cut]

end

theorem State.compared_of_off (off : (s.chans.row ch).conducting = false) :
    s.compared ch = (s.chans.row ch).supervision := if_pos off

theorem State.takeWrite_channel_acts {w : Written} (at_ : w.index = ch.val) (known : ¬ TableId.channels.badCodes ch.val w.image) :
    let u := s.takeWrite .channels [w]
    ∃ n, (s.timed ch n).Acted u ch ((s.chans.row ch).set.reforces n) (!decide ((s.chans.row ch).set.limit = n.limit))
      ∧ (u.chans.row ch).set = n ∧ counting u.chans ch = counting (s.timed ch n).chans ch
      ∧ ∀ h, (h = head u.chans ch ∨ h = head u.chans (partner ch)) → Chans.timerActs s.chans u.chans ch h := by
  obtain ⟨n, is⟩ := State.takeWrite_channel (s := s) at_ known
  dsimp only
  have acted := (s.timed ch n).acted_acts ch ((s.chans.row ch).set.reforces n)
    (!decide ((s.chans.row ch).set.limit = n.limit))
  rw [is]
  generalize hu : (s.setChans (timerWritten s.chans (Chans.entered s.chans ch n) ch)).acted ch
    ((s.chans.row ch).set.reforces n) (!decide ((s.chans.row ch).set.limit = n.limit)) = u
  rw [State.timed, hu] at acted
  refine ⟨n, acted, ?_, ?_, fun h of => ?_⟩
  · rw [Channel.set_of_unjudged (acted.unjudged ch)]
    exact (s.timed_own ch n).1
  · exact counting_congr ⟨fun c => Channel.set_of_unjudged (acted.unjudged c),
      fun c => Channel.running_of_unjudged (acted.unjudged c)⟩ ch
  · refine timerWritten_acts (Chans.entered_stores s.chans ch n) (fun m => ?_) of
    rw [acted.unjudged m, State.setChans_chans]

/-- Settles O27: a gate and a forcing by their one recomputation and one judging; a write by the timers it settles, the
judging of the channel and the comparison of its current. -/
theorem gateAndForcingActAtAChange : Obligations.GateAndForcingActAtAChange := by
  refine ⟨fun s c v ch running gate => gateChange_acts v running gate,
    fun s c v ch running names => forcingChange_acts v running names, fun s ch w at_ known => ?_⟩
  obtain ⟨n, acted, set, counts, timers⟩ := State.takeWrite_channel_acts (s := s) at_ known
  generalize s.takeWrite .channels [w] = u at acted set counts timers
  subst set
  obtain ⟨ownSet, requested, status, restart, cutOffs, on, sup, current⟩ := s.timed_own ch (u.chans.row ch).set
  obtain ⟨engages, falls, stands, events⟩ := s.timed_judged ch (u.chans.row ch).set _ rfl
  have apart {m : Fin 16} (ne : m ≠ ch) (ne' : m ≠ partner ch) := s.timed_apart ch (u.chans.row ch).set ne ne'
  have partner_ := s.timed_other ch (u.chans.row ch).set (partner_ne ch)
  have clock : (s.timed ch (u.chans.row ch).set).clock = s.clock := State.setChans_clock ..
  have waiting : (s.timed ch (u.chans.row ch).set).handed = s.handed := State.setChans_handed ..
  generalize s.timed ch (u.chans.row ch).set = b at *
  have bare := acted.unjudged ch
  have reforces := ChannelSettings.reforces_iff (o := (s.chans.row ch).set) (n := (u.chans.row ch).set)
  have judged := acted.status
  have handed := acted.handed
  dsimp only
  rw [counts]
  have left (no : ¬ ((u.chans.row ch).set.forcing ≠ (s.chans.row ch).set.forcing ∨ (u.chans.row ch).set.forced ≠ (s.chans.row ch).set.forced
      ∨ (u.chans.row ch).set.latched ≠ (s.chans.row ch).set.latched)) : (s.chans.row ch).set.reforces (u.chans.row ch).set = false :=
    Bool.eq_false_iff.mpr (mt reforces.mp no)
  refine ⟨(Channel.requestedOf_unjudged bare).trans requested, (Channel.restart_of_unjudged bare).trans restart,
    (Channel.cutOffs_of_unjudged bare).trans cutOffs, fun no => ?_, fun re active => ?_,
    fun re inactive engaged unlatched => ?_, fun re inactive not => ?_, fun h => ?_, fun h => ?_,
    acted.fixed.1, acted.fixed.2, fun ne => acted.moved (by rw [on]; exact ne), fun same => ?_,
    fun other ne ne' => (acted.others other ne ne').trans (apart ne ne'), ?_, ?_⟩
  · rw [judged, left no]
    exact status
  · rw [judged, reforces.mpr re]
    exact engages active
  · rw [judged, reforces.mpr re]
    exact falls inactive engaged unlatched
  · rw [judged, reforces.mpr re]
    exact stands inactive not
  · rw [handed, reforces.mpr h.1, if_pos rfl, events, if_pos h.2, waiting]
  · rw [handed, events, waiting]
    by_cases re : (u.chans.row ch).set.forcing ≠ (s.chans.row ch).set.forcing ∨ (u.chans.row ch).set.forced ≠ (s.chans.row ch).set.forced
      ∨ (u.chans.row ch).set.latched ≠ (s.chans.row ch).set.latched
    · rw [reforces.mpr re, if_pos rfl, if_neg fun g => h ⟨re, g⟩]
      exact List.append_nil _
    · rw [left re]
      exact List.append_nil _
  · obtain ⟨cur, supervised⟩ := acted.still (by rw [on]; exact same)
    refine ⟨cur.trans current, ?_, fun newLimit on' => ?_⟩
    · rintro (same | off)
      · rw [supervised, decide_eq_true (Decidable.not_not.mp same).symm]
        exact sup
      · rw [supervised, b.compared_of_off (on.trans off), sup]
        exact ite_self _
    · rw [supervised, decide_eq_false (Ne.symm newLimit), Bool.not_false, if_pos rfl]
      unfold State.compared
      rw [on, on', if_neg (by decide), current, sup, ownSet, clock]
      exact ⟨fun below => if_neg (Nat.not_lt.mpr below), fun above => if_pos above⟩
  · obtain ⟨keptRequested, keptStatus, keptRestart, keptCutOffs, keptOn, keptSup, -⟩ := Channel.kept_of_untimed partner_
    have other := acted.unjudged (partner ch)
    have switches := acted.partnerSwitches
    exact ⟨(Channel.set_of_unjudged other).trans (Channel.set_of_untimed partner_),
      (Channel.requestedOf_unjudged other).trans keptRequested, (Channel.restart_of_unjudged other).trans keptRestart,
      acted.partnerStatus.trans keptStatus, (Channel.cutOffs_of_unjudged other).trans keptCutOffs,
      fun ne => (switches.moved (by rw [keptOn]; exact ne)).1,
      fun same => (switches.still (by rw [keptOn]; exact same)).1.trans keptSup⟩
  · exact timers

end Sys2Proof.Machine
end

section
/-! PROOFS. DOOR: what its steps move, and what each makes of a door's record (R142 to R154). -/

namespace Sys2Proof.Machine
variable {s t u : State} {d : Fin 24} {x y : Door}

/-! ## What DOOR's steps move -/

/-- A condition that the doors move: LANE_CLEAR of a lane, or one whose source is a group (R38, R40, R143). -/
def State.followsDoors (s : State) (c : Fin 64) : Prop :=
  (8 ≤ c.val ∧ c.val < 16)
  ∨ ∃ g, (s.board.conds.row c).source = .groupClosed g ∨ (s.board.conds.row c).source = .groupOpen g

/-- The records of doors but for their settings, the conditions that follow doors, the events handed on, the marks
and the ports are all that moves. -/
structure State.DoorsMove (s t : State) : Prop where
  frame : t = { s with
    line := { s.line with up := t.line.up, dn := t.line.dn }
    board := { s.board with conds := t.board.conds }
    door := { s.door with doors := t.door.doors }
    req := { s.req with marks := t.req.marks }
    handed := t.handed }
  set : ∀ d, (t.door.doors.row d).set = (s.door.doors.row d).set
  source : ∀ c, (t.board.conds.row c).source = (s.board.conds.row c).source
  stands : ∀ c, ¬ s.followsDoors c → t.board.conds.row c = s.board.conds.row c

theorem State.followsDoors_congr (source : ∀ c, (t.board.conds.row c).source = (s.board.conds.row c).source)
    (c : Fin 64) : t.followsDoors c ↔ s.followsDoors c := by
  unfold State.followsDoors
  rw [source c]

theorem State.DoorsMove.refl (s : State) : s.DoorsMove s := ⟨rfl, fun _ => rfl, fun _ => rfl, fun _ _ => rfl⟩

theorem State.DoorsMove.trans (h : s.DoorsMove t) (g : t.DoorsMove u) : s.DoorsMove u where
  frame := by
    refine g.frame.trans ?_
    rw [h.frame]
  set d := (g.set d).trans (h.set d)
  source c := (g.source c).trans (h.source c)
  stands c not := (g.stands c fun f => not ((State.followsDoors_congr h.source c).mp f)).trans (h.stands c not)

theorem State.CondsMove.doorsMove (h : s.CondsMove t)
    (stands : ∀ c, ¬ s.followsDoors c → t.board.conds.row c = s.board.conds.row c) : s.DoorsMove t where
  frame := by
    refine h.frame.trans ?_
    rw [h.frame]
  set d := by rw [h.frame]
  source := h.source
  stands := stands

theorem State.hand_doorsMove (s : State) (i : Instr) : s.DoorsMove (s.hand i) :=
  ⟨rfl, fun _ => rfl, fun _ => rfl, fun _ _ => rfl⟩

theorem State.notice_doorsMove (s : State) (k : Fin 13) (i : Nat) : s.DoorsMove (s.notice k i) where
  frame := by
    refine (s.notice_frame k i).trans ?_
    rw [s.notice_door, s.notice_board, s.notice_handed]
  set d := by rw [s.notice_door]
  source c := by rw [s.notice_board]
  stands c _ := by rw [s.notice_board]

theorem State.setDoor_doorsMove (s : State) (set : x.set = (s.door.doors.row d).set) : s.DoorsMove (s.setDoor d x) where
  frame := rfl
  set d' := by
    show ((s.door.doors.put d x).row d').set = _
    rw [Tbl.row_put]
    split
    · rename_i e; subst e; exact set
    · rfl
  source _ := rfl
  stands _ _ := rfl

theorem State.followLane_some (s : State) (n : Fin 8) :
    s.followLane (some n) = s.setCond (condLane n) (s.laneClear n) := rfl

theorem State.followLane_doorsMove (s : State) (lane : Option (Fin 8)) : s.DoorsMove (s.followLane lane) := by
  cases lane with
  | none => exact .refl s
  | some n =>
    rw [State.followLane_some]
    generalize s.laneClear n = v
    refine (s.setCond_condsMove (condLane n) _).doorsMove fun c not => ?_
    refine s.setCond_record_ne _ fun e => not (.inl ?_)
    have := n.isLt
    rw [← e]
    simp only [condLane]
    omega

theorem State.follow_condsMove (s : State) (chosen : Source → Bool) : s.CondsMove (s.follow chosen) := by
  refine foldl_holds s.CondsMove (State.followOne chosen) (fun t c h => ?_) _ s (.refl s)
  unfold State.followOne
  split
  · exact h.trans (t.setCond_condsMove c _)
  · exact h

theorem State.followGroup_some (s : State) (g : Fin 8) :
    s.followGroup (some g) = s.follow fun src => src == .groupClosed g || src == .groupOpen g := rfl

theorem State.followGroup_doorsMove (s : State) (g : Option (Fin 8)) : s.DoorsMove (s.followGroup g) := by
  cases g with
  | none => exact .refl s
  | some g =>
    rw [State.followGroup_some]
    refine (s.follow_condsMove _).doorsMove fun c not => s.follow_record_of_other ?_
    rw [Bool.or_eq_false_iff, beq_eq_false_iff_ne, beq_eq_false_iff_ne]
    exact ⟨fun e => not (.inr ⟨g, .inl e⟩), fun e => not (.inr ⟨g, .inr e⟩)⟩

/-! ## What stands with the conditions that no door moves -/

theorem State.DoorsMove.cond (h : s.DoorsMove t) {c : Fin 64} (not : ¬ s.followsDoors c) : t.cond c = s.cond c := by
  simp only [State.cond, h.stands c not]

theorem State.DoorsMove.groups (h : s.DoorsMove t) : t.door.groups = s.door.groups := by rw [h.frame]
theorem State.DoorsMove.clock (h : s.DoorsMove t) : t.clock = s.clock := by rw [h.frame]
theorem State.DoorsMove.mode (h : s.DoorsMove t) : t.req.mode = s.req.mode := by rw [h.frame]
theorem State.DoorsMove.terms (h : s.DoorsMove t) : t.board.terms = s.board.terms := by rw [h.frame]
theorem State.DoorsMove.chans (h : s.DoorsMove t) : t.chans = s.chans := by rw [h.frame]

/-- A condition that follows a threshold, or a FRAME one, is moved by no door. -/
theorem State.not_followsDoors_of_source (safe : s.sourcesSafe) {c : Fin 64}
    (src : (s.board.conds.row c).source = .frame ∨ ∃ k, (s.board.conds.row c).source = .threshold k) :
    ¬ s.followsDoors c := by
  have other (x : Source) (is : (s.board.conds.row c).source = x) : x = .frame ∨ ∃ k, x = .threshold k := by
    rw [← is]; exact src
  rintro (⟨-, below⟩ | ⟨g, is | is⟩)
  · obtain e | ⟨k, e⟩ := other _ (safe c below) <;> cases e
  · obtain e | ⟨k, e⟩ := other _ is <;> cases e
  · obtain e | ⟨k, e⟩ := other _ is <;> cases e

theorem State.not_followsDoors_of_threshold {c : Fin 64} (high : 16 ≤ c.val) {k : Fin 48}
    (src : (s.board.conds.row c).source = .threshold k) : ¬ s.followsDoors c := by
  rintro (⟨-, below⟩ | ⟨g, is | is⟩)
  · omega
  · rw [src] at is; cases is
  · rw [src] at is; cases is

/-- A steady term reads as before. -/
theorem State.DoorsMove.term (h : s.DoorsMove t) (safe : s.sourcesSafe) {tm : Fin 32} (steady : s.steady tm) :
    t.term tm = s.term tm := by
  have same (l : Fin 64 × Bool) (mem : l ∈ (s.board.terms.row tm).literals) : t.cond l.1 = s.cond l.1 := by
    refine h.cond ?_
    rcases steady l mem with low | src
    · rintro (⟨above, -⟩ | ⟨g, is | is⟩)
      · omega
      · rw [safe l.1 (by omega)] at is; cases is
      · rw [safe l.1 (by omega)] at is; cases is
    · exact State.not_followsDoors_of_source safe src
  unfold State.term
  rw [h.terms, Bool.eq_iff_iff, List.all_eq_true, List.all_eq_true]
  exact ⟨fun all l mem => by rw [← same l mem]; exact all l mem, fun all l mem => by rw [same l mem]; exact all l mem⟩

theorem State.DoorsMove.callOf (h : s.DoorsMove t) : t.callOf = s.callOf := by
  funext d
  simp only [State.callOf, h.set d, h.groups]

/-! ## The events of DOOR's steps -/

/-- A step of DOOR: what it moves, and the doors whose warning calls it hands, in order. -/
structure State.DoorStep (s t : State) (ds : List (Fin 24)) : Prop where
  moves : s.DoorsMove t
  handed : ∃ l, t.handed = s.handed ++ l ∧ l.filter isQueue = ds.filterMap s.callOf
    ∧ ∀ i ∈ l, isQueue i = false → isChange i

theorem State.DoorStep.refl (s : State) : s.DoorStep s [] := ⟨.refl s, [], by simp, rfl, by simp⟩

theorem State.DoorStep.trans {ds es : List (Fin 24)} (h : s.DoorStep t ds) (g : t.DoorStep u es) :
    s.DoorStep u (ds ++ es) := by
  obtain ⟨l, first, queue, rest⟩ := h.handed
  obtain ⟨l', then_, queue', rest'⟩ := g.handed
  refine ⟨h.moves.trans g.moves, l ++ l', by rw [then_, first, List.append_assoc], ?_, fun i mem => ?_⟩
  · rw [List.filter_append, queue, queue', h.moves.callOf, List.filterMap_append]
  · exact (List.mem_append.mp mem).elim (rest i) (rest' i)

/-- A step that hands changes of conditions alone hands no warning call. -/
theorem State.DoorsMove.step (h : s.DoorsMove t) (handed : s.handsOn isChange t) : s.DoorStep t [] := by
  obtain ⟨l, is, changes⟩ := handed
  refine ⟨h, l, is, ?_, fun i mem _ => changes i mem⟩
  rw [List.filterMap_nil, List.filter_eq_nil_iff]
  intro i mem
  obtain ⟨c, v, u, rfl⟩ := changes i mem
  simp [isQueue]

theorem State.followLane_step (s : State) (lane : Option (Fin 8)) : s.DoorStep (s.followLane lane) [] := by
  refine (s.followLane_doorsMove lane).step ?_
  cases lane with
  | none => exact .of_eq rfl
  | some n =>
    rw [State.followLane_some]
    generalize s.laneClear n = v
    exact s.setCond_handsOn _ _

theorem State.followGroup_step (s : State) (g : Option (Fin 8)) : s.DoorStep (s.followGroup g) [] := by
  refine (s.followGroup_doorsMove g).step ?_
  cases g with
  | none => exact .of_eq rfl
  | some g => rw [State.followGroup_some]; exact s.follow_handsOn _

theorem State.notice_step (s : State) (k : Fin 13) (i : Nat) : s.DoorStep (s.notice k i) [] :=
  (s.notice_doorsMove k i).step (.of_eq (s.notice_handed k i))

theorem State.setDoor_step (s : State) (set : x.set = (s.door.doors.row d).set) : s.DoorStep (s.setDoor d x) [] :=
  (s.setDoor_doorsMove set).step (.of_eq rfl)

/-! ## Steps that move one door's record -/

/-- A step of DOOR that leaves door `d` with record `y` and every other door as it stands. -/
structure State.DoorOp (s t : State) (d : Fin 24) (y : Door) (ds : List (Fin 24)) : Prop where
  step : s.DoorStep t ds
  row : t.door.doors.row d = y
  others : ∀ e, e ≠ d → t.door.doors.row e = s.door.doors.row e

theorem State.DoorOp.refl (s : State) (d : Fin 24) : s.DoorOp s d (s.door.doors.row d) [] :=
  ⟨.refl s, rfl, fun _ _ => rfl⟩

theorem State.DoorOp.trans {ds es : List (Fin 24)} (h : s.DoorOp t d x ds) (g : t.DoorOp u d y es) :
    s.DoorOp u d y (ds ++ es) :=
  ⟨h.step.trans g.step, g.row, fun e ne => (g.others e ne).trans (h.others e ne)⟩

/-- A step that leaves every door's record. -/
theorem State.DoorStep.op {ds : List (Fin 24)} (h : s.DoorStep t ds) (door : t.door = s.door) (d : Fin 24) :
    s.DoorOp t d (s.door.doors.row d) ds := ⟨h, by rw [door], fun _ _ => by rw [door]⟩

/-- The record of a door that changes its state (R142). -/
def Door.changed (x : Door) (st : DoorState) (now : Nat) (due : Option Nat) : Door :=
  { x with state := st, timer := st.timer now, due := due }

theorem State.setDoor_op (s : State) (set : x.set = (s.door.doors.row d).set) : s.DoorOp (s.setDoor d x) d x [] :=
  ⟨s.setDoor_step set, Tbl.row_put_self _ _ _, fun _ ne => Tbl.row_put_ne _ _ ne.symm⟩

theorem State.setAttempts_op (s : State) (d : Fin 24) (n : Nat) :
    s.DoorOp (s.setAttempts d n) d { s.door.doors.row d with attempts := n } [] := s.setDoor_op rfl

/-- A change of state, followed by the conditions and the notice event of its group (R142, R143). -/
theorem State.doorTo_eq (s : State) (d : Fin 24) (st : DoorState) (due : Option Nat) : s.doorTo d st due =
    let w := ((s.setDoor d ((s.door.doors.row d).changed st s.clock due)).followLane
      (s.door.doors.row d).set.lane).followGroup (s.door.doors.row d).set.group
    match (s.door.doors.row d).set.group with
    | none => w
    | some g => if !s.allClosed (s.door.doors.row d).set.group && w.groupAll g .closed
        then w.notice noticeGroupClosed g.val else w := rfl

theorem State.doorTo_op (s : State) (d : Fin 24) (st : DoorState) (due : Option Nat) :
    s.DoorOp (s.doorTo d st due) d ((s.door.doors.row d).changed st s.clock due) [] := by
  have door := s.doorTo_door d st due
  refine ⟨?_, by rw [door]; exact Tbl.row_put_self _ _ _, fun e ne => by rw [door]; exact Tbl.row_put_ne _ _ ne.symm⟩
  have set := s.setDoor_step (d := d) (x := (s.door.doors.row d).changed st s.clock due) rfl
  have followed := (set.trans (State.followLane_step _ (s.door.doors.row d).set.lane)).trans
    (State.followGroup_step _ (s.door.doors.row d).set.group)
  rw [State.doorTo_eq]
  generalize s.allClosed (s.door.doors.row d).set.group = was
  generalize ((s.setDoor d ((s.door.doors.row d).changed st s.clock due)).followLane _).followGroup _ = w at followed
  cases (s.door.doors.row d).set.group with
  | none => exact followed
  | some g =>
    dsimp only
    split
    · exact followed.trans (State.notice_step _ _ _)
    · exact followed

end Sys2Proof.Machine
end

section
/-! PROOFS. DOOR: the entries into its states, and what each makes of the door's record (R142 to R154). -/

namespace Sys2Proof.Machine
variable {s t u : State} {d : Fin 24} {x y : Door}

/-! ## Readings of a limit switch -/

/-- A limit switch reads `v` at some step of an event that begins in `s`. -/
def State.readsAs (s : State) (d : Fin 24) (c : Option (Fin 64)) (v : Bool) : Prop :=
  ∃ t, s.DoorsMove t ∧ v = t.switch d c

theorem State.readsAs.self (s : State) (d : Fin 24) (c : Option (Fin 64)) : s.readsAs d c (s.switch d c) :=
  ⟨s, .refl s, rfl⟩

theorem State.DoorsMove.readsAs {c : Option (Fin 64)} {v : Bool} (h : s.DoorsMove t) (reads : t.readsAs d c v) :
    s.readsAs d c v := by
  obtain ⟨w, moves, is⟩ := reads
  exact ⟨w, h.trans moves, is⟩

/-- A limit switch that no door moves reads as it stood. -/
theorem State.readsAs.cond {c : Fin 64} {v : Bool} (reads : s.readsAs d (some c) v) (not : ¬ s.followsDoors c) :
    v = s.cond c := by
  obtain ⟨w, moves, is⟩ := reads
  rw [is]
  exact moves.cond not

/-! ## The entries of the close sequence (R146, R148, R149) -/

/-- An expiry after a time of 100 ms units from a moment on; a time of 0 sets none. -/
def expiryFrom (now n : Nat) : Option Nat := if n = 0 then none else some (now + n * 100000)

theorem State.expiry_eq (s : State) (n : Nat) : s.expiry n = expiryFrom s.clock n := rfl

/-- The record of a door after its entry to CLOSING, where its closed condition reads `shut` (R149). -/
def Door.shutting (x : Door) (shut : Bool) (now : Nat) : Door :=
  if shut then x.changed .closed now none else x.changed .closing now (expiryFrom now x.set.closeTimeout)

theorem State.toClosing_op (s : State) (d : Fin 24) : s.DoorOp (s.toClosing d) d
    ((s.door.doors.row d).shutting (s.switch d (s.door.doors.row d).set.closedCond) s.clock) [] := by
  unfold State.toClosing Door.shutting
  dsimp only
  split
  · exact s.doorTo_op d .closed none
  · exact s.doorTo_op d .closing _

theorem State.warningCall_op (s : State) (d : Fin 24) :
    s.DoorOp (s.warningCall d) d (s.door.doors.row d) [d] := by
  have none_ (no : s.callOf d = none) : s.DoorStep s [d] :=
    ⟨.refl s, [], (List.append_nil _).symm, by simp [no], by simp⟩
  unfold State.warningCall
  dsimp only
  split
  · rename_i out
    exact (none_ (by simp [State.callOf, out])).op rfl d
  · rename_i g at_
    split
    · rename_i out
      exact (none_ (by simp [State.callOf, at_, out])).op rfl d
    · rename_i m is
      refine State.DoorStep.op ⟨s.hand_doorsMove _, _, rfl, ?_, fun i mem not => ?_⟩ rfl d
      · simp [State.callOf, at_, is, isQueue, u8]
      · rw [List.mem_singleton.mp mem] at not
        cases not

/-- The record of a door after its entry to WARNING, where its closed condition reads `shut` if it passes on to
CLOSING at once (R142, R146). -/
def Door.warned (x : Door) (time : Nat) (atOnce shut : Bool) (now : Nat) : Door :=
  if time = 0 ∨ atOnce = true then x.shutting shut now else x.changed .warning now (expiryFrom now time)

theorem State.toWarning_op (s : State) (d : Fin 24) (time : Nat) (atOnce : Bool) :
    ∃ shut, s.readsAs d (s.door.doors.row d).set.closedCond shut
      ∧ s.DoorOp (s.toWarning d time atOnce) d ((s.door.doors.row d).warned time atOnce shut s.clock) [d] := by
  have warning := s.doorTo_op d .warning (s.expiry time)
  have called := State.warningCall_op (s.doorTo d .warning (s.expiry time)) d
  rw [warning.row] at called
  have begun := warning.trans called
  have closing := State.toClosing_op ((s.doorTo d .warning (s.expiry time)).warningCall d) d
  rw [begun.row, begun.step.moves.clock] at closing
  refine ⟨_, begun.step.moves.readsAs (State.readsAs.self _ _ _), ?_⟩
  unfold State.toWarning Door.warned
  dsimp only
  by_cases now : time = 0 ∨ atOnce = true
  · rw [if_pos now, if_pos (by simpa using now)]
    exact begun.trans closing
  · rw [if_neg now, if_neg (by simpa using now)]
    exact begun

theorem State.closeSequence_op (s : State) (d : Fin 24) (atOnce : Bool) :
    ∃ shut, s.readsAs d (s.door.doors.row d).set.closedCond shut ∧ s.DoorOp (s.closeSequence d atOnce) d
      ({ s.door.doors.row d with attempts := 1 }.warned (s.door.doors.row d).set.warning atOnce shut s.clock) [d] := by
  have first := s.setAttempts_op d 1
  obtain ⟨shut, reads, warned⟩ :=
    State.toWarning_op (s.setAttempts d 1) d (s.door.doors.row d).set.warning atOnce
  rw [first.row, first.step.moves.clock] at warned
  rw [first.row] at reads
  exact ⟨shut, first.step.moves.readsAs reads, first.trans warned⟩

/-! ## The back-off cycle (R150, R151, R152) -/

theorem State.jam_op (s : State) (d : Fin 24) :
    s.DoorOp (s.jam d) d ((s.door.doors.row d).changed .jammed s.clock none) [] := by
  have jammed := s.doorTo_op d .jammed none
  have noticed := (State.notice_step (s.doorTo d .jammed none) noticeJammed d.val).op (State.notice_door _ _ _) d
  rw [jammed.row] at noticed
  exact jammed.trans noticed

/-- The record of a door at the expiry of its back-off time (R151). -/
def Door.backedOff (x : Door) (shut : Bool) (now : Nat) : Door :=
  if x.attempts < x.set.retryLimit + 1
  then { x with attempts := x.attempts + 1 }.warned x.set.rewarning false shut now
  else x.changed .jammed now none

theorem State.backoffExpiry_op (s : State) (d : Fin 24) :
    ∃ shut, s.readsAs d (s.door.doors.row d).set.closedCond shut ∧ ∃ ds,
      s.DoorOp (s.backoffExpiry d) d ((s.door.doors.row d).backedOff shut s.clock) ds := by
  unfold State.backoffExpiry Door.backedOff
  dsimp only
  split
  · have next := s.setAttempts_op d ((s.door.doors.row d).attempts + 1)
    obtain ⟨shut, reads, warned⟩ := State.toWarning_op (s.setAttempts d ((s.door.doors.row d).attempts + 1)) d
      (s.door.doors.row d).set.rewarning false
    rw [next.row, next.step.moves.clock] at warned
    rw [next.row] at reads
    exact ⟨shut, next.step.moves.readsAs reads, _, next.trans warned⟩
  · exact ⟨_, .self _ _ _, _, s.jam_op d⟩

/-- The record of a door at an obstruction (R150). -/
def Door.obstructed (x : Door) (shut : Bool) (now : Nat) : Door :=
  let y := x.changed .backoff now (expiryFrom now x.set.backoff)
  if x.set.backoff = 0 then y.backedOff shut now else y

theorem State.toBackoff_op (s : State) (d : Fin 24) :
    ∃ shut, s.readsAs d (s.door.doors.row d).set.closedCond shut ∧ ∃ ds,
      s.DoorOp (s.toBackoff d) d ((s.door.doors.row d).obstructed shut s.clock) ds := by
  have entered := s.doorTo_op d .backoff (s.expiry (s.door.doors.row d).set.backoff)
  unfold State.toBackoff Door.obstructed
  dsimp only
  split
  · obtain ⟨shut, reads, ds, expired⟩ :=
      State.backoffExpiry_op (s.doorTo d .backoff (s.expiry (s.door.doors.row d).set.backoff)) d
    rw [entered.row, entered.step.moves.clock] at expired
    rw [entered.row] at reads
    exact ⟨shut, entered.step.moves.readsAs reads, _, entered.trans expired⟩
  · exact ⟨_, .self _ _ _, _, entered⟩

end Sys2Proof.Machine
end

section
/-! PROOFS. DOOR: the end of an event, and what expiries and cut-offs do to a door (R142, R149 to R154). -/

namespace Sys2Proof.Machine
variable {s t u : State} {d : Fin 24} {x y : Door} {f : State → State}

/-! ## The end of an event (R142, R148) -/

/-- The doors that an event has moved. -/
def State.movedDoors (s t : State) : List (Fin 24) :=
  (List.finRange 24).filter fun d => s.door.doors.row d != t.door.doors.row d

/-- The channels as the doors moved leave them. -/
def State.levelled (s t : State) : Chans := ((s.movedDoors t).foldl State.doorLevels t).chans

theorem State.foldl_doorLevels (s : State) (ds : List (Fin 24)) :
    ds.foldl State.doorLevels s = s.setChans (ds.foldl State.doorLevels s).chans := by
  refine foldl_holds (fun t => t = s.setChans t.chans) State.doorLevels (fun t d h => ?_) ds s rfl
  exact State.setChans_trans h (t.doorLevels_frame d)

/-- An event of DOOR ends with the levels of the doors it moved, and the warning calls in door order. -/
theorem doorEvent_eq (f : State → State) (s : State) : doorEvent f s = { f s with
    chans := s.levelled (f s)
    handed := (f s).handed.take s.handed.length ++ warningsInOrder ((f s).handed.drop s.handed.length) } := by
  have levels := State.foldl_doorLevels (f s) (s.movedDoors (f s))
  unfold doorEvent
  dsimp only
  rw [show (List.finRange 24).filter (fun d => s.door.doors.row d != (f s).door.doors.row d) = s.movedDoors (f s) from rfl,
    levels]
  rfl

theorem isQueue_of_isWarning {i : Instr} (h : isWarning i d = true) : isQueue i = true := by
  unfold isWarning at h
  split at h
  · rfl
  · cases h

theorem State.callOf_warning {i : Instr} {e : Fin 24} (is : s.callOf d = some i) : isWarning i e = decide (d = e) := by
  unfold State.callOf at is
  split at is
  · cases is
  · obtain ⟨m, -, rfl⟩ := Option.map_eq_some_iff.mp is
    simp [isWarning]
    rfl

theorem filter_isWarning {ds : List (Fin 24)} (nodup : ds.Nodup) (e : Fin 24) :
    (ds.filterMap s.callOf).filter (fun i => isWarning i e) = if e ∈ ds then (s.callOf e).toList else [] := by
  induction ds with
  | nil => rfl
  | cons d ds ih =>
    obtain ⟨out, nodup⟩ := List.nodup_cons.mp nodup
    have ih := ih nodup
    by_cases same : d = e
    · subst same
      rw [if_neg out] at ih
      rw [if_pos List.mem_cons_self]
      cases call : s.callOf d with
      | none => rw [List.filterMap_cons_none call, ih]; rfl
      | some i =>
        rw [List.filterMap_cons_some call, List.filter_cons_of_pos (by simp [State.callOf_warning call]), ih]
        rfl
    · simp only [List.mem_cons, Ne.symm same, false_or]
      rw [← ih]
      cases call : s.callOf d with
      | none => rw [List.filterMap_cons_none call]
      | some i =>
        rw [List.filterMap_cons_some call, List.filter_cons_of_neg (by simp [State.callOf_warning call, same])]

theorem flatMap_toList (l ds : List (Fin 24)) (f : Fin 24 → Option Instr) :
    l.flatMap (fun e => if e ∈ ds then (f e).toList else []) = (l.filter fun d => d ∈ ds).filterMap f := by
  induction l with
  | nil => rfl
  | cons e l ih =>
    rw [List.flatMap_cons, ih]
    by_cases mem : e ∈ ds
    · rw [if_pos mem, List.filter_cons_of_pos (by simpa using mem)]
      cases call : f e with
      | none => rw [List.filterMap_cons_none call]; rfl
      | some i => rw [List.filterMap_cons_some call]; rfl
    · rw [if_neg mem, List.filter_cons_of_neg (by simpa using mem)]
      rfl

/-- The warning calls of a list of doors, put in order, are those of the doors in ascending order. -/
theorem warningsInOrder_queue {l : List Instr} {ds : List (Fin 24)} (nodup : ds.Nodup)
    (queue : l.filter isQueue = ds.filterMap s.callOf) :
    (warningsInOrder l).filter isQueue = ((List.finRange 24).filter fun d => d ∈ ds).filterMap s.callOf := by
  have warns (e : Fin 24) : (l.filter fun i => isWarning i e).filter isQueue =
      if e ∈ ds then (s.callOf e).toList else [] := by
    rw [← filter_isWarning nodup e, ← queue, List.filter_filter, List.filter_filter]
    exact List.filter_congr fun i _ => Bool.and_comm _ _
  have rest : (l.filter fun c => !(List.finRange 24).any (isWarning c)).filter isQueue = [] := by
    rw [List.filter_filter, List.filter_eq_nil_iff]
    intro i mem both
    obtain ⟨isQ, none_⟩ := Bool.and_eq_true_iff.mp both
    have called : i ∈ ds.filterMap s.callOf := queue ▸ List.mem_filter.mpr ⟨mem, isQ⟩
    obtain ⟨d, -, call⟩ := List.mem_filterMap.mp called
    have : (List.finRange 24).any (isWarning i) = true :=
      List.any_eq_true.mpr ⟨d, List.mem_finRange d, by simp [State.callOf_warning call]⟩
    rw [this] at none_
    cases none_
  unfold warningsInOrder
  rw [List.filter_append, rest, List.nil_append, List.filter_flatMap]
  simp only [warns]
  exact flatMap_toList _ _ _

/-- What a step of DOOR leaves as an event: the doors, conditions and marks of the step, the levels of the doors it
moved, and its warning calls in ascending door order. -/
structure State.DoorEnds (s u t : State) (ds : List (Fin 24)) : Prop where
  frame : t = { u with chans := s.levelled u, handed := t.handed }
  handed : ∃ l, t.handed = s.handed ++ l ∧ l.filter isQueue =
    ((List.finRange 24).filter fun d => d ∈ ds).filterMap s.callOf

theorem State.DoorStep.ends {ds : List (Fin 24)} (h : s.DoorStep (f s) ds) (nodup : ds.Nodup) :
    s.DoorEnds (f s) (doorEvent f s) ds := by
  obtain ⟨l, is, queue, -⟩ := h.handed
  rw [doorEvent_eq]
  refine ⟨rfl, warningsInOrder l, ?_, warningsInOrder_queue nodup queue⟩
  show (f s).handed.take s.handed.length ++ warningsInOrder ((f s).handed.drop s.handed.length) = _
  rw [is, List.take_left, List.drop_left]

/-- The queue requests of the event. -/
theorem State.DoorEnds.queued {ds : List (Fin 24)} (h : s.DoorEnds u t ds) :
    t.queuedSince s = ((List.finRange 24).filter fun d => d ∈ ds).filterMap s.callOf := by
  obtain ⟨l, is, queue⟩ := h.handed
  unfold State.queuedSince
  rw [is, List.drop_left, queue]

theorem State.DoorEnds.door {ds : List (Fin 24)} (h : s.DoorEnds u t ds) : t.door = u.door := by rw [h.frame]
theorem State.DoorEnds.req {ds : List (Fin 24)} (h : s.DoorEnds u t ds) : t.req = u.req := by rw [h.frame]
theorem State.DoorEnds.board {ds : List (Fin 24)} (h : s.DoorEnds u t ds) : t.board = u.board := by rw [h.frame]
theorem State.DoorEnds.line {ds : List (Fin 24)} (h : s.DoorEnds u t ds) : t.line = u.line := by rw [h.frame]
theorem State.DoorEnds.chans {ds : List (Fin 24)} (h : s.DoorEnds u t ds) : t.chans = s.levelled u := by rw [h.frame]

theorem ascending_filter (p : Fin 24 → Bool) : ((List.finRange 24).filter p).Pairwise fun a b => a < b :=
  List.Pairwise.filter _ (List.pairwise_lt_finRange 24)

/-! ## The levels of a door that moves (R142) -/

theorem State.movedDoors_of_op {ds : List (Fin 24)} (h : s.DoorOp u d y ds) (moved : y ≠ s.door.doors.row d) :
    s.movedDoors u = [d] := by
  have only (e : Fin 24) : (s.door.doors.row e != u.door.doors.row e) = (e == d) := by
    by_cases same : e = d
    · rw [same, h.row, beq_self_eq_true, bne_iff_ne]
      exact moved.symm
    · rw [h.others e same, bne_self_eq_false, beq_eq_false_iff_ne.mpr same]
  unfold State.movedDoors
  simp only [only]
  rw [List.filter_beq, List.count_eq_one_of_mem (List.nodup_finRange 24) (List.mem_finRange d)]
  rfl

theorem DoorState.levels_iff (st : DoorState) : (st.levels.1 = true ↔ st = .closing)
    ∧ (st.levels.2 = true ↔ st = .backoff ∨ st = .opening) := by
  cases st <;> decide

theorem State.doorLevels_requested {a b : Fin 16} (close : (s.door.doors.row d).set.closeCh = some a)
    (open_ : (s.door.doors.row d).set.openCh = some b) (apart : a ≠ b) (own : (s.chans.row a).set.owner = .door d)
    (own' : (s.chans.row b).set.owner = .door d) (service : s.req.mode = .service) :
    ((s.doorLevels d).chans.row a).requested = (s.door.doors.row d).state.levels.1
    ∧ ((s.doorLevels d).chans.row b).requested = (s.door.doors.row d).state.levels.2 := by
  unfold State.doorLevels
  dsimp only
  rw [close, open_]
  have service' : (s.ownerLevel (.door d) (some a) (s.door.doors.row d).state.levels.1).req.mode = .service := by
    rw [State.ownerLevel_req]; exact service
  rw [State.ownerLevel_requested _ _ _ _ (.inr service'), State.ownerLevel_requested _ _ _ _ (.inr service'),
    State.ownerLevel_requested _ _ _ _ (.inr service), State.ownerLevel_set, State.ownerLevel_set]
  simp [own, own', apart.symm]

/-! ## The mark of a jammed door (R152) -/

theorem State.jam_marks (s : State) (d : Fin 24) : (s.jam d).req.marks.getLsbD 9 = true := by
  rw [State.jam, State.notice_marks, BitVec.getLsbD_or]
  exact Bool.or_eq_true_iff.mpr (.inr rfl)

theorem State.backoffExpiry_marks (limit : ¬ (s.door.doors.row d).attempts < (s.door.doors.row d).set.retryLimit + 1) :
    (s.backoffExpiry d).req.marks.getLsbD 9 = true := by
  unfold State.backoffExpiry
  dsimp only
  rw [if_neg limit]
  exact s.jam_marks d

theorem State.toBackoff_marks (zero : (s.door.doors.row d).set.backoff = 0)
    (limit : ¬ (s.door.doors.row d).attempts < (s.door.doors.row d).set.retryLimit + 1) :
    (s.toBackoff d).req.marks.getLsbD 9 = true := by
  have row := (s.doorTo_op d .backoff (s.expiry (s.door.doors.row d).set.backoff)).row
  unfold State.toBackoff
  dsimp only
  rw [if_pos zero]
  exact State.backoffExpiry_marks (by rw [row]; exact limit)

/-! ## Expiries and cut-offs (R149 to R154) -/

theorem exec_doorStateTimerExpiry (running : s.inReset = false) (d : Fin 24) :
    exec (.doorStateTimerExpiry d) s = .next (if (s.door.doors.row d).due.isSome = true
      then (s.take (.doorStateTimerExpiry d)).doorExpiry d else s.take (.doorStateTimerExpiry d)) :=
  event_of_running s (.doorStateTimerExpiry d)
    (fun s => if (s.door.doors.row d).due.isSome then s.doorExpiry d else s) running

theorem exec_cutoffEvent_door (running : s.inReset = false) (d : Fin 24) (ch : Fin 16) :
    exec (.cutoffEvent (.door d) ch) s =
      .next ((s.take (.cutoffEvent (.door d) ch)).doorCutoff d ch) :=
  event_of_running s (.cutoffEvent (.door d) ch) (fun s => s.doorCutoff d ch) running

/-- What an expiry or a cut-off makes of a door that acts on it. -/
def Door.movedOn (x : Door) (cut shut : Bool) (now : Nat) : Door :=
  match x.state with
  | .warning => x.shutting shut now
  | .closing => x.obstructed shut now
  | .backoff => if cut then x.changed .jammed now none else x.backedOff shut now
  | .opening => x.changed .jammed now none
  | .unset | .opened | .closed | .jammed => x

/-- The step of an expiry or of a cut-off at a door that acts on it. -/
def State.movedOn (d : Fin 24) (cut : Bool) (s : State) : State :=
  match (s.door.doors.row d).state with
  | .warning => s.toClosing d
  | .closing => s.toBackoff d
  | .backoff => if cut then s.jam d else s.backoffExpiry d
  | .opening => s.jam d
  | .unset | .opened | .closed | .jammed => s

theorem State.movedOn_op (s : State) (d : Fin 24) (cut : Bool) :
    ∃ shut, s.readsAs d (s.door.doors.row d).set.closedCond shut
      ∧ ((s.door.doors.row d).state = .warning → shut = s.switch d (s.door.doors.row d).set.closedCond) ∧ ∃ ds,
      s.DoorOp (s.movedOn d cut) d ((s.door.doors.row d).movedOn cut shut s.clock) ds := by
  unfold State.movedOn Door.movedOn
  cases state : (s.door.doors.row d).state with
  | warning => exact ⟨_, .self _ _ _, fun _ => rfl, _, s.toClosing_op d⟩
  | closing =>
    obtain ⟨shut, reads, ds, op⟩ := s.toBackoff_op d
    exact ⟨shut, reads, (nomatch ·), ds, op⟩
  | backoff =>
    cases cut with
    | true => exact ⟨_, .self _ _ _, (nomatch ·), _, s.jam_op d⟩
    | false =>
      obtain ⟨shut, reads, ds, op⟩ := s.backoffExpiry_op d
      exact ⟨shut, reads, (nomatch ·), ds, op⟩
  | opening => exact ⟨_, .self _ _ _, (nomatch ·), _, s.jam_op d⟩
  | unset => exact ⟨_, .self _ _ _, (nomatch ·), _, .refl s d⟩
  | opened => exact ⟨_, .self _ _ _, (nomatch ·), _, .refl s d⟩
  | closed => exact ⟨_, .self _ _ _, (nomatch ·), _, .refl s d⟩
  | jammed => exact ⟨_, .self _ _ _, (nomatch ·), _, .refl s d⟩

theorem doorEvent_congr {g : State → State} (same : f s = g s) : doorEvent f s = doorEvent g s := by
  unfold doorEvent
  rw [same]

theorem State.doorExpiry_eq (s : State) (d : Fin 24) : s.doorExpiry d = doorEvent (State.movedOn d false) s := by
  unfold State.doorExpiry
  refine doorEvent_congr ?_
  unfold State.movedOn
  cases (s.door.doors.row d).state <;> rfl

/-- The cut-off of a channel that the door's state does not drive (R149 to R154). -/
theorem State.doorCutoff_of_other {ch : Fin 16} (not : ¬ ((s.door.doors.row d).state = .closing
      ∧ (s.door.doors.row d).set.closeCh = some ch
    ∨ ((s.door.doors.row d).state = .backoff ∨ (s.door.doors.row d).state = .opening)
      ∧ (s.door.doors.row d).set.openCh = some ch)) : s.doorCutoff d ch = s := by
  obtain ⟨close, open_⟩ := not_or.mp not
  unfold State.doorCutoff
  rw [doorEvent_congr (g := id), doorEvent_of_same (f := id) rfl rfl, id]
  dsimp only
  cases state : (s.door.doors.row d).state with
  | closing => exact if_neg fun h => close ⟨state, h⟩
  | backoff => exact if_neg fun h => open_ ⟨.inl state, h⟩
  | opening => exact if_neg fun h => open_ ⟨.inr state, h⟩
  | _ => rfl

theorem State.doorCutoff_of_named {ch : Fin 16} (named : (s.door.doors.row d).state = .closing
      ∧ (s.door.doors.row d).set.closeCh = some ch
    ∨ ((s.door.doors.row d).state = .backoff ∨ (s.door.doors.row d).state = .opening)
      ∧ (s.door.doors.row d).set.openCh = some ch) : s.doorCutoff d ch = doorEvent (State.movedOn d true) s := by
  unfold State.doorCutoff
  refine doorEvent_congr ?_
  unfold State.movedOn
  rcases named with ⟨state, is⟩ | ⟨state | state, is⟩
  · simp only [state, is, if_true]
  · simp only [state, is, if_true]
  · simp only [state, is, if_true]

end Sys2Proof.Machine
end

section
/-! PROOFS. DOOR: the timers and the cut-offs (R149 to R154). -/

namespace Sys2Proof.Machine
variable {s t u : State} {d : Fin 24} {x y : Door} {shut : Bool} {now : Nat}

/-! ## What the steps make of a record -/

theorem Door.shutting_true (x : Door) (now : Nat) : x.shutting true now = x.changed .closed now none := rfl
theorem Door.shutting_false (x : Door) (now : Nat) :
    x.shutting false now = x.changed .closing now (expiryFrom now x.set.closeTimeout) := rfl

theorem Door.shutting_kept (x : Door) (shut : Bool) (now : Nat) : (x.shutting shut now).set = x.set
    ∧ (x.shutting shut now).attempts = x.attempts ∧ (x.shutting shut now).state ≠ .jammed := by
  cases shut
  · exact ⟨rfl, rfl, (nomatch ·)⟩
  · exact ⟨rfl, rfl, (nomatch ·)⟩

/-- A door that passes on to CLOSING, by the reading of its closed condition (R149). -/
theorem Door.shutting_reads (x : Door) (shut : Bool) (now : Nat) :
    (shut = true → (x.shutting shut now).state = .closed ∧ (x.shutting shut now).due = none)
    ∧ (shut = false → (x.shutting shut now).state = .closing ∧ (x.shutting shut now).due =
        if x.set.closeTimeout = 0 then none else some (now + x.set.closeTimeout * 100000)) := by
  cases shut
  · exact ⟨(nomatch ·), fun _ => ⟨rfl, rfl⟩⟩
  · exact ⟨fun _ => ⟨rfl, rfl⟩, (nomatch ·)⟩

theorem Door.warned_waits {time : Nat} (some_ : time ≠ 0) (x : Door) (shut : Bool) (now : Nat) :
    x.warned time false shut now = x.changed .warning now (some (now + time * 100000)) := by
  unfold Door.warned expiryFrom
  rw [if_neg (by simpa using some_), if_neg some_]

theorem Door.warned_passes {time : Nat} {atOnce : Bool} (now_ : time = 0 ∨ atOnce = true) (x : Door) (shut : Bool)
    (now : Nat) : x.warned time atOnce shut now = x.shutting shut now := if_pos now_

theorem Door.warned_kept (x : Door) (time : Nat) (atOnce shut : Bool) (now : Nat) :
    (x.warned time atOnce shut now).set = x.set ∧ (x.warned time atOnce shut now).attempts = x.attempts
    ∧ (x.warned time atOnce shut now).state ≠ .jammed := by
  unfold Door.warned
  split
  · exact x.shutting_kept shut now
  · exact ⟨rfl, rfl, (nomatch ·)⟩

/-- A door at the end of its back-off cycle (R151, R152). -/
theorem Door.backedOff_limit (limit : x.set.retryLimit + 1 ≤ x.attempts) :
    x.backedOff shut now = x.changed .jammed now none := if_neg (Nat.not_lt.mpr limit)

/-- A door that tries again (R151). -/
theorem Door.backedOff_again (again : x.attempts < x.set.retryLimit + 1) :
    x.backedOff shut now = { x with attempts := x.attempts + 1 }.warned x.set.rewarning false shut now := if_pos again

theorem Door.obstructed_waits (some_ : x.set.backoff ≠ 0) :
    x.obstructed shut now = x.changed .backoff now (some (now + x.set.backoff * 100000)) := by
  unfold Door.obstructed expiryFrom
  dsimp only
  rw [if_neg some_, if_neg some_]

theorem Door.obstructed_expires (zero : x.set.backoff = 0) :
    x.obstructed shut now = (x.changed .backoff now none).backedOff shut now := by
  unfold Door.obstructed expiryFrom
  dsimp only
  rw [if_pos zero, if_pos zero]

/-- The end of a back-off cycle, at whatever state of the door it stands (R151, R152). -/
structure Door.CyclesTo (x y : Door) (shut : Bool) (now : Nat) : Prop where
  set : y.set = x.set
  limit : x.set.retryLimit + 1 ≤ x.attempts → y.state = .jammed ∧ y.attempts = x.attempts ∧ y.due = none
  again : x.attempts < x.set.retryLimit + 1 → y.attempts = x.attempts + 1 ∧ y.state ≠ .jammed
  waits : x.attempts < x.set.retryLimit + 1 → x.set.rewarning ≠ 0 →
    y.state = .warning ∧ y.due = some (now + x.set.rewarning * 100000)
  passes : x.attempts < x.set.retryLimit + 1 → x.set.rewarning = 0 →
    (shut = true → y.state = .closed ∧ y.due = none)
    ∧ (shut = false → y.state = .closing ∧ y.due =
        if x.set.closeTimeout = 0 then none else some (now + x.set.closeTimeout * 100000))

theorem Door.backedOff_cycles (x : Door) (shut : Bool) (now : Nat) : x.CyclesTo (x.backedOff shut now) shut now := by
  by_cases again : x.attempts < x.set.retryLimit + 1
  · have kept := Door.warned_kept { x with attempts := x.attempts + 1 } x.set.rewarning false shut now
    rw [Door.backedOff_again again]
    refine ⟨kept.1, fun limit => by omega, fun _ => kept.2, fun _ some_ => ?_, fun _ zero => ?_⟩
    · rw [Door.warned_waits some_]
      exact ⟨rfl, rfl⟩
    · rw [Door.warned_passes (.inl zero)]
      exact Door.shutting_reads _ shut now
  · rw [Door.backedOff_limit (Nat.le_of_not_lt again)]
    exact ⟨rfl, fun _ => ⟨rfl, rfl, rfl⟩, fun h => absurd h again, fun h => absurd h again, fun h => absurd h again⟩

theorem Door.obstructed_cycles (x : Door) (shut : Bool) (now : Nat) (zero : x.set.backoff = 0) :
    x.CyclesTo (x.obstructed shut now) shut now := by
  have h := Door.backedOff_cycles (x.changed .backoff now none) shut now
  rw [Door.obstructed_expires zero]
  exact ⟨h.set, h.limit, h.again, h.waits, h.passes⟩

theorem Door.movedOn_set (x : Door) (cut shut : Bool) (now : Nat) : (x.movedOn cut shut now).set = x.set := by
  unfold Door.movedOn
  cases x.state with
  | warning => exact (x.shutting_kept shut now).1
  | closing =>
    by_cases zero : x.set.backoff = 0
    · exact (x.obstructed_cycles shut now zero).set
    · rw [Door.obstructed_waits zero]; rfl
  | backoff =>
    cases cut
    · exact (x.backedOff_cycles shut now).set
    · rfl
  | _ => rfl

theorem Door.movedOn_jammed {cut : Bool} (jams : (x.movedOn cut shut now).state = .jammed) (from_ : x.state ≠ .jammed) :
    (x.movedOn cut shut now).due = none
    ∧ (x.state = .opening ∨ (x.state = .backoff ∧ (cut = true ∨ ¬ x.attempts < x.set.retryLimit + 1))
      ∨ (x.state = .closing ∧ x.set.backoff = 0 ∧ ¬ x.attempts < x.set.retryLimit + 1)) := by
  unfold Door.movedOn at jams ⊢
  cases state : x.state with
  | warning => rw [state] at jams; exact absurd jams (x.shutting_kept shut now).2.2
  | closing =>
    rw [state] at jams
    by_cases zero : x.set.backoff = 0
    · have cycles := x.obstructed_cycles shut now zero
      by_cases again : x.attempts < x.set.retryLimit + 1
      · exact absurd jams (cycles.again again).2
      · exact ⟨(cycles.limit (Nat.le_of_not_lt again)).2.2, .inr (.inr ⟨rfl, zero, again⟩)⟩
    · dsimp only at jams
      rw [Door.obstructed_waits zero] at jams
      cases jams
  | backoff =>
    rw [state] at jams
    cases cut with
    | true => exact ⟨rfl, .inr (.inl ⟨rfl, .inl rfl⟩)⟩
    | false =>
      have cycles := x.backedOff_cycles shut now
      by_cases again : x.attempts < x.set.retryLimit + 1
      · exact absurd jams (cycles.again again).2
      · exact ⟨(cycles.limit (Nat.le_of_not_lt again)).2.2, .inr (.inl ⟨rfl, .inr again⟩)⟩
  | opening => exact ⟨rfl, .inl rfl⟩
  | unset => rw [state] at jams; dsimp only at jams; rw [state] at jams; cases jams
  | opened => rw [state] at jams; dsimp only at jams; rw [state] at jams; cases jams
  | closed => rw [state] at jams; dsimp only at jams; rw [state] at jams; cases jams
  | jammed => exact absurd state from_

/-! ## The event -/

theorem State.movedOn_marks {cut : Bool} (jams : (s.door.doors.row d).state = .opening
      ∨ ((s.door.doors.row d).state = .backoff ∧ (cut = true
        ∨ ¬ (s.door.doors.row d).attempts < (s.door.doors.row d).set.retryLimit + 1))
      ∨ ((s.door.doors.row d).state = .closing ∧ (s.door.doors.row d).set.backoff = 0
        ∧ ¬ (s.door.doors.row d).attempts < (s.door.doors.row d).set.retryLimit + 1)) :
    (s.movedOn d cut).req.marks.getLsbD 9 = true := by
  unfold State.movedOn
  rcases jams with opening | ⟨backoff, last⟩ | ⟨closing, zero, limit⟩
  · rw [opening]; exact s.jam_marks d
  · rw [backoff]
    dsimp only
    split
    · exact s.jam_marks d
    · rename_i not
      exact State.backoffExpiry_marks (last.resolve_left not)
  · rw [closing]
    exact State.toBackoff_marks zero limit

theorem State.switch_some (s : State) (d : Fin 24) (c : Fin 64) : s.switch d (some c) = s.cond c := rfl

/-- What an event that acts on a door leaves of it, and of its channels (R142, R149 to R154). -/
theorem State.movedOn_ends (s : State) (d : Fin 24) (cut : Bool)
    (acts : cut = true → (s.door.doors.row d).state ≠ .warning) :
    let t := doorEvent (State.movedOn d cut) s
    let x := s.door.doors.row d
    let y := t.door.doors.row d
    y.set = x.set
    ∧ (∀ other, other ≠ d → t.door.doors.row other = s.door.doors.row other)
    ∧ (∀ c, x.state = .warning → x.set.closedCond = some c →
        (s.cond c = true → y.state = .closed ∧ y.due = none)
        ∧ (s.cond c = false → y.state = .closing
            ∧ y.due = if x.set.closeTimeout = 0 then none
              else some (s.clock + x.set.closeTimeout * 100000)))
    ∧ (x.state = .closing → x.set.backoff ≠ 0 → y.state = .backoff
        ∧ y.due = some (s.clock + x.set.backoff * 100000) ∧ y.attempts = x.attempts)
    ∧ (cut = false → x.state = .backoff → x.attempts < x.set.retryLimit + 1 →
        x.set.rewarning ≠ 0 → y.state = .warning ∧ y.attempts = x.attempts + 1
        ∧ y.due = some (s.clock + x.set.rewarning * 100000))
    ∧ (x.state = .closing ∧ x.set.backoff = 0 ∨ cut = false ∧ x.state = .backoff →
        (x.set.retryLimit + 1 ≤ x.attempts → y.state = .jammed ∧ y.attempts = x.attempts)
        ∧ (x.attempts < x.set.retryLimit + 1 → y.attempts = x.attempts + 1
          ∧ (x.set.rewarning ≠ 0 → y.state = .warning
            ∧ y.due = some (s.clock + x.set.rewarning * 100000))
          ∧ ∀ c k, x.set.rewarning = 0 → x.set.closedCond = some c → 16 ≤ c.val →
              (s.board.conds.row c).source = .threshold k →
              (s.cond c = true → y.state = .closed ∧ y.due = none)
              ∧ (s.cond c = false → y.state = .closing
                ∧ y.due = if x.set.closeTimeout = 0 then none
                  else some (s.clock + x.set.closeTimeout * 100000))))
    ∧ (cut = false → x.state = .backoff → x.set.retryLimit + 1 ≤ x.attempts → y.state = .jammed)
    ∧ (x.state = .opening → y.state = .jammed)
    ∧ (cut = true → x.state = .backoff → y.state = .jammed)
    ∧ (y.state = .jammed → x.state ≠ .jammed → y.due = none ∧ t.req.marks.getLsbD 9 = true)
    ∧ (∀ a b, x.set.closeCh = some a → x.set.openCh = some b → a ≠ b →
        (s.chans.row a).set.owner = .door d → (s.chans.row b).set.owner = .door d →
        s.req.mode = .service → y.state ≠ x.state →
        ((t.chans.row a).requested = true ↔ y.state = .closing)
        ∧ ((t.chans.row b).requested = true ↔ y.state = .backoff ∨ y.state = .opening)) := by
  obtain ⟨shut, reads, warns, ds, op⟩ := s.movedOn_op d cut
  dsimp only
  rw [doorEvent_eq]
  dsimp only
  rw [op.row]
  have cycles : (s.door.doors.row d).state = .closing ∧ (s.door.doors.row d).set.backoff = 0
      ∨ cut = false ∧ (s.door.doors.row d).state = .backoff → (s.door.doors.row d).CyclesTo
        ((s.door.doors.row d).movedOn cut shut s.clock) shut s.clock := by
    unfold Door.movedOn
    rintro (⟨closing, zero⟩ | ⟨rfl, backoff⟩)
    · rw [closing]; exact Door.obstructed_cycles _ shut s.clock zero
    · rw [backoff]; exact Door.backedOff_cycles _ shut s.clock
  refine ⟨Door.movedOn_set _ _ _ _, op.others, fun c warning is => ?_, fun closing some_ => ?_,
    fun notCut backoff again some_ => ?_, fun h => ⟨fun limit => ?_, fun again => ⟨((cycles h).again again).1,
      (cycles h).waits again, fun c k zero is high src => ?_⟩⟩, fun notCut backoff limit => ?_, fun opening => ?_,
    fun isCut backoff => ?_, fun jams from_ => ?_, fun a b close open_ apart own own' service moved => ?_⟩
  · have := (s.door.doors.row d).shutting_reads shut s.clock
    rw [warns warning, is, State.switch_some] at this
    unfold Door.movedOn
    rw [warning, warns warning, is, State.switch_some]
    exact this
  · unfold Door.movedOn
    rw [closing]
    dsimp only
    rw [Door.obstructed_waits some_]
    exact ⟨rfl, rfl, rfl⟩
  · have c := cycles (.inr ⟨notCut, backoff⟩)
    exact ⟨(c.waits again some_).1, (c.again again).1, (c.waits again some_).2⟩
  · exact ⟨((cycles h).limit limit).1, ((cycles h).limit limit).2.1⟩
  · rw [is] at reads
    rw [← reads.cond (State.not_followsDoors_of_threshold high src)]
    exact (cycles h).passes again zero
  · exact ((cycles (.inr ⟨notCut, backoff⟩)).limit limit).1
  · unfold Door.movedOn
    rw [opening]; rfl
  · unfold Door.movedOn
    rw [backoff, isCut]; rfl
  · obtain ⟨due, how⟩ := Door.movedOn_jammed jams from_
    exact ⟨due, State.movedOn_marks how⟩
  · have moves := op.step.moves
    have y_is := op.row
    have ne : (s.door.doors.row d).movedOn cut shut s.clock ≠ s.door.doors.row d := fun e => moved (by rw [e])
    have kept := Door.movedOn_set (s.door.doors.row d) cut shut s.clock
    have levels := State.doorLevels_requested (s := s.movedOn d cut) (d := d) (a := a) (b := b)
      (by rw [y_is, kept]; exact close) (by rw [y_is, kept]; exact open_) apart (by rw [moves.chans]; exact own)
      (by rw [moves.chans]; exact own') (by rw [moves.mode]; exact service)
    rw [y_is] at levels
    unfold State.levelled
    rw [State.movedDoors_of_op op ne, List.foldl_cons, List.foldl_nil, levels.1, levels.2]
    exact DoorState.levels_iff _

/-- Settles O44, by the state in which the door takes the expiry or the cut-off. -/
theorem doorTimersAndCutOffsMoveTheDoor : Obligations.DoorTimersAndCutOffsMoveTheDoor := by
  intro s d ch i running
  dsimp only
  refine ⟨fun is not => ?_, fun is not => ?_, ?_⟩
  · subst is
    rw [exec_doorStateTimerExpiry running, if_neg]
    exact fun due => not ⟨rfl, Option.isSome_iff_ne_none.mp due⟩
  · subst is
    rw [exec_cutoffEvent_door running, State.doorCutoff_of_other]
    exact fun h => not ⟨rfl, h⟩
  · rintro (⟨rfl, due⟩ | ⟨rfl, named⟩)
    · have ends := (s.take (.doorStateTimerExpiry d)).movedOn_ends d false (nomatch ·)
      refine ⟨_, by rw [exec_doorStateTimerExpiry running, if_pos (Option.isSome_iff_ne_none.mpr due)], ?_⟩
      rw [State.doorExpiry_eq]
      obtain ⟨set, others, warns, obstructs, tries, cycles, jams, opens, -, marks, levels⟩ := ends
      exact ⟨set, others, warns, obstructs, fun _ => tries rfl,
        fun h => cycles (h.imp_right fun h => ⟨rfl, h.2⟩), fun _ => jams rfl, opens, fun cut => (nomatch cut.1), marks,
        levels⟩
    · have ends := (s.take (.cutoffEvent (.door d) ch)).movedOn_ends d true fun _ => by
        rcases named with ⟨state, -⟩ | ⟨state | state, -⟩ <;> rw [State.take_door, state] <;> decide
      refine ⟨_, by rw [exec_cutoffEvent_door running], ?_⟩
      rw [State.doorCutoff_of_named (s := s.take _) named]
      obtain ⟨set, others, warns, obstructs, -, cycles, -, opens, backs, marks, levels⟩ := ends
      exact ⟨set, others, warns, obstructs, fun expires => (nomatch expires.1),
        fun h => cycles (h.imp_right fun h => (nomatch h.1.1)), fun expires => (nomatch expires.1), opens,
        fun _ => backs rfl, marks, levels⟩

end Sys2Proof.Machine
end

section
/-! PROOFS. DOOR: doors and groups taken one after the other in one event (R145, R147, R153). -/

namespace Sys2Proof.Machine
variable {s t u w : State} {on on' calls : Fin 24 → Prop} {makes : Fin 24 → Door → Prop}

/-! ## Doors taken one after the other -/

/-- From `t` to `u` every door of `on` has been taken once and is left as `makes` says, every other door stands, and
the doors taken that `calls` names have handed their warning calls. -/
structure State.Walked (t u : State) (on calls : Fin 24 → Prop) (makes : Fin 24 → Door → Prop) : Prop where
  step : ∃ ds : List (Fin 24), ds.Nodup ∧ (∀ d, d ∈ ds ↔ on d ∧ calls d) ∧ t.DoorStep u ds
  stands : ∀ d, ¬ on d → u.door.doors.row d = t.door.doors.row d
  made : ∀ d, on d → makes d (u.door.doors.row d)

theorem State.Walked.moves (h : t.Walked u on calls makes) : t.DoorsMove u := by
  obtain ⟨_, -, -, step⟩ := h.step
  exact step.moves

theorem State.Walked.refl (t : State) (none_ : ∀ d, ¬ on d) : t.Walked t on calls makes :=
  ⟨⟨[], List.nodup_nil, fun d => by simp [none_ d], .refl t⟩, fun _ _ => rfl, fun d h => absurd h (none_ d)⟩

theorem State.Walked.trans (h : t.Walked u on calls makes) (g : u.Walked w on' calls makes)
    (apart : ∀ d, on d → ¬ on' d) : t.Walked w (fun d => on d ∨ on' d) calls makes := by
  obtain ⟨ds, nodup, mem, step⟩ := h.step
  obtain ⟨es, nodup', mem', step'⟩ := g.step
  refine ⟨⟨ds ++ es, ?_, fun d => ?_, step.trans step'⟩, fun d out => ?_, fun d in_ => ?_⟩
  · refine List.nodup_append.mpr ⟨nodup, nodup', fun a ha b hb e => ?_⟩
    subst e
    exact apart a ((mem a).mp ha).1 ((mem' a).mp hb).1
  · rw [List.mem_append, mem, mem', or_and_right]
  · exact (g.stands d fun h => out (.inr h)).trans (h.stands d fun h => out (.inl h))
  · rcases in_ with first | second
    · rw [g.stands d (apart d first)]
      exact h.made d first
    · exact g.made d second

theorem State.Walked.congr (h : t.Walked u on calls makes) (same : ∀ d, on' d ↔ on d) : t.Walked u on' calls makes := by
  have : on' = on := funext fun d => propext (same d)
  rw [this]
  exact h

/-- A step that takes one door. -/
theorem State.DoorOp.walked {d : Fin 24} {y : Door} {ds : List (Fin 24)} (h : t.DoorOp u d y ds) (nodup : ds.Nodup)
    (mem : ∀ e, e ∈ ds ↔ e = d ∧ calls e) (made : makes d y) : t.Walked u (· = d) calls makes :=
  ⟨⟨ds, nodup, mem, h.step⟩, h.others, fun e is => by rw [is, h.row]; exact made⟩

/-- The doors of a list are taken one after the other, each as it stood before the event. -/
theorem State.walkDoors {f : State → Fin 24 → State} {l : List (Fin 24)} (nodup : l.Nodup)
    (one : ∀ d ∈ l, ∀ t, s.DoorsMove t → t.door.doors.row d = s.door.doors.row d → t.Walked (f t d) (· = d) calls makes)
    (t : State) (moves : s.DoorsMove t) (rows : ∀ d ∈ l, t.door.doors.row d = s.door.doors.row d) :
    t.Walked (l.foldl f t) (· ∈ l) calls makes := by
  induction l generalizing t with
  | nil => exact .refl t fun d => List.not_mem_nil
  | cons d l ih =>
    obtain ⟨out, nodup⟩ := List.nodup_cons.mp nodup
    have first := one d List.mem_cons_self t moves (rows d List.mem_cons_self)
    have rest := ih nodup (fun e mem => one e (List.mem_cons_of_mem d mem)) (f t d) (moves.trans first.moves)
      fun e mem => (first.stands e fun is => out (is ▸ mem)).trans (rows e (List.mem_cons_of_mem d mem))
    exact (first.trans rest fun e is mem => out (is ▸ mem)).congr fun e => List.mem_cons

/-! ## Groups taken one after the other -/

/-- Door `d` is of group `g`. -/
def State.ofGroup (s : State) (g : Fin 8) (d : Fin 24) : Prop := (s.door.doors.row d).set.group = some g

theorem State.mem_doorsOf {g : Fin 8} {d : Fin 24} : d ∈ s.doorsOf g ↔ s.ofGroup g d := by
  unfold State.doorsOf State.ofGroup
  rw [List.mem_filter]
  simp

theorem State.doorsOf_nodup (s : State) (g : Fin 8) : (s.doorsOf g).Nodup := (List.nodup_finRange 24).filter _

theorem State.DoorsMove.doorsOf (h : s.DoorsMove t) (g : Fin 8) : t.doorsOf g = s.doorsOf g := by
  unfold State.doorsOf
  exact List.filter_congr fun d _ => by rw [h.set]

/-- A relation between the states before and after the doors of some groups have been taken: groups taken one after
the other compose, and the doors of other groups stand. -/
structure State.ByGroups (s : State) (R : State → State → (Fin 8 → Prop) → Prop) : Prop where
  refl : ∀ t p, (∀ g, ¬ p g) → R t t p
  trans : ∀ t u w p q, R t u p → R u w q → (∀ g, p g → ¬ q g) → R t w fun g => p g ∨ q g
  moves : ∀ t u p, R t u p → t.DoorsMove u
  stands : ∀ t u p, R t u p → ∀ d, (∀ g, p g → ¬ s.ofGroup g d) → u.door.doors.row d = t.door.doors.row d

theorem State.ByGroups.congr {R : State → State → (Fin 8 → Prop) → Prop} {p q : Fin 8 → Prop} (h : R t u p)
    (same : ∀ g, q g ↔ p g) : R t u q := by
  have : q = p := funext fun g => propext (same g)
  rw [this]
  exact h

theorem State.walked_byGroups (s : State) (calls : Fin 24 → Prop) (makes : Fin 24 → Door → Prop) :
    s.ByGroups fun t u p => t.Walked u (fun d => ∃ g, p g ∧ s.ofGroup g d) calls makes where
  refl t p none_ := .refl t fun d ⟨g, is, _⟩ => none_ g is
  trans t u w p q first rest apart := by
    refine (first.trans rest fun d ⟨g, is, of⟩ ⟨g', is', of'⟩ => ?_).congr fun d => ?_
    · obtain rfl : g = g' := Option.some.inj (of.symm.trans of')
      exact apart g is is'
    · simp only [or_and_right, exists_or]
  moves _ _ _ h := h.moves
  stands _ _ _ h d out := h.stands d fun ⟨g, is, of⟩ => out g is of

/-- The groups of a list that `acts` names are taken, one after the other, each with its doors as they stood. -/
theorem State.walkGroups {R : State → State → (Fin 8 → Prop) → Prop} (by_ : s.ByGroups R) {F : State → Fin 8 → State}
    {acts : Fin 8 → Prop} {gs : List (Fin 8)} (nodup : gs.Nodup)
    (one : ∀ g ∈ gs, ∀ t, s.DoorsMove t → (∀ d, s.ofGroup g d → t.door.doors.row d = s.door.doors.row d) →
      R t (F t g) fun g' => g' = g ∧ acts g)
    (t : State) (moves : s.DoorsMove t)
    (rows : ∀ g ∈ gs, ∀ d, s.ofGroup g d → t.door.doors.row d = s.door.doors.row d) :
    R t (gs.foldl F t) fun g => g ∈ gs ∧ acts g := by
  induction gs generalizing t with
  | nil => exact by_.refl t _ fun g h => nomatch h.1
  | cons g gs ih =>
    obtain ⟨out, nodup⟩ := List.nodup_cons.mp nodup
    have first := one g List.mem_cons_self t moves (rows g List.mem_cons_self)
    have rest := ih nodup (fun g' mem => one g' (List.mem_cons_of_mem g mem)) (F t g) (moves.trans (by_.moves _ _ _ first))
      fun g' mem d of => (by_.stands _ _ _ first d ?_).trans (rows g' (List.mem_cons_of_mem g mem) d of)
    · refine State.ByGroups.congr (R := R) (by_.trans _ _ _ _ _ first rest fun g' h h' => out (h.1 ▸ h'.1)) fun g' => ?_
      rw [List.mem_cons, or_and_right]
      exact or_congr_left (and_congr_right fun is => by rw [is])
    · rintro g'' ⟨rfl, -⟩ of'
      obtain rfl : g'' = g' := Option.some.inj (of'.symm.trans of)
      exact out mem

/-! ## Groups of a set, each with its own result (R145, R153) -/

/-- The groups that a set names, in ascending order. -/
def groupsIn (groups : Byte) : List (Fin 8) := (List.finRange 8).filter fun g => groups.getLsbD g.val

theorem mem_groupsIn {groups : Byte} {g : Fin 8} : g ∈ groupsIn groups ↔ groups.getLsbD g.val = true := by
  simp [groupsIn]

theorem groupsIn_nodup (groups : Byte) : (groupsIn groups).Nodup := (List.nodup_finRange 8).filter _

theorem groupsIn_ascending (groups : Byte) : (groupsIn groups).Pairwise fun a b => a < b :=
  List.Pairwise.filter _ (List.pairwise_lt_finRange 8)

/-- The first of the results that is not DONE, or DONE. -/
def firstRefusal (result : Fin 8 → Code) : List (Fin 8) → Code
  | [] => .done
  | g :: gs => if result g = .done then firstRefusal result gs else result g

theorem firstRefusal_done {result : Fin 8 → Code} {gs : List (Fin 8)} (done : ∀ g ∈ gs, result g = .done) :
    firstRefusal result gs = .done := by
  induction gs with
  | nil => rfl
  | cons g gs ih =>
    rw [firstRefusal, if_pos (done g List.mem_cons_self)]
    exact ih fun g' mem => done g' (List.mem_cons_of_mem g mem)

/-- The first group refused gives the result. -/
theorem firstRefusal_of_first {result : Fin 8 → Code} {gs : List (Fin 8)} (ascending : gs.Pairwise fun a b => a < b)
    {g : Fin 8} (mem : g ∈ gs) (refused : result g ≠ .done) (before : ∀ g' ∈ gs, g' < g → result g' = .done) :
    firstRefusal result gs = result g := by
  induction gs with
  | nil => cases mem
  | cons a gs ih =>
    obtain ⟨below, ascending⟩ := List.pairwise_cons.mp ascending
    rcases List.mem_cons.mp mem with rfl | mem
    · exact if_neg refused
    · rw [firstRefusal, if_pos (before a List.mem_cons_self (below g mem))]
      exact ih ascending mem fun g' mem' => before g' (List.mem_cons_of_mem a mem')

theorem eachGroup_state (groups : Byte) (f : Fin 8 → State → Code × State) (s : State) :
    (eachGroup groups f s).2 = (groupsIn groups).foldl (fun t g => (f g t).2) s := by
  have general (l : List (Fin 8)) (r : Code × State) :
      (l.foldl (fun r g => (if r.1 = .done then (f g r.2).1 else r.1, (f g r.2).2)) r).2 =
        l.foldl (fun t g => (f g t).2) r.2 := by
    induction l generalizing r with
    | nil => rfl
    | cons g l ih => exact ih _
  exact general _ _

/-- Groups of a set are taken in one event, each by its own doors, with one result. -/
theorem eachGroup_byGroups {R : State → State → (Fin 8 → Prop) → Prop} (by_ : s.ByGroups R) {groups : Byte}
    {f : Fin 8 → State → Code × State} {acts : Fin 8 → Prop} {result : Fin 8 → Code}
    (one : ∀ g ∈ groupsIn groups, ∀ t, s.DoorsMove t →
      (∀ d, s.ofGroup g d → t.door.doors.row d = s.door.doors.row d) →
      (f g t).1 = result g ∧ R t (f g t).2 fun g' => g' = g ∧ acts g) :
    (eachGroup groups f s).1 = firstRefusal result (groupsIn groups)
    ∧ R s (eachGroup groups f s).2 fun g => groups.getLsbD g.val = true ∧ acts g := by
  have walked := State.walkGroups by_ (F := fun t g => (f g t).2) (groupsIn_nodup groups)
    (fun g mem t moves rows => (one g mem t moves rows).2) s (.refl s) fun _ _ _ _ => rfl
  refine ⟨?_, ?_⟩
  · have general (l : List (Fin 8)) (nodup : l.Nodup) (sub : ∀ g ∈ l, g ∈ groupsIn groups) (r : Code × State)
        (moves : s.DoorsMove r.2)
        (rows : ∀ g ∈ l, ∀ d, s.ofGroup g d → r.2.door.doors.row d = s.door.doors.row d) :
        (l.foldl (fun r g => (if r.1 = .done then (f g r.2).1 else r.1, (f g r.2).2)) r).1 =
          if r.1 = .done then firstRefusal result l else r.1 := by
      induction l generalizing r with
      | nil => exact (ite_eq_right_iff.mpr fun h => h.symm).symm
      | cons g l ih =>
        obtain ⟨out, nodup⟩ := List.nodup_cons.mp nodup
        obtain ⟨code, step⟩ := one g (sub g List.mem_cons_self) r.2 moves (rows g List.mem_cons_self)
        rw [List.foldl_cons, ih nodup (fun g' mem => sub g' (List.mem_cons_of_mem g mem))
          (if r.1 = .done then (f g r.2).1 else r.1, (f g r.2).2) (moves.trans (by_.moves _ _ _ step))]
        · dsimp only
          rw [code, firstRefusal]
          by_cases done : r.1 = .done
          · simp only [if_pos done]
          · simp only [if_neg done]
        · intro g' mem d of
          refine (by_.stands _ _ _ step d ?_).trans (rows g' (List.mem_cons_of_mem g mem) d of)
          rintro g'' ⟨rfl, -⟩ of'
          obtain rfl : g'' = g' := Option.some.inj (of'.symm.trans of)
          exact out mem
    exact (general (groupsIn groups) (groupsIn_nodup groups) (fun _ mem => mem) (.done, s) (.refl s)
      fun _ _ _ _ => rfl).trans (if_pos rfl)
  · rw [eachGroup_state]
    exact State.ByGroups.congr (R := R) walked fun g => by rw [mem_groupsIn]

/-- An event of DOOR whose doors have been walked. -/
theorem State.Walked.ends {f : State → State} (h : s.Walked (f s) on calls makes) :
    ∃ ds : List (Fin 24), (doorEvent f s).queuedSince s = ds.filterMap s.callOf ∧ ds.Pairwise (fun a b => a < b)
      ∧ (∀ d, d ∈ ds ↔ on d ∧ calls d)
      ∧ (doorEvent f s).door = (f s).door := by
  obtain ⟨ds, nodup, mem, step⟩ := h.step
  have ends := step.ends nodup
  exact ⟨_, ends.queued, ascending_filter _, fun d => by simp [mem], ends.door⟩

end Sys2Proof.Machine
end

section
/-! PROOFS. GROUP_CLOSE: what a close request does to a door, group after group (R145, R146, R148). -/

namespace Sys2Proof.Machine
variable {s t : State} {d : Fin 24} {x : Door} {shut : Bool} {now : Nat}

/-! ## One door asked to close (R146) -/

/-- A close request begins a fresh CLOSE SEQUENCE of the door. -/
def Door.begins (x : Door) (explicit : Bool) : Prop :=
  x.state = .opened ∨ x.state = .opening ∨ (explicit = true ∧ x.state = .jammed)

/-- The record of a door after a close request, where its closed condition reads `shut` if it passes to CLOSING. -/
def Door.asked (x : Door) (explicit imm shut : Bool) (now : Nat) : Door :=
  let fresh := { x with attempts := 1 }.warned x.set.warning imm shut now
  match x.state with
  | .opened | .opening => fresh
  | .warning => if imm then x.shutting shut now else x
  | .jammed => if explicit then fresh else x
  | .closing | .closed | .backoff | .unset => x

theorem State.closeRequest_op (s : State) (explicit imm : Bool) (d : Fin 24) :
    ∃ shut, s.readsAs d (s.door.doors.row d).set.closedCond shut ∧ ∃ ds : List (Fin 24), ds.Nodup
      ∧ (∀ e, e ∈ ds ↔ e = d ∧ (s.door.doors.row d).begins explicit)
      ∧ s.DoorOp (s.closeRequest explicit imm d) d ((s.door.doors.row d).asked explicit imm shut s.clock) ds := by
  obtain ⟨shut, reads, fresh⟩ := s.closeSequence_op d imm
  have stands (no : ¬ (s.door.doors.row d).begins explicit) (e : Fin 24) :
      e ∈ ([] : List (Fin 24)) ↔ e = d ∧ (s.door.doors.row d).begins explicit :=
    ⟨(nomatch ·), fun h => absurd h.2 no⟩
  have begins (yes : (s.door.doors.row d).begins explicit) (e : Fin 24) :
      e ∈ [d] ↔ e = d ∧ (s.door.doors.row d).begins explicit := by rw [List.mem_singleton, and_iff_left yes]
  unfold State.closeRequest Door.asked
  cases state : (s.door.doors.row d).state with
  | opened => exact ⟨shut, reads, _, List.nodup_singleton d, begins (.inl state), fresh⟩
  | opening => exact ⟨shut, reads, _, List.nodup_singleton d, begins (.inr (.inl state)), fresh⟩
  | warning =>
    have none_ := stands (by simp [Door.begins, state])
    cases imm with
    | true => exact ⟨_, .self _ _ _, [], List.nodup_nil, none_, s.toClosing_op d⟩
    | false => exact ⟨shut, reads, [], List.nodup_nil, none_, .refl s d⟩
  | jammed =>
    cases explicit with
    | true => exact ⟨shut, reads, _, List.nodup_singleton d, begins (.inr (.inr ⟨rfl, state⟩)), fresh⟩
    | false => exact ⟨shut, reads, [], List.nodup_nil, stands (by simp [Door.begins, state]), .refl s d⟩
  | closing | closed | backoff | unset =>
    exact ⟨shut, reads, [], List.nodup_nil, stands (by simp [Door.begins, state]), .refl s d⟩

/-- What a close request of the doors of a walk makes of each. -/
def State.askedAs (s : State) (explicit imm : Bool) (d : Fin 24) (y : Door) : Prop :=
  ∃ shut, s.readsAs d (s.door.doors.row d).set.closedCond shut
    ∧ y = (s.door.doors.row d).asked explicit imm shut s.clock

theorem State.DoorsMove.closeRequest (h : s.DoorsMove t) (explicit imm : Bool)
    (row : t.door.doors.row d = s.door.doors.row d) : t.Walked (t.closeRequest explicit imm d) (· = d)
      (fun e => (s.door.doors.row e).begins explicit) (s.askedAs explicit imm) := by
  obtain ⟨shut, reads, ds, nodup, mem, op⟩ := t.closeRequest_op explicit imm d
  rw [row] at reads mem op
  refine op.walked nodup (fun e => (mem e).trans (and_congr_right fun is => by rw [is])) ⟨shut, h.readsAs reads, ?_⟩
  rw [h.clock]

/-- The doors of a group are asked to close. -/
theorem State.DoorsMove.closeRequests (h : s.DoorsMove t) (explicit imm : Bool) (g : Fin 8)
    (rows : ∀ d, s.ofGroup g d → t.door.doors.row d = s.door.doors.row d) :
    t.Walked ((t.doorsOf g).foldl (State.closeRequest explicit imm) t) (s.ofGroup g)
      (fun e => (s.door.doors.row e).begins explicit) (s.askedAs explicit imm) := by
  rw [h.doorsOf]
  refine (State.walkDoors (s.doorsOf_nodup g) (fun d _ u moves row => moves.closeRequest explicit imm row) t h
    fun d mem => rows d (State.mem_doorsOf.mp mem)).congr fun d => ?_
  exact State.mem_doorsOf.symm

/-! ## The groups of a GROUP_CLOSE (R145) -/

theorem State.groupHas_iff {g : Fin 8} {st : DoorState} :
    s.groupHas g st = true ↔ ∃ d, (s.door.doors.row d).set.group = some g ∧ (s.door.doors.row d).state = st := by
  simp [State.groupHas, State.mem_doorsOf, State.ofGroup]

theorem State.DoorsMove.groupHas (h : s.DoorsMove t) {g : Fin 8} {st : DoorState}
    (rows : ∀ d, s.ofGroup g d → t.door.doors.row d = s.door.doors.row d) : t.groupHas g st = s.groupHas g st := by
  rw [Bool.eq_iff_iff, State.groupHas_iff, State.groupHas_iff]
  refine exists_congr fun d => ?_
  rw [h.set]
  exact and_congr_right fun of => by rw [rows d of]

theorem eachGroup_close (s : State) (groups : Byte) (imm : Bool) :
    (eachGroup groups (closeGroup imm) s).1 =
      firstRefusal (fun g => if s.groupHas g .unset then .busy else .done) (groupsIn groups)
    ∧ s.Walked (eachGroup groups (closeGroup imm) s).2
      (fun d => ∃ g, (groups.getLsbD g.val = true ∧ s.groupHas g .unset = false) ∧ s.ofGroup g d)
      (fun e => (s.door.doors.row e).begins true) (s.askedAs true imm) := by
  refine eachGroup_byGroups (s.walked_byGroups _ _) fun g _ t moves rows => ?_
  unfold closeGroup
  rw [moves.groupHas rows]
  by_cases unset : s.groupHas g .unset = true
  · rw [if_pos unset, if_pos unset]
    exact ⟨rfl, .refl t fun d ⟨g', is, _⟩ => by simp [unset] at is⟩
  · rw [if_neg unset, if_neg unset]
    exact ⟨rfl, (moves.closeRequests true imm g rows).congr fun d =>
      ⟨fun ⟨g', is, of⟩ => is.1 ▸ of, fun of => ⟨g, ⟨rfl, Bool.eq_false_of_not_eq_true unset⟩, of⟩⟩⟩

/-- The result of a set of groups: DONE, or that of the lowest-numbered refused group. -/
theorem firstRefusal_groupsIn {result : Fin 8 → Code} {groups : Byte} :
    ((∀ g : Fin 8, groups.getLsbD g.val = true → result g = .done) → firstRefusal result (groupsIn groups) = .done)
    ∧ ∀ g : Fin 8, groups.getLsbD g.val = true → result g ≠ .done →
      (∀ g', g' < g → groups.getLsbD g'.val = true → result g' = .done) →
      firstRefusal result (groupsIn groups) = result g :=
  ⟨fun done => firstRefusal_done fun g mem => done g (mem_groupsIn.mp mem), fun _ named refused before =>
    firstRefusal_of_first (groupsIn_ascending groups) (mem_groupsIn.mpr named) refused fun g' mem below =>
      before g' below (mem_groupsIn.mp mem)⟩

/-- Where every refused group has one result, it is the result of the set. -/
theorem firstRefusal_const {gs : List (Fin 8)} {p : Fin 8 → Bool} {c : Code} {g : Fin 8} (mem : g ∈ gs)
    (refused : p g = true) : firstRefusal (fun g => if p g then c else .done) gs = c := by
  induction gs with
  | nil => cases mem
  | cons a gs ih =>
    rw [firstRefusal]
    by_cases here : p a = true
    · rw [if_pos here]
      by_cases done : c = .done
      · rw [if_pos done, done]
        exact firstRefusal_done fun g' _ => ite_self _
      · exact if_neg done
    · rw [if_neg here, if_pos rfl]
      refine ih ?_
      rcases List.mem_cons.mp mem with rfl | mem
      · exact absurd refused here
      · exact mem

/-! ## The command (R28, R31, R145) -/

theorem exec_groupClose {rq : Requester} {e : Fin 64} {groups imm : Byte} {i : Instr} {code : Code}
    (running : s.inReset = false) (result : groupClose groups imm (s.take i) = (code, t)) :
    (i = .groupClose rq groups imm → s.addressed = true → exec i s = .next (t.reply rq 0x04 code []))
    ∧ (i = .closeGroup e groups imm → exec i s = .next (if code = .done then t else t.refuse e)) := by
  refine ⟨fun is addressed => ?_, fun is => ?_⟩ <;> subst is
  · exact (event_of_request s running addressed).trans (congrArg _ (answered_of_eq _ rq 0x04 result))
  · refine (event_of_running s _ _ running).trans (congrArg _ ?_)
    by_cases done : code = .done
    · subst done
      exact asAction_of_done _ e result
    · rw [if_neg done]
      exact asAction_of_refused _ e result done

theorem groupClose_bad {groups imm : Byte} (bad : groups = 0 ∨ (imm ≠ 0 ∧ imm ≠ 1)) :
    groupClose groups imm s = (.badValue, s) := by
  unfold groupClose
  rcases bad with zero | ⟨not0, not1⟩
  · exact if_pos zero
  · have : flag? imm = none := by rw [flag?, if_neg not0, if_neg not1]
    rw [this]
    split <;> rfl

theorem groupClose_flag {groups imm : Byte} (some_ : groups ≠ 0) (flag : imm = 0 ∨ imm = 1) :
    (s.req.mode = .setup → groupClose groups imm s = (.refusedMode, s))
    ∧ (s.req.mode = .service →
        groupClose groups imm s = doorResult (eachGroup groups (closeGroup (decide (imm = 1)))) s) := by
  have is : flag? imm = some (decide (imm = 1)) := by
    rcases flag with rfl | rfl <;> rfl
  unfold groupClose
  rw [if_neg some_, is]
  refine ⟨fun setup => if_pos setup, fun service => if_neg ?_⟩
  rw [service]
  decide

/-! ## What the door records come to -/

theorem Door.asked_kept (rests : x.state = .closing ∨ x.state = .closed ∨ x.state = .backoff) (explicit imm : Bool) :
    x.asked explicit imm shut now = x := by
  unfold Door.asked
  rcases rests with is | is | is <;> rw [is]

theorem Door.asked_warning (is : x.state = .warning) (explicit imm : Bool) :
    x.asked explicit imm shut now = if imm then x.shutting shut now else x := by
  unfold Door.asked
  rw [is]

theorem Door.asked_begins {explicit : Bool} (begins : x.begins explicit) (imm : Bool) :
    x.asked explicit imm shut now = { x with attempts := 1 }.warned x.set.warning imm shut now := by
  unfold Door.asked
  rcases begins with is | is | ⟨is', is⟩ <;> rw [is]
  exact if_pos is'

/-- A fresh CLOSE SEQUENCE with its warning time. -/
theorem Door.asked_waits {explicit : Bool} (begins : x.begins explicit) (some_ : x.set.warning ≠ 0) :
    x.asked explicit false shut now = { x with
      state := .warning, attempts := 1, timer := { acc := 0, since := some now },
      due := some (now + x.set.warning * 100000) } := by
  rw [Door.asked_begins begins, Door.warned_waits some_]
  rfl

/-- A close request that passes to CLOSING at once. -/
theorem Door.asked_passes {explicit imm : Bool} (passes : (x.begins explicit ∧ (imm = true ∨ x.set.warning = 0))
      ∨ (x.state = .warning ∧ imm = true)) :
    ∃ n, x.asked explicit imm shut now = { x with attempts := n }.shutting shut now
      ∧ n = if x.state = .warning then x.attempts else 1 := by
  rcases passes with ⟨begins, now_⟩ | ⟨is, rfl⟩
  · refine ⟨1, by rw [Door.asked_begins begins, Door.warned_passes now_.symm], (if_neg ?_).symm⟩
    rcases begins with is | is | ⟨-, is⟩ <;> rw [is] <;> decide
  · exact ⟨x.attempts, by rw [Door.asked_warning is]; rfl, (if_pos is).symm⟩

/-- A group without an UNSET door. -/
theorem State.groupHas_eq_false {g : Fin 8} {st : DoorState} : s.groupHas g st = false ↔
    ¬ ∃ d, (s.door.doors.row d).set.group = some g ∧ (s.door.doors.row d).state = st := by
  rw [← State.groupHas_iff, Bool.not_eq_true]

/-- What a close request leaves of a door that takes it. -/
theorem State.askedAs_explicit {imm : Byte} {y : Door}
    (made : s.askedAs true (decide (imm = 1)) d y) :
    let x := s.door.doors.row d
    (x.state = .closing ∨ x.state = .closed ∨ x.state = .backoff → y = x)
    ∧ (imm = 0 → x.state = .warning → y = x)
    ∧ (imm = 0 → (x.state = .opened ∨ x.state = .opening ∨ x.state = .jammed) → x.set.warning ≠ 0 →
        y = { x with state := .warning, attempts := 1, timer := { acc := 0, since := some s.clock },
                     due := some (s.clock + x.set.warning * 100000) })
    ∧ (∀ c k, x.set.closedCond = some c → 16 ≤ c.val → (s.board.conds.row c).source = .threshold k →
        ((x.state = .opened ∨ x.state = .opening ∨ x.state = .jammed) ∧ (imm = 1 ∨ x.set.warning = 0)
          ∨ x.state = .warning ∧ imm = 1) →
        y.set = x.set ∧ y.attempts = (if x.state = .warning then x.attempts else 1)
        ∧ (s.cond c = true → y.state = .closed ∧ y.due = none)
        ∧ (s.cond c = false → y.state = .closing
            ∧ y.due = if x.set.closeTimeout = 0 then none else some (s.clock + x.set.closeTimeout * 100000))) := by
  obtain ⟨shut, reads, rfl⟩ := made
  dsimp only
  have begins (is : (s.door.doors.row d).state = .opened ∨ (s.door.doors.row d).state = .opening
      ∨ (s.door.doors.row d).state = .jammed) : (s.door.doors.row d).begins true :=
    is.imp_right (Or.imp_right fun is => ⟨rfl, is⟩)
  refine ⟨fun rests => Door.asked_kept rests _ _, fun zero is => ?_, fun zero is some_ => ?_,
    fun c k closed high src passes => ?_⟩
  · rw [zero]
    exact Door.asked_warning is _ _
  · rw [zero]
    exact Door.asked_waits (begins is) some_
  · obtain ⟨n, is, attempts⟩ := Door.asked_passes (x := s.door.doors.row d) (shut := shut) (now := s.clock)
      (explicit := true) (imm := decide (imm = 1)) (passes.imp (fun ⟨is, now_⟩ => ⟨begins is, now_.imp_left decide_eq_true⟩)
        fun ⟨is, now_⟩ => ⟨is, decide_eq_true now_⟩)
    rw [closed] at reads
    rw [is, ← reads.cond (State.not_followsDoors_of_threshold high src)]
    obtain ⟨set, kept, -⟩ := Door.shutting_kept { s.door.doors.row d with attempts := n } shut s.clock
    exact ⟨set, kept.trans attempts, Door.shutting_reads _ shut s.clock⟩

/-- Settles O45: the groups are walked in order, each door of an acting group is asked once. -/
theorem groupCloseMovesTheDoorsOfEachGroup : Obligations.GroupCloseMovesTheDoorsOfEachGroup := by
  intro s rq e groups imm i running _
  dsimp only
  refine ⟨fun bad => exec_groupClose running (groupClose_bad bad),
    fun some_ flag setup => exec_groupClose running ((groupClose_flag (s := s.take i) some_ flag).1 setup),
    fun some_ flag service => ?_⟩
  obtain ⟨code, walked⟩ := eachGroup_close (s.take i) groups (decide (imm = 1))
  obtain ⟨ds, queued, ascending, mem, door⟩ :=
    walked.ends (f := fun s => (eachGroup groups (closeGroup (decide (imm = 1))) s).2)
  have answers {code' : Code} (is : (eachGroup groups (closeGroup (decide (imm = 1))) (s.take i)).1 = code') :=
    exec_groupClose (rq := rq) (e := e) running (((groupClose_flag (s := s.take i) some_ flag).2 service).trans
      (Prod.ext is rfl))
  refine ⟨_, fun ⟨g, named, unset⟩ => answers ?_, fun none_ => answers ?_, ⟨ds, queued, ascending, fun d => ?_⟩,
    fun d => ⟨fun out => ?_, fun g of => ⟨fun not => ?_, fun named set_ => ?_⟩⟩⟩
  · rw [code]
    exact firstRefusal_const (mem_groupsIn.mpr named) (State.groupHas_iff (s := s.take i).mpr unset)
  · rw [code]
    exact firstRefusal_groupsIn.1 fun g named => if_neg fun has => none_ g named (State.groupHas_iff.mp has)
  · rw [mem]
    constructor
    · rintro ⟨⟨g, ⟨named, set_⟩, of⟩, is⟩
      exact ⟨g, of, named, State.groupHas_eq_false.mp set_, is.imp_right (Or.imp_right And.right)⟩
    · rintro ⟨g, of, named, set_, is⟩
      exact ⟨⟨g, ⟨named, State.groupHas_eq_false.mpr set_⟩, of⟩, is.imp_right (Or.imp_right fun is => ⟨rfl, is⟩)⟩
  · refine (congrArg (fun x => x.doors.row d) door).trans (walked.stands d fun ⟨g, _, of⟩ => ?_)
    cases out.symm.trans of
  · refine (congrArg (fun x => x.doors.row d) door).trans ?_
    refine walked.stands d fun ⟨g', ⟨named, set_⟩, of'⟩ => ?_
    obtain rfl : g' = g := Option.some.inj (of'.symm.trans of)
    exact not.elim (fun no => no named) (State.groupHas_eq_false.mp set_)
  · have made := walked.made d ⟨g, ⟨named, State.groupHas_eq_false.mpr set_⟩, of⟩
    rw [← door] at made
    exact State.askedAs_explicit (s := s.take i) made

end Sys2Proof.Machine
end

section
/-! PROOFS. GROUP_RELEASE: what a release makes of a door, group after group, and the cancel of the warning calls
(R147, R153, R154). -/

namespace Sys2Proof.Machine
variable {s t u w : State} {d : Fin 24} {x : Door} {now : Nat} {g : Fin 8}

/-! ## One door released (R153, R154) -/

theorem State.readTrigger_of_false (h : s.triggered g = false) : s.readTrigger g = s := by
  unfold State.readTrigger
  exact if_neg fun both => by rw [h] at both; cases both.2

theorem State.readTrigger_of_setup (h : s.req.mode = .setup) : s.readTrigger g = s := by
  unfold State.readTrigger
  exact if_neg fun both => by rw [h] at both; cases both.1

/-- At no step of an event that begins in `s` does a reading of the trigger of group `g` do anything. -/
def State.untriggered (s : State) (g : Fin 8) : Prop := ∀ u, s.DoorsMove u → u.readTrigger g = u

theorem State.untriggered.of_moves (h : s.untriggered g) (moves : s.DoorsMove t) : t.untriggered g :=
  fun u then_ => h u (moves.trans then_)

theorem State.untriggered_of_none (none_ : (s.door.groups.row g).trigger = none) : s.untriggered g := fun u moves =>
  State.readTrigger_of_false (by rw [State.triggered, moves.groups, none_])

theorem State.untriggered_of_setup (setup : s.req.mode = .setup) : s.untriggered g := fun _ moves =>
  State.readTrigger_of_setup (moves.mode.trans setup)

/-- An entry to OPEN of a door whose group's trigger does not read TRUE. -/
theorem State.toOpen_op (quiet : ∀ g, (s.door.doors.row d).set.group = some g → s.untriggered g) :
    s.DoorOp (s.toOpen d) d ((s.door.doors.row d).changed .opened s.clock none) [] := by
  have opened := s.doorTo_op d .opened none
  unfold State.toOpen
  dsimp only
  rw [opened.step.moves.set]
  cases of : (s.door.doors.row d).set.group with
  | none => exact opened
  | some g =>
    dsimp only
    rw [quiet g of _ opened.step.moves]
    exact opened

/-- The record of a door after its entry to OPENING, where its open condition reads `wide` (R154). -/
def Door.widening (x : Door) (wide : Bool) (now : Nat) : Door :=
  if wide then x.changed .opened now none else x.changed .opening now (expiryFrom now x.set.openTimeout)

theorem State.toOpening_op (quiet : ∀ g, (s.door.doors.row d).set.group = some g → s.untriggered g) :
    s.DoorOp (s.toOpening d) d
      ((s.door.doors.row d).widening (s.switch d (s.door.doors.row d).set.openCond) s.clock) [] := by
  unfold State.toOpening Door.widening
  dsimp only
  split
  · exact State.toOpen_op quiet
  · exact s.doorTo_op d .opening _

/-- The record of a door after a release, where its open condition reads `wide`. -/
def Door.freed (x : Door) (wide : Bool) (now : Nat) : Door :=
  match x.state with
  | .unset | .opened | .opening => x
  | .warning => { x with attempts := 0 }.changed .opened now none
  | .closing | .backoff | .closed | .jammed => { x with attempts := 0 }.widening wide now

theorem State.releaseDoor_op (quiet : ∀ g, (s.door.doors.row d).set.group = some g → s.untriggered g) :
    ∃ wide, s.readsAs d (s.door.doors.row d).set.openCond wide
      ∧ s.DoorOp (s.releaseDoor d) d ((s.door.doors.row d).freed wide s.clock) [] := by
  have first := s.setAttempts_op d 0
  have quiet' (g : Fin 8) (of : ((s.setAttempts d 0).door.doors.row d).set.group = some g) :
      (s.setAttempts d 0).untriggered g := (quiet g (by rw [first.row] at of; exact of)).of_moves first.step.moves
  have opening := State.toOpening_op quiet'
  have opened := State.toOpen_op quiet'
  rw [first.row, first.step.moves.clock] at opening opened
  have wide := first.step.moves.readsAs (State.readsAs.self (s.setAttempts d 0) d (s.door.doors.row d).set.openCond)
  refine ⟨_, wide, ?_⟩
  unfold State.releaseDoor Door.freed
  cases (s.door.doors.row d).state with
  | unset | opened | opening => exact .refl s d
  | warning => exact first.trans opened
  | closing | backoff | closed | jammed => exact first.trans opening

/-- What a release makes of the doors of a walk. -/
def State.freedAs (s : State) (d : Fin 24) (y : Door) : Prop :=
  ∃ wide, s.readsAs d (s.door.doors.row d).set.openCond wide ∧ y = (s.door.doors.row d).freed wide s.clock

/-- The doors of a group are released. -/
theorem State.DoorsMove.releaseDoors (h : s.DoorsMove t) (quiet : s.untriggered g)
    (rows : ∀ d, s.ofGroup g d → t.door.doors.row d = s.door.doors.row d) :
    t.Walked ((t.doorsOf g).foldl State.releaseDoor t) (s.ofGroup g) (fun _ => False) s.freedAs := by
  rw [h.doorsOf]
  refine (State.walkDoors (s.doorsOf_nodup g) (fun d mem u moves row => ?_) t h
    fun d mem => rows d (State.mem_doorsOf.mp mem)).congr fun d => State.mem_doorsOf.symm
  obtain ⟨wide, reads, op⟩ := State.releaseDoor_op (s := u) (d := d) fun g' of => by
    rw [row] at of
    obtain rfl : g' = g := Option.some.inj (of.symm.trans (State.mem_doorsOf.mp mem))
    exact quiet.of_moves moves
  rw [row] at reads op
  exact op.walked List.nodup_nil (fun e => ⟨(nomatch ·), fun h => h.2.elim⟩)
    ⟨wide, moves.readsAs reads, by rw [moves.clock]⟩

/-- A walk that hands no warning call hands changes of conditions alone. -/
theorem State.Walked.handsChanges {on : Fin 24 → Prop} {makes : Fin 24 → Door → Prop}
    (h : s.Walked t on (fun _ => False) makes) : s.handsOn isChange t := by
  obtain ⟨ds, -, mem, step⟩ := h.step
  obtain ⟨l, is, queue, changes⟩ := step.handed
  have none_ : ds = [] := List.eq_nil_iff_forall_not_mem.mpr fun d is => ((mem d).mp is).2
  rw [none_, List.filterMap_nil, List.filter_eq_nil_iff] at queue
  exact ⟨l, is, fun i mem => changes i mem (Bool.eq_false_of_not_eq_true (queue i mem))⟩

/-! ## One group released, with the cancel of its warning calls (R153) -/

/-- The cancel of the warning calls of a group (R153). -/
def Group.cancel (x : Group) : List Instr :=
  match x.template with
  | none => []
  | some tpl => [.callCancel .release 1 (u8 tpl.val)]

theorem State.cancelWarning_eq (s : State) (g : Fin 8) :
    s.cancelWarning g = { s with handed := s.handed ++ (s.door.groups.row g).cancel } := by
  unfold State.cancelWarning Group.cancel
  cases (s.door.groups.row g).template with
  | none => simp
  | some tpl => rfl

/-- The cancels that the release of a group hands. -/
def State.cancels (s : State) (g : Fin 8) : List Instr :=
  if s.groupHas g .warning then (s.door.groups.row g).cancel else []

/-- From `t` to `u` the doors of the groups of `p` have been released, each as it stood in `s`. -/
structure State.Freed (s t u : State) (p : Fin 8 → Prop) : Prop where
  moves : t.DoorsMove u
  handed : ∃ l, u.handed = t.handed ++ l ∧ (∀ i ∈ l, isChange i ∨ ∃ b, i = .callCancel .release 1 b)
    ∧ ∀ b, .callCancel .release 1 b ∈ l ↔ ∃ g, p g ∧ .callCancel .release 1 b ∈ s.cancels g
  stands : ∀ d, (∀ g, p g → ¬ s.ofGroup g d) → u.door.doors.row d = t.door.doors.row d
  made : ∀ g d, p g → s.ofGroup g d → s.freedAs d (u.door.doors.row d)

theorem State.freed_byGroups (s : State) : s.ByGroups s.Freed where
  refl t p none_ := ⟨.refl t, ⟨[], by simp, by simp, fun b => by simp [none_]⟩, fun _ _ => rfl,
    fun g _ is => absurd is (none_ g)⟩
  trans t u w p q first rest apart := by
    obtain ⟨l, is, only, mem⟩ := first.handed
    obtain ⟨l', is', only', mem'⟩ := rest.handed
    refine ⟨first.moves.trans rest.moves, ⟨l ++ l', by rw [is', is, List.append_assoc], fun i h => ?_, fun b => ?_⟩,
      fun d out => ?_, fun g d has of => ?_⟩
    · exact (List.mem_append.mp h).elim (only i) (only' i)
    · rw [List.mem_append, mem, mem', ← exists_or]
      simp only [or_and_right]
    · exact (rest.stands d fun g h => out g (.inr h)).trans (first.stands d fun g h => out g (.inl h))
    · rcases has with has | has
      · rw [rest.stands d fun g' has' of' => apart g has (Option.some.inj (of.symm.trans of') ▸ has')]
        exact first.made g d has of
      · exact rest.made g d has of
  moves _ _ _ h := h.moves
  stands _ _ _ h := h.stands

/-- A release of one group that acts. -/
theorem State.DoorsMove.releaseGroup (h : s.DoorsMove t) (quiet : s.untriggered g)
    (rows : ∀ d, s.ofGroup g d → t.door.doors.row d = s.door.doors.row d) :
    let u := (t.doorsOf g).foldl State.releaseDoor t
    t.handsOn isChange u ∧ t.Walked u (s.ofGroup g) (fun _ => False) s.freedAs
    ∧ (if t.groupHas g .warning then u.cancelWarning g else u) = { u with handed := u.handed ++ s.cancels g } := by
  have walked := h.releaseDoors quiet rows
  refine ⟨walked.handsChanges, walked, ?_⟩
  unfold State.cancels
  rw [h.groupHas rows]
  split
  · rw [State.cancelWarning_eq, walked.moves.groups, h.groups]
  · rw [List.append_nil]

theorem State.mem_cancels {i : Instr} (mem : i ∈ s.cancels g) : ∃ b, i = .callCancel .release 1 b := by
  unfold State.cancels Group.cancel at mem
  split at mem
  · split at mem
    · cases mem
    · exact ⟨_, List.mem_singleton.mp mem⟩
  · cases mem

theorem State.handed_doorsMove (s : State) (l : List Instr) : s.DoorsMove { s with handed := l } :=
  ⟨rfl, fun _ => rfl, fun _ => rfl, fun _ _ => rfl⟩

theorem State.DoorsMove.releaseGroup_freed (h : s.DoorsMove t) (quiet : s.untriggered g)
    (rows : ∀ d, s.ofGroup g d → t.door.doors.row d = s.door.doors.row d) :
    let u := (t.doorsOf g).foldl State.releaseDoor t
    s.Freed t (if t.groupHas g .warning then u.cancelWarning g else u) (· = g) := by
  obtain ⟨⟨l, is, changes⟩, walked, ends⟩ := h.releaseGroup quiet rows
  dsimp only at ends ⊢
  rw [ends]
  refine ⟨walked.moves.trans (State.handed_doorsMove _ _), ⟨l ++ s.cancels g, by rw [is, List.append_assoc], ?_, ?_⟩,
    fun d out => walked.stands d (out g rfl), fun g' d same of => walked.made d (same ▸ of)⟩
  · intro i mem
    exact (List.mem_append.mp mem).imp (changes i) State.mem_cancels
  · intro b
    rw [List.mem_append]
    refine ⟨fun mem => ⟨g, rfl, mem.resolve_left fun mem => ?_⟩, fun ⟨g', same, mem⟩ => .inr (same ▸ mem)⟩
    obtain ⟨c, v, u, is⟩ := changes _ mem
    cases is

/-! ## The groups of a GROUP_RELEASE (R153) -/

/-- Group `g` keeps its doors: its release term does not read TRUE, or its trigger term does (R153). -/
def State.keepsDoors (s : State) (g : Fin 8) : Bool := !s.releasable g || s.triggered g

theorem State.keepsDoors_iff : s.keepsDoors g = true ↔
    (∃ tm, (s.door.groups.row g).release = some tm ∧ s.term tm = false)
    ∨ ∃ tm, (s.door.groups.row g).trigger = some tm ∧ s.term tm = true := by
  unfold State.keepsDoors State.releasable State.triggered
  cases (s.door.groups.row g).release <;> cases (s.door.groups.row g).trigger <;> simp

theorem State.triggered_of_keepsDoors (h : s.keepsDoors g = false) : s.triggered g = false := (Bool.or_eq_false_iff.mp h).2

/-- The result of a release of one group. -/
def State.releaseCode (s : State) (g : Fin 8) : Code :=
  if s.groupHas g .unset then .busy else if s.keepsDoors g then .termFalse else .done

/-- The release of one group. -/
theorem releaseGroup_eq (g : Fin 8) (s : State) :
    (releaseGroup g s).1 = s.releaseCode g
    ∧ (s.releaseCode g ≠ .done → (releaseGroup g s).2 = s)
    ∧ (s.releaseCode g = .done → (releaseGroup g s).2 =
        (let u := (s.doorsOf g).foldl State.releaseDoor s
        if s.groupHas g .warning then u.cancelWarning g else u)) := by
  unfold releaseGroup State.releaseCode
  by_cases unset : s.groupHas g .unset = true
  · simp [unset]
  · rw [if_neg unset, if_neg unset]
    unfold State.keepsDoors
    by_cases keeps : (!s.releasable g || s.triggered g) = true
    · rw [if_pos keeps, if_pos keeps]
      exact ⟨rfl, fun _ => rfl, (nomatch ·)⟩
    · rw [if_neg keeps, if_neg keeps]
      exact ⟨rfl, fun h => absurd rfl h, fun _ => rfl⟩

theorem State.releaseCode_done : s.releaseCode g = .done ↔ s.groupHas g .unset = false ∧ s.keepsDoors g = false := by
  unfold State.releaseCode
  cases s.groupHas g .unset <;> cases s.keepsDoors g <;> simp

theorem State.releaseCode_done_iff : s.releaseCode g = .done ↔
    (¬ ∃ d, (s.door.doors.row d).set.group = some g ∧ (s.door.doors.row d).state = .unset)
    ∧ ¬ ((∃ tm, (s.door.groups.row g).release = some tm ∧ s.term tm = false)
      ∨ ∃ tm, (s.door.groups.row g).trigger = some tm ∧ s.term tm = true) := by
  rw [State.releaseCode_done, ← State.groupHas_iff, ← State.keepsDoors_iff, Bool.not_eq_true, Bool.not_eq_true]

theorem eachGroup_release (groups : Byte)
    (stable : ∀ g : Fin 8, groups.getLsbD g.val = true → ∀ t, s.DoorsMove t →
      t.releasable g = s.releasable g ∧ t.triggered g = s.triggered g) :
    (eachGroup groups releaseGroup s).1 = firstRefusal s.releaseCode (groupsIn groups)
    ∧ s.Freed s (eachGroup groups releaseGroup s).2
      fun g => groups.getLsbD g.val = true ∧ s.releaseCode g = .done := by
  refine eachGroup_byGroups s.freed_byGroups fun g mem t moves rows => ?_
  have stable := stable g (mem_groupsIn.mp mem)
  obtain ⟨releasable, triggered⟩ := stable t moves
  have same : t.releaseCode g = s.releaseCode g := by
    unfold State.releaseCode State.keepsDoors
    rw [moves.groupHas rows, releasable, triggered]
  obtain ⟨code, refused, acts⟩ := releaseGroup_eq g t
  rw [same] at code refused acts
  refine ⟨code, ?_⟩
  by_cases done : s.releaseCode g = .done
  · rw [acts done]
    refine State.ByGroups.congr (R := s.Freed) (moves.releaseGroup_freed (fun u then_ => ?_) rows) fun g' => and_iff_left done
    exact State.readTrigger_of_false
      ((stable u then_).2.trans (State.triggered_of_keepsDoors (State.releaseCode_done.mp done).2))
  · rw [refused done]
    exact s.freed_byGroups.refl t _ fun g' is => done is.2

/-- A set of one group. -/
theorem groupsIn_single {groups : Byte} (one : groups.toNat = 2 ^ g.val) : groupsIn groups = [g] := by
  have named (g' : Fin 8) : groups.getLsbD g'.val = decide (g' = g) := by
    rw [BitVec.getLsbD, one, Nat.testBit_two_pow]
    exact decide_eq_decide.mpr ⟨fun is => Fin.ext is.symm, fun is => by rw [is]⟩
  unfold groupsIn
  rw [List.filter_congr fun g' _ => named g']
  clear named one
  revert g
  decide

theorem eachGroup_single {groups : Byte} (one : groups.toNat = 2 ^ g.val) (f : Fin 8 → State → Code × State) :
    eachGroup groups f s = f g s := by
  have : (List.finRange 8).filter (fun g => groups.getLsbD g.val) = [g] := groupsIn_single one
  unfold eachGroup
  rw [this]
  rfl

/-! ## The end of the event -/

theorem not_isWarning_of_released {i : Instr} (is : isChange i ∨ ∃ b, i = .callCancel .release 1 b) : noWarning i := by
  rcases is with ⟨c, v, u, rfl⟩ | ⟨b, rfl⟩ <;> exact fun _ => rfl

/-- An event of DOOR without warning calls. -/
theorem doorEvent_of_unwarned {f : State → State} (handed : s.handsOn noWarning (f s)) :
    doorEvent f s = { f s with chans := s.levelled (f s) } := by
  obtain ⟨l, is, quiet⟩ := handed
  rw [doorEvent_eq, is, List.take_left, List.drop_left, warningsInOrder_of_none quiet, ← is]

/-! ## The command (R28, R32, R153) -/

theorem exec_groupRelease {rq : Requester} {e : Fin 64} {groups : Byte} {i : Instr} {code : Code}
    (running : s.inReset = false) (result : groupRelease groups (s.take i) = (code, t)) :
    (i = .groupRelease rq groups → s.addressed = true → exec i s = .next (t.reply rq 0x05 code []))
    ∧ (i = .releaseGroup e groups → exec i s = .next (if code = .done then t else t.refuse e)) := by
  refine ⟨fun is addressed => ?_, fun is => ?_⟩ <;> subst is
  · exact (event_of_request s running addressed).trans (congrArg _ (answered_of_eq _ rq 0x05 result))
  · refine (event_of_running s _ _ running).trans (congrArg _ ?_)
    by_cases done : code = .done
    · subst done
      exact asAction_of_done _ e result
    · rw [if_neg done]
      exact asAction_of_refused _ e result done

theorem groupRelease_some {groups : Byte} (some_ : groups ≠ 0) :
    (s.req.mode = .setup → groupRelease groups s = (.refusedMode, s))
    ∧ (s.req.mode = .service → groupRelease groups s =
        ((eachGroup groups releaseGroup s).1, doorEvent (fun s => (eachGroup groups releaseGroup s).2) s)) := by
  unfold groupRelease
  rw [if_neg some_]
  refine ⟨fun setup => if_pos setup, fun service => if_neg ?_⟩
  rw [service]
  decide

/-! ## What the door records come to -/

theorem Door.widening_reads (x : Door) (wide : Bool) (now : Nat) :
    (x.widening wide now).attempts = x.attempts
    ∧ (wide = true → (x.widening wide now).state = .opened ∧ (x.widening wide now).due = none)
    ∧ (wide = false → (x.widening wide now).state = .opening ∧ (x.widening wide now).due =
        if x.set.openTimeout = 0 then none else some (now + x.set.openTimeout * 100000)) := by
  cases wide with
  | true => exact ⟨rfl, fun _ => ⟨rfl, rfl⟩, (nomatch ·)⟩
  | false => exact ⟨rfl, (nomatch ·), fun _ => ⟨rfl, rfl⟩⟩

/-- What a release leaves of a door that takes it. -/
theorem State.freedAs_reads {y : Door} (made : s.freedAs d y) :
    let x := s.door.doors.row d
    (x.state = .opened ∨ x.state = .opening → y = x)
    ∧ (x.state = .warning → y.state = .opened ∧ y.attempts = 0 ∧ y.due = none)
    ∧ ∀ c k, x.set.openCond = some c → 16 ≤ c.val → (s.board.conds.row c).source = .threshold k →
        (x.state = .closing ∨ x.state = .backoff ∨ x.state = .closed ∨ x.state = .jammed) →
        y.attempts = 0
        ∧ (s.cond c = true → y.state = .opened ∧ y.due = none)
        ∧ (s.cond c = false → y.state = .opening
            ∧ y.due = if x.set.openTimeout = 0 then none else some (s.clock + x.set.openTimeout * 100000)) := by
  obtain ⟨wide, reads, rfl⟩ := made
  dsimp only
  unfold Door.freed
  refine ⟨fun is => ?_, fun is => ?_, fun c k open_ high src is => ?_⟩
  · rcases is with is | is <;> rw [is]
  · rw [is]
    exact ⟨rfl, rfl, rfl⟩
  · rw [open_] at reads
    rw [← reads.cond (State.not_followsDoors_of_threshold high src)]
    have widens := Door.widening_reads { s.door.doors.row d with attempts := 0 } wide s.clock
    rcases is with is | is | is | is <;> rw [is] <;> exact widens

end Sys2Proof.Machine
end

section
/-! PROOFS. GROUP_RELEASE, of one group and of a set (R153). -/

namespace Sys2Proof.Machine
variable {s : State} {groups : Byte} {g : Fin 8}

theorem State.mem_cancels_iff {b : Byte} : .callCancel .release 1 b ∈ s.cancels g ↔
    (∃ d, (s.door.doors.row d).set.group = some g ∧ (s.door.doors.row d).state = .warning)
    ∧ ∃ tpl, (s.door.groups.row g).template = some tpl ∧ b = BitVec.ofNat 8 tpl.val := by
  rw [← State.groupHas_iff]
  unfold State.cancels Group.cancel
  split
  · rename_i warned
    cases (s.door.groups.row g).template <;> simp [warned, u8]
  · rename_i warned
    simp [warned]

/-- A group refused for an UNSET door, or for its terms. -/
theorem State.releaseCode_refused :
    (s.groupHas g .unset = true → s.releaseCode g = .busy)
    ∧ (s.groupHas g .unset = false → s.keepsDoors g = true → s.releaseCode g = .termFalse) := by
  refine ⟨fun unset => if_pos unset, fun set_ keeps => ?_⟩
  unfold State.releaseCode
  rw [set_, keeps]
  rfl

/-- The release of a single group that is refused changes nothing. -/
theorem groupRelease_single_refused (some_ : groups ≠ 0) (service : s.req.mode = .service)
    (one : groups.toNat = 2 ^ g.val) (refused : s.releaseCode g ≠ .done) :
    groupRelease groups s = (s.releaseCode g, s) := by
  obtain ⟨code, stands, -⟩ := releaseGroup_eq g s
  rw [(groupRelease_some some_).2 service, eachGroup_single one, code]
  refine congrArg _ (doorEvent_of_is ?_ rfl (.of_eq rfl))
  rw [eachGroup_single one]
  exact stands refused

/-- The release of a single group that acts: its doors, and its cancel last of what is handed. -/
theorem groupRelease_single (some_ : groups ≠ 0) (service : s.req.mode = .service)
    (one : groups.toNat = 2 ^ g.val) (done : s.releaseCode g = .done) (quiet : s.untriggered g) :
    ∃ t, groupRelease groups s = (.done, t) ∧ (∃ l, t.handed = l ++ s.cancels g)
      ∧ (∀ d, ¬ s.ofGroup g d → t.door.doors.row d = s.door.doors.row d)
      ∧ ∀ d, s.ofGroup g d → s.freedAs d (t.door.doors.row d) := by
  obtain ⟨code, -, acts⟩ := releaseGroup_eq g s
  obtain ⟨⟨l, is, changes⟩, walked, ends⟩ := (State.DoorsMove.refl s).releaseGroup quiet fun _ _ => rfl
  have result : (eachGroup groups releaseGroup s).2 = { (s.doorsOf g).foldl State.releaseDoor s with
      handed := ((s.doorsOf g).foldl State.releaseDoor s).handed ++ s.cancels g } := by
    rw [eachGroup_single one, acts done]
    exact ends
  have event : doorEvent (fun s => (eachGroup groups releaseGroup s).2) s =
      { (eachGroup groups releaseGroup s).2 with chans := s.levelled (eachGroup groups releaseGroup s).2 } := by
    refine doorEvent_of_unwarned ⟨l ++ s.cancels g, ?_, fun i mem => ?_⟩
    · rw [result, ← List.append_assoc, ← is]
    · exact not_isWarning_of_released ((List.mem_append.mp mem).imp (changes i) State.mem_cancels)
  refine ⟨_, ((groupRelease_some some_).2 service).trans (Prod.ext ?_ event), ?_, ?_⟩
  · rw [eachGroup_single one, code, done]
  · rw [result]
    exact ⟨_, rfl⟩
  · rw [result]
    exact ⟨walked.stands, walked.made⟩

/-- The release of a set of groups whose terms no door moves. -/
theorem groupRelease_set (some_ : groups ≠ 0) (service : s.req.mode = .service)
    (stable : ∀ g : Fin 8, groups.getLsbD g.val = true → ∀ t, s.DoorsMove t →
      t.releasable g = s.releasable g ∧ t.triggered g = s.triggered g) :
    ∃ t, groupRelease groups s = (firstRefusal s.releaseCode (groupsIn groups), t)
      ∧ (∀ b, .callCancel .release 1 b ∈ t.handed.drop s.handed.length ↔
        ∃ g : Fin 8, (groups.getLsbD g.val = true ∧ s.releaseCode g = .done) ∧ .callCancel .release 1 b ∈ s.cancels g)
      ∧ t.queuedSince s = []
      ∧ (∀ d, (∀ g : Fin 8, (groups.getLsbD g.val = true ∧ s.releaseCode g = .done) → ¬ s.ofGroup g d) →
        t.door.doors.row d = s.door.doors.row d)
      ∧ ∀ (g : Fin 8) d, (groups.getLsbD g.val = true ∧ s.releaseCode g = .done) → s.ofGroup g d →
        s.freedAs d (t.door.doors.row d) := by
  obtain ⟨code, freed⟩ := eachGroup_release groups stable
  obtain ⟨l, is, only, mem⟩ := freed.handed
  have event : doorEvent (fun s => (eachGroup groups releaseGroup s).2) s =
      { (eachGroup groups releaseGroup s).2 with chans := s.levelled (eachGroup groups releaseGroup s).2 } :=
    doorEvent_of_unwarned ⟨l, is, fun i mem => not_isWarning_of_released (only i mem)⟩
  refine ⟨_, ((groupRelease_some some_).2 service).trans (Prod.ext code event), fun b => ?_, ?_, freed.stands, freed.made⟩
  · dsimp only
    rw [is, List.drop_left]
    exact mem b
  · unfold State.queuedSince
    dsimp only
    rw [is, List.drop_left, List.filter_eq_nil_iff]
    intro i mem
    rcases only i mem with ⟨c, v, u, rfl⟩ | ⟨b, rfl⟩ <;> exact (nomatch ·)

/-- Terms that no door moves read the same at every step of an event. -/
theorem State.DoorsMove.groupTerms {t : State} (moves : s.DoorsMove t) (safe : s.sourcesSafe)
    (steady : ∀ tm, ((s.door.groups.row g).release = some tm ∨ (s.door.groups.row g).trigger = some tm) → s.steady tm) :
    t.releasable g = s.releasable g ∧ t.triggered g = s.triggered g := by
  unfold State.releasable State.triggered
  rw [moves.groups]
  constructor
  · cases is : (s.door.groups.row g).release with
    | none => rfl
    | some tm => exact moves.term safe (steady tm (.inl is))
  · cases is : (s.door.groups.row g).trigger with
    | none => rfl
    | some tm => exact moves.term safe (steady tm (.inr is))

/-- Settles O46: one group by its own release, a set by the walk over its groups. -/
theorem groupReleaseReopensTheDoors : Obligations.GroupReleaseReopensTheDoors := by
  intro s rq e groups i running _
  dsimp only
  have unset_iff (g : Fin 8) := State.groupHas_iff (s := s.take i) (g := g) (st := .unset)
  have keeps_iff (g : Fin 8) := State.keepsDoors_iff (s := s.take i) (g := g)
  have done_iff (g : Fin 8) := State.releaseCode_done_iff (s := s.take i) (g := g)
  have busy (g : Fin 8) (unset : ∃ d, (s.door.doors.row d).set.group = some g ∧ (s.door.doors.row d).state = .unset) :
      (s.take i).releaseCode g = .busy := State.releaseCode_refused.1 ((unset_iff g).mpr unset)
  have kept (g : Fin 8) (set_ : ¬ ∃ d, (s.door.doors.row d).set.group = some g ∧ (s.door.doors.row d).state = .unset)
      (keeps : _) : (s.take i).releaseCode g = .termFalse :=
    State.releaseCode_refused.2 (Bool.eq_false_iff.mpr (mt (unset_iff g).mp set_)) ((keeps_iff g).mpr keeps)
  refine ⟨fun zero => exec_groupRelease running (if_pos zero),
    fun some_ setup => exec_groupRelease running ((groupRelease_some (s := s.take i) some_).1 setup),
    fun g one service => ?_, fun some_ service safe steady => ?_⟩
  · have some_ : groups ≠ 0 := fun zero => by
      rw [zero] at one
      exact absurd one.symm (Nat.pow_pos (by decide)).ne'
    refine ⟨fun unset => ?_, fun set_ keeps => ?_, fun set_ released none_ => ?_⟩
    · rw [← busy g unset]
      refine exec_groupRelease running (groupRelease_single_refused some_ service one ?_)
      rw [busy g unset]; decide
    · rw [← kept g set_ keeps]
      refine exec_groupRelease running (groupRelease_single_refused some_ service one ?_)
      rw [kept g set_ keeps]; decide
    · obtain ⟨t, result, ⟨l, handed⟩, stands, made⟩ := groupRelease_single (s := s.take i) some_ service one
        ((done_iff g).mpr ⟨set_, released⟩) (State.untriggered_of_none none_)
      refine ⟨t, exec_groupRelease running result, fun tpl is warned => ?_,
        fun d => ⟨stands d, fun of => State.freedAs_reads (s := s.take i) (made d of)⟩⟩
      have cancels : (s.take i).cancels g = [.callCancel .release 1 (BitVec.ofNat 8 tpl.val)] := by
        unfold State.cancels Group.cancel
        rw [State.groupHas_iff (s := s.take i).mpr warned]
        show (match (s.door.groups.row g).template with | none => [] | some tpl => _) = _
        rw [is]; rfl
      rw [handed, cancels]
      exact List.getLast?_concat
  · obtain ⟨t, result, cancels, queued, stands, made⟩ := groupRelease_set (s := s.take i) some_ service
      fun g named u moves => moves.groupTerms safe fun tm => steady g tm named
    have answers {code : Code} (is : firstRefusal (s.take i).releaseCode (groupsIn groups) = code) :=
      exec_groupRelease (rq := rq) (e := e) running (result.trans (Prod.ext is rfl))
    refine ⟨t, fun all => answers (firstRefusal_groupsIn.1 fun g named => (done_iff g).mpr (all g named)),
      fun g named before => ⟨fun unset => answers ?_, fun set_ keeps => answers ?_⟩, fun b => ?_, queued,
      fun d => ⟨fun out => ?_, fun g of => ⟨fun not => ?_, fun named set_ released => ?_⟩⟩⟩
    · rw [← busy g unset]
      refine firstRefusal_groupsIn.2 g named ?_ fun g' below named' => (done_iff g').mpr (before g' below named')
      rw [busy g unset]; decide
    · rw [← kept g set_ keeps]
      refine firstRefusal_groupsIn.2 g named ?_ fun g' below named' => (done_iff g').mpr (before g' below named')
      rw [kept g set_ keeps]; decide
    · rw [cancels]
      constructor
      · rintro ⟨g, ⟨named, done⟩, mem⟩
        obtain ⟨set_, released⟩ := (done_iff g).mp done
        obtain ⟨warned, tpl, is⟩ := State.mem_cancels_iff.mp mem
        exact ⟨g, tpl, named, set_, released, warned, is⟩
      · rintro ⟨g, tpl, named, set_, released, warned, is⟩
        exact ⟨g, ⟨named, (done_iff g).mpr ⟨set_, released⟩⟩, State.mem_cancels_iff.mpr ⟨warned, tpl, is⟩⟩
    · exact stands d fun g _ of => nomatch out.symm.trans of
    · refine stands d fun g' is of' => not ?_
      obtain rfl : g' = g := Option.some.inj (of'.symm.trans of)
      exact ⟨is.1, (done_iff g').mp is.2⟩
    · exact State.freedAs_reads (s := s.take i) (made g d ⟨named, (done_iff g).mpr ⟨set_, released⟩⟩ of)

end Sys2Proof.Machine
end

section
/-! PROOFS. DOOR: readings of the trigger terms, and the change of a condition (R147, R149 to R156). -/

namespace Sys2Proof.Machine
variable {s t u v w : State} {d : Fin 24} {x : Door} {g : Fin 8} {c : Fin 64} {on calls : Fin 24 → Prop}
  {makes : Fin 24 → Door → Prop}

/-! ## The end of an event whose doors have been walked (R142, R148) -/

/-- An event of DOOR that reaches `t` without a queue request, and then takes the doors of a list. -/
theorem doorEvent_of_step {f : State → State} {ds : List (Fin 24)} {called : Fin 24 → Prop}
    (begun : s.handsOn (fun i => isQueue i = false) t) (step : t.DoorStep (f s) ds) (nodup : ds.Nodup)
    (mem : ∀ d, d ∈ ds ↔ called d) :
    ∃ ds : List (Fin 24), (doorEvent f s).queuedSince s = ds.filterMap t.callOf
      ∧ ds.Pairwise (fun a b => a < b) ∧ (∀ d, d ∈ ds ↔ called d) := by
  obtain ⟨l, is, quiet⟩ := begun
  obtain ⟨l', is', queue, -⟩ := step.handed
  have queued : (l ++ l').filter isQueue = ds.filterMap t.callOf := by
    rw [List.filter_append, List.filter_eq_nil_iff.mpr fun i mem => by rw [quiet i mem]; exact Bool.false_ne_true,
      List.nil_append, queue]
  have handed : (doorEvent f s).handed = s.handed ++ warningsInOrder (l ++ l') := by
    rw [doorEvent_eq, is', is, List.append_assoc]
    dsimp only
    rw [List.take_left, List.drop_left]
  refine ⟨_, ?_, ascending_filter fun d => decide (d ∈ ds), fun d => by simp [mem]⟩
  rw [State.queuedSince, handed, List.drop_left, warningsInOrder_queue nodup queued]

theorem doorEvent_door (f : State → State) (s : State) : (doorEvent f s).door = (f s).door := by rw [doorEvent_eq]
theorem doorEvent_board (f : State → State) (s : State) : (doorEvent f s).board = (f s).board := by rw [doorEvent_eq]

/-! ## A reading of a trigger term (R147) -/

theorem State.triggerRequest_eq (s : State) (d : Fin 24) : s.triggerRequest d = s.closeRequest false false d := by
  unfold State.triggerRequest State.closeRequest
  cases (s.door.doors.row d).state <;> rfl

/-- A close request by a trigger begins a CLOSE SEQUENCE at OPEN and OPENING alone. -/
theorem Door.begins_false : x.begins false ↔ x.state = .opened ∨ x.state = .opening := by
  simp [Door.begins]

/-- In SERVICE the trigger term of group `g` reads TRUE. -/
def State.hears (s : State) (g : Fin 8) : Prop := s.req.mode = .service ∧ s.triggered g = true

theorem State.hears_iff : s.hears g ↔
    s.req.mode = .service ∧ ∃ tm, (s.door.groups.row g).trigger = some tm ∧ s.term tm = true := by
  unfold State.hears State.triggered
  cases (s.door.groups.row g).trigger <;> simp

theorem State.readTrigger_of_hears (h : s.hears g) :
    s.readTrigger g = (s.doorsOf g).foldl (State.closeRequest false false) s := by
  have same : State.triggerRequest = State.closeRequest false false :=
    funext fun s => funext fun d => s.triggerRequest_eq d
  rw [← same]
  exact if_pos h

theorem State.readTrigger_of_deaf (h : ¬ s.hears g) : s.readTrigger g = s := if_neg h

/-- A reading asks the doors of its group to close, each as it stands. -/
theorem State.DoorsMove.readTrigger (h : s.DoorsMove t) (g : Fin 8)
    (rows : ∀ d, s.ofGroup g d → t.door.doors.row d = s.door.doors.row d) :
    t.Walked (t.readTrigger g) (fun d => t.hears g ∧ s.ofGroup g d)
      (fun e => (s.door.doors.row e).begins false) (s.askedAs false false) := by
  by_cases hears : t.hears g
  · rw [State.readTrigger_of_hears hears]
    exact (h.closeRequests false false g rows).congr fun d => and_iff_right hears
  · rw [State.readTrigger_of_deaf hears]
    exact .refl t fun d is => hears is.1

/-- The terms that DOOR reads stand through every event of DOOR that begins in `s`. -/
def State.listens (s : State) : Prop := ∀ g t, s.DoorsMove t → (t.hears g ↔ s.hears g)

theorem State.listens_of_steady (safe : s.sourcesSafe)
    (steady : ∀ g tm, (s.door.groups.row g).trigger = some tm → s.steady tm) : s.listens := fun g t moves => by
  rw [State.hears_iff, State.hears_iff, moves.mode, moves.groups]
  refine and_congr_right fun _ => exists_congr fun tm => and_congr_right fun is => ?_
  rw [moves.term safe (steady g tm is)]

/-- The triggers chosen are read in one event, group after group. -/
theorem State.readTriggers_walked (listens : s.listens) (chosen : Group → Bool) :
    s.Walked (s.readTriggers chosen)
      (fun d => ∃ g, (chosen (s.door.groups.row g) = true ∧ s.hears g) ∧ s.ofGroup g d)
      (fun e => (s.door.doors.row e).begins false) (s.askedAs false false) := by
  refine State.Walked.congr (State.walkGroups (s.walked_byGroups _ _) (List.nodup_finRange 8)
    (acts := fun g => chosen (s.door.groups.row g) = true ∧ s.hears g) (fun g _ t moves rows => ?_) s (.refl s)
    fun _ _ _ _ => rfl) fun d => by simp
  rw [moves.groups]
  split
  · rename_i chose
    refine (moves.readTrigger g rows).congr fun d => ?_
    rw [listens g t moves]
    exact ⟨fun ⟨g', ⟨is, _, hears⟩, of⟩ => ⟨hears, is ▸ of⟩, fun ⟨hears, of⟩ => ⟨g, ⟨rfl, chose, hears⟩, of⟩⟩
  · rename_i not
    exact .refl t fun d ⟨g', ⟨_, chose, _⟩, _⟩ => not chose

theorem Door.asked_idle (idle : ¬ x.begins false) (shut : Bool) (now : Nat) : x.asked false false shut now = x := by
  rw [Door.begins_false] at idle
  unfold Door.asked
  cases state : x.state with
  | opened => exact absurd (.inl state) idle
  | opening => exact absurd (.inr state) idle
  | _ => rfl

/-- What a fresh CLOSE SEQUENCE in state `s` makes of a door (R146, R149). -/
def State.closes (s : State) (x y : Door) : Prop :=
  (x.set.warning ≠ 0 → y = { x with
    state := .warning, attempts := 1, timer := { acc := 0, since := some s.clock },
    due := some (s.clock + x.set.warning * 100000) })
  ∧ ∀ c k, x.set.warning = 0 → x.set.closedCond = some c →
      (s.board.conds.row c).source = .threshold k → y.attempts = 1
      ∧ y.state = (if s.cond c = true then .closed else .closing)

theorem State.askedAs_begins {y : Door} (safe : s.sourcesSafe) (begins : (s.door.doors.row d).begins false)
    (made : s.askedAs false false d y) : s.closes (s.door.doors.row d) y := by
  obtain ⟨shut, reads, rfl⟩ := made
  refine ⟨Door.asked_waits begins, fun c k zero closed src => ?_⟩
  obtain ⟨n, is, attempts⟩ := Door.asked_passes (x := s.door.doors.row d) (shut := shut) (now := s.clock)
    (explicit := false) (imm := false) (.inl ⟨begins, .inr zero⟩)
  have not : (s.door.doors.row d).state ≠ .warning := by
    rcases Door.begins_false.mp begins with is | is <;> rw [is] <;> decide
  rw [closed] at reads
  rw [is, attempts, if_neg not, ← reads.cond (State.not_followsDoors_of_source safe (.inr ⟨k, src⟩))]
  cases shut <;> exact ⟨rfl, rfl⟩

/-- What a walk of readings leaves of every door. -/
theorem State.Walked.closes (safe : s.sourcesSafe)
    (walked : s.Walked u on (fun e => (s.door.doors.row e).begins false) (s.askedAs false false)) (d : Fin 24) :
    (¬ (on d ∧ (s.door.doors.row d).begins false) → u.door.doors.row d = s.door.doors.row d)
    ∧ (on d ∧ (s.door.doors.row d).begins false → s.closes (s.door.doors.row d) (u.door.doors.row d)) := by
  refine ⟨fun not => ?_, fun both => State.askedAs_begins safe both.2 (walked.made d both.1)⟩
  by_cases is : on d
  · obtain ⟨shut, -, made⟩ := walked.made d is
    rw [made, Door.asked_idle fun begins => not ⟨is, begins⟩]
  · exact walked.stands d is

/-- What an event leaves that asks the doors of `called` to close, from the doors of `t` on (R147, R148). -/
theorem State.Walked.asks {f : State → State} {called : Fin 24 → Prop} (safe : t.sourcesSafe)
    (begun : s.handsOn (fun i => isQueue i = false) t)
    (walked : t.Walked (f s) on (fun e => (t.door.doors.row e).begins false) (t.askedAs false false))
    (same : ∀ d, called d ↔ on d ∧ (t.door.doors.row d).begins false) :
    (∃ ds : List (Fin 24), (doorEvent f s).queuedSince s = ds.filterMap t.callOf
      ∧ ds.Pairwise (fun a b => a < b) ∧ ∀ d, d ∈ ds ↔ called d)
    ∧ ∀ d, (¬ called d → (doorEvent f s).door.doors.row d = t.door.doors.row d)
      ∧ (called d → t.closes (t.door.doors.row d) ((doorEvent f s).door.doors.row d)) := by
  obtain ⟨ds, nodup, mem, step⟩ := walked.step
  refine ⟨doorEvent_of_step begun step nodup fun d => (mem d).trans (same d).symm, fun d => ?_⟩
  rw [doorEvent_door, same d]
  exact walked.closes safe d

/-! ## The change of a condition (R147, R149 to R155) -/

theorem exec_doorsChange (running : s.inReset = false) (c : Fin 64) (v : Bool) :
    exec (.conditionChange c v .doors) s = .next ((s.take (.conditionChange c v .doors)).doorsChange c v) :=
  event_of_running s _ (fun s => s.doorsChange c v) running

/-- The limit switches of the doors, one after the other. -/
def State.doorSwitches (s : State) (c : Fin 64) (v : Bool) : State :=
  (List.finRange 24).foldl (State.doorSwitch c v) s

theorem State.doorsChange_eq (s : State) (c : Fin 64) (v : Bool) : s.doorsChange c v =
    doorEvent (fun s => (s.doorSwitches c v).readTriggers ((s.doorSwitches c v).triggerNames c)) s := rfl

/-- What a change of condition `c` to `v` makes of a door: CLOSED (`true`), OPEN (`false`), or nothing. -/
def Door.switchesTo (x : Door) (c : Fin 64) (v setup : Bool) : Option Bool :=
  if x.set.group = none then none
  else
    match x.state with
    | .unset | .warning => none
    | .closing | .backoff | .opened => if x.set.closedCond = some c ∧ v = true then some true else none
    | .opening => if x.set.openCond = some c ∧ v = true then some false else none
    | .closed => if x.set.closedCond = some c ∧ v = false ∧ setup = true then some false else none
    | .jammed =>
      if x.set.closedCond = some c ∧ v = true then some true
      else if x.set.closedCond = some c ∧ v = false ∧ setup = true then some false else none

theorem State.doorSwitch_eq (s : State) (c : Fin 64) (v : Bool) (d : Fin 24) : State.doorSwitch c v s d =
    match (s.door.doors.row d).switchesTo c v (s.req.mode == .setup) with
    | none => s
    | some true => s.doorTo d .closed none
    | some false => s.toOpen d := by
  unfold State.doorSwitch Door.switchesTo
  dsimp only
  cases of : (s.door.doors.row d).set.group with
  | none => rfl
  | some g =>
    simp only [Option.isNone_some, Bool.false_eq_true, if_false, reduceCtorEq, Bool.and_eq_true, beq_iff_eq,
      Bool.not_eq_eq_eq_not, Bool.not_true, and_assoc]
    cases (s.door.doors.row d).state with
    | unset | warning => rfl
    | closing | backoff | opened | opening | closed => dsimp only; split <;> rfl
    | jammed =>
      dsimp only
      split
      · rfl
      · split <;> rfl

/-- A door whose limit switches do not name the condition takes nothing. -/
theorem Door.switchesTo_of_other {v setup : Bool} (other : ∀ g, x.set.group = some g →
      x.set.closedCond ≠ some c ∧ x.set.openCond ≠ some c) : x.switchesTo c v setup = none := by
  unfold Door.switchesTo
  cases of : x.set.group with
  | none => rfl
  | some g =>
    obtain ⟨closed, open_⟩ := other g of
    cases x.state <;> simp [closed, open_]

theorem State.doorSwitch_of_other (v : Bool) (other : ∀ g, (s.door.doors.row d).set.group = some g →
      (s.door.doors.row d).set.closedCond ≠ some c ∧ (s.door.doors.row d).set.openCond ≠ some c) :
    State.doorSwitch c v s d = s := by
  rw [State.doorSwitch_eq, Door.switchesTo_of_other other]

theorem State.doorSwitches_of_other (v : Bool) (other : ∀ d g, (s.door.doors.row d).set.group = some g →
      (s.door.doors.row d).set.closedCond ≠ some c ∧ (s.door.doors.row d).set.openCond ≠ some c) :
    s.doorSwitches c v = s :=
  List.foldl_fixed' (fun d => State.doorSwitch_of_other v (other d)) (List.finRange 24)

theorem State.triggerNames_iff {y : Group} :
    s.triggerNames c y = true ↔ ∃ tm, y.trigger = some tm ∧ s.names tm c := by
  unfold State.triggerNames
  cases y.trigger <;> simp [State.termNames_iff]

/-- A change that no limit switch names is a reading of the triggers that name it. -/
theorem State.doorsChange_reads (safe : s.sourcesSafe) (v : Bool)
    (other : ∀ d g, (s.door.doors.row d).set.group = some g →
      (s.door.doors.row d).set.closedCond ≠ some c ∧ (s.door.doors.row d).set.openCond ≠ some c)
    (steady : ∀ g tm, (s.door.groups.row g).trigger = some tm → s.steady tm) :
    let read (g : Fin 8) : Prop := ∃ tm, (s.door.groups.row g).trigger = some tm ∧ s.names tm c
      ∧ s.term tm = true ∧ s.req.mode = .service
    let called (d : Fin 24) : Prop := (∃ g, (s.door.doors.row d).set.group = some g ∧ read g)
      ∧ ((s.door.doors.row d).state = .opened ∨ (s.door.doors.row d).state = .opening)
    (∃ ds : List (Fin 24), (s.doorsChange c v).queuedSince s = ds.filterMap s.callOf
      ∧ ds.Pairwise (fun a b => a < b) ∧ ∀ d, d ∈ ds ↔ called d)
    ∧ ∀ d, (¬ called d → (s.doorsChange c v).door.doors.row d = s.door.doors.row d)
      ∧ (called d → s.closes (s.door.doors.row d) ((s.doorsChange c v).door.doors.row d)) := by
  have walked := State.readTriggers_walked (State.listens_of_steady safe steady) (s.triggerNames c)
  have is : (s.doorSwitches c v).readTriggers ((s.doorSwitches c v).triggerNames c) =
      s.readTriggers (s.triggerNames c) := by rw [State.doorSwitches_of_other v other]
  rw [← is] at walked
  rw [State.doorsChange_eq]
  refine walked.asks (f := fun s => (s.doorSwitches c v).readTriggers ((s.doorSwitches c v).triggerNames c)) safe
    (.of_eq rfl) fun d => ?_
  rw [Door.begins_false]
  refine and_congr_left fun _ => exists_congr fun g => ?_
  rw [State.triggerNames_iff, State.hears_iff]
  constructor
  · rintro ⟨of, tm, trigger, names, reads, service⟩
    exact ⟨⟨⟨tm, trigger, names⟩, service, tm, trigger, reads⟩, of⟩
  · rintro ⟨⟨⟨tm, trigger, names⟩, service, tm', trigger', reads⟩, of⟩
    obtain rfl : tm = tm' := Option.some.inj (trigger.symm.trans trigger')
    exact ⟨of, tm, trigger, names, reads, service⟩

end Sys2Proof.Machine
end

section
/-! PROOFS. DOOR DERIVATION, and the limit switches where no trigger is read (R144, R149 to R155). -/

namespace Sys2Proof.Machine
variable {s t u : State} {d e : Fin 24} {x y : Door} {g : Fin 8} {c : Fin 64} {P Q : Fin 24 → Prop}

/-! ## Events of doors whose triggers are not read -/

theorem State.untriggered_of_deaf (deaf : s.req.mode = .setup ∨ ∀ g, (s.door.groups.row g).trigger = none) (g : Fin 8) :
    s.untriggered g :=
  deaf.elim State.untriggered_of_setup fun none_ => State.untriggered_of_none (none_ g)

/-- The record of a door after DOOR DERIVATION, where its closed condition reads `shut` (R144). -/
def Door.derived (x : Door) (shut : Bool) (now : Nat) : Door :=
  if x.set.group ≠ none ∧ x.state = .unset then x.changed (if shut then .closed else .opened) now none else x

theorem State.deriveDoor_stands (h : ¬ ((s.door.doors.row d).set.group ≠ none ∧ (s.door.doors.row d).state = .unset)) :
    s.deriveDoor d = s := by
  unfold State.deriveDoor
  refine if_neg fun both => h ?_
  obtain ⟨fitted, unset⟩ := Bool.and_eq_true_iff.mp both
  exact ⟨Option.isSome_iff_ne_none.mp fitted, eq_of_beq unset⟩

theorem State.deriveDoor_unset (h : (s.door.doors.row d).set.group ≠ none ∧ (s.door.doors.row d).state = .unset) :
    s.deriveDoor d = if s.switch d (s.door.doors.row d).set.closedCond = true then s.doorTo d .closed none
      else s.toOpen d := by
  unfold State.deriveDoor
  refine if_pos (Bool.and_eq_true_iff.mpr ⟨Option.isSome_iff_ne_none.mpr h.1, ?_⟩)
  rw [h.2]
  rfl

theorem State.deriveDoor_op (quiet : ∀ g, s.untriggered g) : ∃ shut,
    s.readsAs d (s.door.doors.row d).set.closedCond shut
    ∧ s.DoorOp (s.deriveDoor d) d ((s.door.doors.row d).derived shut s.clock) [] := by
  refine ⟨_, .self _ _ _, ?_⟩
  unfold Door.derived
  by_cases unset : (s.door.doors.row d).set.group ≠ none ∧ (s.door.doors.row d).state = .unset
  · rw [State.deriveDoor_unset unset, if_pos unset]
    split
    · exact s.doorTo_op d .closed none
    · exact State.toOpen_op fun g _ => quiet g
  · rw [State.deriveDoor_stands unset, if_neg unset]
    exact .refl s d

/-- The record of a door after a change of condition `c` to `v`, where no trigger is read (R149 to R155). -/
def Door.switched (x : Door) (c : Fin 64) (v setup : Bool) (now : Nat) : Door :=
  match x.switchesTo c v setup with
  | none => x
  | some true => x.changed .closed now none
  | some false => x.changed .opened now none

theorem State.doorSwitch_op (quiet : ∀ g, s.untriggered g) (c : Fin 64) (v : Bool) : s.DoorOp (State.doorSwitch c v s d) d
    ((s.door.doors.row d).switched c v (s.req.mode == .setup) s.clock) [] := by
  rw [State.doorSwitch_eq]
  unfold Door.switched
  cases (s.door.doors.row d).switchesTo c v (s.req.mode == .setup) with
  | none => exact .refl s d
  | some shut =>
    cases shut with
    | true => exact s.doorTo_op d .closed none
    | false => exact State.toOpen_op fun g _ => quiet g

theorem State.mem_nil_iff (d e : Fin 24) : e ∈ ([] : List (Fin 24)) ↔ e = d ∧ False := ⟨(nomatch ·), fun h => h.2.elim⟩

/-- All the doors are derived, where no trigger is read. -/
theorem State.deriveDoors_quiet (quiet : ∀ g, s.untriggered g) (d : Fin 24) :
    ∃ shut, s.readsAs d (s.door.doors.row d).set.closedCond shut
      ∧ (doorEvent (fun s => (List.finRange 24).foldl State.deriveDoor s) s).door.doors.row d =
        (s.door.doors.row d).derived shut s.clock := by
  rw [doorEvent_door]
  refine (State.walkDoors (calls := fun _ => False) (makes := fun d y => ∃ shut,
    s.readsAs d (s.door.doors.row d).set.closedCond shut ∧ y = (s.door.doors.row d).derived shut s.clock)
    (List.nodup_finRange 24) (fun d _ t moves row => ?_) s (.refl s) fun _ _ => rfl).made d (List.mem_finRange d)
  obtain ⟨shut, reads, op⟩ := State.deriveDoor_op (d := d) fun g => (quiet g).of_moves moves
  rw [row] at reads op
  exact op.walked List.nodup_nil (State.mem_nil_iff d) ⟨shut, moves.readsAs reads, by rw [moves.clock]⟩

/-- All the limit switches are read, where no trigger is. -/
theorem State.doorsChange_quiet (quiet : ∀ g, s.untriggered g) (c : Fin 64) (v : Bool) (d : Fin 24) :
    (s.doorsChange c v).door.doors.row d = (s.door.doors.row d).switched c v (s.req.mode == .setup) s.clock := by
  have walked : s.Walked (s.doorSwitches c v) (· ∈ List.finRange 24) (fun _ => False) fun d y =>
      y = (s.door.doors.row d).switched c v (s.req.mode == .setup) s.clock := by
    refine State.walkDoors (List.nodup_finRange 24) (fun d _ t moves row => ?_) s (.refl s) fun _ _ => rfl
    have op := State.doorSwitch_op (d := d) (fun g => (quiet g).of_moves moves) c v
    rw [row, moves.mode, moves.clock] at op
    exact op.walked List.nodup_nil (State.mem_nil_iff d) rfl
  have still : (s.doorSwitches c v).readTriggers ((s.doorSwitches c v).triggerNames c) = s.doorSwitches c v := by
    refine List.foldl_fixed' (fun g => ?_) _
    split
    · exact quiet g _ walked.moves
    · rfl
  rw [State.doorsChange_eq, doorEvent_door, still]
  exact walked.made d (List.mem_finRange d)

/-! ## What the door records come to -/

theorem Door.switchesTo_free {v setup : Bool} (out : x.set.group = none) : x.switchesTo c v setup = none := if_pos out

theorem Door.switched_stands {v setup : Bool} {now : Nat} (h : x.switchesTo c v setup = none) :
    x.switched c v setup now = x := by
  unfold Door.switched
  rw [h]

theorem Door.switched_shuts {v setup : Bool} {now : Nat} (h : x.switchesTo c v setup = some true) :
    x.switched c v setup now = x.changed .closed now none := by
  unfold Door.switched
  rw [h]

theorem Door.switched_opens {v setup : Bool} {now : Nat} (h : x.switchesTo c v setup = some false) :
    x.switched c v setup now = x.changed .opened now none := by
  unfold Door.switched
  rw [h]

/-- What a change of a condition makes of a door by its state, where no trigger is read (R149 to R155). -/
theorem Door.switched_reads (x : Door) (c : Fin 64) (v setup : Bool) (now : Nat) :
    let y := x.switched c v setup now
    (x.set.group = none → y = x)
    ∧ (x.set.closedCond ≠ some c → x.set.openCond ≠ some c → y = x)
    ∧ (v = true → x.set.group ≠ none → x.set.closedCond = some c → x.set.openCond ≠ some c →
        (x.state = .closing ∨ x.state = .backoff ∨ x.state = .opened ∨ x.state = .jammed →
          y.state = .closed ∧ y.attempts = x.attempts ∧ y.due = none)
        ∧ (x.state = .unset ∨ x.state = .warning ∨ x.state = .opening ∨ x.state = .closed → y = x))
    ∧ (v = true → x.set.group ≠ none → x.set.openCond = some c → x.set.closedCond ≠ some c →
        (x.state = .opening → y.state = .opened ∧ y.due = none) ∧ (x.state ≠ .opening → y = x))
    ∧ (v = false → setup = false → y = x)
    ∧ (v = false → setup = true → x.set.group ≠ none → x.set.closedCond = some c →
        (x.state = .closed ∨ x.state = .jammed →
          y.state = .opened ∧ y.set = x.set ∧ y.attempts = x.attempts ∧ y.due = none)
        ∧ (x.state ≠ .closed → x.state ≠ .jammed → y = x))
    ∧ (v = false → x.set.closedCond ≠ some c → y = x) := by
  dsimp only
  refine ⟨fun out => Door.switched_stands (if_pos out), fun closed open_ => ?_, fun v_ fitted closed open_ => ⟨fun is => ?_,
    fun is => ?_⟩, fun v_ fitted open_ closed => ⟨fun is => ?_, fun is => ?_⟩, fun v_ service => ?_,
    fun v_ setup_ fitted closed => ⟨fun is => ?_, fun is is' => ?_⟩, fun v_ closed => ?_⟩
  · exact Door.switched_stands (Door.switchesTo_of_other fun _ _ => ⟨closed, open_⟩)
  · have : x.switchesTo c v setup = some true := by
      unfold Door.switchesTo
      rcases is with is | is | is | is <;> simp [is, v_, fitted, closed]
    rw [Door.switched_shuts this]
    exact ⟨rfl, rfl, rfl⟩
  · refine Door.switched_stands ?_
    unfold Door.switchesTo
    rcases is with is | is | is | is <;> simp [is, v_, open_]
  · have : x.switchesTo c v setup = some false := by
      unfold Door.switchesTo
      simp [is, v_, fitted, open_]
    rw [Door.switched_opens this]
    exact ⟨rfl, rfl⟩
  · refine Door.switched_stands ?_
    unfold Door.switchesTo
    cases state : x.state with
    | opening => exact absurd state is
    | _ => simp [v_, closed]
  · refine Door.switched_stands ?_
    unfold Door.switchesTo
    cases x.state <;> simp [v_, service]
  · have : x.switchesTo c v setup = some false := by
      unfold Door.switchesTo
      rcases is with is | is <;> simp [is, v_, fitted, closed, setup_]
    rw [Door.switched_opens this]
    exact ⟨rfl, rfl, rfl, rfl⟩
  · refine Door.switched_stands ?_
    unfold Door.switchesTo
    cases state : x.state with
    | closed => exact absurd state is
    | jammed => exact absurd state is'
    | _ => simp [v_]
  · refine Door.switched_stands ?_
    unfold Door.switchesTo
    cases x.state <;> simp [v_, closed]

/-! ## DOOR DERIVATION, with its readings (R144, R147) -/

theorem exec_doorDerivation (running : s.inReset = false) : exec .doorDerivation s =
    .next (doorEvent (fun s => (List.finRange 24).foldl State.deriveDoor s) (s.take .doorDerivation)) :=
  event_of_running s _ _ running

/-- Door `d` is UNSET, and derived OPEN in its group `g`. -/
def State.derivesOpen (s : State) (d : Fin 24) (g : Fin 8) : Prop := (s.door.doors.row d).set.group = some g
  ∧ (s.door.doors.row d).state = .unset
  ∧ ∃ c, (s.door.doors.row d).set.closedCond = some c ∧ s.cond c = false

/-- Once the doors of `P` have been derived, door `d` has been asked to close. -/
def State.askedBy (s : State) (P : Fin 24 → Prop) (d : Fin 24) : Prop :=
  ∃ g, (s.door.doors.row d).set.group = some g ∧ s.hears g
    ∧ ((P d ∧ s.derivesOpen d g) ∨ (((s.door.doors.row d).state = .opened ∨ (s.door.doors.row d).state = .opening)
      ∧ ∃ d', P d' ∧ s.derivesOpen d' g))

/-- A fitted door that is UNSET. -/
def State.underived (s : State) (d : Fin 24) : Prop :=
  (s.door.doors.row d).set.group ≠ none ∧ (s.door.doors.row d).state = .unset

/-- From `s` to `t` the doors of `P` have been derived. -/
structure State.Derived (s t : State) (P : Fin 24 → Prop) : Prop where
  step : ∃ ds : List (Fin 24), ds.Nodup ∧ (∀ d, d ∈ ds ↔ s.askedBy P d) ∧ s.DoorStep t ds
  asked : ∀ d, s.askedBy P d → s.closes (s.door.doors.row d) (t.door.doors.row d)
    ∧ ¬ (t.door.doors.row d).begins false ∧ (t.door.doors.row d).state ≠ .unset
  derived : ∀ d c, ¬ s.askedBy P d → P d → s.underived d → (s.door.doors.row d).set.closedCond = some c →
    t.door.doors.row d = (s.door.doors.row d).derived (s.cond c) s.clock
  stands : ∀ d, ¬ s.askedBy P d → ¬ (P d ∧ s.underived d) → t.door.doors.row d = s.door.doors.row d

theorem State.Derived.moves (h : s.Derived t P) : s.DoorsMove t := by
  obtain ⟨_, -, -, step⟩ := h.step
  exact step.moves

theorem State.not_askedBy_of_none (s : State) (d : Fin 24) : ¬ s.askedBy (fun _ => False) d := by
  rintro ⟨g, -, -, ⟨no, -⟩ | ⟨-, d', no, -⟩⟩
  · exact no
  · exact no

theorem State.Derived.refl (s : State) : s.Derived s fun _ => False where
  step := ⟨[], List.nodup_nil, fun d => ⟨(nomatch ·), fun h => absurd h (s.not_askedBy_of_none d)⟩, .refl s⟩
  asked d h := absurd h (s.not_askedBy_of_none d)
  derived _ _ _ no := no.elim
  stands _ _ _ := rfl

/-- A further door that is not derived OPEN, or is in a group that does not hear, asks none. -/
theorem State.askedBy_of_silent (silent : ∀ g, s.derivesOpen d g → ¬ s.hears g) :
    s.askedBy (fun i => P i ∨ i = d) e ↔ s.askedBy P e := by
  refine exists_congr fun g => and_congr_right fun of => and_congr_right fun hears => ?_
  have same (i : Fin 24) : ((P i ∨ i = d) ∧ s.derivesOpen i g) ↔ P i ∧ s.derivesOpen i g :=
    and_congr_left fun opens => or_iff_left fun is => silent g (is ▸ opens) hears
  simp only [same]

/-- A further door derived OPEN in a group that hears asks the OPEN doors of its group, and itself. -/
theorem State.askedBy_of_opens (opens : s.derivesOpen d g) (hears : s.hears g) :
    s.askedBy (fun i => P i ∨ i = d) e ↔ s.askedBy P e ∨ (s.ofGroup g e ∧ (e = d
      ∨ (s.door.doors.row e).state = .opened ∨ (s.door.doors.row e).state = .opening)) := by
  constructor
  · rintro ⟨g', of, hears', ⟨was | rfl, opens'⟩ | ⟨is, d', was | rfl, opens'⟩⟩
    · exact .inl ⟨g', of, hears', .inl ⟨was, opens'⟩⟩
    · obtain rfl : g = g' := Option.some.inj (opens.1.symm.trans of)
      exact .inr ⟨of, .inl rfl⟩
    · exact .inl ⟨g', of, hears', .inr ⟨is, d', was, opens'⟩⟩
    · obtain rfl : g = g' := Option.some.inj (opens.1.symm.trans opens'.1)
      exact .inr ⟨of, .inr is⟩
  · rintro (⟨g', of, hears', ⟨was, opens'⟩ | ⟨is, d', was, opens'⟩⟩ | ⟨of, rfl | is⟩)
    · exact ⟨g', of, hears', .inl ⟨.inl was, opens'⟩⟩
    · exact ⟨g', of, hears', .inr ⟨is, d', .inl was, opens'⟩⟩
    · exact ⟨g, of, hears, .inl ⟨.inr rfl, opens⟩⟩
    · exact ⟨g, of, hears, .inr ⟨is, d, .inr rfl, opens⟩⟩

end Sys2Proof.Machine
end

section
/-! PROOFS. DOOR DERIVATION door by door, each reading its group's trigger (R144, R147). -/

namespace Sys2Proof.Machine
variable {s t u : State} {d e : Fin 24} {x y : Door} {g : Fin 8} {c : Fin 64} {P Q : Fin 24 → Prop}

theorem State.derivesOpen.underived (h : s.derivesOpen d g) : s.underived d :=
  ⟨by rw [h.1]; exact Option.some_ne_none g, h.2.1⟩

theorem Door.derived_unset (h : x.set.group ≠ none ∧ x.state = .unset) (shut : Bool) (now : Nat) :
    x.derived shut now = x.changed (if shut then .closed else .opened) now none := if_pos h

theorem State.askedBy.of_fresh (h : s.askedBy P d) (fresh : ¬ P d) : ¬ s.underived d := by
  rintro ⟨-, unset⟩
  obtain ⟨g, -, -, ⟨is, -⟩ | ⟨is | is, -⟩⟩ := h
  · exact fresh is
  · rw [unset] at is; cases is
  · rw [unset] at is; cases is

/-- A door taken without asking any: it is derived, or it stands. -/
theorem State.Derived.silent (h : s.Derived t P) (fresh : ¬ P d) (silent : ∀ g, s.derivesOpen d g → ¬ s.hears g)
    (op : t.DoorOp u d y [])
    (made : s.underived d → ∀ c, (s.door.doors.row d).set.closedCond = some c →
      y = (s.door.doors.row d).derived (s.cond c) s.clock)
    (still : ¬ s.underived d → y = t.door.doors.row d) : s.Derived u fun i => P i ∨ i = d where
  step := by
    obtain ⟨ds, nodup, mem, step⟩ := h.step
    refine ⟨ds, nodup, fun e => (mem e).trans (State.askedBy_of_silent silent).symm, ?_⟩
    have := step.trans op.step
    rwa [List.append_nil] at this
  asked e is := by
    rw [State.askedBy_of_silent silent] at is
    by_cases same : e = d
    · subst same
      rw [op.row, still (is.of_fresh fresh)]
      exact h.asked e is
    · rw [op.others e same]
      exact h.asked e is
  derived e c not in_ unset closed := by
    rw [State.askedBy_of_silent silent] at not
    by_cases same : e = d
    · subst same
      rw [op.row]
      exact made unset c closed
    · rw [op.others e same]
      exact h.derived e c not (in_.resolve_right same) unset closed
  stands e not out := by
    rw [State.askedBy_of_silent silent] at not
    by_cases same : e = d
    · subst same
      rw [op.row, still fun unset => out ⟨.inr rfl, unset⟩]
      exact h.stands e not fun both => fresh both.1
    · rw [op.others e same]
      exact h.stands e not fun both => out ⟨.inl both.1, both.2⟩

theorem State.toOpen_of_group (of : (s.door.doors.row d).set.group = some g) :
    s.toOpen d = (s.doorTo d .opened none).readTrigger g := by
  unfold State.toOpen
  dsimp only
  rw [(s.doorTo_op d .opened none).step.moves.set, of]

/-- A fresh CLOSE SEQUENCE does the same to a door just opened. -/
theorem State.closes_of_moves (safe : s.sourcesSafe) (moves : s.DoorsMove t) (set : y.set = x.set) {z : Door} (h : t.closes y z) : s.closes x z := by
  obtain ⟨waits, passes⟩ := h
  refine ⟨fun some_ => ?_, fun c k zero closed src => ?_⟩
  · rw [waits (by rw [set]; exact some_), moves.clock, set]
  · have := passes c k (by rw [set]; exact zero) (by rw [set]; exact closed) ((moves.source c).trans src)
    rwa [moves.cond (State.not_followsDoors_of_source safe (.inr ⟨k, src⟩))] at this

theorem Door.asked_rests (begins : x.begins false) (shut : Bool) (now : Nat) :
    ¬ (x.asked false false shut now).begins false ∧ (x.asked false false shut now).state ≠ .unset := by
  rw [Door.asked_begins begins, Door.begins_false]
  unfold Door.warned
  split
  · cases shut <;> exact ⟨by simp [Door.shutting, Door.changed], by simp [Door.shutting, Door.changed]⟩
  · exact ⟨by simp [Door.changed], by simp [Door.changed]⟩

/-- A door taken that is derived OPEN in a group that hears: the OPEN doors of the group are asked, itself with them. -/
theorem State.Derived.opens (safe : s.sourcesSafe) (listens : s.listens) (h : s.Derived t P) (fresh : ¬ P d)
    (opens : s.derivesOpen d g) (hears : s.hears g) (closed : ∀ e, s.underived e → ∃ c, (s.door.doors.row e).set.closedCond = some c) :
    s.Derived (t.toOpen d) fun i => P i ∨ i = d := by
  have unasked : ¬ s.askedBy P d := fun is => is.of_fresh fresh opens.underived
  have row : t.door.doors.row d = s.door.doors.row d := h.stands d unasked fun both => fresh both.1
  have op := t.doorTo_op d .opened none
  rw [State.toOpen_of_group (by rw [row]; exact opens.1)]
  generalize t.doorTo d .opened none = v at op
  rw [row] at op
  have moves : s.DoorsMove v := h.moves.trans op.step.moves
  have ofGroup (e : Fin 24) : v.ofGroup g e ↔ s.ofGroup g e := by unfold State.ofGroup; rw [moves.set]
  have walked := ((State.DoorsMove.refl v).readTrigger g fun _ _ => rfl).congr (on' := s.ofGroup g) fun e => by
    rw [listens g v moves, ofGroup]
    exact (and_iff_right hears).symm
  have begins_iff (e : Fin 24) (of : s.ofGroup g e) (not : ¬ s.askedBy P e) : (v.door.doors.row e).begins false ↔
      e = d ∨ (s.door.doors.row e).state = .opened ∨ (s.door.doors.row e).state = .opening := by
    rw [Door.begins_false]
    by_cases same : e = d
    · subst same
      rw [op.row]
      exact ⟨fun _ => .inl rfl, fun _ => .inl rfl⟩
    · rw [op.others e same, or_iff_right same]
      by_cases derived : P e ∧ s.underived e
      · obtain ⟨c, is⟩ := closed e derived.2
        have shut : s.cond c = true := by
          by_contra open_
          exact not ⟨g, of, hears, .inl ⟨derived.1, of, derived.2.2, c, is, Bool.eq_false_of_not_eq_true open_⟩⟩
        rw [h.derived e c not derived.1 derived.2 is, shut, Door.derived_unset derived.2, derived.2.2]
        exact ⟨by simp [Door.changed], by simp⟩
      · rw [h.stands e not derived]
  have idle (e : Fin 24) (is : s.askedBy P e) : ¬ (v.door.doors.row e).begins false := by
    rw [op.others e fun same => unasked (same ▸ is)]
    exact (h.asked e is).2.1
  have rows (e : Fin 24) (not : ¬ (s.ofGroup g e ∧ (v.door.doors.row e).begins false)) :
      (v.readTrigger g).door.doors.row e = v.door.doors.row e := by
    by_cases of : s.ofGroup g e
    · obtain ⟨shut, -, made⟩ := walked.made e of
      rw [made, Door.asked_idle fun begins => not ⟨of, begins⟩]
    · exact walked.stands e of
  have asked_iff (e : Fin 24) : s.askedBy (fun i => P i ∨ i = d) e ↔
      s.askedBy P e ∨ (s.ofGroup g e ∧ (v.door.doors.row e).begins false) := by
    rw [State.askedBy_of_opens opens hears]
    by_cases was : s.askedBy P e
    · exact ⟨fun _ => .inl was, fun _ => .inl was⟩
    · rw [or_iff_right was, or_iff_right was]
      exact and_congr_right fun of => (begins_iff e of was).symm
  constructor
  case step =>
    obtain ⟨ds, nodup, mem, step⟩ := h.step
    obtain ⟨es, nodup', mem', step'⟩ := walked.step
    refine ⟨ds ++ [] ++ es, ?_, fun e => ?_, (step.trans op.step).trans step'⟩
    · rw [List.append_nil]
      refine List.nodup_append.mpr ⟨nodup, nodup', fun a ha b hb same => ?_⟩
      subst same
      exact idle a ((mem a).mp ha) ((mem' a).mp hb).2
    · rw [List.append_nil, List.mem_append, mem, mem', asked_iff]
  case asked =>
    intro e is
    rcases Classical.em (s.askedBy P e) with was | not
    · rw [rows e fun both => idle e was both.2, op.others e fun same => unasked (same ▸ was)]
      exact h.asked e was
    · obtain ⟨of, begins⟩ := ((asked_iff e).mp is).resolve_left not
      obtain ⟨shut, reads, made⟩ := walked.made e of
      have closes := State.askedAs_begins (fun c lt => (moves.source c).trans (safe c lt)) begins ⟨shut, reads, made⟩
      refine ⟨?_, by rw [made]; exact Door.asked_rests begins shut v.clock⟩
      by_cases same : e = d
      · subst same
        exact State.closes_of_moves safe moves (by rw [op.row]; rfl) closes
      · have stood : v.door.doors.row e = s.door.doors.row e := by
          rw [op.others e same]
          refine h.stands e not fun derived => ?_
          rcases ((begins_iff e of not).mp begins).resolve_left same with st | st <;>
            exact absurd (derived.2.2.symm.trans st) (by decide)
        rw [stood] at closes
        exact State.closes_of_moves safe moves rfl closes
  case derived =>
    intro e c not in_ unset is
    rw [asked_iff, not_or] at not
    have other : e ≠ d := fun same => by
      subst same
      exact not.2 ⟨opens.1, (begins_iff e opens.1 not.1).mpr (.inl rfl)⟩
    rw [rows e not.2, op.others e other]
    exact h.derived e c not.1 (in_.resolve_right other) unset is
  case stands =>
    intro e not out
    rw [asked_iff, not_or] at not
    have other : e ≠ d := fun same => out ⟨.inr same, by rw [same]; exact opens.underived⟩
    rw [rows e not.2, op.others e other]
    exact h.stands e not.1 fun both => out ⟨.inl both.1, both.2⟩

/-- Every fitted UNSET door has its closed condition from a threshold. -/
def State.derivable (s : State) : Prop := ∀ d, s.underived d → ∃ c k, (s.door.doors.row d).set.closedCond = some c
  ∧ (s.board.conds.row c).source = .threshold k

theorem State.Derived.deriveDoor (safe : s.sourcesSafe) (listens : s.listens) (able : s.derivable) (h : s.Derived t P)
    (fresh : ¬ P d) : s.Derived (t.deriveDoor d) fun i => P i ∨ i = d := by
  by_cases unset : s.underived d
  · have unasked : ¬ s.askedBy P d := fun is => is.of_fresh fresh unset
    have row : t.door.doors.row d = s.door.doors.row d := h.stands d unasked fun both => fresh both.1
    obtain ⟨c, k, closed, src⟩ := able d unset
    have value : t.switch d (t.door.doors.row d).set.closedCond = s.cond c := by
      rw [row, closed]
      exact h.moves.cond (State.not_followsDoors_of_source safe (.inr ⟨k, src⟩))
    have is := State.deriveDoor_unset (s := t) (d := d) (by rw [row]; exact unset)
    rw [value] at is
    have derived (c' : Fin 64) (closed' : (s.door.doors.row d).set.closedCond = some c') :
        (s.door.doors.row d).derived (s.cond c') s.clock =
          (s.door.doors.row d).changed (if s.cond c then .closed else .opened) s.clock none := by
      obtain rfl : c = c' := Option.some.inj (closed.symm.trans closed')
      exact if_pos unset
    by_cases shut : s.cond c = true
    · rw [is, if_pos shut]
      refine h.silent fresh (fun g opens => ?_) (t.doorTo_op d .closed none) (fun _ c' closed' => ?_)
        fun no => absurd unset no
      · obtain ⟨-, -, c', closed', open_⟩ := opens
        obtain rfl : c = c' := Option.some.inj (closed.symm.trans closed')
        rw [shut] at open_
        cases open_
      · rw [derived c' closed', if_pos shut, row, h.moves.clock]
    · rw [is, if_neg shut]
      obtain ⟨g, of⟩ := Option.ne_none_iff_exists'.mp unset.1
      have opens : s.derivesOpen d g := ⟨of, unset.2, c, closed, Bool.eq_false_of_not_eq_true shut⟩
      by_cases hears : s.hears g
      · exact h.opens safe listens fresh opens hears fun e unset => (able e unset).imp fun c is => is.choose_spec.1
      · refine h.silent fresh (fun g' opens' => ?_) (y := (s.door.doors.row d).changed .opened s.clock none) ?_
          (fun _ c' closed' => by rw [derived c' closed', if_neg shut]) fun no => absurd unset no
        · obtain rfl : g = g' := Option.some.inj (of.symm.trans opens'.1)
          exact hears
        · have op := t.doorTo_op d .opened none
          rw [State.toOpen_of_group (by rw [row]; exact of), State.readTrigger_of_deaf
            fun h' => hears ((listens g _ (h.moves.trans op.step.moves)).mp h')]
          rw [row, h.moves.clock] at op
          exact op
  · have still : t.deriveDoor d = t := by
      refine State.deriveDoor_stands fun both => ?_
      by_cases was : s.askedBy P d
      · exact (h.asked d was).2.2 both.2
      · rw [h.stands d was fun both => fresh both.1] at both
        exact unset both
    rw [still]
    exact h.silent fresh (fun g opens => absurd opens.underived unset) (.refl t d) (fun is => absurd is unset) fun _ => rfl

theorem State.Derived.congr (h : s.Derived t P) (same : ∀ d, Q d ↔ P d) : s.Derived t Q := by
  have : Q = P := funext fun d => propext (same d)
  rw [this]
  exact h

theorem State.Derived.deriveAll (safe : s.sourcesSafe) (listens : s.listens) (able : s.derivable) {l : List (Fin 24)}
    (nodup : l.Nodup) (h : s.Derived t P) (fresh : ∀ d ∈ l, ¬ P d) :
    s.Derived (l.foldl State.deriveDoor t) fun d => P d ∨ d ∈ l := by
  induction l generalizing t P with
  | nil => exact h.congr fun d => by simp
  | cons a l ih =>
    obtain ⟨out, nodup⟩ := List.nodup_cons.mp nodup
    refine (ih nodup (h.deriveDoor safe listens able (fresh a List.mem_cons_self)) fun d mem => ?_).congr fun d => ?_
    · rintro (was | rfl)
      · exact fresh d (List.mem_cons_of_mem a mem) was
      · exact out mem
    · rw [List.mem_cons, or_assoc]

/-- All the doors have been derived. -/
theorem State.derived_all (safe : s.sourcesSafe) (listens : s.listens) (able : s.derivable) :
    s.Derived ((List.finRange 24).foldl State.deriveDoor s) fun _ => True :=
  ((State.Derived.refl s).deriveAll safe listens able (List.nodup_finRange 24) fun _ _ => id).congr
    fun d => ⟨fun _ => .inr (List.mem_finRange d), fun _ => trivial⟩

end Sys2Proof.Machine
end

section
/-! PROOFS. The lane and group conditions through an event of DOOR, and the levels of a door at rest (R38, R40, R142,
R143). -/

namespace Sys2Proof.Machine
variable {s t u v : State} {d e : Fin 24} {x y : Door} {g : Fin 8} {c : Fin 64} {n : Fin 8}

/-! ## What a trigger's reading keeps -/

section keeps
variable {K : State → Prop} (attempts : ∀ s d n, K s → K (s.setAttempts d n))
  (change : ∀ s d st due, K s → K (s.doorTo d st due)) (hand : ∀ s i, K s → K (s.hand i))
include change

theorem State.toClosing_keeps (h : K s) : K (s.toClosing d) := by
  unfold State.toClosing
  dsimp only
  split
  · exact change _ _ _ _ h
  · exact change _ _ _ _ h

include hand

theorem State.toWarning_keeps (h : K s) (time : Nat) (atOnce : Bool) : K (s.toWarning d time atOnce) := by
  have called : K ((s.doorTo d .warning (s.expiry time)).warningCall d) := by
    unfold State.warningCall
    dsimp only
    split
    · exact change _ _ _ _ h
    · split
      · exact change _ _ _ _ h
      · exact hand _ _ (change _ _ _ _ h)
  unfold State.toWarning
  dsimp only
  split
  · exact State.toClosing_keeps change called
  · exact called

include attempts

theorem State.closeRequest_keeps (h : K s) (explicit imm : Bool) : K (s.closeRequest explicit imm d) := by
  have fresh : K (s.closeSequence d imm) := State.toWarning_keeps change hand (attempts _ _ _ h) _ _
  unfold State.closeRequest
  cases (s.door.doors.row d).state with
  | opened | opening => exact fresh
  | warning =>
    dsimp only
    split
    · exact State.toClosing_keeps change h
    · exact h
  | jammed =>
    dsimp only
    split
    · exact fresh
    · exact h
  | closing | closed | backoff | unset => exact h

/-- What each change of a door keeps, a reading of a trigger keeps. -/
theorem State.readTrigger_keeps (h : K s) (g : Fin 8) : K (s.readTrigger g) := by
  by_cases hears : s.hears g
  · rw [State.readTrigger_of_hears hears]
    exact foldl_holds K _ (fun t d h => State.closeRequest_keeps attempts change hand h false false) _ _ h
  · rw [State.readTrigger_of_deaf hears]
    exact h

end keeps

/-! ## LANE_CLEAR and the group conditions (R38, R40) -/

/-- LANE_CLEAR of a lane is as its doors stand. -/
def State.laneReads (s : State) (n : Fin 8) : Prop := s.cond (condLane n) = s.laneClear n

/-- The conditions of a group are as its doors stand. -/
def State.groupReads (s : State) (g : Fin 8) : Prop := ∀ c,
  ((s.board.conds.row c).source = .groupClosed g → s.cond c = s.groupAll g .closed)
  ∧ ((s.board.conds.row c).source = .groupOpen g → s.cond c = s.groupAll g .opened)

theorem State.laneClear_of_door (door : t.door = s.door) (n : Fin 8) : t.laneClear n = s.laneClear n := by
  unfold State.laneClear
  rw [door]

theorem State.groupAll_of_door (door : t.door = s.door) (g : Fin 8) (st : DoorState) :
    t.groupAll g st = s.groupAll g st := by
  unfold State.groupAll
  rw [door]

theorem State.laneReads_iff : s.laneReads n ↔ (s.cond (condLane n) = true ↔
    ∀ d, (s.door.doors.row d).set.lane = some n → (s.door.doors.row d).state = .opened) := by
  rw [State.laneReads, Bool.eq_iff_iff, State.laneClear_iff]

theorem State.followLane_door' (s : State) (lane : Option (Fin 8)) : (s.followLane lane).door = s.door := by
  cases lane with
  | none => rfl
  | some n => rw [State.followLane_some, State.setCond_frame]

theorem State.followGroup_door' (s : State) (group : Option (Fin 8)) : (s.followGroup group).door = s.door := by
  cases group with
  | none => rfl
  | some g => rw [State.followGroup_some, State.follow_door]

/-- LANE_CLEAR of a lane followed is as its doors stand, and that of another lane stands. -/
theorem State.followLane_lane (s : State) (lane : Option (Fin 8)) :
    (lane = some n → (s.followLane lane).laneReads n) ∧ (s.laneReads n → (s.followLane lane).laneReads n) := by
  have door := s.followLane_door' lane
  cases lane with
  | none => exact ⟨(nomatch ·), id⟩
  | some m =>
    have self : (s.followLane (some m)).laneReads m := by
      rw [State.laneReads, State.laneClear_of_door door, State.followLane_some, State.setCond_cond_self]
    refine ⟨fun is => ?_, fun h => ?_⟩
    · rw [← Option.some.inj is]
      exact self
    by_cases same : m = n
    · rw [← same]
      exact self
    · rw [State.laneReads, State.laneClear_of_door door, State.followLane_some, State.cond_setCond,
        if_neg fun is => same (condLane_inj is)]
      exact h

theorem condLane_fixed (safe : s.sourcesSafe) (n : Fin 8) : (s.board.conds.row (condLane n)).source = .fixed :=
  safe _ (condLane_lt n)

theorem State.followGroup_lane (safe : s.sourcesSafe) (h : s.laneReads n) (group : Option (Fin 8)) :
    (s.followGroup group).laneReads n := by
  rw [State.laneReads, State.laneClear_of_door (s.followGroup_door' group)]
  cases group with
  | none => exact h
  | some g =>
    rw [State.followGroup_some, State.cond_follow_of_fixed _ (condLane_fixed safe n)]
    exact h

/-- The conditions of a group followed are as its doors stand, and those of another group stand. -/
theorem State.followGroup_group (s : State) (group : Option (Fin 8)) :
    (group = some g → (s.followGroup group).groupReads g) ∧ (s.groupReads g → (s.followGroup group).groupReads g) := by
  have door := s.followGroup_door' group
  cases group with
  | none => exact ⟨(nomatch ·), id⟩
  | some m =>
    have source (c : Fin 64) := (s.follow_condsMove fun src => src == .groupClosed m || src == .groupOpen m).source c
    have reads (own : m = g ∨ s.groupReads g) : (s.followGroup (some m)).groupReads g := by
      intro c
      rw [State.groupAll_of_door door, State.groupAll_of_door door, State.followGroup_some, source, State.cond_follow]
      have follows (src : Source) (st : DoorState) (is : (s.board.conds.row c).source = src)
          (value : s.sourceValue src (s.cond c) = s.groupAll g st)
          (chosen : m = g → (src == .groupClosed m || src == .groupOpen m) = true)
          (kept : s.groupReads g → s.cond c = s.groupAll g st) :
          (if ((s.board.conds.row c).source == .groupClosed m || (s.board.conds.row c).source == .groupOpen m) = true
            then s.sourceValue (s.board.conds.row c).source (s.cond c) else s.cond c) = s.groupAll g st := by
        rw [is]
        split
        · exact value
        · rename_i not
          exact kept (own.resolve_left fun same => not (chosen same))
      exact ⟨fun is => follows _ .closed is rfl (fun same => by simp [same]) fun h => (h c).1 is,
        fun is => follows _ .opened is rfl (fun same => by simp [same]) fun h => (h c).2 is⟩
    exact ⟨fun is => reads (.inl (Option.some.inj is)), fun h => reads (.inr h)⟩

theorem State.followLane_group (safe : s.sourcesSafe) (h : s.groupReads g) (lane : Option (Fin 8)) :
    (s.followLane lane).groupReads g := by
  cases lane with
  | none => exact h
  | some n =>
    intro c
    have still {src : Source} (is : ((s.followLane (some n)).board.conds.row c).source = src) (ne : src ≠ .fixed) :
        (s.followLane (some n)).cond c = s.cond c ∧ (s.board.conds.row c).source = src := by
      rw [State.followLane_some, (s.setCond_condsMove _ _).source] at is
      refine ⟨?_, is⟩
      rw [State.followLane_some, State.cond_setCond, if_neg]
      rintro rfl
      exact ne (is.symm.trans (condLane_fixed safe n))
    rw [State.groupAll_of_door (s.followLane_door' _), State.groupAll_of_door (s.followLane_door' _)]
    refine ⟨fun is => ?_, fun is => ?_⟩
    · obtain ⟨value, src⟩ := still is (nomatch ·)
      rw [value]
      exact (h c).1 src
    · obtain ⟨value, src⟩ := still is (nomatch ·)
      rw [value]
      exact (h c).2 src

/-! ## Through a change of state -/

/-- Doors whose lane is another leave LANE_CLEAR of a lane as it was. -/
theorem State.setDoor_lane (h : s.laneReads n) (y : Door) (away : y.set = (s.door.doors.row d).set)
    (other : (s.door.doors.row d).set.lane ≠ some n ∨ y.state = (s.door.doors.row d).state) : (s.setDoor d y).laneReads n := by
  rw [State.laneReads_iff] at h ⊢
  refine h.trans (forall_congr' fun e => ?_)
  by_cases same : e = d
  · subst same
    rw [State.setDoor_door, Tbl.row_put_self, away]
    rcases other with out | is
    · exact ⟨fun _ in_ => absurd in_ out, fun _ in_ => absurd in_ out⟩
    · rw [is]
  · rw [State.setDoor_door, Tbl.row_put_ne _ _ (Ne.symm same)]

theorem State.setDoor_group (h : s.groupReads g) (y : Door) (away : y.set = (s.door.doors.row d).set)
    (other : (s.door.doors.row d).set.group ≠ some g ∨ y.state = (s.door.doors.row d).state) :
    (s.setDoor d y).groupReads g := by
  have same (st : DoorState) : (s.setDoor d y).groupAll g st = s.groupAll g st := by
    rw [Bool.eq_iff_iff, State.groupAll_iff, State.groupAll_iff]
    have set (e : Fin 24) : ((s.setDoor d y).door.doors.row e).set = (s.door.doors.row e).set := by
      rw [State.setDoor_door, Tbl.row_put]
      split
      · rename_i same; rw [← same]; exact away
      · rfl
    simp only [set]
    refine and_congr_right fun _ => forall_congr' fun e => imp_congr_right fun of => ?_
    rw [State.setDoor_door, Tbl.row_put]
    split
    · rename_i same
      subst same
      rw [other.resolve_left fun out => out of]
    · rfl
  intro c
  rw [same, same]
  exact h c

/-- The sources are safe, and LANE_CLEAR of a lane and the conditions of a group are as their doors stand. -/
structure State.ReadsDoors (s : State) (lane : Option (Fin 8)) (group : Option (Fin 8)) : Prop where
  safe : s.sourcesSafe
  lane : ∀ n, lane = some n → s.laneReads n
  group : ∀ g, group = some g → s.groupReads g

variable {lane group : Option (Fin 8)}

theorem State.ReadsDoors.of_same (h : s.ReadsDoors lane group) (board : t.board = s.board) (door : t.door = s.door) :
    t.ReadsDoors lane group where
  safe c lt := by rw [board]; exact h.safe c lt
  lane n is := by
    rw [State.laneReads, State.laneClear_of_door door, State.cond, board]
    exact h.lane n is
  group g is c := by
    rw [State.groupAll_of_door door, State.groupAll_of_door door, State.cond, board]
    exact h.group g is c

theorem State.ReadsDoors.setAttempts (h : s.ReadsDoors lane group) (d : Fin 24) (k : Nat) :
    (s.setAttempts d k).ReadsDoors lane group where
  safe := h.safe
  lane n is := State.setDoor_lane (h.lane n is) _ rfl (.inr rfl)
  group g is := State.setDoor_group (h.group g is) _ rfl (.inr rfl)

theorem State.CondsMove.safe (h : s.CondsMove t) (safe : s.sourcesSafe) : t.sourcesSafe :=
  fun c lt => (h.source c).trans (safe c lt)

theorem State.followLane_condsMove (s : State) (lane : Option (Fin 8)) : s.CondsMove (s.followLane lane) := by
  cases lane with
  | none => exact .refl s
  | some n =>
    rw [State.followLane_some]
    exact s.setCond_condsMove _ _

theorem State.followGroup_condsMove (s : State) (group : Option (Fin 8)) : s.CondsMove (s.followGroup group) := by
  cases group with
  | none => exact .refl s
  | some g =>
    rw [State.followGroup_some]
    exact s.follow_condsMove _

theorem State.ReadsDoors.doorTo (h : s.ReadsDoors lane group) (d : Fin 24) (st : DoorState) (due : Option Nat) :
    (s.doorTo d st due).ReadsDoors lane group := by
  have followed : ((((s.setDoor d ((s.door.doors.row d).changed st s.clock due)).followLane
      (s.door.doors.row d).set.lane).followGroup (s.door.doors.row d).set.group)).ReadsDoors lane group := by
    have lanes := State.followLane_condsMove (s.setDoor d ((s.door.doors.row d).changed st s.clock due))
      (s.door.doors.row d).set.lane
    have laneSafe := lanes.safe (show (s.setDoor d _).sourcesSafe from h.safe)
    refine ⟨(State.followGroup_condsMove _ _).safe laneSafe, fun n is => ?_, fun g is => ?_⟩
    · refine State.followGroup_lane laneSafe ?_ _
      by_cases own : (s.door.doors.row d).set.lane = some n
      · exact (State.followLane_lane _ _).1 own
      · exact (State.followLane_lane _ _).2 (State.setDoor_lane (h.lane n is) ((s.door.doors.row d).changed st s.clock due) rfl (.inl own))
    · by_cases own : (s.door.doors.row d).set.group = some g
      · exact (State.followGroup_group _ _).1 own
      · exact (State.followGroup_group _ _).2
          (State.followLane_group (show (s.setDoor d _).sourcesSafe from h.safe)
            (State.setDoor_group (h.group g is) ((s.door.doors.row d).changed st s.clock due) rfl (.inl own)) _)
  rw [State.doorTo_eq]
  generalize s.allClosed (s.door.doors.row d).set.group = was
  generalize ((s.setDoor d ((s.door.doors.row d).changed st s.clock due)).followLane _).followGroup _ = w at followed
  cases (s.door.doors.row d).set.group with
  | none => exact followed
  | some g =>
    dsimp only
    split
    · exact followed.of_same (State.notice_board _ _ _) (State.notice_door _ _ _)
    · exact followed

theorem State.ReadsDoors.readTrigger (h : s.ReadsDoors lane group) (g : Fin 8) : (s.readTrigger g).ReadsDoors lane group :=
  State.readTrigger_keeps (K := fun s => s.ReadsDoors lane group) (fun _ d n h => h.setAttempts d n)
    (fun _ d st due h => h.doorTo d st due) (fun _ _ h => h.of_same rfl rfl) h g

/-! ## The levels of a door at rest (R142) -/

theorem State.ownerLevel_requested_other {o : Owner} {ch : Fin 16} (other : (s.chans.row ch).set.owner ≠ o)
    (at_ : Option (Fin 16)) (on : Bool) : ((s.ownerLevel o at_ on).chans.row ch).requested = (s.chans.row ch).requested := by
  cases at_ with
  | none => rfl
  | some ch' =>
    unfold State.ownerLevel
    dsimp only
    split
    · rename_i own
      have ne : ch ≠ ch' := fun same => other (same ▸ own.1)
      rw [(setLevel_movesChan s ch' on).others ch ne]
    · rfl


theorem State.ownerLevel_owner (s : State) (o : Owner) (at_ : Option (Fin 16)) (on : Bool) (ch : Fin 16) :
    ((s.ownerLevel o at_ on).chans.row ch).set = (s.chans.row ch).set := by
  cases at_ with
  | none => rfl
  | some ch' =>
    unfold State.ownerLevel
    dsimp only
    split
    · unfold State.setLevel
      dsimp only
      rw [State.conduct_set, State.setChan_chans, Tbl.row_put]
      split
      · rename_i same; rw [← same]
      · rfl
    · rfl

/-- The levels of a door's channels are moved by the door alone; a door whose state drives neither leaves both OFF. -/
theorem State.doorLevels_off {ch : Fin 16} (own : (s.chans.row ch).set.owner = .door d) (e : Fin 24) :
    ((s.doorLevels e).chans.row ch).set.owner = .door d
    ∧ (e ≠ d → ((s.doorLevels e).chans.row ch).requested = (s.chans.row ch).requested)
    ∧ ((s.door.doors.row d).state.levels = (false, false) →
      ((s.door.doors.row d).set.closeCh = some ch ∨ (s.door.doors.row d).set.openCh = some ch ∨ (s.chans.row ch).requested = false) →
      ((s.doorLevels d).chans.row ch).requested = false) := by
  have own' (on : Bool) (at_ : Option (Fin 16)) : ((s.ownerLevel (.door e) at_ on).chans.row ch).set.owner = .door d := by
    rw [State.ownerLevel_owner]; exact own
  unfold State.doorLevels
  dsimp only
  refine ⟨by rw [State.ownerLevel_owner]; exact own' _ _, fun ne => ?_, fun rests names => ?_⟩
  · have other : (Owner.door d) ≠ .door e := fun is => ne (by injection is with is; exact is.symm)
    rw [State.ownerLevel_requested_other (by rw [own']; exact other), State.ownerLevel_requested_other (by rw [own]; exact other)]
  · rw [rests, State.ownerLevel_requested _ _ _ _ (.inl rfl), State.ownerLevel_requested _ _ _ _ (.inl rfl),
      State.ownerLevel_owner]
    split
    · rfl
    · rename_i notOpen
      split
      · rfl
      · rename_i notClose
        rcases names with is | is | is
        · exact absurd ⟨is, own⟩ notClose
        · exact absurd ⟨is, own⟩ notOpen
        · exact is

/-- Once the levels of a door at rest have been set, its channels stay OFF. -/
theorem State.foldl_doorLevels_off {ch : Fin 16} (own : (s.chans.row ch).set.owner = .door d)
    (rests : (s.door.doors.row d).state.levels = (false, false))
    (names : (s.door.doors.row d).set.closeCh = some ch ∨ (s.door.doors.row d).set.openCh = some ch) {l : List (Fin 24)}
    (mem : d ∈ l ∨ (s.chans.row ch).requested = false) : ((l.foldl State.doorLevels s).chans.row ch).requested = false := by
  induction l generalizing s with
  | nil => exact mem.resolve_left List.not_mem_nil
  | cons e l ih =>
    obtain ⟨own', other, self⟩ := s.doorLevels_off own e
    refine ih (s := s.doorLevels e) own' (by rw [State.doorLevels_door]; exact rests)
      (by rw [State.doorLevels_door]; exact names) ?_
    by_cases same : e = d
    · rw [same]
      exact .inr (self rests (names.imp_right .inl))
    · rw [other same]
      exact mem.imp_left fun mem => (List.mem_cons.mp mem).resolve_left (Ne.symm same)

/-- An event that moves a door to rest leaves its channels OFF. -/
theorem doorEvent_off {f : State → State} {ch : Fin 16} (own : ((f s).chans.row ch).set.owner = .door d)
    (rests : ((f s).door.doors.row d).state.levels = (false, false))
    (names : ((f s).door.doors.row d).set.closeCh = some ch ∨ ((f s).door.doors.row d).set.openCh = some ch)
    (moved : s.door.doors.row d ≠ (f s).door.doors.row d) : ((doorEvent f s).chans.row ch).requested = false := by
  rw [doorEvent_eq]
  refine State.foldl_doorLevels_off own rests names (.inl ?_)
  unfold State.movedDoors
  rw [List.mem_filter]
  exact ⟨List.mem_finRange d, bne_iff_ne.mpr moved⟩

end Sys2Proof.Machine
end

section
/-! PROOFS. What a taken write of a door does (R140 to R143, R147). -/

namespace Sys2Proof.Machine
variable {s t u v : State} {d e : Fin 24} {x y : Door} {g : Fin 8} {n : DoorSettings}

/-! ## The write as an event of DOOR -/

/-- A write takes a door out of its group (R140). -/
def Door.leaves (x : Door) (n : DoorSettings) : Prop := x.set.group ≠ none ∧ n.group = none ∧ x.state ≠ .unset

/-- The part as a door write stores it, a door taken out of its group UNSET (R140, R142). -/
def State.doorStored (s : State) (d : Fin 24) (n : DoorSettings) (y : Door) : Prop :=
  (¬ (s.door.doors.row d).leaves n → y = (s.door.doors.row d).store n)
  ∧ ((s.door.doors.row d).leaves n → y = { (s.door.doors.row d).store n with
      state := .unset, timer := { acc := 0, since := some s.clock }, due := none })

/-- The lanes and groups that a door write moves are followed (R142, R143). -/
def State.doorFollowed (v : State) (o n : DoorSettings) : State :=
  let w := (v.followLane o.lane).followLane n.lane
  if o.group = n.group then w else (w.followGroup o.group).followGroup n.group

theorem State.setDoor_setDoor (s : State) (d : Fin 24) (x y : Door) : (s.setDoor d x).setDoor d y = s.setDoor d y := by
  simp only [State.setDoor, Tbl.put, Vector.set_set]

/-- What a door write does once the door is stored: it follows, and reads the trigger of the group it is put into. -/
def State.doorActs (v : State) (o n : DoorSettings) : State :=
  if o.group = n.group then v.doorFollowed o n
  else match n.group with
    | none => v.doorFollowed o n
    | some g => (v.doorFollowed o n).readTrigger g

theorem State.doorWritten_acts (old : State) (d : Fin 24) (s : State) : State.doorWritten old d s =
    (if ((old.door.doors.row d).set.group.isSome && (s.door.doors.row d).set.group.isNone
        && (s.door.doors.row d).state != .unset) = true
      then s.setDoor d { s.door.doors.row d with
        state := .unset, timer := { acc := 0, since := some s.clock }, due := none }
      else s).doorActs (old.door.doors.row d).set (s.door.doors.row d).set := by
  unfold State.doorActs State.doorFollowed
  by_cases same : (old.door.doors.row d).set.group = (s.door.doors.row d).set.group
  · rw [if_pos same, if_pos same]
    exact if_pos same
  · rw [if_neg same, if_neg same]
    exact if_neg same

theorem State.doorWritten_eq (s : State) (d : Fin 24) (n : DoorSettings) : ∃ y, s.doorStored d n y
    ∧ State.doorWritten s d (s.setDoor d ((s.door.doors.row d).store n)) =
      (s.setDoor d y).doorActs (s.door.doors.row d).set n := by
  have row : (s.setDoor d ((s.door.doors.row d).store n)).door.doors.row d = (s.door.doors.row d).store n :=
    Tbl.row_put_self _ _ _
  have leaves_iff : ((s.door.doors.row d).set.group.isSome && ((s.door.doors.row d).store n).set.group.isNone
      && ((s.door.doors.row d).store n).state != .unset) = true ↔ (s.door.doors.row d).leaves n := by
    show ((s.door.doors.row d).set.group.isSome && n.group.isNone && (s.door.doors.row d).state != .unset) = true ↔ _
    rw [Door.leaves, Bool.and_eq_true, Bool.and_eq_true, Option.isSome_iff_ne_none, Option.isNone_iff_eq_none, bne_iff_ne,
      and_assoc]
  rw [State.doorWritten_acts, row]
  by_cases leaves : (s.door.doors.row d).leaves n
  · refine ⟨_, ⟨fun no => absurd leaves no, fun _ => rfl⟩, ?_⟩
    rw [if_pos (leaves_iff.mpr leaves), State.setDoor_setDoor]
    rfl
  · refine ⟨_, ⟨fun _ => rfl, fun yes => absurd yes leaves⟩, ?_⟩
    rw [if_neg (mt leaves_iff.mp leaves)]
    rfl

/-- The entry of a taken door write, and its event. -/
theorem State.takeWrite_door {w : Written} (at_ : w.index = d.val) (known : ¬ TableId.doors.badCodes d.val w.image) :
    ∃ n, s.takeWrite .doors [w] = doorEvent (State.doorWritten s d) (s.setDoor d ((s.door.doors.row d).store n)) := by
  have there : TableId.doors.inRange d.val = true := by
    have := d.isLt
    simp [TableId.inRange, TableId.first, TableId.count]
  obtain ⟨e, read⟩ := (State.parseEntry_known (s := s) there w.image).mpr known
  obtain ⟨table, -⟩ := State.parseEntry_table read
  cases e with
  | door n =>
    rw [← at_] at read
    refine ⟨n, ?_⟩
    rw [s.takeWrite_single read]
    have store : s.store1 w.index (.door n) = s.setDoor d ((s.door.doors.row d).store n) := by
      show { s with door := { s.door with doors := putAt s.door.doors w.index _ } } = _
      rw [at_, putAt, dif_pos d.isLt]
      rfl
    rw [store]
    refine doorEvent_congr ?_
    show (if h : w.index < 24 then _ else _) = _
    rw [dif_pos (at_ ▸ d.isLt)]
    congr 1
    exact Fin.ext at_
  | _ => cases table

theorem State.followLane_handsOn (s : State) (lane : Option (Fin 8)) : s.handsOn isChange (s.followLane lane) := by
  cases lane with
  | none => exact .of_eq rfl
  | some n =>
    rw [State.followLane_some]
    exact s.setCond_handsOn _ _

theorem State.followGroup_handsOn (s : State) (group : Option (Fin 8)) : s.handsOn isChange (s.followGroup group) := by
  cases group with
  | none => exact .of_eq rfl
  | some g =>
    rw [State.followGroup_some]
    exact s.follow_handsOn _

/-- What the following of lanes and groups leaves. -/
structure State.Followed (v t : State) : Prop where
  conds : v.CondsMove t
  moves : v.DoorsMove t
  handed : v.handsOn isChange t

theorem State.Followed.trans (h : v.Followed t) (g : t.Followed u) : v.Followed u :=
  ⟨h.conds.trans g.conds, h.moves.trans g.moves, h.handed.trans g.handed⟩

theorem State.followLane_followed (v : State) (lane : Option (Fin 8)) : v.Followed (v.followLane lane) :=
  ⟨v.followLane_condsMove lane, v.followLane_doorsMove lane, v.followLane_handsOn lane⟩

theorem State.followGroup_followed (v : State) (group : Option (Fin 8)) : v.Followed (v.followGroup group) :=
  ⟨v.followGroup_condsMove group, v.followGroup_doorsMove group, v.followGroup_handsOn group⟩

theorem State.doorFollowed_followed (v : State) (o n : DoorSettings) : v.Followed (v.doorFollowed o n) := by
  have lanes := (v.followLane_followed o.lane).trans (State.followLane_followed _ n.lane)
  unfold State.doorFollowed
  dsimp only
  split
  · exact lanes
  · exact lanes.trans ((State.followGroup_followed _ o.group).trans (State.followGroup_followed _ n.group))

theorem State.Followed.door (h : v.Followed t) : t.door = v.door := by rw [h.conds.frame]

/-- After the following, the lanes that the write names are as their doors stand, and the groups where it moves the
door between groups. -/
theorem State.doorFollowed_reads (safe : v.sourcesSafe) (o n : DoorSettings) {lane group : Option (Fin 8)}
    (lanes : ∀ m, lane = some m → n.lane = some m ∨ o.lane = some m)
    (groups : ∀ g, group = some g → n.group ≠ o.group ∧ (n.group = some g ∨ o.group = some g)) :
    (v.doorFollowed o n).ReadsDoors lane group where
  safe := (v.doorFollowed_followed o n).conds.safe safe
  lane m is := by
    have first := v.followLane_condsMove o.lane
    have both := first.trans (State.followLane_condsMove _ n.lane)
    have reads : ((v.followLane o.lane).followLane n.lane).laneReads m := by
      rcases lanes m is with new | old
      · exact (State.followLane_lane _ _).1 new
      · exact (State.followLane_lane _ _).2 ((State.followLane_lane _ _).1 old)
    unfold State.doorFollowed
    dsimp only
    split
    · exact reads
    · have safe' := both.safe safe
      exact State.followGroup_lane ((State.followGroup_condsMove _ _).safe safe') (State.followGroup_lane safe' reads _) _
  group g is := by
    obtain ⟨moved, names⟩ := groups g is
    unfold State.doorFollowed
    dsimp only
    rw [if_neg moved.symm]
    rcases names with new | old
    · exact (State.followGroup_group _ _).1 new
    · exact (State.followGroup_group _ _).2 ((State.followGroup_group _ _).1 old)

/-- A reading that no door hears changes nothing. -/
theorem State.readTrigger_of_idle (idle : s.hears g → ∀ d, s.ofGroup g d → ¬ (s.door.doors.row d).begins false) :
    s.readTrigger g = s := by
  by_cases hears : s.hears g
  · rw [State.readTrigger_of_hears hears]
    have still : ∀ l : List (Fin 24), (∀ d ∈ l, ¬ (s.door.doors.row d).begins false) →
        l.foldl (State.closeRequest false false) s = s := by
      intro l all
      induction l with
      | nil => rfl
      | cons d l ih =>
        have one : s.closeRequest false false d = s := by
          have not := all d List.mem_cons_self
          rw [Door.begins_false] at not
          unfold State.closeRequest
          cases state : (s.door.doors.row d).state with
          | opened => exact absurd (.inl state) not
          | opening => exact absurd (.inr state) not
          | _ => rfl
        rw [List.foldl_cons, one]
        exact ih fun e mem => all e (List.mem_cons_of_mem d mem)
    exact still _ fun d mem => idle hears d (State.mem_doorsOf.mp mem)
  · exact State.readTrigger_of_deaf hears

end Sys2Proof.Machine
end

section
/-! PROOFS. What a taken write of a door comes to (R140 to R143, R147). -/

namespace Sys2Proof.Machine
variable {s t u v : State} {d e : Fin 24} {x y : Door} {g : Fin 8} {n : DoorSettings} {o : DoorSettings}

theorem State.doorActs_reads (safe : v.sourcesSafe) (o n : DoorSettings) {lane group : Option (Fin 8)}
    (lanes : ∀ m, lane = some m → n.lane = some m ∨ o.lane = some m)
    (groups : ∀ g, group = some g → n.group ≠ o.group ∧ (n.group = some g ∨ o.group = some g)) :
    (v.doorActs o n).ReadsDoors lane group := by
  have reads := State.doorFollowed_reads safe o n lanes groups
  unfold State.doorActs
  split
  · exact reads
  · cases n.group with
    | none => exact reads
    | some g => exact reads.readTrigger g

/-- A door write reads the trigger of the group the door is put into. -/
def State.putHears (v : State) (o n : DoorSettings) (g : Fin 8) : Prop := n.group = some g ∧ o.group ≠ some g ∧ v.hears g

theorem State.doorActs_walked (v : State) (o n : DoorSettings) :
    let t := v.doorFollowed o n
    t.Walked (v.doorActs o n) (fun e => ∃ g, t.putHears o n g ∧ t.ofGroup g e)
      (fun e => (t.door.doors.row e).begins false) (t.askedAs false false) := by
  dsimp only
  unfold State.doorActs
  split
  · rename_i same
    exact .refl _ fun e ⟨g, h, _⟩ => h.2.1 (same.trans h.1)
  · rename_i moved
    cases into : n.group with
    | none => exact .refl _ fun e ⟨g, h, _⟩ => nomatch into.symm.trans h.1
    | some g =>
      refine ((State.DoorsMove.refl _).readTrigger g fun _ _ => rfl).congr fun e => ?_
      constructor
      · rintro ⟨g', h, of⟩
        obtain rfl : g = g' := Option.some.inj (into.symm.trans h.1)
        exact ⟨h.2.2, of⟩
      · rintro ⟨hears, of⟩
        exact ⟨g, ⟨into, fun out_ => moved (out_.trans into.symm), hears⟩, of⟩

/-- Where no door is asked, the write follows and does no more. -/
theorem State.doorActs_idle (idle : ∀ g e, (v.doorFollowed o n).putHears o n g → (v.doorFollowed o n).ofGroup g e →
      ¬ ((v.doorFollowed o n).door.doors.row e).begins false) : v.doorActs o n = v.doorFollowed o n := by
  unfold State.doorActs
  split
  · rfl
  · rename_i moved
    cases into : n.group with
    | none => rfl
    | some g =>
      exact State.readTrigger_of_idle fun hears e of => idle g e
        ⟨into, fun out_ => moved (out_.trans into.symm), hears⟩ of

theorem State.setDoor_row (s : State) (d : Fin 24) (y : Door) : (s.setDoor d y).door.doors.row d = y := Tbl.row_put_self _ _ _

theorem State.doorStored.set (h : s.doorStored d n y) : y.set = n := by
  by_cases leaves : (s.door.doors.row d).leaves n
  · rw [h.2 leaves]; rfl
  · rw [h.1 leaves]; rfl

/-- The write as an event: the state it stores, the one it follows to, and the end. -/
structure State.DoorWrite (s : State) (d : Fin 24) (n : DoorSettings) (y : Door) (t u : State) : Prop where
  stored : s.doorStored d n y
  followed : (s.setDoor d y).Followed t
  at_ : t = (s.setDoor d y).doorFollowed (s.door.doors.row d).set n
  event : u = doorEvent (State.doorWritten s d) (s.setDoor d ((s.door.doors.row d).store n))
  acts : State.doorWritten s d (s.setDoor d ((s.door.doors.row d).store n)) =
    (s.setDoor d y).doorActs (s.door.doors.row d).set n

theorem State.takeWrite_doorWrite {w : Written} (at_ : w.index = d.val)
    (known : ¬ TableId.doors.badCodes d.val w.image) : ∃ n y t, s.DoorWrite d n y t (s.takeWrite .doors [w]) := by
  obtain ⟨n, is⟩ := State.takeWrite_door (s := s) at_ known
  obtain ⟨y, stored, acts⟩ := s.doorWritten_eq d n
  exact ⟨n, y, _, stored, State.doorFollowed_followed _ _ _, rfl, is, acts⟩

section write
variable (h : s.DoorWrite d n y t u)
include h

theorem State.DoorWrite.walked : t.Walked (State.doorWritten s d (s.setDoor d ((s.door.doors.row d).store n)))
    (fun e => ∃ g, t.putHears (s.door.doors.row d).set n g ∧ t.ofGroup g e)
    (fun e => (t.door.doors.row e).begins false) (t.askedAs false false) := by
  rw [h.acts, h.at_]
  exact State.doorActs_walked _ _ _

theorem State.DoorWrite.board : u.board = ((s.setDoor d y).doorActs (s.door.doors.row d).set n).board := by
  rw [h.event, doorEvent_board, h.acts]

theorem State.DoorWrite.door : u.door = ((s.setDoor d y).doorActs (s.door.doors.row d).set n).door := by
  rw [h.event, doorEvent_door, h.acts]

/-- From the stored state to the end the doors and the conditions move by DOOR's own steps. -/
theorem State.DoorWrite.moves : (s.setDoor d y).DoorsMove ((s.setDoor d y).doorActs (s.door.doors.row d).set n) := by
  rw [← h.acts]
  exact h.followed.moves.trans h.walked.moves

theorem State.DoorWrite.row : (t.door.doors.row d) = y := by
  rw [h.followed.door]
  exact s.setDoor_row d y

theorem State.DoorWrite.set : (u.door.doors.row d).set = n := by
  rw [h.door, h.moves.set, State.setDoor_row]
  exact h.stored.set

/-- What the write hears at the followed state, it hears of the terms as they stood. -/
theorem State.DoorWrite.hears_iff (safe : s.sourcesSafe)
    (steady : ∀ g tm, (s.door.groups.row g).trigger = some tm → s.steady tm) (g : Fin 8) :
    t.hears g ↔ s.req.mode = .service ∧ ∃ tm, (s.door.groups.row g).trigger = some tm ∧ s.term tm = true := by
  have listens : (s.setDoor d y).listens := State.listens_of_steady safe steady
  rw [listens g t h.followed.moves, State.hears_iff]
  exact Iff.rfl

theorem State.DoorWrite.asks (safe : s.sourcesSafe)
    (steady : ∀ g tm, (s.door.groups.row g).trigger = some tm → s.steady tm) {called : Fin 24 → Prop}
    (same : ∀ e, called e ↔ (∃ g, ((s.setDoor d y).door.doors.row e).set.group = some g ∧ n.group = some g
      ∧ (s.door.doors.row d).set.group ≠ some g ∧ s.req.mode = .service
      ∧ ∃ tm, (s.door.groups.row g).trigger = some tm ∧ s.term tm = true)
      ∧ (((s.setDoor d y).door.doors.row e).state = .opened ∨ ((s.setDoor d y).door.doors.row e).state = .opening)) :
    (∃ ds : List (Fin 24), u.queuedSince s = ds.filterMap (s.setDoor d y).callOf
      ∧ ds.Pairwise (fun a b => a < b) ∧ ∀ e, e ∈ ds ↔ called e)
    ∧ (∀ e, (¬ called e → u.door.doors.row e = (s.setDoor d y).door.doors.row e)
      ∧ (called e → (s.setDoor d y).closes ((s.setDoor d y).door.doors.row e) (u.door.doors.row e)))
    ∧ ((∀ e, ¬ called e) → u.req = s.req ∧ u.line = s.line) := by
  have called_iff (e : Fin 24) : called e ↔ (∃ g, t.putHears (s.door.doors.row d).set n g ∧ t.ofGroup g e)
      ∧ (t.door.doors.row e).begins false := by
    rw [same, Door.begins_false, h.followed.door]
    refine and_congr_left fun _ => exists_congr fun g => ?_
    unfold State.putHears State.ofGroup
    rw [h.hears_iff safe steady, h.followed.door]
    exact ⟨fun ⟨of, into, out_, hears⟩ => ⟨⟨into, out_, hears⟩, of⟩, fun ⟨⟨into, out_, hears⟩, of⟩ => ⟨of, into, out_, hears⟩⟩
  obtain ⟨l, handed, changes⟩ := h.followed.handed
  have begun : (s.setDoor d ((s.door.doors.row d).store n)).handsOn (fun i => isQueue i = false) t :=
    ⟨l, handed, fun i mem => by obtain ⟨c, v, w, rfl⟩ := changes i mem; rfl⟩
  obtain ⟨queue, rows⟩ := h.walked.asks (f := State.doorWritten s d) (h.followed.conds.safe safe) begun called_iff
  rw [← h.event, h.followed.moves.callOf] at queue
  rw [← h.event, h.followed.door] at rows
  refine ⟨queue, fun e => ⟨(rows e).1, fun is => State.closes_of_moves (s := s.setDoor d y) safe h.followed.moves rfl ((rows e).2 is)⟩,
    fun none_ => ?_⟩
  have acts := h.acts
  rw [State.doorActs_idle (v := s.setDoor d y) (fun g e hears of begins => none_ e ((called_iff e).mpr
    ⟨⟨g, h.at_ ▸ hears, h.at_ ▸ of⟩, h.at_ ▸ begins⟩)), ← h.at_] at acts
  rw [h.event, doorEvent_eq, acts, h.followed.conds.frame]
  exact ⟨rfl, rfl⟩

/-- A door taken out of its group is left with its channels OFF (R142). -/
theorem State.DoorWrite.off (leaves : (s.door.doors.row d).leaves n) {ch : Fin 16}
    (names : n.closeCh = some ch ∨ n.openCh = some ch) (own : (s.chans.row ch).set.owner = .door d) :
    (u.chans.row ch).requested = false := by
  have y_is := h.stored.2 leaves
  have row : (State.doorWritten s d (s.setDoor d ((s.door.doors.row d).store n))).door.doors.row d = y := by
    rw [h.walked.stands d fun ⟨g, hears, _⟩ => nomatch leaves.2.1.symm.trans hears.1]
    exact h.row
  rw [h.event]
  refine doorEvent_off (d := d) ?_ ?_ ?_ ?_
  · rw [h.acts, h.moves.chans]
    exact own
  · rw [row, y_is]; rfl
  · rw [row, h.stored.set]; exact names
  · rw [row, State.setDoor_row, y_is]
    exact fun is => leaves.2.2 (congrArg Door.state is)

theorem State.DoorWrite.lanes (safe : s.sourcesSafe) (lane : Fin 8)
    (names : n.lane = some lane ∨ (s.door.doors.row d).set.lane = some lane) :
    (u.cond (condLane lane) = true ↔ ∀ e, (u.door.doors.row e).set.lane = some lane → (u.door.doors.row e).state = .opened) := by
  have reads := (State.doorActs_reads (v := s.setDoor d y) safe (s.door.doors.row d).set n (lane := some lane) (group := none)
    (fun m is => Option.some.inj is ▸ names) fun g is => nomatch is).lane lane rfl
  rw [State.laneReads_iff] at reads
  rw [h.door, State.cond, h.board]
  exact reads

theorem State.DoorWrite.groups (safe : s.sourcesSafe) (moved : n.group ≠ (s.door.doors.row d).set.group) (g : Fin 8)
    (c : Fin 64) (names : n.group = some g ∨ (s.door.doors.row d).set.group = some g) :
    ((s.board.conds.row c).source = .groupClosed g → (u.cond c = true ↔
      (∃ e, (u.door.doors.row e).set.group = some g)
      ∧ ∀ e, (u.door.doors.row e).set.group = some g → (u.door.doors.row e).state = .closed))
    ∧ ((s.board.conds.row c).source = .groupOpen g → (u.cond c = true ↔
      (∃ e, (u.door.doors.row e).set.group = some g)
      ∧ ∀ e, (u.door.doors.row e).set.group = some g → (u.door.doors.row e).state = .opened)) := by
  have reads := (State.doorActs_reads (v := s.setDoor d y) safe (s.door.doors.row d).set n (lane := none) (group := some g)
    (fun m is => nomatch is) fun g' is => ⟨moved, Option.some.inj is ▸ names⟩).group g rfl c
  rw [h.moves.source] at reads
  rw [h.door, State.cond, h.board]
  refine ⟨fun is => ?_, fun is => ?_⟩
  · rw [← State.groupAll_iff, ← reads.1 is]; rfl
  · rw [← State.groupAll_iff, ← reads.2 is]; rfl

end write

end Sys2Proof.Machine
end

section
/-! PROOFS. What every event of PLAN leaves alone (R118 to R131), and the forcings of one term read in turn (R88, R89). -/

namespace Sys2Proof.Machine
variable {s t u : State} {r : Fin 4} {ch : Fin 16} {k : Fin 64}

/-! ## The force status of a channel through what its owner does (R82) -/

/-- No channel's force status has moved. -/
def State.statusesStand (s t : State) : Prop := ∀ ch, (t.chans.row ch).status = (s.chans.row ch).status

theorem State.statusesStand.trans (h : s.statusesStand t) (g : t.statusesStand u) : s.statusesStand u :=
  fun ch => (g ch).trans (h ch)

theorem State.statusesStand.of_chans (h : t.chans = s.chans) : s.statusesStand t := fun ch => by rw [h]

theorem Channel.status_of_untimed {c c' : Channel} (h : c'.untimed = c.untimed) : c'.status = c.status :=
  (congrArg Channel.status h : c'.untimed.status = c.untimed.status)

theorem State.conduct_statusesStand (s : State) (ch : Fin 16) : s.statusesStand (s.conduct ch) :=
  fun m => s.conduct_status ch m

theorem State.conductAll_statusesStand (s : State) (chs : List (Fin 16)) : s.statusesStand (s.conductAll chs) :=
  foldl_holds (fun t => s.statusesStand t) State.conduct (fun t c h => h.trans (t.conduct_statusesStand c)) chs s
    fun _ => rfl

theorem State.setLevel_statusesStand (s : State) (ch : Fin 16) (on : Bool) : s.statusesStand (s.setLevel ch on) := by
  refine State.statusesStand.trans (fun m => ?_) (State.conduct_statusesStand _ ch)
  rw [State.setChan_chans, Tbl.row_put]
  split
  · rename_i same; rw [same]
  · rfl

theorem State.ownerLevel_statusesStand (s : State) (o : Owner) (at_ : Option (Fin 16)) (on : Bool) :
    s.statusesStand (s.ownerLevel o at_ on) := by
  cases at_ with
  | none => exact fun _ => rfl
  | some ch =>
    unfold State.ownerLevel
    dsimp only
    split
    · exact s.setLevel_statusesStand ch on
    · exact fun _ => rfl

theorem State.compareUpdate_statusesStand (s : State) (o : Owner) (at_ : Option (Fin 16)) (a : Nat) :
    s.statusesStand (s.compareUpdate o at_ a) := by
  cases at_ with
  | none => exact fun _ => rfl
  | some ch =>
    simp only [State.compareUpdate]
    split
    · refine State.statusesStand.trans (fun m => ?_) (State.conductAll_statusesStand _ _)
      refine (Channel.status_of_untimed (untimed_row (Chans.untimed_settle _ _) m)).trans ?_
      rw [Tbl.row_put]
      split
      · rename_i same; rw [same]
      · rfl
    · exact fun _ => rfl

theorem State.stopValves_statusesStand (s : State) (r : Fin 4) : s.statusesStand (s.stopValves r) := by
  rw [State.stopValves_eq]
  exact ((s.ownerLevel_statusesStand _ _ _).trans (State.compareUpdate_statusesStand _ _ _ _)).trans
    ((State.ownerLevel_statusesStand _ _ _ _).trans (State.compareUpdate_statusesStand _ _ _ _))

theorem State.doorLevels_statusesStand (s : State) (d : Fin 24) : s.statusesStand (s.doorLevels d) :=
  (s.ownerLevel_statusesStand _ _ _).trans (State.ownerLevel_statusesStand _ _ _ _)

theorem State.levelled_status (s t : State) (ch : Fin 16) : ((s.levelled t).row ch).status = (t.chans.row ch).status :=
  foldl_holds (fun u => t.statusesStand u) State.doorLevels (fun u d h => h.trans (u.doorLevels_statusesStand d)) _ t
    (fun _ => rfl) ch

/-! ## What every event of PLAN leaves alone -/

/-- An event that is neither a FORCED event nor a warning call. -/
def unforced (i : Instr) : Prop := (∀ o ch, i ≠ .forcedEvent o ch) ∧ noWarning i

theorem unforced_of_change {i : Instr} (h : isChange i) : unforced i := by
  obtain ⟨c, v, u, rfl⟩ := h
  exact ⟨fun _ _ => (nomatch ·), fun _ => rfl⟩

/-- What PLAN moves: ramps, the channels but for their force status, conditions, and what it hands and offers. -/
structure State.PlanMoves (s t : State) : Prop where
  frame : t = { s with
    line := { s.line with up := t.line.up, dn := t.line.dn }
    board := { s.board with conds := t.board.conds }
    chans := t.chans
    plan := { s.plan with ramps := t.plan.ramps }
    req := { s.req with marks := t.req.marks }
    handed := t.handed }
  statuses : s.statusesStand t
  handed : s.handsOn unforced t

theorem State.PlanMoves.refl (s : State) : s.PlanMoves s := ⟨rfl, fun _ => rfl, .of_eq rfl⟩

theorem State.PlanMoves.trans (h : s.PlanMoves t) (g : t.PlanMoves u) : s.PlanMoves u := by
  refine ⟨?_, h.statuses.trans g.statuses, h.handed.trans g.handed⟩
  refine g.frame.trans ?_
  rw [h.frame]

theorem State.setRamp_planMoves (s : State) (r : Fin 4) (x : Ramp) : s.PlanMoves (s.setRamp r x) :=
  ⟨rfl, fun _ => rfl, .of_eq rfl⟩

theorem State.planMoves_of_chans (h : t = s.setChans t.chans) (statuses : s.statusesStand t) : s.PlanMoves t :=
  ⟨by rw [h]; rfl, statuses, .of_eq (by rw [h]; rfl)⟩

theorem State.CondsMove.planMoves (h : s.CondsMove t) (handed : s.handsOn isChange t) : s.PlanMoves t := by
  refine ⟨?_, .of_chans (by rw [h.frame]), handed.imp fun l is => ⟨is.1, fun i mem => unforced_of_change (is.2 i mem)⟩⟩
  refine h.frame.trans ?_
  rw [h.frame]

theorem State.notice_planMoves (s : State) (m : Fin 13) (i : Nat) : s.PlanMoves (s.notice m i) := by
  have frame := s.notice_frame m i
  generalize s.notice m i = t at frame
  refine ⟨?_, .of_chans (by rw [frame]), .of_eq (by rw [frame])⟩
  refine frame.trans ?_
  rw [frame]

theorem State.followRamp_planMoves (s : State) (r : Fin 4) : s.PlanMoves (s.followRamp r) :=
  ((s.setCond_condsMove _ _).planMoves (s.setCond_handsOn _ _)).trans
    ((State.follow_condsMove _ _).planMoves (State.follow_handsOn _ _))

theorem State.ownerLevel_planMoves (s : State) (o : Owner) (at_ : Option (Fin 16)) (on : Bool) :
    s.PlanMoves (s.ownerLevel o at_ on) :=
  State.planMoves_of_chans (s.ownerLevel_frame o at_ on) (s.ownerLevel_statusesStand o at_ on)

theorem State.stopValves_planMoves (s : State) (r : Fin 4) : s.PlanMoves (s.stopValves r) :=
  State.planMoves_of_chans (s.stopValves_frame r) (s.stopValves_statusesStand r)

theorem State.restRamp_planMoves (s : State) (r : Fin 4) (x : Ramp) : s.PlanMoves (s.restRamp r x) :=
  ((s.setRamp_planMoves r _).trans (State.stopValves_planMoves _ r)).trans (State.followRamp_planMoves _ r)

theorem State.planComplete_planMoves (s : State) (r : Fin 4) : s.PlanMoves (s.planComplete r) :=
  (s.restRamp_planMoves r _).trans (State.notice_planMoves _ _ _)

theorem State.runRamp_planMoves (s : State) (r : Fin 4) (stale : Option Nat) : s.PlanMoves (s.runRamp r stale) :=
  (s.setRamp_planMoves r _).trans (State.followRamp_planMoves _ r)

theorem State.askCall_planMoves (s : State) (r : Fin 4) (m : Fin 32) : s.PlanMoves (s.askCall r m) := by
  rw [State.askCall_eq]
  refine (s.setRamp_planMoves r _).trans ⟨rfl, fun _ => rfl, ⟨_, rfl, fun i mem => ?_⟩⟩
  rw [List.mem_singleton.mp mem]
  exact ⟨fun _ _ => (nomatch ·), fun _ => rfl⟩

theorem State.enterStage_planMoves (s : State) (r : Fin 4) (k : Fin 64) : s.PlanMoves (s.enterStage r k).1 := by
  have entered : s.PlanMoves (s.entered r) := s.setRamp_planMoves r _
  have begun : s.PlanMoves (s.driveBegun r) :=
    (entered.trans (State.setRamp_planMoves _ r _)).trans (State.stopValves_planMoves _ r)
  cases kind : (s.stage k).kind with
  | set role1 level1 role2 level2 =>
    rw [State.enterStage_set kind]
    exact (entered.trans (State.ownerLevel_planMoves _ _ _ _)).trans (State.ownerLevel_planMoves _ _ _ _)
  | wait w => rw [State.enterStage_wait kind]; exact entered
  | dwell n =>
    rw [State.enterStage_dwell kind]
    split
    · exact entered
    · exact entered.trans (State.setRamp_planMoves _ r _)
  | call c =>
    rw [State.enterStage_call kind]
    exact entered.trans (State.askCall_planMoves _ r c)
  | drive d =>
    rw [State.enterStage_drive kind]
    split <;> exact begun.trans (State.setRamp_planMoves _ r _)

theorem State.arriveAt_planMoves (s : State) (r : Fin 4) (k : Fin 64) : s.PlanMoves (s.arriveAt r k).1 := by
  have arrived : s.PlanMoves (s.arrived r k) := s.setRamp_planMoves r _
  rw [State.arriveAt_eq]
  split
  · exact arrived.trans (State.enterStage_planMoves _ r k)
  · exact arrived

theorem State.arrive_planMoves (r : Fin 4) (n : Nat) (k : Fin 64) (s : State) : s.PlanMoves (State.arrive r n k s) := by
  induction n generalizing k s with
  | zero =>
    rw [State.arrive_eq]
    split
    · exact (s.arriveAt_planMoves r k).trans (State.planComplete_planMoves _ r)
    · exact s.arriveAt_planMoves r k
  | succ n ih =>
    rw [State.arrive_eq]
    split
    · exact (s.arriveAt_planMoves r k).trans (ih _ _)
    · exact s.arriveAt_planMoves r k

theorem State.completeStage_planMoves (s : State) (r : Fin 4) : s.PlanMoves (s.completeStage r) := by
  refine State.PlanMoves.trans (s.setRamp_planMoves r (s.ramp r).stageDone) ?_
  show State.PlanMoves _ (State.onward _ r)
  unfold State.onward
  split
  · exact .refl _
  · split
    · exact State.planComplete_planMoves _ r
    · exact State.arrive_planMoves r _ _ _

theorem State.tryEnter_planMoves (s : State) (r : Fin 4) (k : Fin 64) : s.PlanMoves (s.tryEnter r k) := by
  unfold State.tryEnter
  split
  · dsimp only
    split
    · exact (s.enterStage_planMoves r k).trans (State.completeStage_planMoves _ r)
    · exact s.enterStage_planMoves r k
  · exact .refl s

/-- Whatever a ramp that waits does, the other ramps and the other blocks stand. -/
theorem State.rampTold_moves (s : State) (r : Fin 4) (fell : Bool) :
    s.PlanMoves (s.rampTold r fell) ∧ s.othersStand (s.rampTold r fell) r := by
  have stands : s.PlanMoves s ∧ s.othersStand s r := ⟨.refl s, fun _ _ => rfl⟩
  have completes : s.PlanMoves (s.completeStage r) ∧ s.othersStand (s.completeStage r) r :=
    ⟨s.completeStage_planMoves r, s.completeStage_othersStand r⟩
  have enters (k : Fin 64) : s.PlanMoves (s.tryEnter r k) ∧ s.othersStand (s.tryEnter r k) r := by
    refine ⟨s.tryEnter_planMoves r k, ?_⟩
    unfold State.tryEnter
    split
    · dsimp only
      split
      · exact (s.enterStage_othersStand r k).trans (State.completeStage_othersStand _ r)
      · exact s.enterStage_othersStand r k
    · exact fun _ _ => rfl
  have holds : s.PlanMoves (s.holdRamp r) ∧ s.othersStand (s.holdRamp r) r :=
    ⟨s.restRamp_planMoves r _, (s.holdRamp_rests r).others⟩
  have pauses : s.PlanMoves (s.pauseRamp r) ∧ s.othersStand (s.pauseRamp r) r :=
    ⟨s.restRamp_planMoves r _, (s.pauseRamp_rests r).others⟩
  have runs : s.PlanMoves (s.runRamp r (s.staleDue r)) ∧ s.othersStand (s.runRamp r (s.staleDue r)) r :=
    ⟨s.runRamp_planMoves r _, fun other ne => (State.followRamp_ramp _ _ _).trans (State.setRamp_ramp_ne ne _ _)⟩
  unfold State.rampTold
  dsimp only
  split
  · exact stands
  · rename_i k _
    split
    · exact enters k
    · split
      · exact holds
      · split
        · exact stands
        · exact pauses
    · split
      · exact completes
      · exact stands
    · split
      · exact holds
      · split
        · exact runs
        · exact stands
    · exact stands

/-! ## The forcings of a term (R50, R88, R89) -/

/-- The forcings of term `m` are judged, in ascending channel order (log 58). -/
def State.termForced (s : State) (m : Fin 32) : State :=
  (List.finRange 16).foldl (fun s ch =>
    if (s.chans.row ch).set.forcing = .termFalse m then s.judgeForcing ch else s) s

/-- The ramps that wait on term `m` read it, in ascending order (log 58). -/
def State.termTold (s : State) (m : Fin 32) : State :=
  (List.finRange 4).foldl (fun s r => if s.rampReads r m then s.rampTold r false else s) s

theorem State.termWritten_eq (m : Fin 32) (s : State) : State.termWritten m s =
    ((s.termForced m).termTold m).readTriggers (fun g => g.trigger == some m) := rfl

end Sys2Proof.Machine
end

section
/-! PROOFS. A written term read by the forcings, the ramps and DOOR (R50, R88, R89, R120, R126, R147). -/

namespace Sys2Proof.Machine
variable {s t u v : State} {r : Fin 4} {ch : Fin 16} {k : Fin 64} {m : Fin 32} {P : Fin 16 → Prop}

/-! ## The forcings (R88, R89) -/

/-- Channel `ch` is forced while term `m` is FALSE. -/
def State.forcedBy (s : State) (ch : Fin 16) (m : Fin 32) : Prop := (s.chans.row ch).set.forcing = .termFalse m

/-- From `s` to `t` the forcings of term `m` at the channels of `P` have been judged. -/
structure State.TermJudged (s t : State) (m : Fin 32) (P : Fin 16 → Prop) : Prop where
  frame : t = { s with chans := t.chans, handed := t.handed }
  unjudged : ∀ ch, (t.chans.row ch).unjudged = (s.chans.row ch).unjudged
  judged : ∀ ch, P ch → s.forcedBy ch m → (t.chans.row ch).status = s.judgedStatus ch
  stands : ∀ ch, ¬ (P ch ∧ s.forcedBy ch m) → (t.chans.row ch).status = (s.chans.row ch).status
  handed : ∃ l, t.handed = s.handed ++ l ∧ ∀ i, i ∈ l ↔ ∃ ch, P ch ∧ s.forcedBy ch m ∧ i ∈ s.judgedEvents ch

/-- The judging of a channel reads its own record, what its timer does, and the board. -/
theorem State.judged_congr (board : t.board = s.board) (unjudged : ∀ c, (t.chans.row c).unjudged = (s.chans.row c).unjudged)
    (status : (t.chans.row ch).status = (s.chans.row ch).status) :
    t.judgedStatus ch = s.judgedStatus ch ∧ t.judgedEvents ch = s.judgedEvents ch := by
  have set := Channel.set_of_unjudged (unjudged ch)
  have cut : (t.chans.row ch).cutOff = (s.chans.row ch).cutOff := by
    unfold Channel.cutOff
    rw [Channel.restart_of_unjudged (unjudged ch)]
  have counts : counting t.chans ch = counting s.chans ch :=
    counting_congr ⟨fun c => Channel.set_of_unjudged (unjudged c), fun c => Channel.running_of_unjudged (unjudged c)⟩ ch
  constructor
  · rw [State.judgedStatus, State.judgedStatus, State.fallenStatus_eq, State.fallenStatus_eq,
      State.forcingActive_congr board, set, status, cut, counts]
  · rw [State.judgedEvents, State.judgedEvents, State.forcingActive_congr board, set, status, cut]

theorem State.TermJudged.refl (s : State) (m : Fin 32) (none_ : ∀ ch, ¬ P ch) : s.TermJudged s m P where
  frame := rfl
  unjudged _ := rfl
  judged ch is := absurd is (none_ ch)
  stands _ _ := rfl
  handed := ⟨[], by simp, fun i => by simp [none_]⟩

theorem State.TermJudged.next (h : s.TermJudged t m P) (fresh : ¬ P ch) :
    s.TermJudged (if (t.chans.row ch).set.forcing = .termFalse m then t.judgeForcing ch else t) m
      fun c => P c ∨ c = ch := by
  have board : t.board = s.board := by rw [h.frame]
  have set (c : Fin 16) : (t.chans.row c).set = (s.chans.row c).set := Channel.set_of_unjudged (h.unjudged c)
  obtain ⟨l, is, mem⟩ := h.handed
  rw [set]
  by_cases forced : (s.chans.row ch).set.forcing = .termFalse m
  · rw [if_pos forced]
    have judged := t.judgeForcing_judged ch
    generalize t.judgeForcing ch = u at judged
    obtain ⟨status, events⟩ := State.judged_congr board h.unjudged (h.stands ch fun both => fresh both.1)
    have other {c : Fin 16} (ne : c ≠ ch) : (u.chans.row c).status = (t.chans.row c).status := by
      rw [judged.moves.others c ne]
    refine ⟨?_, fun c => (judged.unjudged c).trans (h.unjudged c), fun c in_ forces => ?_, fun c not => ?_,
      l ++ s.judgedEvents ch, by rw [judged.handed, is, events, List.append_assoc], fun i => ?_⟩
    · refine judged.moves.frame.trans ?_
      rw [h.frame]
    · by_cases same : c = ch
      · rw [same, judged.status, status]
      · rw [other same]
        exact h.judged c (in_.resolve_right same) forces
    · have ne : c ≠ ch := fun same => not ⟨.inr same, same ▸ forced⟩
      rw [other ne]
      exact h.stands c fun both => not ⟨.inl both.1, both.2⟩
    · rw [List.mem_append, mem]
      constructor
      · rintro (⟨c, in_, rest⟩ | mem)
        · exact ⟨c, .inl in_, rest⟩
        · exact ⟨ch, .inr rfl, forced, mem⟩
      · rintro ⟨c, in_ | rfl, forces, mem⟩
        · exact .inl ⟨c, in_, forces, mem⟩
        · exact .inr mem
  · rw [if_neg forced]
    have same (c : Fin 16) (forces : s.forcedBy c m) : (P c ∨ c = ch) ↔ P c :=
      or_iff_left fun is => forced (is ▸ forces)
    refine ⟨h.frame, h.unjudged, fun c in_ forces => h.judged c ((same c forces).mp in_) forces,
      fun c not => h.stands c fun both => not ⟨.inl both.1, both.2⟩, l, is, fun i => (mem i).trans ?_⟩
    exact exists_congr fun c => ⟨fun ⟨in_, rest⟩ => ⟨.inl in_, rest⟩,
      fun ⟨in_, forces, rest⟩ => ⟨(same c forces).mp in_, forces, rest⟩⟩

theorem State.TermJudged.congr {Q : Fin 16 → Prop} (h : s.TermJudged t m P) (same : ∀ ch, Q ch ↔ P ch) :
    s.TermJudged t m Q := by
  have : Q = P := funext fun ch => propext (same ch)
  rw [this]
  exact h

theorem State.termForced_judged (s : State) (m : Fin 32) : s.TermJudged (s.termForced m) m fun _ => True := by
  have fold (l : List (Fin 16)) (nodup : l.Nodup) (t : State) (P : Fin 16 → Prop) (h : s.TermJudged t m P)
      (fresh : ∀ ch ∈ l, ¬ P ch) : s.TermJudged (l.foldl (fun s ch =>
        if (s.chans.row ch).set.forcing = .termFalse m then s.judgeForcing ch else s) t) m fun c => P c ∨ c ∈ l := by
    induction l generalizing t P with
    | nil => exact h.congr fun c => by simp
    | cons a l ih =>
      obtain ⟨out, nodup⟩ := List.nodup_cons.mp nodup
      refine (ih nodup _ _ (h.next (fresh a List.mem_cons_self)) fun c mem => ?_).congr fun c => ?_
      · rintro (was | rfl)
        · exact fresh c (List.mem_cons_of_mem a mem) was
        · exact out mem
      · rw [List.mem_cons, or_assoc]
  exact (fold _ (List.nodup_finRange 16) s (fun _ => False) (.refl s m fun _ => id) fun _ _ => id).congr
    fun c => iff_of_true trivial (.inr (List.mem_finRange c))

theorem State.mem_judgedEvents {o : Owner} {c : Fin 16} : .forcedEvent o c ∈ s.judgedEvents ch ↔
    c = ch ∧ s.forcingActive (s.chans.row ch).set.forcing = true ∧ (s.chans.row ch).status = .clear
      ∧ (s.chans.row ch).cutOff = false ∧ (s.chans.row ch).set.owner = o ∧ o ≠ .free := by
  unfold State.judgedEvents
  split
  · rename_i h
    obtain ⟨active, clear, cut, owned⟩ := h
    rw [List.mem_singleton]
    refine ⟨fun is => ?_, fun ⟨same, _, _, _, owner, _⟩ => by rw [same, owner]⟩
    injection is with owner same
    exact ⟨same, active, clear, cut, owner.symm, owner ▸ owned⟩
  · rename_i h
    refine ⟨(nomatch ·), fun ⟨_, active, clear, cut, owner, owned⟩ => absurd ⟨active, clear, cut, ?_⟩ h⟩
    rw [owner]
    exact owned

theorem State.termForced_none (none_ : ∀ ch, ¬ s.forcedBy ch m) : s.termForced m = s :=
  List.foldl_fixed' (fun ch => if_neg (none_ ch)) _

theorem State.TermJudged.handsOn (h : s.TermJudged t m P) :
    s.handsOn (fun i => isQueue i = false ∧ noWarning i) t := by
  obtain ⟨l, is, mem⟩ := h.handed
  refine ⟨l, is, fun i in_ => ?_⟩
  obtain ⟨ch, -, -, event⟩ := (mem i).mp in_
  refine ⟨?_, s.judgedEvents_quiet ch i event⟩
  unfold State.judgedEvents at event
  split at event
  · rw [List.mem_singleton.mp event]; rfl
  · cases event

/-! ## The ramps (R120, R122, R126) -/

theorem State.rampReads_of_reads (h : s.readsTerm r k m) : s.rampReads r m = true := by
  obtain ⟨stage, reads⟩ := h
  unfold State.rampReads
  dsimp only
  rw [stage]
  dsimp only
  rcases reads with ⟨state, phase, permit⟩ | ⟨d, kind, phase, state, permit⟩ | ⟨state, phase, kind⟩
  · rw [state, phase]
    exact beq_iff_eq.mpr permit
  · rcases state with state | state
    · rw [state, phase, kind]
      exact beq_iff_eq.mpr permit
    · rw [state, phase, kind]
      exact beq_iff_eq.mpr permit
  · rw [state, phase, kind]
    exact beq_self_eq_true m

/-- A ramp that waits on no term, or whose waiting does nothing at a written term. -/
theorem State.rampStep_idle (none_ : ∀ k, ¬ s.readsTerm r k m) :
    (if s.rampReads r m then s.rampTold r false else s) = s := by
  split
  · rename_i reads
    unfold State.rampReads at reads
    dsimp only at reads
    unfold State.rampTold
    dsimp only
    cases stage : (s.ramp r).stage with
    | none => rfl
    | some k =>
      have no := none_ k
      unfold State.readsTerm at no
      rw [stage] at reads
      dsimp only at reads ⊢
      cases state : (s.ramp r).state with
      | running =>
        cases phase : (s.ramp r).phase with
        | pending =>
          rw [state, phase] at reads
          exact absurd ⟨stage, .inl ⟨state, phase, beq_iff_eq.mp reads⟩⟩ no
        | entered =>
          cases kind : (s.stage k).kind with
          | drive d =>
            rw [state, phase, kind] at reads
            exact absurd ⟨stage, .inr (.inl ⟨d, kind, phase, .inl state, beq_iff_eq.mp reads⟩)⟩ no
          | wait w =>
            rw [state, phase, kind] at reads
            exact absurd ⟨stage, .inr (.inr ⟨state, phase, by rw [kind, beq_iff_eq.mp reads]⟩)⟩ no
          | _ => rfl
      | paused =>
        cases phase : (s.ramp r).phase with
        | pending => rfl
        | entered =>
          cases kind : (s.stage k).kind with
          | drive d =>
            rw [state, phase, kind] at reads
            exact absurd ⟨stage, .inr (.inl ⟨d, kind, phase, .inr state, beq_iff_eq.mp reads⟩)⟩ no
          | _ => rfl
      | _ => rfl
  · rfl

theorem State.readsTerm_congr (ramp : t.ramp r = s.ramp r) (stages : t.plan.stages = s.plan.stages) :
    t.readsTerm r k m ↔ s.readsTerm r k m := by
  have stage : t.stage k = s.stage k := by unfold State.stage; rw [stages]
  unfold State.readsTerm
  dsimp only
  rw [ramp, stage]

theorem State.PlanMoves.stages (h : s.PlanMoves t) : t.plan.stages = s.plan.stages := by rw [h.frame]

theorem State.rampStep_moves (s : State) (r : Fin 4) (m : Fin 32) :
    s.PlanMoves (if s.rampReads r m then s.rampTold r false else s)
    ∧ s.othersStand (if s.rampReads r m then s.rampTold r false else s) r := by
  split
  · exact s.rampTold_moves r false
  · exact ⟨.refl s, fun _ _ => rfl⟩

theorem State.termTold_moves (s : State) (m : Fin 32) : s.PlanMoves (s.termTold m) :=
  foldl_holds (fun t => s.PlanMoves t) _ (fun t r h => h.trans (t.rampStep_moves r m).1) _ s (.refl s)

/-- A ramp that waits on no term stands. -/
theorem State.termTold_stands (none_ : ∀ k, ¬ s.readsTerm r k m) : (s.termTold m).ramp r = s.ramp r := by
  refine (foldl_holds (fun t => s.PlanMoves t ∧ t.ramp r = s.ramp r) _ (fun t r' h => ?_) _ s ⟨.refl s, rfl⟩).2
  obtain ⟨moves, ramp⟩ := h
  obtain ⟨step, others⟩ := t.rampStep_moves r' m
  refine ⟨moves.trans step, ?_⟩
  by_cases same : r = r'
  · subst same
    rw [State.rampStep_idle fun k => (State.readsTerm_congr ramp moves.stages).not.mpr (none_ k)]
    exact ramp
  · exact (others r same).trans ramp

/-- Where one ramp alone waits on the term, it alone reads it. -/
theorem State.termTold_single (reads : s.readsTerm r k m) (others : ∀ r' k', r' ≠ r → ¬ s.readsTerm r' k' m) :
    s.termTold m = s.rampTold r false := by
  have fold (l : List (Fin 4)) (nodup : l.Nodup) (t : State)
      (still : ∀ r' k', r' ≠ r → ¬ t.readsTerm r' k' m) (at_ : r ∈ l → t = s) :
      l.foldl (fun s r => if s.rampReads r m then s.rampTold r false else s) t =
        if r ∈ l then s.rampTold r false else t := by
    induction l generalizing t with
    | nil => rfl
    | cons a l ih =>
      obtain ⟨out, nodup⟩ := List.nodup_cons.mp nodup
      rw [List.foldl_cons]
      by_cases same : a = r
      · subst same
        obtain rfl := at_ List.mem_cons_self
        obtain ⟨moves, stands⟩ := t.rampTold_moves a false
        rw [if_pos (State.rampReads_of_reads reads), if_pos List.mem_cons_self, ih nodup _ (fun r' k' ne => ?_)
          fun mem => absurd mem out, if_neg out]
        exact (State.readsTerm_congr (stands r' ne) moves.stages).not.mpr (still r' k' ne)
      · rw [State.rampStep_idle fun k' => still a k' same, ih nodup t still fun mem => at_ (List.mem_cons_of_mem a mem)]
        by_cases mem : r ∈ l
        · rw [if_pos mem, if_pos (List.mem_cons_of_mem a mem)]
        · rw [if_neg mem, if_neg fun is => (List.mem_cons.mp is).elim (fun is => same is.symm) mem]
  rw [State.termTold, fold _ (List.nodup_finRange 4) s others fun _ => rfl, if_pos (List.mem_finRange r)]

theorem State.termTold_none (none_ : ∀ r k, ¬ s.readsTerm r k m) : s.termTold m = s :=
  List.foldl_fixed' (fun r => State.rampStep_idle (none_ r)) _

/-! ## DOOR (R147) -/

/-- An event that is no FORCED event. -/
def notForced (i : Instr) : Prop := ∀ o ch, i ≠ .forcedEvent o ch

theorem State.readTrigger_moves (s : State) (g : Fin 8) : s.DoorsMove (s.readTrigger g) ∧ s.handsOn notForced (s.readTrigger g) := by
  have walked := (State.DoorsMove.refl s).readTrigger g fun _ _ => rfl
  obtain ⟨ds, -, -, step⟩ := walked.step
  obtain ⟨l, is, queue, changes⟩ := step.handed
  refine ⟨step.moves, l, is, fun i mem o ch forced => ?_⟩
  obtain ⟨c, v, u, is⟩ := changes i mem (by rw [forced]; rfl)
  rw [forced] at is
  cases is

theorem State.readTriggers_moves (s : State) (chosen : Group → Bool) :
    s.DoorsMove (s.readTriggers chosen) ∧ s.handsOn notForced (s.readTriggers chosen) := by
  refine foldl_holds (fun t => s.DoorsMove t ∧ s.handsOn notForced t) _ (fun t g h => ?_) _ s ⟨.refl s, .of_eq rfl⟩
  split
  · exact ⟨h.1.trans (t.readTrigger_moves g).1, h.2.trans (t.readTrigger_moves g).2⟩
  · exact h

theorem State.readTriggers_none {chosen : Group → Bool} (none_ : ∀ g, chosen (s.door.groups.row g) = false) :
    s.readTriggers chosen = s :=
  List.foldl_fixed' (fun g => if_neg (Bool.eq_false_iff.mp (none_ g))) _

theorem mem_warningsInOrder {i : Instr} {l : List Instr} (quiet : noWarning i) : i ∈ warningsInOrder l ↔ i ∈ l := by
  unfold warningsInOrder
  rw [List.mem_append, List.mem_filter, List.mem_flatMap]
  constructor
  · rintro (⟨mem, -⟩ | ⟨d, -, mem⟩)
    · exact mem
    · exact (List.mem_filter.mp mem).1
  · exact fun mem => .inl ⟨mem, by simp [quiet _]⟩

end Sys2Proof.Machine
end

section
/-! PROOFS. CHANGE DELIVERY: the waiting users of a condition, and a taken term write (R41, R47, R50). -/

namespace Sys2Proof.Machine
variable {s t u v : State} {r : Fin 4} {ch : Fin 16} {k : Fin 64} {m : Fin 32} {c : Fin 64}

/-! ## The waiting users of a condition (R47) -/

theorem State.users_nodup (s : State) (c : Fin 64) : (s.users c).Nodup := by
  have gates : (((List.finRange 16).filter fun ch => (s.chans.row ch).set.gate == some c).map CondUser.gate).Nodup :=
    ((List.nodup_finRange 16).filter _).map fun _ _ => CondUser.gate.inj
  have forcings : (((List.finRange 16).filter fun ch => s.forcingNames (s.chans.row ch).set.forcing c).map
      CondUser.forcing).Nodup := ((List.nodup_finRange 16).filter _).map fun _ _ => CondUser.forcing.inj
  have ramps : (((List.finRange 4).filter fun r => s.rampWaits r c).map CondUser.ramp).Nodup :=
    ((List.nodup_finRange 4).filter _).map fun _ _ => CondUser.ramp.inj
  have doors : (if s.doorsWait c then [CondUser.doors] else []).Nodup := by split <;> simp
  unfold State.users
  refine List.nodup_append.mpr ⟨List.nodup_append.mpr ⟨List.nodup_append.mpr ⟨gates, forcings, ?_⟩, ramps, ?_⟩, doors, ?_⟩
  · simp
  · intro a ha b hb
    obtain ⟨_, -, rfl⟩ := List.mem_map.mp hb
    rcases List.mem_append.mp ha with mem | mem <;> obtain ⟨_, -, rfl⟩ := List.mem_map.mp mem <;> exact (nomatch ·)
  · intro a ha b hb
    have : b = .doors := by
      split at hb
      · exact List.mem_singleton.mp hb
      · cases hb
    rw [this]
    simp only [List.mem_append, List.mem_map] at ha
    rcases ha with (⟨_, -, rfl⟩ | ⟨_, -, rfl⟩) | ⟨_, -, rfl⟩ <;> exact (nomatch ·)

theorem State.mem_users_gate : .gate ch ∈ s.users c ↔ (s.chans.row ch).set.gate = some c := by
  unfold State.users
  simp only [List.mem_append, List.mem_map, List.mem_filter, List.mem_finRange, true_and, CondUser.gate.injEq,
    exists_eq_right, beq_iff_eq, reduceCtorEq, and_false, exists_false, or_false]
  split <;> simp

theorem State.mem_users_forcing : .forcing ch ∈ s.users c ↔ s.forcingNames (s.chans.row ch).set.forcing c = true := by
  unfold State.users
  simp only [List.mem_append, List.mem_map, List.mem_filter, List.mem_finRange, true_and, CondUser.forcing.injEq,
    exists_eq_right, reduceCtorEq, and_false, exists_false, or_false, false_or]
  split <;> simp

theorem State.mem_users_ramp : .ramp r ∈ s.users c ↔ s.rampWaits r c = true := by
  unfold State.users
  simp only [List.mem_append, List.mem_map, List.mem_filter, List.mem_finRange, true_and, CondUser.ramp.injEq,
    exists_eq_right, reduceCtorEq, and_false, exists_false, false_or]
  split <;> simp

theorem State.mem_users_doors : .doors ∈ s.users c ↔ s.doorsWait c = true := by
  unfold State.users
  simp only [List.mem_append, List.mem_map, List.mem_filter, List.mem_finRange, true_and, reduceCtorEq, and_false,
    exists_false, false_or]
  split <;> simp_all

theorem State.forcingNames_iff {f : Forcing} : s.forcingNames f c = true ↔
    (f = .faultA ∧ c = 3) ∨ (f = .faultB ∧ c = 4)
    ∨ ∃ t v', f = .termFalse t ∧ (c, v') ∈ (s.board.terms.row t).literals := by
  unfold State.forcingNames
  cases f with
  | termFalse t =>
    dsimp only
    rw [State.termNames_iff]
    simp [State.names]
  | _ => simp [condFaultA, condFaultB]

theorem State.doorsWait_iff : s.doorsWait c = true ↔
    (∃ d g, (s.door.doors.row d).set.group = some g
      ∧ ((s.door.doors.row d).set.closedCond = some c ∨ (s.door.doors.row d).set.openCond = some c))
    ∨ ∃ g t v', (s.door.groups.row g).trigger = some t ∧ (c, v') ∈ (s.board.terms.row t).literals := by
  unfold State.doorsWait
  rw [Bool.or_eq_true, List.any_eq_true, List.any_eq_true]
  refine or_congr (exists_congr fun d => ?_) (exists_congr fun g => ?_)
  · simp [Option.isSome_iff_exists]
  · cases (s.door.groups.row g).trigger with
    | none => simp
    | some t =>
      dsimp only
      rw [State.termNames_iff]
      simp [State.names]

/-! ## A taken term write (R50) -/

/-- The state with term `m` written (R50). -/
def State.withTerm (s : State) (m : Fin 32) (n : Term) : State :=
  { s with board := { s.board with terms := s.board.terms.put m n } }

/-- The entry of a taken term write, and its event. -/
theorem State.takeWrite_term {w : Written} (at_ : w.index = m.val) (known : ¬ TableId.terms.badCodes m.val w.image) :
    ∃ n, s.takeWrite .terms [w] = doorEvent (State.termWritten m) (s.withTerm m n) := by
  have there : TableId.terms.inRange m.val = true := by
    have := m.isLt
    simp [TableId.inRange, TableId.first, TableId.count]
  obtain ⟨e, read⟩ := (State.parseEntry_known (s := s) there w.image).mpr known
  obtain ⟨table, -⟩ := State.parseEntry_table read
  cases e with
  | term n =>
    rw [← at_] at read
    refine ⟨n, ?_⟩
    rw [s.takeWrite_single read]
    have store : s.store1 w.index (.term n) = s.withTerm m n := by
      show { s with board := { s.board with terms := putAt s.board.terms w.index _ } } = _
      rw [at_, putAt, dif_pos m.isLt]
      rfl
    rw [store]
    refine doorEvent_congr ?_
    show (if h : w.index < 32 then _ else _) = _
    rw [dif_pos (at_ ▸ m.isLt)]
    congr 1
    exact Fin.ext at_
  | _ => cases table

/-- A written term read again: by the forcings, the ramps and DOOR, in this order (log 58). -/
structure State.TermRead (v u : State) (m : Fin 32) : Prop where
  terms : u.board.terms = v.board.terms
  judged : ∀ ch, v.forcedBy ch m → (u.chans.row ch).status = v.judgedStatus ch
  unforced : ∀ ch, ¬ v.forcedBy ch m → (u.chans.row ch).status = (v.chans.row ch).status
  handed : ∀ o ch, .forcedEvent o ch ∈ u.handed.drop v.handed.length ↔
    ∃ c, v.forcedBy c m ∧ .forcedEvent o ch ∈ v.judgedEvents c
  stands : ∀ r, (∀ k, ¬ v.readsTerm r k m) → u.ramp r = v.ramp r

theorem State.TermJudged.ramp (h : s.TermJudged t m P) : t.ramp r = s.ramp r := by
  rw [h.frame]
  rfl

theorem State.TermJudged.readsTerm (h : s.TermJudged t m P) : t.readsTerm r k m ↔ s.readsTerm r k m :=
  State.readsTerm_congr h.ramp (by rw [h.frame])

theorem termWritten_reads (v : State) (m : Fin 32) : v.TermRead (doorEvent (State.termWritten m) v) m := by
  have judged := v.termForced_judged m
  have told := (v.termForced m).termTold_moves m
  have stands (r : Fin 4) (none_ : ∀ k, ¬ v.readsTerm r k m) : ((v.termForced m).termTold m).ramp r = v.ramp r :=
    (State.termTold_stands fun k => judged.readsTerm.not.mpr (none_ k)).trans judged.ramp
  obtain ⟨doors, quiet⟩ := ((v.termForced m).termTold m).readTriggers_moves fun g => g.trigger == some m
  rw [doorEvent_eq, State.termWritten_eq]
  generalize v.termForced m = w at *
  generalize w.termTold m = x at *
  generalize x.readTriggers _ = y at *
  obtain ⟨l, handed, mem⟩ := judged.handed
  obtain ⟨l', handed', quiet'⟩ := told.handed
  obtain ⟨l'', handed'', quiet''⟩ := quiet
  have status (ch : Fin 16) : (y.chans.row ch).status = (w.chans.row ch).status :=
    (by rw [doors.frame] : (y.chans.row ch).status = (x.chans.row ch).status).trans (told.statuses ch)
  have all : y.handed = v.handed ++ (l ++ (l' ++ l'')) := by
    rw [handed'', handed', handed]
    simp only [List.append_assoc]
  refine ⟨?_, fun ch forces => ?_, fun ch not => ?_, fun o ch => ?_, fun r none_ => ?_⟩
  · show y.board.terms = v.board.terms
    rw [doors.frame, told.frame, judged.frame]
  · exact (v.levelled_status y ch).trans ((status ch).trans (judged.judged ch trivial forces))
  · exact (v.levelled_status y ch).trans ((status ch).trans (judged.stands ch fun both => not both.2))
  · show _ ∈ (y.handed.take v.handed.length ++ warningsInOrder (y.handed.drop v.handed.length)).drop v.handed.length ↔ _
    rw [all, List.take_left', List.drop_left', List.drop_left', mem_warningsInOrder fun _ => rfl]
    · rw [List.mem_append, List.mem_append, mem]
      simp only [true_and]
      exact or_iff_left fun is => is.elim (fun is => (quiet' _ is).1 o ch rfl) fun is => quiet'' _ is o ch rfl
    all_goals rfl
  · show y.ramp r = v.ramp r
    rw [← stands r none_, doors.frame]
    rfl

/-- Where one ramp alone waits on the written term, and no forcing and no group names it, that ramp alone is told. -/
theorem termWritten_single (reads : v.readsTerm r k m) (unforced_ : ∀ ch, ¬ v.forcedBy ch m)
    (others : ∀ r' k', r' ≠ r → ¬ v.readsTerm r' k' m) (groups : ∀ g, (v.door.groups.row g).trigger ≠ some m) :
    doorEvent (State.termWritten m) v = v.rampTold r false := by
  have moves := (v.rampTold_moves r false).1
  refine doorEvent_of_is ?_ (by rw [moves.frame]) (moves.handed.imp fun l is => ⟨is.1, fun i mem => (is.2 i mem).2⟩)
  rw [State.termWritten_eq, State.termForced_none unforced_, State.termTold_single reads others]
  refine State.readTriggers_none fun g => ?_
  have same : (v.rampTold r false).door = v.door := by rw [moves.frame]
  rw [same]
  exact beq_eq_false_iff_ne.mpr (groups g)

theorem State.forcingActive_term {b : Bool} (forces : v.forcedBy ch m) (reads : v.term m = b) :
    v.forcingActive (v.chans.row ch).set.forcing = !b := by
  rw [forces, ← reads]
  rfl

/-- What a ramp that waits on a written term does, by its stage (R120, R122, R126). -/
theorem State.rampTold_reads {n : Fin 8} (reads : v.readsTerm r k m) (plan : (v.ramp r).plan = some n) :
    let u := v.rampTold r false
    let x := v.ramp r
    let st := v.stage k
    (x.phase = .pending →
      (¬ v.enters st → u = v)
      ∧ (v.enters st → ¬ v.passes st x.lastPos → v.standsAt u r st { x with phase := .entered })
      ∧ (v.enters st → v.passes st x.lastPos → v.goesOn u r n k))
    ∧ (x.phase = .entered → st.kind = .wait m →
      (v.term m = false → u = v) ∧ (v.term m = true → v.goesOn u r n k))
    ∧ (∀ d, x.phase = .entered → st.kind = .drive d →
      (x.state = .running → v.mayRun st → u = v)
      ∧ (x.state = .running → ¬ v.mayRun st → v.valvesOff u r ∧ u.ramp r = { x with
          state := .paused, sPrev := 0, stale := none,
          stageTimer := { acc := x.stageTimer.elapsed v.clock, since := none } })
      ∧ (x.state = .paused → ¬ v.mayRun st → u = v)
      ∧ (x.state = .paused → v.mayRun st → u = (v.setRamp r { x with
          state := .running, dwell := x.dwell.resume v.clock,
          stageTimer := { acc := x.stageTimer.elapsed v.clock, since := some v.clock },
          stale := some (v.clock + x.staleLimit * 1000) }).followRamp r)) := by
  obtain ⟨stage, waits⟩ := reads
  dsimp only
  refine ⟨fun pending => ?_, fun entered kind => ?_, fun d entered kind => ?_⟩
  · have running : (v.ramp r).state = .running := by
      rcases waits with ⟨running, -⟩ | ⟨_, -, entered, -⟩ | ⟨running, -⟩
      · exact running
      · rw [entered] at pending; cases pending
      · exact running
    rw [State.rampTold_pending stage running pending]
    exact State.tryEnter_reads running plan stage
  · have running : (v.ramp r).state = .running := by
      rcases waits with ⟨running, -⟩ | ⟨_, drive, -⟩ | ⟨running, -⟩
      · exact running
      · rw [kind] at drive; cases drive
      · exact running
    obtain ⟨completes, stays⟩ := State.rampTold_wait stage running entered kind false
    refine ⟨stays, fun reads => ?_⟩
    rw [completes reads]
    exact State.completeStage_goesOn (.refl v r) running plan stage
  · obtain ⟨run, pause⟩ := State.rampTold_drive stage entered kind false
    have may := State.driveHolds_iff (s := v) (st := v.stage k)
    refine ⟨fun state yes => ?_, fun state no => ?_, fun state no => ?_, fun state yes => ?_⟩
    · rw [run state, Bool.false_and, if_neg Bool.false_ne_true, if_pos (may.mpr yes)]
    · rw [run state, Bool.false_and, if_neg Bool.false_ne_true, if_neg (mt may.mp no)]
      exact ⟨(v.pauseRamp_rests r).valves, (v.pauseRamp_rests r).ramp⟩
    · rw [pause state, Bool.false_and, if_neg Bool.false_ne_true, if_neg (mt may.mp no)]
    · rw [pause state, Bool.false_and, if_neg Bool.false_ne_true, if_pos (may.mpr yes)]
      rfl

/-- Settles O18: a change by the list of its users, and a taken term write by what its readers do in turn. -/
theorem changeIsHandedToEveryWaitingUser : Obligations.ChangeIsHandedToEveryWaitingUser := by
  refine ⟨fun s c v => ⟨s.setCond_of_eq, fun ne => ⟨s.users c, s.setCond_of_ne ne, s.users_nodup c,
    fun _ => State.mem_users_gate, fun _ => State.mem_users_forcing.trans State.forcingNames_iff,
    fun _ => State.mem_users_ramp.trans State.rampWaits_iff, State.mem_users_doors.trans State.doorsWait_iff⟩⟩, ?_⟩
  rintro s m w at_ known
  obtain ⟨n, is⟩ := s.takeWrite_term at_ known
  have reads := termWritten_reads (s.withTerm m n) m
  dsimp only
  rw [is, reads.terms]
  refine ⟨fun m' ne => Tbl.row_put_ne _ _ (Ne.symm ne), fun ch => ⟨fun forces off => ?_, fun forces on engaged unlatched => ?_,
    fun stands => ?_, fun o => ?_⟩, fun r none_ => reads.stands r none_, ?_⟩
  · rw [reads.judged ch forces]
    exact State.judgedStatus_of_active (State.forcingActive_term (v := s.withTerm m n) forces off)
  · rw [reads.judged ch forces, State.judgedStatus_of_fallen (State.forcingActive_term (v := s.withTerm m n) forces on) engaged unlatched,
      State.fallenStatus_eq]
    rfl
  · rcases stands with no | ⟨on, stands⟩
    · exact reads.unforced ch no
    · by_cases forces : (s.chans.row ch).set.forcing = .termFalse m
      · rw [reads.judged ch forces]
        exact State.judgedStatus_of_stands (State.forcingActive_term (v := s.withTerm m n) forces on) stands
      · exact reads.unforced ch forces
  · refine (reads.handed o ch).trans ⟨?_, fun ⟨forces, off, rest⟩ => ⟨ch, forces, State.mem_judgedEvents.mpr
      ⟨rfl, State.forcingActive_term (v := s.withTerm m n) forces off, rest⟩⟩⟩
    rintro ⟨c, forces, mem⟩
    obtain ⟨rfl, active, rest⟩ := State.mem_judgedEvents.mp mem
    rw [State.forcingActive_term (v := s.withTerm m n) forces rfl] at active
    exact ⟨forces, Bool.not_eq_eq_eq_not.mp active, rest⟩
  · intro r k n' waits plan unforced_ others groups
    rw [termWritten_single (v := s.withTerm m n) waits unforced_
      others groups]
    exact State.rampTold_reads (v := s.withTerm m n) waits plan

end Sys2Proof.Machine
end

section
/-! PROOFS. The table writes of DOOR that move a trigger, and doors at their switches (R50, R141, R147 to R156). -/

namespace Sys2Proof.Machine
variable {s t u v : State} {d : Fin 24} {g : Fin 8} {m : Fin 32} {called : Fin 24 → Prop}

/-! ## A taken group write (R141, R147) -/

/-- The state with group `g` written. -/
def State.withGroup (s : State) (g : Fin 8) (n : Group) : State :=
  { s with door := { s.door with groups := s.door.groups.put g n } }

theorem State.takeWrite_group {w : Written} (at_ : w.index = g.val) (known : ¬ TableId.groups.badCodes g.val w.image) :
    ∃ n, s.takeWrite .groups [w] = doorEvent (State.groupWritten s g) (s.withGroup g n) := by
  have there : TableId.groups.inRange g.val = true := by
    have := g.isLt
    simp [TableId.inRange, TableId.first, TableId.count]
  obtain ⟨e, read⟩ := (State.parseEntry_known (s := s) there w.image).mpr known
  obtain ⟨table, -⟩ := State.parseEntry_table read
  cases e with
  | group n =>
    rw [← at_] at read
    refine ⟨n, ?_⟩
    rw [s.takeWrite_single read]
    have store : s.store1 w.index (.group n) = s.withGroup g n := by
      show { s with door := { s.door with groups := putAt s.door.groups w.index _ } } = _
      rw [at_, putAt, dif_pos g.isLt]
      rfl
    rw [store]
    refine doorEvent_congr ?_
    show (if h : w.index < 8 then _ else _) = _
    rw [dif_pos (at_ ▸ g.isLt)]
    congr 1
    exact Fin.ext at_
  | _ => cases table

theorem groupWritten_walked (s v : State) (g : Fin 8) : v.Walked (State.groupWritten s g v)
    (fun e => (s.door.groups.row g).trigger ≠ (v.door.groups.row g).trigger ∧ v.hears g ∧ v.ofGroup g e)
    (fun e => (v.door.doors.row e).begins false) (v.askedAs false false) := by
  unfold State.groupWritten
  split
  · rename_i same
    exact .refl v fun d is => is.1 same
  · rename_i moved
    exact ((State.DoorsMove.refl v).readTrigger g fun _ _ => rfl).congr fun d => and_iff_right moved

/-- A group write in which no door is asked does nothing but store. -/
theorem groupWritten_idle (idle : ∀ e, ¬ (((s.door.groups.row g).trigger ≠ (v.door.groups.row g).trigger ∧ v.hears g
      ∧ v.ofGroup g e) ∧ (v.door.doors.row e).begins false)) : doorEvent (State.groupWritten s g) v = v := by
  have is : State.groupWritten s g v = v := by
    unfold State.groupWritten
    split
    · rfl
    · rename_i moved
      exact State.readTrigger_of_idle fun hears e of begins => idle e ⟨⟨moved, hears, of⟩, begins⟩
  rw [doorEvent_of_same (by rw [is]) (by rw [is]), is]

/-! ## A taken term write that no ramp reads (R50, R147) -/

theorem State.closes_congr (board : t.board = s.board) (clock : t.clock = s.clock) {x y : Door} (h : t.closes x y) :
    s.closes x y := by
  unfold State.closes at h ⊢
  unfold State.cond at h ⊢
  rwa [board, clock] at h

theorem termWritten_asks (safe : v.sourcesSafe)
    (steady : ∀ g tm, (v.door.groups.row g).trigger = some tm → v.steady tm) (unread : ∀ r k, ¬ v.readsTerm r k m)
    (same : ∀ e, called e ↔ (∃ g, (v.door.groups.row g).trigger = some m ∧ v.hears g ∧ v.ofGroup g e)
      ∧ (v.door.doors.row e).begins false) :
    (∃ ds : List (Fin 24), (doorEvent (State.termWritten m) v).queuedSince v = ds.filterMap v.callOf
      ∧ ds.Pairwise (fun a b => a < b) ∧ ∀ d, d ∈ ds ↔ called d)
    ∧ ∀ e, (¬ called e → (doorEvent (State.termWritten m) v).door.doors.row e = v.door.doors.row e)
      ∧ (called e → v.closes (v.door.doors.row e) ((doorEvent (State.termWritten m) v).door.doors.row e)) := by
  have judged := v.termForced_judged m
  have begun := judged.handsOn
  have frame := judged.frame
  have is : State.termWritten m v = (v.termForced m).readTriggers (fun g => g.trigger == some m) := by
    rw [State.termWritten_eq, State.termTold_none fun r k => judged.readsTerm.not.mpr (unread r k)]
  generalize v.termForced m = w at is begun frame
  have door : w.door = v.door := by rw [frame]
  have board : w.board = v.board := by rw [frame]
  have req : w.req = v.req := by rw [frame]
  have clock : w.clock = v.clock := by rw [frame]
  have safe' : w.sourcesSafe := by unfold State.sourcesSafe; rw [board]; exact safe
  have listens : w.listens := State.listens_of_steady safe' fun g tm trigger => by
    unfold State.steady
    rw [board]
    exact steady g tm (by rw [← door]; exact trigger)
  have hears (g : Fin 8) : w.hears g ↔ v.hears g := by
    unfold State.hears State.triggered State.term State.cond
    rw [door, board, req]
  have callOf : w.callOf = v.callOf := by
    funext e
    unfold State.callOf
    rw [door]
  have walked := State.readTriggers_walked listens fun g => g.trigger == some m
  rw [← is] at walked
  obtain ⟨queue, rows⟩ := walked.asks (f := State.termWritten m) (called := called) safe'
    (begun.imp fun l h => ⟨h.1, fun i mem => (h.2 i mem).1⟩) fun e => by
      rw [same, door]
      refine and_congr_left fun _ => exists_congr fun g => ?_
      unfold State.ofGroup
      rw [hears, door, beq_iff_eq, and_assoc]
  rw [callOf] at queue
  rw [door] at rows
  exact ⟨queue, fun e => ⟨(rows e).1, fun is => State.closes_congr board clock ((rows e).2 is)⟩⟩

/-! ## The result of a warning call (R148) -/

theorem exec_warningCallResult (running : s.inReset = false) (d : Fin 24) (code : Code) :
    exec (.warningCallResult d code) s = .next (if code = .done then s.take (.warningCallResult d code)
      else { s.take (.warningCallResult d code) with
        door := { s.door with warnCallLost := min (s.door.warnCallLost + 1) 65535 } }) :=
  event_of_running s (.warningCallResult d code) (fun s => if code = .done then s
    else { s with door := { s.door with warnCallLost := satAdd 65535 s.door.warnCallLost 1 } }) running

/-! ## The doors, of themselves -/

theorem index_fin {tb : TableId} {n i : Nat} (there : tb.inRange i = true)
    (size : tb.first + tb.count = n := by rfl) : ∃ k : Fin n, i = k.val := by
  obtain ⟨-, below⟩ := Bool.and_eq_true_iff.mp there
  exact ⟨⟨i, size ▸ of_decide_eq_true below⟩, rfl⟩

theorem termWritten_groups (v : State) (m : Fin 32) :
    (doorEvent (State.termWritten m) v).door.groups = v.door.groups := by
  have judged := (v.termForced_judged m).frame
  have told := ((v.termForced m).termTold_moves m).frame
  have doors := (((v.termForced m).termTold m).readTriggers_moves fun g => g.trigger == some m).1.groups
  rw [doorEvent_door, State.termWritten_eq, doors]
  generalize v.termForced m = w at *
  rw [told, judged]

/-- The trigger readings of a written group or term, and the doors they ask. -/
theorem State.writes_ask {tb : TableId} {w : Written} (safe : s.sourcesSafe) (there : tb.inRange w.index = true)
    (known : ¬ tb.badCodes w.index w.image) (of : tb = .groups ∨ tb = .terms)
    (unread : ∀ r k tm, (s.ramp r).stage = some k → tm.val = w.index →
      tb = .terms → (s.stage k).permit ≠ tm ∧ (s.stage k).kind ≠ .wait tm) :
    let u := s.takeWrite tb [w]
    let v : State := { s with
      door := { s.door with groups := u.door.groups }, board := { s.board with terms := u.board.terms } }
    (∀ g tm, (v.door.groups.row g).trigger = some tm → v.steady tm) →
    let read (g : Fin 8) : Prop := s.req.mode = .service
      ∧ ∃ tm, (v.door.groups.row g).trigger = some tm ∧ v.term tm = true
        ∧ (tb = .terms → tm.val = w.index)
        ∧ (tb = .groups → g.val = w.index ∧ (s.door.groups.row g).trigger ≠ some tm)
    let called (e : Fin 24) : Prop := (∃ g, (v.door.doors.row e).set.group = some g ∧ read g)
      ∧ ((v.door.doors.row e).state = .opened ∨ (v.door.doors.row e).state = .opening)
    (∃ ds : List (Fin 24), u.queuedSince s = ds.filterMap v.callOf
      ∧ ds.Pairwise (fun a b => a < b) ∧ ∀ e, e ∈ ds ↔ called e)
    ∧ (∀ e, (¬ called e → u.door.doors.row e = v.door.doors.row e)
      ∧ (called e → v.closes (v.door.doors.row e) (u.door.doors.row e)))
    ∧ (tb = .groups → (∀ e, ¬ called e) → u = v) := by
  rcases of with rfl | rfl
  · obtain ⟨g, at_⟩ := index_fin (n := 8) there
    obtain ⟨n, is⟩ := s.takeWrite_group at_ (at_ ▸ known)
    have walked := groupWritten_walked s (s.withGroup g n) g
    have groups : (doorEvent (State.groupWritten s g) (s.withGroup g n)).door.groups = s.door.groups.put g n := by
      rw [doorEvent_door, walked.moves.groups]
      rfl
    have terms : (doorEvent (State.groupWritten s g) (s.withGroup g n)).board.terms = s.board.terms := by
      rw [doorEvent_board, walked.moves.terms]
      rfl
    dsimp only
    rw [is, groups, terms]
    intro steady
    have row : (s.withGroup g n).door.groups.row g = n := Tbl.row_put_self _ _ _
    have called_iff (e : Fin 24) : ((∃ g', ((s.withGroup g n).door.doors.row e).set.group = some g' ∧ s.req.mode = .service
        ∧ ∃ tm, ((s.withGroup g n).door.groups.row g').trigger = some tm ∧ (s.withGroup g n).term tm = true
          ∧ (TableId.groups = .terms → tm.val = w.index)
          ∧ (TableId.groups = .groups → g'.val = w.index ∧ (s.door.groups.row g').trigger ≠ some tm))
          ∧ (((s.withGroup g n).door.doors.row e).state = .opened ∨ ((s.withGroup g n).door.doors.row e).state = .opening))
        ↔ ((s.door.groups.row g).trigger ≠ ((s.withGroup g n).door.groups.row g).trigger ∧ (s.withGroup g n).hears g
          ∧ (s.withGroup g n).ofGroup g e) ∧ ((s.withGroup g n).door.doors.row e).begins false := by
      rw [Door.begins_false]
      refine and_congr_left fun _ => ?_
      rw [State.hears_iff]
      constructor
      · rintro ⟨g', of, service, tm, trigger, reads, -, moved⟩
        obtain ⟨same, moved⟩ := moved rfl
        obtain rfl : g' = g := Fin.ext (same.trans at_)
        exact ⟨by rw [trigger]; exact moved, ⟨service, tm, trigger, reads⟩, of⟩
      · rintro ⟨moved, ⟨service, tm, trigger, reads⟩, of⟩
        exact ⟨g, of, service, tm, trigger, reads, (nomatch ·), fun _ => ⟨at_.symm, by rw [← trigger]; exact moved⟩⟩
    obtain ⟨queue, rows⟩ := walked.asks (f := State.groupWritten s g) (s := s.withGroup g n) (t := s.withGroup g n) safe (.of_eq rfl) called_iff
    exact ⟨queue, rows, fun _ none_ => groupWritten_idle fun e => (called_iff e).not.mp (none_ e)⟩
  · obtain ⟨m, at_⟩ := index_fin (n := 32) there
    obtain ⟨n, is⟩ := s.takeWrite_term at_ (at_ ▸ known)
    have reads := termWritten_reads (s.withTerm m n) m
    have groups := termWritten_groups (s.withTerm m n) m
    dsimp only
    rw [is, groups, reads.terms]
    intro steady
    have idle (r : Fin 4) (k : Fin 64) : ¬ (s.withTerm m n).readsTerm r k m := by
      rintro ⟨stage, ⟨-, -, permit⟩ | ⟨_, -, -, -, permit⟩ | ⟨-, -, wait⟩⟩
      · exact (unread r k m stage at_.symm rfl).1 permit
      · exact (unread r k m stage at_.symm rfl).1 permit
      · exact (unread r k m stage at_.symm rfl).2 wait
    have called_iff (e : Fin 24) : ((∃ g, ((s.withTerm m n).door.doors.row e).set.group = some g ∧ s.req.mode = .service
        ∧ ∃ tm, ((s.withTerm m n).door.groups.row g).trigger = some tm ∧ (s.withTerm m n).term tm = true
          ∧ (TableId.terms = .terms → tm.val = w.index)
          ∧ (TableId.terms = .groups → g.val = w.index ∧ (s.door.groups.row g).trigger ≠ some tm))
          ∧ (((s.withTerm m n).door.doors.row e).state = .opened ∨ ((s.withTerm m n).door.doors.row e).state = .opening))
        ↔ (∃ g, ((s.withTerm m n).door.groups.row g).trigger = some m ∧ (s.withTerm m n).hears g
          ∧ (s.withTerm m n).ofGroup g e) ∧ ((s.withTerm m n).door.doors.row e).begins false := by
      rw [Door.begins_false]
      refine and_congr_left fun _ => exists_congr fun g => ?_
      rw [State.hears_iff]
      constructor
      · rintro ⟨of, service, tm, trigger, reads, same, -⟩
        obtain rfl : tm = m := Fin.ext ((same rfl).trans at_)
        exact ⟨trigger, ⟨service, tm, trigger, reads⟩, of⟩
      · rintro ⟨trigger, ⟨service, tm, trigger', reads⟩, of⟩
        obtain rfl : m = tm := Option.some.inj (trigger.symm.trans trigger')
        exact ⟨of, service, m, trigger, reads, fun _ => at_.symm, (nomatch ·)⟩
    obtain ⟨queue, rows⟩ := termWritten_asks (v := s.withTerm m n) safe steady idle called_iff
    exact ⟨queue, rows, (nomatch ·)⟩

end Sys2Proof.Machine
end

section
/-! PROOFS. Doors at their limit switches, their triggers and their table writes (R140 to R156). -/

namespace Sys2Proof.Machine
variable {s t u : State} {d : Fin 24} {n : DoorSettings} {y : Door}

/-- DOOR DERIVATION of every door, and the closing requests of the triggers it reads (R144, R147). -/
theorem State.deriveAll_reads (safe : s.sourcesSafe)
    (steady : ∀ g tm, (s.door.groups.row g).trigger = some tm → s.steady tm) (able : s.derivable)
    {called : Fin 24 → Prop} (same : ∀ d, called d ↔ s.askedBy (fun _ => True) d) :
    let derives (s : State) := (List.finRange 24).foldl State.deriveDoor s
    (∃ ds : List (Fin 24), (doorEvent derives s).queuedSince s = ds.filterMap s.callOf
      ∧ ds.Pairwise (fun a b => a < b) ∧ ∀ d, d ∈ ds ↔ called d)
    ∧ ∀ d, let x := s.door.doors.row d
        let y := (doorEvent derives s).door.doors.row d
        (x.set.group = none → y = x)
        ∧ (called d → s.closes x y)
        ∧ (¬ called d → x.state ≠ .unset → y = x)
        ∧ (¬ called d → x.set.group ≠ none → x.state = .unset → ∀ c, x.set.closedCond = some c →
            y.set = x.set ∧ y.attempts = x.attempts
            ∧ y.state = (if s.cond c = true then .closed else .opened)) := by
  have derived := s.derived_all safe (State.listens_of_steady safe steady) able
  obtain ⟨ds, nodup, mem, step⟩ := derived.step
  refine ⟨doorEvent_of_step (.of_eq rfl) step nodup fun d => (mem d).trans (same d).symm, fun d => ?_⟩
  rw [doorEvent_door, same]
  refine ⟨fun out => ?_, fun called => (derived.asked d called).1, fun not set => ?_, fun not fitted unset c closed => ?_⟩
  · refine derived.stands d ?_ fun is => is.2.1 out
    rintro ⟨g, is, -⟩
    rw [out] at is
    cases is
  · exact derived.stands d not fun is => set is.2.2
  · rw [derived.derived d c not trivial ⟨fitted, unset⟩ closed, Door.derived_unset ⟨fitted, unset⟩]
    exact ⟨rfl, rfl, rfl⟩

/-- DOOR DERIVATION of the doors where no trigger is read (R144). -/
theorem State.deriveAll_quiet (quiet : ∀ g, s.untriggered g) (d : Fin 24) :
    let x := s.door.doors.row d
    let y := (doorEvent (fun s => (List.finRange 24).foldl State.deriveDoor s) s).door.doors.row d
    (x.set.group = none ∨ x.state ≠ .unset → y = x)
    ∧ ∀ g c k, x.set.group = some g → x.state = .unset → x.set.closedCond = some c →
      16 ≤ c.val → (s.board.conds.row c).source = .threshold k →
      y.set = x.set ∧ y.attempts = x.attempts
      ∧ y.state = (if s.cond c = true then .closed else .opened) := by
  obtain ⟨shut, reads, is⟩ := State.deriveDoors_quiet quiet d
  dsimp only
  rw [is]
  refine ⟨fun stands => ?_, fun g c k of unset closed high src => ?_⟩
  · refine if_neg fun both => ?_
    exact stands.elim both.1 fun set => set both.2
  · rw [closed] at reads
    rw [Door.derived_unset ⟨by rw [of]; exact (nomatch ·), unset⟩,
      reads.cond (State.not_followsDoors_of_threshold high src)]
    exact ⟨rfl, rfl, rfl⟩

/-- Settles O47, by the event: a change, DOOR DERIVATION, a door write, a group or term write, the result of a
warning call, and the doors' own switches where no trigger is read. -/
theorem doorsFollowTheirLimitSwitches : Obligations.DoorsFollowTheirLimitSwitches := by
  refine ⟨fun s c v running safe other steady => ?_, fun s running safe steady able => ?_,
    fun s d w at_ known safe steady => ?_, fun s tb w safe there known of unread => ?_,
    fun s d code running => exec_warningCallResult running d code, fun s running deaf => ⟨?_, fun c v => ?_⟩⟩
  · obtain ⟨queue, rows⟩ := State.doorsChange_reads (s := s.take (.conditionChange c v .doors)) safe v other steady
    exact ⟨_, exec_doorsChange running c v, queue, rows⟩
  · obtain ⟨queue, rows⟩ := State.deriveAll_reads (s := s.take .doorDerivation) safe steady
      (fun d is => able d is.1 is.2) (called := fun d => ∃ g, (s.door.doors.row d).set.group = some g
        ∧ (∃ tm, (s.door.groups.row g).trigger = some tm ∧ s.term tm = true ∧ s.req.mode = .service)
        ∧ (s.derivesOpen d g ∨ ((s.door.doors.row d).state = .opened ∨ (s.door.doors.row d).state = .opening)
          ∧ ∃ d', s.derivesOpen d' g)) fun d => by
        refine exists_congr fun g => and_congr_right fun _ => and_congr ?_ ?_
        · rw [State.hears_iff]
          exact ⟨fun ⟨tm, trigger, reads, service⟩ => ⟨service, tm, trigger, reads⟩,
            fun ⟨service, tm, trigger, reads⟩ => ⟨tm, trigger, reads, service⟩⟩
        · simp only [true_and]
          rfl
    exact ⟨_, exec_doorDerivation running, queue, rows⟩
  · obtain ⟨n, y, t, write⟩ := State.takeWrite_doorWrite (s := s) at_ known
    generalize s.takeWrite .doors [w] = u at write
    dsimp only
    rw [write.set]
    generalize same : (if (s.door.doors.row d).set.group ≠ none ∧ n.group = none ∧ (s.door.doors.row d).state ≠ .unset
      then _ else _ : Door) = z
    obtain rfl : z = y := by
      rw [← same]
      split
      · exact (write.stored.2 ‹_›).symm
      · exact (write.stored.1 ‹_›).symm
    obtain ⟨queue, rows, idle⟩ := write.asks (called := fun e => (∃ g, ((s.setDoor d z).door.doors.row e).set.group = some g
      ∧ n.group = some g ∧ (s.door.doors.row d).set.group ≠ some g ∧ s.req.mode = .service
      ∧ ∃ tm, (s.door.groups.row g).trigger = some tm ∧ s.term tm = true)
      ∧ (((s.setDoor d z).door.doors.row e).state = .opened ∨ ((s.setDoor d z).door.doors.row e).state = .opening))
      safe steady fun _ => Iff.rfl
    exact ⟨queue, rows, fun left _ names own => write.off left names own, fun lane names => write.lanes safe lane names,
      fun moved g c names => write.groups safe moved g c names, idle⟩
  · intro u v steady
    obtain ⟨queue, rows, idle⟩ := State.writes_ask safe there known of unread steady
    exact ⟨queue, rows, idle⟩
  · exact ⟨_, exec_doorDerivation running, State.deriveAll_quiet (s := s.take .doorDerivation)
      (State.untriggered_of_deaf (s := s.take _) deaf)⟩
  · refine ⟨_, exec_doorsChange running c v, fun d => ?_⟩
    have quiet := State.untriggered_of_deaf (s := s.take (.conditionChange c v .doors)) deaf
    rw [State.doorsChange_quiet quiet]
    obtain ⟨out, named, shuts, opens, service, setup, stays⟩ := Door.switched_reads (s.door.doors.row d) c v
      (s.req.mode == .setup) s.clock
    exact ⟨out, named, shuts, opens, fun v_ mode => service v_ (by rw [mode]; rfl),
      fun v_ mode => setup v_ (by rw [mode]; rfl), stays⟩

end Sys2Proof.Machine
end

section
/-! PROOFS. The searches of the validation, and pass 1: channel ownership (R85, R179; log 30). -/

namespace Sys2Proof.Machine
variable {s : State} {ch : Fin 16} {t : TableId} {i : Nat} {P : TableId → Nat → Prop}

/-! ## A search for the first record (R179) -/

/-- A finding stands before another: in an earlier table, or at a lower index of the same one. -/
def Finding.before (f g : Finding) : Prop := f.1.id < g.1.id ∨ (g.1 = f.1 ∧ f.2 < g.2)

/-- A search for a record that `P` shows finds the first of them, or nothing where no record shows it. -/
structure Seeks (f : Option Finding) (P : TableId → Nat → Prop) : Prop where
  misses : f = none → ∀ t i, ¬ P t i
  meets : ∀ t i, f = some (t, i) → P t i ∧ ∀ t' i', P t' i' → t.id < t'.id ∨ (t' = t ∧ i ≤ i')

theorem find_seeks {α : Type} {l : List α} {key : α → Finding} {p : α → Bool}
    (sorted : l.Pairwise fun a b => (key a).before (key b))
    (shows_ : ∀ t i, P t i ↔ ∃ a ∈ l, key a = (t, i) ∧ p a = true) : Seeks ((l.find? p).map key) P where
  misses none_ t i is := by
    obtain ⟨a, mem, -, yes⟩ := (shows_ t i).mp is
    exact List.find?_eq_none.mp (Option.map_eq_none_iff.mp none_) a mem yes
  meets t i some_ := by
    obtain ⟨a, found, at_⟩ := Option.map_eq_some_iff.mp some_
    refine ⟨(shows_ t i).mpr ⟨a, List.mem_of_find?_eq_some found, at_, List.find?_some found⟩, fun t' i' is => ?_⟩
    obtain ⟨b, mem, at', yes⟩ := (shows_ t' i').mp is
    obtain ⟨-, pre, post, rfl, no⟩ := List.find?_eq_some_iff_append.mp found
    rcases List.mem_append.mp mem with early | late
    · exact absurd yes (by simpa using no b early)
    · rcases List.mem_cons.mp late with rfl | late
      · rw [at_] at at'
        injection at' with same index
        exact .inr ⟨same.symm, index.le⟩
      · have before := (List.pairwise_append.mp sorted).2.1
        have := (List.pairwise_cons.mp before).1 b late
        rw [at_, at'] at this
        exact this.imp id fun ⟨same, less⟩ => ⟨same, less.le⟩

/-- The search for the first index of a table. -/
theorem firstIn_seeks {n : Nat} {bad : Fin n → Bool} (tb : TableId)
    (shows_ : ∀ t i, P t i ↔ t = tb ∧ ∃ k : Fin n, k.val = i ∧ bad k = true) : Seeks (firstIn tb bad) P := by
  refine find_seeks (key := fun k : Fin n => (tb, k.val))
    ((List.pairwise_lt_finRange n).imp fun less => .inr ⟨rfl, less⟩) fun t i => (shows_ t i).trans ?_
  constructor
  · rintro ⟨rfl, k, rfl, yes⟩
    exact ⟨k, List.mem_finRange k, rfl, yes⟩
  · rintro ⟨k, -, at_, yes⟩
    injection at_ with same index
    exact ⟨same.symm, k, index, yes⟩

/-! ## A pass (R179) -/

theorem firstOf_cons_none (fs : List (Option Finding)) : firstOf (none :: fs) = firstOf fs := rfl
theorem firstOf_cons_some (f : Finding) (fs : List (Option Finding)) : firstOf (some f :: fs) = some f := rfl

/-- A search is pass `pass` of the validation: it finds what the pass reports, or nothing where the pass is clean. -/
structure State.Passes (s : State) (pass : Nat) (f : Option Finding) : Prop where
  clean : f = none → s.passClean pass
  reports : ∀ t i, f = some (t, i) → s.passReports pass t i

/-- The rows of a pass are sought in their order (log 30). -/
theorem State.passes_of_rows {pass : Nat} {fs : List (Option Finding)}
    (rows : ∀ row f, fs[row]? = some f → Seeks f (s.inconsistent pass row))
    (rest : ∀ row t i, fs.length ≤ row → ¬ s.inconsistent pass row t i) : s.Passes pass (firstOf fs) where
  clean none_ row t i := by
    by_cases below : row < fs.length
    · refine (rows row fs[row] (List.getElem?_eq_getElem below)).misses ?_ t i
      exact List.findSome?_eq_none_iff.mp none_ _ (List.getElem_mem below)
    · exact rest row t i (Nat.le_of_not_lt below)
  reports t i some_ := by
    obtain ⟨pre, f, post, rfl, is, no⟩ := List.findSome?_eq_some_iff.mp some_
    obtain ⟨found, first⟩ := (rows pre.length f (by simp)).meets t i is
    refine ⟨pre.length, found, fun row t' i' less => ?_, first⟩
    have at_ : (pre ++ f :: post)[row]? = some pre[row] := by rw [List.getElem?_append_left less, List.getElem?_eq_getElem less]
    exact (rows row _ at_).misses (no _ (List.getElem_mem less)) t' i'

/-- A pass reports one record. -/
theorem State.passReports_unique {pass k k' : Nat} {t' : TableId} (h : s.passReports pass t k)
    (h' : s.passReports pass t' k') : (t, k) = (t', k') := by
  obtain ⟨row, shows_, none_, first⟩ := h
  obtain ⟨row', shows', none', first'⟩ := h'
  obtain rfl : row = row' := by
    rcases Nat.lt_trichotomy row row' with less | same | more
    · exact absurd shows_ (none' row t k less)
    · exact same
    · exact absurd shows' (none_ row' t' k' more)
  rcases first t' k' shows' with less | ⟨rfl, le⟩
  · rcases first' t k shows_ with less' | ⟨rfl, -⟩ <;> omega
  · rcases first' t' k shows_ with less' | ⟨-, le'⟩
    · omega
    · rw [le_antisymm le le']

theorem State.passReports.not_clean {pass : Nat} (h : s.passReports pass t i) : ¬ s.passClean pass := by
  obtain ⟨row, shows_, -⟩ := h
  exact fun clean => clean row t i shows_

theorem State.Passes.of_clean {pass : Nat} {f : Option Finding} (h : s.Passes pass f) (clean : s.passClean pass) :
    f = none := by
  cases f with
  | none => rfl
  | some found => exact absurd clean (h.reports found.1 found.2 rfl).not_clean

theorem State.Passes.of_reports {pass : Nat} {f : Option Finding} (h : s.Passes pass f) (reports : s.passReports pass t i) :
    f = some (t, i) := by
  cases f with
  | none => exact absurd (h.clean rfl) reports.not_clean
  | some found => rw [State.passReports_unique reports (h.reports found.1 found.2 rfl)]

/-! ## The records that name channels (R85) -/

/-- Record `m` is the one at index `i` of table `t`. -/
def Naming.stands (m : Naming) (t : TableId) (i : Nat) : Prop := m.found = (t, i)

theorem State.namings_sorted (s : State) : s.namings.Pairwise fun a b => a.found.before b.found := by
  unfold State.namings
  have within {n : Nat} (tb : TableId) (f : Fin n → Naming) (at_ : ∀ k, (f k).found = (tb, k.val)) :
      ((List.finRange n).map f).Pairwise fun a b => a.found.before b.found :=
    List.pairwise_map.mpr ((List.pairwise_lt_finRange n).imp fun less => by
      rw [at_, at_]
      exact .inr ⟨rfl, less⟩)
  refine List.pairwise_append.mpr ⟨List.pairwise_append.mpr ⟨within .ramps _ fun _ => rfl, within .doors _ fun _ => rfl, ?_⟩,
    within .zones _ fun _ => rfl, ?_⟩
  · intro a ha b hb
    obtain ⟨_, -, rfl⟩ := List.mem_map.mp ha
    obtain ⟨_, -, rfl⟩ := List.mem_map.mp hb
    exact .inl (by simp only [TableId.id]; omega)
  · intro a ha b hb
    obtain ⟨_, -, rfl⟩ := List.mem_map.mp hb
    rcases List.mem_append.mp ha with ha | ha <;> obtain ⟨_, -, rfl⟩ := List.mem_map.mp ha <;> exact .inl (by simp only [TableId.id]; omega)

/-- The naming records are the ramps, the doors and the zones. -/
theorem State.mem_namings {m : Naming} : m ∈ s.namings ↔
    (∃ r : Fin 4, m = ⟨(.ramps, r.val), .ramp r, (s.ramp r).extend.toList ++ (s.ramp r).retract.toList⟩)
    ∨ (∃ d : Fin 24, m = ⟨(.doors, d.val), .door d,
        (s.door.doors.row d).set.closeCh.toList ++ (s.door.doors.row d).set.openCh.toList⟩)
    ∨ ∃ z : Fin 16, m = ⟨(.zones, z.val), .lamp z, (s.call.zones.row z).lamp.toList⟩ := by
  simp only [State.namings, List.mem_append, List.mem_map, List.mem_finRange, true_and, or_assoc, State.ramp, eq_comm (b := m)]

theorem State.namesChannel_iff : s.namesChannel t i ch ↔ ∃ m ∈ s.namings, m.found = (t, i) ∧ ch ∈ m.channels := by
  constructor
  · rintro (⟨rfl, r, rfl, names⟩ | ⟨rfl, d, rfl, names⟩ | ⟨rfl, z, rfl, names⟩)
    · exact ⟨_, State.mem_namings.mpr (.inl ⟨r, rfl⟩), rfl, by simpa [eq_comm] using names⟩
    · exact ⟨_, State.mem_namings.mpr (.inr (.inl ⟨d, rfl⟩)), rfl, by simpa [eq_comm] using names⟩
    · exact ⟨_, State.mem_namings.mpr (.inr (.inr ⟨z, rfl⟩)), rfl, by simpa [eq_comm] using names⟩
  · rintro ⟨m, mem, at_, names⟩
    rcases State.mem_namings.mp mem with ⟨k, rfl⟩ | ⟨k, rfl⟩ | ⟨k, rfl⟩ <;> obtain ⟨rfl, rfl⟩ := Prod.mk.inj at_
    · exact .inl ⟨rfl, k, rfl, by simpa [eq_comm] using names⟩
    · exact .inr (.inl ⟨rfl, k, rfl, by simpa [eq_comm] using names⟩)
    · exact .inr (.inr ⟨rfl, k, rfl, by simpa [eq_comm] using names⟩)

theorem State.ownedBy_iff {m : Naming} (mem : m ∈ s.namings) (at_ : m.found = (t, i)) :
    s.ownedBy ch t i ↔ (s.chans.row ch).set.owner = m.owner := by
  unfold State.ownedBy
  rcases State.mem_namings.mp mem with ⟨k, rfl⟩ | ⟨k, rfl⟩ | ⟨k, rfl⟩ <;> obtain ⟨rfl, rfl⟩ := Prod.mk.inj at_ <;>
    simp [Fin.val_inj]

/-- The record at an index that owns a channel stands among the naming records. -/
theorem State.ownedBy.naming (h : s.ownedBy ch t i) :
    ∃ m ∈ s.namings, m.found = (t, i) ∧ (s.chans.row ch).set.owner = m.owner := by
  rcases h with ⟨rfl, k, rfl, owner⟩ | ⟨rfl, k, rfl, owner⟩ | ⟨rfl, k, rfl, owner⟩
  · exact ⟨_, State.mem_namings.mpr (.inl ⟨k, rfl⟩), rfl, owner⟩
  · exact ⟨_, State.mem_namings.mpr (.inr (.inl ⟨k, rfl⟩)), rfl, owner⟩
  · exact ⟨_, State.mem_namings.mpr (.inr (.inr ⟨k, rfl⟩)), rfl, owner⟩

/-! ## Pass 1: channel ownership (R85) -/

theorem State.unowned_seeks (s : State) : Seeks ((s.namings.find? fun m =>
    m.channels.any fun ch => (s.chans.row ch).set.owner != m.owner).map Naming.found) (s.inconsistent 1 0) := by
  refine find_seeks s.namings_sorted fun t i => ?_
  show (∃ ch, s.namesChannel t i ch ∧ ¬ s.ownedBy ch t i) ↔ _
  simp only [List.any_eq_true, bne_iff_ne]
  constructor
  · rintro ⟨ch, names, not⟩
    obtain ⟨m, mem, at_, names⟩ := State.namesChannel_iff.mp names
    exact ⟨m, mem, at_, ch, names, (State.ownedBy_iff mem at_).not.mp not⟩
  · rintro ⟨m, mem, at_, ch, names, ne⟩
    exact ⟨ch, State.namesChannel_iff.mpr ⟨m, mem, at_, names⟩, (State.ownedBy_iff mem at_).not.mpr ne⟩

theorem nodup_two (a b : Option (Fin 16)) : ¬ (a.toList ++ b.toList).Nodup ↔ ∃ ch, a = some ch ∧ b = some ch := by
  cases a <;> cases b <;> simp [eq_comm]

theorem State.twice_seeks (s : State) : Seeks ((s.namings.find? fun m => !decide m.channels.Nodup).map Naming.found)
    (s.inconsistent 1 1) := by
  refine find_seeks s.namings_sorted fun t i => ?_
  show (∃ ch, (t = .ramps ∧ ∃ r : Fin 4, r.val = i ∧ (s.ramp r).extend = some ch ∧ (s.ramp r).retract = some ch)
      ∨ (t = .doors ∧ ∃ d : Fin 24, d.val = i ∧ (s.door.doors.row d).set.closeCh = some ch
        ∧ (s.door.doors.row d).set.openCh = some ch)) ↔ _
  simp only [Bool.not_eq_true', decide_eq_false_iff_not]
  constructor
  · rintro ⟨ch, ⟨rfl, k, rfl, both⟩ | ⟨rfl, k, rfl, both⟩⟩
    · exact ⟨_, State.mem_namings.mpr (.inl ⟨k, rfl⟩), rfl, (nodup_two _ _).mpr ⟨ch, both⟩⟩
    · exact ⟨_, State.mem_namings.mpr (.inr (.inl ⟨k, rfl⟩)), rfl, (nodup_two _ _).mpr ⟨ch, both⟩⟩
  · rintro ⟨m, mem, at_, twice⟩
    rcases State.mem_namings.mp mem with ⟨k, rfl⟩ | ⟨k, rfl⟩ | ⟨k, rfl⟩ <;> obtain ⟨rfl, rfl⟩ := Prod.mk.inj at_
    · obtain ⟨ch, both⟩ := (nodup_two _ _).mp twice
      exact ⟨ch, .inl ⟨rfl, k, rfl, both⟩⟩
    · obtain ⟨ch, both⟩ := (nodup_two _ _).mp twice
      exact ⟨ch, .inr ⟨rfl, k, rfl, both⟩⟩
    · refine absurd ?_ twice
      cases (s.call.zones.row k).lamp <;> simp

/-- A record of `l` before `m` names a channel of `m`. -/
def sharesBefore (l : List Naming) (m : Naming) : Prop :=
  ∃ n ∈ l, n.found.before m.found ∧ ∃ ch ∈ m.channels, ch ∈ n.channels

theorem Finding.before.asymm {f g : Finding} (h : f.before g) : ¬ g.before f := by
  rintro (less | ⟨same, less⟩) <;> rcases h with less' | ⟨same', less'⟩
  · omega
  · rw [same'] at less; omega
  · rw [same] at less'; omega
  · omega

/-- The second record to name a channel is the first that shares one with a record before it. -/
theorem secondNaming_eq {l pre post : List Naming} {p : Naming → Bool} (sorted : l.Pairwise fun a b => a.found.before b.found)
    (is : l = pre ++ post) (shows_ : ∀ m, p m = true ↔ sharesBefore l m) :
    secondNaming (pre.flatMap Naming.channels) post = (post.find? p).map Naming.found := by
  induction post generalizing pre with
  | nil => rfl
  | cons m post ih =>
    have hit : (m.channels.any fun ch => (pre.flatMap Naming.channels).contains ch) = p m := by
      rw [Bool.eq_iff_iff, shows_, List.any_eq_true]
      simp only [List.contains_iff_mem, List.mem_flatMap]
      rw [is] at sorted ⊢
      obtain ⟨-, later, before⟩ := List.pairwise_append.mp sorted
      constructor
      · rintro ⟨ch, mem, n, early, names⟩
        exact ⟨n, List.mem_append_left _ early, before n early m List.mem_cons_self, ch, mem, names⟩
      · rintro ⟨n, mem_n, less, ch, mem, names⟩
        rcases List.mem_append.mp mem_n with early | late
        · exact ⟨ch, mem, n, early, names⟩
        · rcases List.mem_cons.mp late with rfl | late
          · exact absurd less less.asymm
          · exact absurd less ((List.pairwise_cons.mp later).1 n late).asymm
    rw [secondNaming, hit, List.find?_cons]
    cases p m with
    | true => rfl
    | false =>
      have := ih (pre := pre ++ [m]) (by rw [is, List.append_assoc]; rfl)
      rwa [List.flatMap_append, List.flatMap_singleton] at this

theorem State.second_seeks (s : State) : Seeks (secondNaming [] s.namings) (s.inconsistent 1 2) := by
  classical
  have is := secondNaming_eq (p := fun m => decide (sharesBefore s.namings m)) s.namings_sorted (pre := []) (post := s.namings) rfl fun m =>
    decide_eq_true_iff
  rw [List.flatMap_nil] at is
  rw [is]
  refine find_seeks s.namings_sorted fun t i => ?_
  show (∃ ch t' i', s.namesChannel t i ch ∧ s.namesChannel t' i' ch ∧ (t'.id < t.id ∨ (t' = t ∧ i' < i))) ↔ _
  simp only [decide_eq_true_iff]
  constructor
  · rintro ⟨ch, t', i', names, names', before⟩
    obtain ⟨m, mem, at_, names⟩ := State.namesChannel_iff.mp names
    obtain ⟨m', mem', at', names'⟩ := State.namesChannel_iff.mp names'
    refine ⟨m, mem, at_, m', mem', ?_, ch, names, names'⟩
    rw [at_, at']
    exact before.imp id fun ⟨same, less⟩ => ⟨same.symm, less⟩
  · rintro ⟨m, mem, at_, m', mem', before, ch, names, names'⟩
    rw [at_] at before
    exact ⟨ch, m'.found.1, m'.found.2, State.namesChannel_iff.mpr ⟨m, mem, at_, names⟩,
      State.namesChannel_iff.mpr ⟨m', mem', rfl, names'⟩, before.imp id fun ⟨same, less⟩ => ⟨same.symm, less⟩⟩

theorem State.ownerNames_iff : s.ownerNames ch = false ↔ (s.chans.row ch).set.owner ≠ .free
    ∧ ∀ t i, s.ownedBy ch t i → ¬ s.namesChannel t i ch := by
  have any (o : Owner) (owner : (s.chans.row ch).set.owner = o) :
      (s.namings.any fun m => m.owner == o && m.channels.contains ch) = false ↔
        ∀ t i, s.ownedBy ch t i → ¬ s.namesChannel t i ch := by
    rw [List.any_eq_false]
    simp only [Bool.and_eq_true, beq_iff_eq, List.contains_iff_mem, not_and]
    constructor
    · intro none_ t i owned names
      obtain ⟨m, mem, at_, names⟩ := State.namesChannel_iff.mp names
      exact none_ m mem (((State.ownedBy_iff mem at_).mp owned).symm.trans owner) names
    · intro none_ m mem is names
      exact none_ m.found.1 m.found.2 ((State.ownedBy_iff mem rfl).mpr (owner.trans is.symm))
        (State.namesChannel_iff.mpr ⟨m, mem, rfl, names⟩)
  unfold State.ownerNames
  cases owner : (s.chans.row ch).set.owner with
  | free => simp
  | _ => exact (any _ owner).trans (and_iff_right (nomatch ·)).symm

/-- OWNERSHIP VALIDATION is pass 1. -/
theorem State.ownership_passes (s : State) : s.Passes 1 s.ownership := by
  refine State.passes_of_rows (fun row f at_ => ?_) fun row t i beyond => ?_
  · match row with
    | 0 => obtain rfl := Option.some.inj at_; exact s.unowned_seeks
    | 1 => obtain rfl := Option.some.inj at_; exact s.twice_seeks
    | 2 => obtain rfl := Option.some.inj at_; exact s.second_seeks
    | 3 =>
      obtain rfl := Option.some.inj at_
      refine firstIn_seeks .channels fun t i => and_congr_right fun _ => exists_congr fun ch => and_congr_right fun _ => ?_
      rw [Bool.not_eq_true', State.ownerNames_iff]
    | _ + 4 => cases at_
  · match row with
    | _ + 4 => exact id

end Sys2Proof.Machine
end

section
/-! PROOFS. Passes 2 to 4 of the validation, and its whole (R112, R136, R157, R179). -/

namespace Sys2Proof.Machine
variable {s : State} {ch : Fin 16} {e o : Fin 16} {t : TableId} {i : Nat} {r : Fin 4} {k : Fin 64} {p : Fin 8}

/-! ## Pass 2: timer use by owners (R112) -/

theorem State.joins_iff_odd : s.joins e ch ↔ isOdd ch = true ∧ (s.chans.row (evenOf ch)).set.joined = true ∧ e = evenOf ch := by
  unfold State.joins isOdd evenOf
  rw [beq_iff_eq]
  constructor
  · rintro ⟨even, next, joined⟩
    have same : e = ⟨ch.val - ch.val % 2, by omega⟩ := Fin.ext (by simp only; omega)
    exact ⟨by omega, same ▸ joined, same⟩
  · rintro ⟨odd, joined, rfl⟩
    exact ⟨by simp only; omega, by simp only; omega, joined⟩

theorem State.joins_iff_head : (s.joins e ch ∨ (e = ch ∧ ∀ a, ¬ s.joins a ch)) ↔ e = head s.chans ch := by
  simp only [State.joins_iff_odd]
  unfold head
  split
  · rename_i both
    obtain ⟨odd, joined⟩ := Bool.and_eq_true_iff.mp both
    exact ⟨fun is => is.elim (fun is => is.2.2) fun is => absurd ⟨odd, joined, rfl⟩ (is.2 _), fun is => .inl ⟨odd, joined, is⟩⟩
  · rename_i not
    have none_ (a : Fin 16) : ¬ (isOdd ch = true ∧ (s.chans.row (evenOf ch)).set.joined = true ∧ a = evenOf ch) :=
      fun is => not (Bool.and_eq_true_iff.mpr ⟨is.1, is.2.1⟩)
    exact ⟨fun is => is.elim (fun is => absurd is (none_ e)) And.left, fun is => .inr ⟨is, none_⟩⟩

theorem State.actsTimed_iff : s.actsTimed ch ↔ actingMode s.chans ch ≠ .steady := by
  unfold State.actsTimed actingMode
  simp only [State.joins_iff_head]
  exact ⟨fun ⟨_, timed, is⟩ => is ▸ timed, fun timed => ⟨_, timed, rfl⟩⟩

/-- A channel stands in a joined pair. -/
theorem State.joined_iff : (∃ e o, s.joins e o ∧ (ch = e ∨ ch = o)) ↔ paired s.chans ch = true ∨ head s.chans ch ≠ ch := by
  constructor
  · rintro ⟨e, o, joins, rfl | rfl⟩
    · obtain ⟨even, -, joined⟩ := joins
      exact .inl (paired_iff.mpr ⟨by simpa [isOdd] using even, joined⟩)
    · refine .inr fun same => ?_
      have := State.joins_iff_head.mp (.inl joins)
      obtain ⟨-, next, -⟩ := joins
      rw [this, same] at next
      omega
  · rintro (is | ne)
    · obtain ⟨even, joined⟩ := paired_iff.mp is
      have even : ch.val % 2 = 0 := by simpa [isOdd] using even
      exact ⟨ch, ⟨ch.val + 1, by omega⟩, ⟨even, rfl, joined⟩, .inl rfl⟩
    · exact ⟨_, ch, (State.joins_iff_head.mpr rfl).resolve_right fun is => ne is.1, .inr rfl⟩

theorem State.rampTimer_iff : rampTimer s.chans ch = false ↔ (s.chans.row ch).set.mode ≠ .pwm
    ∨ (s.chans.row ch).set.sync ≠ .free ∨ ∃ e o, s.joins e o ∧ (ch = e ∨ ch = o) := by
  rw [State.joined_iff]
  unfold rampTimer
  simp only [Bool.and_eq_false_iff, beq_eq_false_iff_ne, Bool.not_eq_false', ne_eq, or_assoc]

/-- TIMER USE BY OWNERS is pass 2. -/
theorem State.timerUse_passes (s : State) : s.Passes 2 s.timerUse := by
  refine State.passes_of_rows (fun row f at_ => ?_) fun row t i beyond => ?_
  · match row with
    | 0 =>
      obtain rfl := Option.some.inj at_
      refine firstIn_seeks .channels fun t i => and_congr_right fun _ => exists_congr fun ch => and_congr_right fun _ => ?_
      rw [← State.rampTimer_iff]
      cases owner : (s.chans.row ch).set.owner <;> simp
    | 1 =>
      obtain rfl := Option.some.inj at_
      refine firstIn_seeks .channels fun t i => and_congr_right fun _ => exists_congr fun ch => and_congr_right fun _ => ?_
      rw [State.actsTimed_iff]
      cases owner : (s.chans.row ch).set.owner <;> simp
    | 2 =>
      obtain rfl := Option.some.inj at_
      refine firstIn_seeks .channels fun t i => and_congr_right fun _ => exists_congr fun ch => and_congr_right fun _ => ?_
      rw [State.actsTimed_iff]
      cases owner : (s.chans.row ch).set.owner <;> simp
    | _ + 3 => cases at_
  · match row with
    | _ + 3 => exact id

/-! ## Pass 3: ramps, plans and lane agreement (R136) -/

theorem State.mem_stagesOf : k ∈ s.stagesOf p ↔ s.inPlan p k := by
  simp [State.stagesOf, State.inPlan]

theorem Stage.isDrive_iff {st : Stage} : st.isDrive = true ↔ ∃ d, st.kind = .drive d := by
  unfold Stage.isDrive
  cases st.kind <;> simp

theorem State.mem_drivesOf : k ∈ s.drivesOf r ↔ s.drivesFor r k := by
  simp only [State.drivesOf, State.plansOf, List.mem_flatMap, List.mem_filter, List.mem_finRange, true_and, beq_iff_eq,
    State.mem_stagesOf, Stage.isDrive_iff, State.drivesFor]
  exact exists_congr fun p => ⟨fun ⟨of, in_, d, kind⟩ => ⟨d, of, in_, kind⟩, fun ⟨d, of, in_, kind⟩ => ⟨of, in_, d, kind⟩⟩

theorem roleMissing_iff {x : Ramp} {role : Role} : roleMissing x role = true ↔ x.lacks role := by
  unfold roleMissing Ramp.lacks Ramp.roleChannel
  cases role <;> simp

theorem setMissing_iff {x : Ramp} {st : Stage} : setMissing x st = true ↔
    ∃ r1 on1 r2 on2, st.kind = .set r1 on1 r2 on2 ∧ (x.lacks r1 ∨ x.lacks r2) := by
  unfold setMissing
  cases st.kind with
  | set r1 on1 r2 on2 =>
    simp only [Bool.or_eq_true, roleMissing_iff]
    refine ⟨fun is => ⟨r1, on1, r2, on2, rfl, is⟩, ?_⟩
    rintro ⟨_, _, _, _, is, lacks⟩
    injection is with h1 _ h2 _
    rw [h1, h2]
    exact lacks
  | _ => simp

theorem laneOf_iff {c : Fin 64} {n : Fin 8} : laneOf c = some n ↔ c = condLane n := by
  unfold laneOf
  constructor
  · intro found
    have is : (condLane n == c) = true := List.find?_some (p := fun n => condLane n == c) found
    exact (beq_iff_eq.mp is).symm
  · rintro rfl
    cases found : (List.finRange 8).find? fun m => condLane m == condLane n with
    | none => exact absurd (List.find?_eq_none.mp found n (List.mem_finRange n)) (by simp)
    | some m =>
      have is : (condLane m == condLane n) = true := List.find?_some (p := fun m => condLane m == condLane n) found
      rw [condLane_inj (beq_iff_eq.mp is)]

theorem State.gateAgrees_iff {gate : Option (Fin 64)} : s.gateAgrees r gate = true ↔ s.laneAgrees r gate := by
  unfold State.gateAgrees State.laneAgrees
  dsimp only
  by_cases none_ : ∀ k, s.drivesFor r k → (s.stage k).lanes = 0
  · rw [if_pos (List.all_eq_true.mpr fun k mem => beq_iff_eq.mpr (none_ k (State.mem_drivesOf.mp mem))), Option.isNone_iff_eq_none]
    exact ⟨fun is => ⟨fun _ => is, fun ⟨k, drives, some_⟩ => absurd (none_ k drives) some_⟩, fun is => is.1 none_⟩
  · have some_ : ∃ k, s.drivesFor r k ∧ (s.stage k).lanes ≠ 0 := by
      by_contra no
      exact none_ fun k drives => by_contra fun is => no ⟨k, drives, is⟩
    rw [if_neg fun all => none_ fun k drives => beq_iff_eq.mp (List.all_eq_true.mp all k (State.mem_drivesOf.mpr drives))]
    have split : (match gate.bind laneOf with
        | none => false
        | some n => (s.drivesOf r).all fun k => (s.stage k).lanes.getLsbD n.val) = true ↔
        ∃ n, gate = some (condLane n) ∧ ∀ k, s.drivesFor r k → (s.stage k).lanes.getLsbD n.val = true := by
      cases lane : gate.bind laneOf with
      | none =>
        refine iff_of_false (nomatch ·) ?_
        rintro ⟨n, rfl, -⟩
        rw [Option.bind_some, laneOf_iff.mpr rfl] at lane
        cases lane
      | some n =>
        obtain ⟨c, rfl, is⟩ := Option.bind_eq_some_iff.mp lane
        obtain rfl := laneOf_iff.mp is
        rw [List.all_eq_true]
        refine ⟨fun all => ⟨n, rfl, fun k drives => all k (State.mem_drivesOf.mpr drives)⟩, ?_⟩
        rintro ⟨m, same, all⟩ k mem
        rw [condLane_inj (Option.some.inj same)]
        exact all k (State.mem_drivesOf.mp mem)
    exact split.trans ⟨fun is => ⟨fun no => absurd no none_, fun _ => is⟩, fun is => is.2 some_⟩

/-- PLAN VALIDATION is pass 3. -/
theorem State.planAgreement_passes (s : State) : s.Passes 3 s.planAgreement := by
  refine State.passes_of_rows (fun row f at_ => ?_) fun row t i beyond => ?_
  · match row with
    | 0 =>
      obtain rfl := Option.some.inj at_
      refine firstIn_seeks .ramps fun t i => and_congr_right fun _ => exists_congr fun r => and_congr_right fun _ => ?_
      rw [Bool.and_eq_true, Bool.not_eq_true', Bool.or_eq_true, Bool.or_eq_true, or_assoc, List.isEmpty_eq_false_iff_exists_mem]
      simp only [State.mem_drivesOf, Option.isNone_iff_eq_none]
    | 1 =>
      obtain rfl := Option.some.inj at_
      refine firstIn_seeks .stages fun t i => and_congr_right fun _ => exists_congr fun k => and_congr_right fun _ => ?_
      simp only [List.any_eq_true, List.mem_finRange, true_and, Bool.and_eq_true, List.contains_iff_mem, State.mem_stagesOf,
        setMissing_iff]
      refine exists_congr fun p => ⟨?_, ?_⟩
      · rintro ⟨r1, on1, r2, on2, in_, kind, lacks⟩
        exact ⟨in_, r1, on1, r2, on2, kind, lacks⟩
      · rintro ⟨in_, r1, on1, r2, on2, kind, lacks⟩
        exact ⟨r1, on1, r2, on2, in_, kind, lacks⟩
    | 2 =>
      obtain rfl := Option.some.inj at_
      refine firstIn_seeks .channels fun t i => and_congr_right fun _ => exists_congr fun ch => and_congr_right fun _ => ?_
      simp only [List.any_eq_true, List.mem_finRange, true_and, Bool.and_eq_true, Bool.not_eq_true']
      refine exists_congr fun r => and_congr Ramp.drives_iff.symm ?_
      rw [← State.gateAgrees_iff, Bool.not_eq_true]
    | _ + 3 => cases at_
  · match row with
    | _ + 3 => exact id

/-! ## Pass 4: doors (R157) -/

theorem State.fromThreshold_iff {c : Option (Fin 64)} : s.fromThreshold c = true ↔ ∀ a, c = some a → s.limitSwitch a := by
  cases c with
  | none => simp [State.fromThreshold]
  | some a =>
    unfold State.fromThreshold State.limitSwitch
    dsimp only
    simp only [Option.some.injEq, forall_eq']
    cases (s.board.conds.row a).source <;> simp

/-- DOOR VALIDATION is pass 4. -/
theorem State.doorAgreement_passes (s : State) : s.Passes 4 s.doorAgreement := by
  refine State.passes_of_rows (fun row f at_ => ?_) fun row t i beyond => ?_
  · match row with
    | 0 =>
      obtain rfl := Option.some.inj at_
      refine firstIn_seeks .doors fun t i => and_congr_right fun _ => exists_congr fun d => and_congr_right fun _ => ?_
      simp [Option.isSome_iff_ne_none]
    | 1 =>
      obtain rfl := Option.some.inj at_
      refine firstIn_seeks .doors fun t i => and_congr_right fun _ => exists_congr fun d => and_congr_right fun _ => ?_
      rw [Bool.and_eq_true, Option.isSome_iff_ne_none, Bool.not_eq_true', ← Bool.not_eq_true, Bool.and_eq_true,
        State.fromThreshold_iff, State.fromThreshold_iff]
      refine and_congr_right fun _ => ?_
      simp only [not_and_or, not_forall, exists_prop]
      exact ⟨fun ⟨c, names, not⟩ => names.imp (fun is => ⟨c, is, not⟩) fun is => ⟨c, is, not⟩,
        fun is => is.elim (fun ⟨c, is, not⟩ => ⟨c, .inl is, not⟩) fun ⟨c, is, not⟩ => ⟨c, .inr is, not⟩⟩
    | 2 =>
      obtain rfl := Option.some.inj at_
      refine firstIn_seeks .doors fun t i => and_congr_right fun _ => exists_congr fun d => and_congr_right fun _ => ?_
      simp [Option.isSome_iff_ne_none, or_assoc]
    | _ + 3 => cases at_
  · match row with
    | _ + 3 => exact id

/-! ## The validation (R179) -/

/-- The passes up to `n` find nothing. -/
def State.cleanTo (s : State) (n : Nat) : Prop := ∀ pass, pass ≤ n → s.passClean pass

theorem State.passClean_of_other {pass : Nat} (other : pass = 0 ∨ 4 < pass) : s.passClean pass := fun row t i is => by
  unfold State.inconsistent at is
  split at is <;> omega

theorem State.firstOf_passes {fs : List (Option Finding)} (passes : ∀ p f, fs[p]? = some f → s.Passes (p + 1) f) :
    (firstOf fs = none ↔ s.cleanTo fs.length)
    ∧ ∀ t i, firstOf fs = some (t, i) ↔ ∃ pass, pass < fs.length ∧ s.cleanTo pass ∧ s.passReports (pass + 1) t i := by
  have at_ (p : Nat) (below : p < fs.length) : s.Passes (p + 1) fs[p] := passes p _ (List.getElem?_eq_getElem below)
  have clean_to (n : Nat) (le : n ≤ fs.length) (none_ : ∀ p (below : p < fs.length), p < n → fs[p] = none) : s.cleanTo n := by
    intro pass below
    match pass with
    | 0 => exact State.passClean_of_other (.inl rfl)
    | p + 1 => exact (at_ p (by omega)).clean (none_ p (by omega) (by omega))
  constructor
  · rw [firstOf, List.findSome?_eq_none_iff]
    constructor
    · exact fun none_ => clean_to _ le_rfl fun p below _ => none_ _ (List.getElem_mem below)
    · intro clean f mem
      obtain ⟨p, below, rfl⟩ := List.getElem_of_mem mem
      exact (at_ p below).of_clean (clean (p + 1) below)
  · intro t i
    constructor
    · intro found
      obtain ⟨pre, f, post, rfl, is, no⟩ := List.findSome?_eq_some_iff.mp found
      have reports := (passes pre.length f (by simp)).reports t i is
      refine ⟨pre.length, by simp, clean_to _ (by simp) fun p below less => ?_, reports⟩
      rw [List.getElem_append_left less]
      exact no _ (List.getElem_mem less)
    · rintro ⟨pass, below, clean, reports⟩
      refine List.findSome?_eq_some_iff.mpr ⟨fs.take pass, fs[pass], fs.drop (pass + 1), by simp,
        (at_ pass below).of_reports reports, fun f mem => ?_⟩
      obtain ⟨p, less, rfl⟩ := List.getElem_of_mem mem
      rw [List.length_take] at less
      rw [List.getElem_take]
      exact (at_ p (by omega)).of_clean (clean (p + 1) (by omega))

/-- The validation finds nothing where the four passes are clean, and what the first other pass reports. -/
theorem State.validate_reads (s : State) : (s.validate = none ↔ s.cleanTo 4)
    ∧ ∀ t i, s.validate = some (t, i) ↔ ∃ pass, s.cleanTo pass ∧ s.passReports (pass + 1) t i := by
  have whole := State.firstOf_passes (s := s) (fs := [s.ownership, s.timerUse, s.planAgreement, s.doorAgreement])
    fun p f at_ => by
      match p with
      | 0 => obtain rfl := Option.some.inj at_; exact s.ownership_passes
      | 1 => obtain rfl := Option.some.inj at_; exact s.timerUse_passes
      | 2 => obtain rfl := Option.some.inj at_; exact s.planAgreement_passes
      | 3 => obtain rfl := Option.some.inj at_; exact s.doorAgreement_passes
      | _ + 4 => cases at_
  refine ⟨whole.1, fun t i => (whole.2 t i).trans (exists_congr fun pass => and_iff_right_of_imp fun is => ?_)⟩
  by_contra beyond
  exact is.2.not_clean (State.passClean_of_other (.inr (by simp at beyond; omega)))

end Sys2Proof.Machine
end

section
/-! PROOFS. The passages between SETUP and SERVICE (R83, R156, R174, R178). -/

namespace Sys2Proof.Machine
variable {s t u v : State} {d : Fin 24} {g : Fin 8} {ch : Fin 16}

/-! ## The passage to SERVICE (R156, R178) -/

/-- The part in SERVICE, before DOOR reads its triggers. -/
def State.served (s : State) : State := (s.setReq { s.req with mode := .service }).setCond condService true

theorem State.toService_eq (s : State) : s.toService = doorEvent (State.readTriggers fun _ => true) s.served := rfl

theorem State.served_cond {c : Fin 64} (other : c ≠ condService) : s.served.cond c = s.cond c := by
  unfold State.served
  rw [State.cond_setCond, if_neg other.symm]
  rfl

theorem State.served_condService : s.served.cond condService = true := State.setCond_cond_self _ _ _

theorem State.served_source (c : Fin 64) : (s.served.board.conds.row c).source = (s.board.conds.row c).source := by
  unfold State.served
  rw [State.setCond_source]
  rfl

theorem State.served_frame (s : State) : s.served = { s with
    board := { s.board with conds := s.served.board.conds }
    req := { s.req with mode := .service }
    handed := s.served.handed } := by
  refine (State.setCond_condsMove _ _ _).frame.trans ?_
  rfl

theorem State.served_safe (safe : s.sourcesSafe) : s.served.sourcesSafe := fun c low =>
  (State.served_source c).trans (safe c low)

/-- What the passage to SERVICE leaves alone, and IN_SERVICE. -/
theorem State.toService_keeps (s : State) :
    s.toService.req = { s.req with mode := .service, marks := s.toService.req.marks }
    ∧ s.toService.scan = s.scan ∧ s.toService.table = s.table ∧ s.toService.line.sides = s.line.sides
    ∧ (s.sourcesSafe → s.toService.cond condService = true) := by
  have moves := (s.served.readTriggers_moves fun _ => true).1
  have frame := s.served_frame
  rw [State.toService_eq, doorEvent_eq]
  generalize s.served.readTriggers (fun _ => true) = t at moves
  have tframe := moves.frame
  refine ⟨?_, ?_, ?_, ?_, fun safe => ?_⟩
  · show t.req = { s.req with mode := .service, marks := t.req.marks }
    rw [tframe, frame]
  · show t.scan = s.scan
    rw [tframe, frame]
  · show t.table = s.table
    rw [tframe, frame]
  · show t.line.sides = s.line.sides
    rw [tframe, frame]
  · refine (moves.cond ?_).trans State.served_condService
    have fixed : (s.served.board.conds.row condService).source = .fixed := State.served_safe safe condService (by decide)
    rintro (⟨low, -⟩ | ⟨g, is | is⟩)
    · exact absurd low (by decide)
    · rw [fixed] at is; cases is
    · rw [fixed] at is; cases is

theorem doorEvent_of_fixed {f : State → State} (h : f s = s) : doorEvent f s = s := by
  rw [doorEvent_of_same (by rw [h]) (by rw [h]), h]

/-- Triggers that hear nothing are read without effect. -/
theorem State.readTriggers_of_deaf (deaf : ∀ g, ¬ s.hears g) (chosen : Group → Bool) : s.readTriggers chosen = s := by
  refine List.foldl_fixed' (fun g => ?_) _
  rw [State.readTrigger_of_deaf (deaf g), ite_self]

/-- Where no group has a trigger term, the passage to SERVICE moves the mode and IN_SERVICE. -/
theorem State.toService_untriggered (none_ : ∀ g, (s.door.groups.row g).trigger = none) : s.toService = s.served := by
  have door : s.served.door = s.door := by rw [s.served_frame]
  have deaf (g : Fin 8) : ¬ s.served.hears g := by
    rw [State.hears_iff, door, none_ g]
    rintro ⟨-, tm, is, -⟩
    cases is
  rw [State.toService_eq]
  exact doorEvent_of_fixed (State.readTriggers_of_deaf deaf _)

/-- A term that does not name IN_SERVICE reads through the passage as before. -/
theorem State.served_term {tm : Fin 32} (apart : ¬ s.names tm condService) : s.served.term tm = s.term tm := by
  have terms : s.served.board.terms = s.board.terms := by rw [s.served_frame]
  have same (l : Fin 64 × Bool) (mem : l ∈ (s.board.terms.row tm).literals) : s.served.cond l.1 = s.cond l.1 :=
    State.served_cond fun is => apart ⟨l.2, is ▸ mem⟩
  unfold State.term
  rw [terms, Bool.eq_iff_iff, List.all_eq_true, List.all_eq_true]
  exact ⟨fun all l mem => by rw [← same l mem]; exact all l mem, fun all l mem => by rw [same l mem]; exact all l mem⟩

/-- The doors of the groups whose trigger reads TRUE are close-requested at the passage to SERVICE (R147, R156). -/
theorem State.toService_asks (safe : s.sourcesSafe)
    (steady : ∀ g tm, (s.door.groups.row g).trigger = some tm → s.steady tm ∧ ¬ s.names tm condService) (d : Fin 24) :
    let called := (∃ g tm, (s.door.doors.row d).set.group = some g
        ∧ (s.door.groups.row g).trigger = some tm ∧ s.term tm = true)
      ∧ ((s.door.doors.row d).state = .opened ∨ (s.door.doors.row d).state = .opening)
    (¬ called → s.toService.door.doors.row d = s.door.doors.row d)
    ∧ (called → s.closes (s.door.doors.row d) (s.toService.door.doors.row d)) := by
  have door : s.served.door = s.door := by rw [s.served_frame]
  have terms : s.served.board.terms = s.board.terms := by rw [s.served_frame]
  have mode : s.served.req.mode = .service := by rw [s.served_frame]
  have clock : s.served.clock = s.clock := by rw [s.served_frame]
  have steady' : ∀ g tm, (s.served.door.groups.row g).trigger = some tm → s.served.steady tm := fun g tm trigger => by
    unfold State.steady
    simp only [terms, State.served_source]
    exact (steady g tm (by rw [← door]; exact trigger)).1
  have walked := State.readTriggers_walked (State.listens_of_steady (State.served_safe safe) steady') fun _ => true
  have row := walked.closes (State.served_safe safe) d
  rw [State.toService_eq, doorEvent_door]
  generalize s.served.readTriggers (fun _ => true) = t at row
  have called_iff : ((∃ g, ((true = true) ∧ s.served.hears g) ∧ s.served.ofGroup g d)
      ∧ (s.served.door.doors.row d).begins false) ↔ (∃ g tm, (s.door.doors.row d).set.group = some g
        ∧ (s.door.groups.row g).trigger = some tm ∧ s.term tm = true)
      ∧ ((s.door.doors.row d).state = .opened ∨ (s.door.doors.row d).state = .opening) := by
    rw [Door.begins_false, door]
    refine and_congr_left fun _ => exists_congr fun g => ?_
    unfold State.ofGroup
    rw [State.hears_iff, door]
    constructor
    · rintro ⟨⟨-, -, tm, trigger, reads⟩, of⟩
      exact ⟨tm, of, trigger, (State.served_term (steady g tm trigger).2).symm.trans reads⟩
    · rintro ⟨tm, of, trigger, reads⟩
      exact ⟨⟨rfl, mode, tm, trigger, (State.served_term (steady g tm trigger).2).trans reads⟩, of⟩
  rw [called_iff, door] at row
  refine ⟨row.1, fun is => ?_⟩
  obtain ⟨waits, passes⟩ := row.2 is
  refine ⟨fun some_ => by rw [waits some_, clock], fun c k zero closed src => ?_⟩
  have := passes c k zero closed ((State.served_source c).trans src)
  rwa [State.served_cond] at this
  rintro rfl
  rw [safe condService (by decide)] at src
  cases src

/-! ## The passage to SETUP (R83, R174, R178) -/

/-- The owned channels of `done` have their level OFF, and the free channels stand. -/
structure Chans.Dropped (o cs : Chans) (done : Fin 16 → Prop) : Prop where
  owner : ∀ ch, (cs.row ch).set.owner = (o.row ch).set.owner
  free : ∀ ch, (o.row ch).set.owner = .free → cs.row ch = o.row ch
  off : ∀ ch, done ch → (o.row ch).set.owner ≠ .free → (cs.row ch).requested = false

theorem Chans.Dropped.setLevel {o : Chans} {done : Fin 16 → Prop} (h : o.Dropped s.chans done)
    (owned : (s.chans.row ch).set.owner ≠ .free) :
    o.Dropped (s.setLevel ch false).chans fun c => done c ∨ c = ch where
  owner c := by rw [State.setLevel_set]; exact h.owner c
  free c free := by
    have ne : ch ≠ c := fun is => owned (by rw [is]; exact (h.owner c).trans free)
    rw [State.setLevel_chan_ne _ _ ne]
    exact h.free c free
  off c in_ owned' := by
    by_cases same : c = ch
    · rw [same]
      exact State.setLevel_requested _ _ _
    · rw [State.setLevel_chan_ne _ _ (Ne.symm same)]
      exact h.off c (in_.resolve_right same) owned'

theorem Chans.Dropped.mono {o cs : Chans} {done done' : Fin 16 → Prop} (h : o.Dropped cs done)
    (le : ∀ ch, done' ch → (o.row ch).set.owner ≠ .free → done ch) : o.Dropped cs done' :=
  ⟨h.owner, h.free, fun ch in_ owned => h.off ch (le ch in_ owned) owned⟩

theorem State.dropOwned_dropped (s : State) : Chans.Dropped s.chans s.dropOwned.chans fun _ => True := by
  have fold (l : List (Fin 16)) (t : State) (done : Fin 16 → Prop) (h : Chans.Dropped s.chans t.chans done) :
      Chans.Dropped s.chans (l.foldl State.dropOne t).chans fun ch => done ch ∨ ch ∈ l := by
    induction l generalizing t done with
    | nil => exact h.mono fun ch in_ _ => in_.resolve_right (List.not_mem_nil)
    | cons a l ih =>
      have next : Chans.Dropped s.chans (t.dropOne a).chans fun c => done c ∨ c = a := by
        unfold State.dropOne
        split
        · rename_i free
          exact h.mono fun c in_ owned => in_.resolve_right fun is => owned ((h.owner c).symm.trans (is ▸ free))
        · exact h.setLevel ‹_›
      refine (ih _ _ next).mono fun c in_ _ => ?_
      rw [List.mem_cons, ← or_assoc] at in_
      exact in_
  rw [State.dropOwned_eq]
  exact (fold _ s (fun _ => False) ⟨fun _ => rfl, fun _ _ => rfl, fun _ is => is.elim⟩).mono
    fun ch _ _ => .inr (List.mem_finRange ch)

theorem State.dropOwned_frame (s : State) : s.dropOwned = s.setChans s.dropOwned.chans := by
  rw [State.dropOwned_eq]
  refine foldl_holds (fun t => t = s.setChans t.chans) State.dropOne (fun t ch h => ?_) _ s rfl
  unfold State.dropOne
  split
  · exact h
  · exact State.setChans_trans h (t.setLevel_frame ch false)

theorem Chans.Dropped.setLamp {o : Chans} {z : Fin 16} (h : o.Dropped s.chans fun _ => True)
    (free : (s.call.zones.row z).holder = none) : o.Dropped (s.setLamp z).chans fun _ => True := by
  unfold State.setLamp
  dsimp only
  rw [free]
  cases (s.call.zones.row z).lamp with
  | none => exact h
  | some lamp =>
    show o.Dropped (if _ then _ else _ : State).chans _
    split
    · rename_i is
      exact (h.setLevel (by rw [is.1]; exact (nomatch ·))).mono fun _ _ _ => .inl trivial
    · exact h

theorem State.setLamps_dropped {o : Chans} (h : o.Dropped s.chans fun _ => True)
    (free : ∀ z, (s.call.zones.row z).holder = none) : o.Dropped s.setLamps.chans fun _ => True := by
  refine (foldl_holds (fun t : State => t = s.setChans t.chans ∧ o.Dropped t.chans fun _ => True) State.setLamp
    (fun t z ht => ⟨State.setChans_trans ht.1 (t.setLamp_frame z), ht.2.setLamp (by rw [ht.1]; exact free z)⟩)
    (List.finRange 16) s ⟨rfl, h⟩).2

/-- What the passage to SETUP leaves. -/
structure State.SetsUp (s t : State) : Prop where
  req : t.req = { s.req with mode := .setup }
  service : t.cond condService = false
  conds : ∀ c, c ≠ condService → t.board.conds.row c = s.board.conds.row c
  chans : Chans.Dropped s.chans t.chans fun _ => True
  slots : ∀ k, t.call.slots.row k = none
  zones : ∀ z, t.call.zones.row z = { s.call.zones.row z with holder := none }
  call : t.call = { s.call with slots := t.call.slots, zones := t.call.zones }
  plan : t.plan = s.plan
  door : t.door = s.door
  scan : t.scan = s.scan
  table : t.table = s.table
  line : (∀ k x, s.call.slots.row k = some x → x.state ≠ .speaking) → t.line = s.line

theorem State.toSetup_sets (s : State) : s.SetsUp s.toSetup := by
  have moved := (s.setReq { s.req with mode := .setup }).setCond_condsMove condService false
  have service := (s.setReq { s.req with mode := .setup }).setCond_cond_self condService false
  have conds (c : Fin 64) (ne : c ≠ condService) := State.setCond_record_ne (s := s.setReq { s.req with mode := .setup }) false ne.symm
  unfold State.toSetup
  dsimp only
  generalize (s.setReq { s.req with mode := .setup }).setCond condService false = w at moved service conds
  have dropped := w.dropOwned_dropped
  have frame := w.dropOwned_frame
  generalize w.dropOwned = v at dropped frame
  have ends := v.endAllCalls_ends
  generalize v.endAllCalls = t at ends
  have wframe := moved.frame
  have chans : w.chans = s.chans := by rw [wframe]; rfl
  have call : v.call = s.call := by rw [frame, wframe]; rfl
  have board : t.board = w.board := by rw [ends.frame, frame]; rfl
  obtain ⟨u, uchans, ucall, is⟩ := ends.lamps
  have tframe := ends.frame
  refine ⟨?_, ?_, fun c ne => ?_, ?_, ends.slots, fun z => ?_, ?_, ?_, ?_, ?_, ?_, fun silent => ?_⟩
  · rw [tframe, frame, wframe]; rfl
  · rw [← service]
    unfold State.cond
    rw [board]
  · rw [board]
    exact conds c ne
  · rw [is, ← chans]
    exact State.setLamps_dropped (by rw [uchans]; exact dropped) fun z => by rw [ucall, ends.zones]
  · rw [ends.zones, call]
  · rw [← call]
    exact ends.call
  · rw [tframe, frame, wframe]; rfl
  · rw [tframe, frame, wframe]; rfl
  · rw [tframe, frame, wframe]; rfl
  · rw [tframe, frame, wframe]; rfl
  · have none_ : v.call.speakersIn (List.finRange 16) = [] := by
      refine List.eq_nil_iff_forall_not_mem.mpr fun k mem => ?_
      obtain ⟨-, x, slot, speaking⟩ := Call.mem_speakersIn.mp mem
      exact silent k x (by rw [← call]; exact slot) speaking
    rw [ends.frames, none_]
    show v.line = s.line
    rw [frame, wframe]
    rfl

/-! ## MODE_SET (R178, R179) -/

theorem State.inMotion_iff : s.inMotion = true ↔ (∃ r, (s.ramp r).state ≠ .idle)
    ∨ ∃ d, (s.door.doors.row d).state = .warning ∨ (s.door.doors.row d).state = .closing
      ∨ (s.door.doors.row d).state = .backoff ∨ (s.door.doors.row d).state = .opening := by
  have moving (x : DoorState) : x.moving = true ↔ x = .warning ∨ x = .closing ∨ x = .backoff ∨ x = .opening := by
    cases x <;> simp [DoorState.moving]
  simp [State.inMotion, moving]

theorem exec_modeSet (rq : Requester) (b : Byte) (running : s.inReset = false) (addressed : s.addressed = true) :
    exec (.modeSet rq b) s = .next ((s.take (.modeSet rq b)).modeSet rq b) :=
  event_of_request s running addressed

theorem State.modeSet_of_bad {rq : Requester} {b : Byte} (not_setup : b ≠ 0) (not_service : b ≠ 1) :
    s.modeSet rq b = s.reply rq 0x17 .badValue [] := by
  unfold State.modeSet
  rw [if_neg not_setup, if_neg not_service]

theorem State.modeSet_of_held {rq : Requester} {b : Byte} (held : b = 0 ∧ s.req.mode = .setup ∨ b = 1 ∧ s.req.mode = .service) :
    s.modeSet rq b = s.reply rq 0x17 .done [] := by
  unfold State.modeSet
  rcases held with ⟨rfl, mode⟩ | ⟨rfl, mode⟩
  · rw [if_pos rfl, mode]
  · rw [if_neg (by decide), if_pos rfl, mode]

theorem State.modeSet_of_found {rq : Requester} {f : Finding} (mode : s.req.mode = .setup) (found : s.validate = some f) :
    s.modeSet rq 1 = s.reply rq 0x17 .badTable [u8 f.1.id, u8 f.2] := by
  unfold State.modeSet
  rw [if_neg (by decide), if_pos rfl, mode, found]

theorem State.modeSet_of_clean {rq : Requester} (mode : s.req.mode = .setup) (clean : s.validate = none) :
    s.modeSet rq 1 = s.toService.reply rq 0x17 .done [] := by
  unfold State.modeSet
  rw [if_neg (by decide), if_pos rfl, mode, clean]

theorem State.modeSet_setup {rq : Requester} (mode : s.req.mode = .service) : s.modeSet rq 0 =
    if s.inMotion then s.reply rq 0x17 .busy [] else s.toSetup.reply rq 0x17 .done [] := by
  unfold State.modeSet
  rw [if_pos rfl, mode]

/-- Settles O55, by the mode named and the mode held: the validation by its passes, then each passage. -/
theorem modeSetActsByTheModeHeld : Obligations.ModeSetActsByTheModeHeld := by
  rintro s rq b ⟨running, addressed⟩
  dsimp only
  rw [exec_modeSet rq b running addressed]
  refine ⟨fun not_setup not_service => congrArg _ (State.modeSet_of_bad not_setup not_service),
    fun held => congrArg _ (State.modeSet_of_held (s := s.take _) held), ?_, ?_⟩
  · rintro rfl mode
    obtain ⟨none_, found⟩ := s.validate_reads
    refine ⟨fun pass t k clean reports => ?_, ?_, fun clean => ?_⟩
    · rw [State.modeSet_of_found (s := s.take _) mode ((found t k).mpr ⟨pass, clean, reports⟩)]
      rfl
    · cases valid : s.validate with
      | none => exact .inl (none_.mp valid)
      | some f => exact .inr ((found f.1 f.2).mp valid |>.elim fun pass is => ⟨pass, f.1, f.2, is⟩)
    · rw [State.modeSet_of_clean (s := s.take _) mode (none_.mpr clean)]
      obtain ⟨req, scan, table, sides, service⟩ := (s.take (.modeSet rq 1)).toService_keeps
      refine ⟨_, rfl, by rw [req], service, by rw [req]; rfl, by rw [req]; rfl, by rw [req]; rfl, scan, table, sides,
        fun untriggered => ?_, fun safe steady d => ?_⟩
      · rw [State.toService_untriggered (s := s.take (.modeSet rq 1)) untriggered, State.served_frame]
        exact ⟨rfl, rfl, rfl, rfl, rfl, rfl⟩
      · obtain ⟨stands, closes⟩ := State.toService_asks (s := s.take (.modeSet rq 1)) safe steady d
        exact ⟨stands, fun called => (closes called).1, fun c k called => (closes called).2 c k⟩
  · rintro rfl mode
    have is := State.modeSet_setup (s := s.take (.modeSet rq 0)) (rq := rq) mode
    have moves := State.inMotion_iff (s := s.take (.modeSet rq 0))
    rw [is]
    refine ⟨fun moving => ?_, fun still => ?_⟩
    · rw [if_pos (moves.mpr moving)]
    · rw [if_neg (mt moves.mp still)]
      have sets := (s.take (.modeSet rq 0)).toSetup_sets
      refine ⟨_, rfl, sets.req, sets.service, sets.conds, fun ch owned => sets.chans.off ch trivial owned, sets.chans.free,
        sets.slots, sets.zones, ?_, ?_, ?_, ?_, sets.plan, sets.door, sets.scan, sets.table, sets.line⟩
      all_goals rw [sets.call]; rfl

end Sys2Proof.Machine
end

section
/-! PROOFS. TIMER STEP: the timers whose tick is due advance (R99, R111). -/

namespace Sys2Proof.Machine
variable {o cs cs' : Chans} {h m ch : Fin 16} {n : Nat}

theorem mem_members_timer (own : head cs h = h) : m ∈ members cs h ↔ head cs m = h := by
  have := mem_members_head (cs := cs) (ch := h) (m := m)
  rwa [own] at this

theorem head_head (cs : Chans) (ch : Fin 16) : head cs (head cs ch) = head cs ch :=
  head_of_mem (head_mem_members cs _)

/-! ## What a timer can do in a step (R99, R107) -/

/-- A timer has a mode that counts, and a period that is not 0. -/
def Chans.able (o : Chans) (h : Fin 16) : Prop := (o.row h).set.mode ≠ .steady ∧ ∀ m ∈ members o h, (o.row m).set.period ≠ 0

/-- A timer stands HELD under TRIGGER sync. -/
def Chans.isHeld (o : Chans) (h : Fin 16) : Prop := (∃ x, (o.row h).set.sync = .trigger x) ∧ (o.row h).running = false

/-- A timer moves at step `n`: it counts, and its tick is due. -/
def Chans.ticks (o : Chans) (n : Nat) (h : Fin 16) : Prop := o.able h ∧ ¬ o.isHeld h
  ∧ n % (o.row (if paired o h then partner h else h)).set.tick.micros = 0

/-- A count stands at the end of its period. -/
def Chans.atEnd (o : Chans) (m : Fin 16) : Prop := (o.row m).set.period ≤ (o.row m).count + 1

theorem countingHead_able : countingHead o h = true ↔ o.able h ∧ ¬ o.isHeld h := by
  rw [← Bool.not_eq_false, countingHead_iff]
  unfold Chans.able Chans.isHeld
  tauto

theorem able_congr (same : Chans.sameSet o cs) : cs.able h ↔ o.able h := by
  unfold Chans.able
  rw [members_congr same, same h]
  simp only [same _]

/-- The count to which a channel of a timer advances: the high half of a pair waits for the low one (R111). -/
def Chans.advanced (o : Chans) (h m : Fin 16) : Nat :=
  if paired o h = true ∧ m = h ∧ (o.row (partner h)).count + 1 < (o.row (partner h)).set.period then (o.row m).count
  else if (o.row m).set.period ≤ (o.row m).count + 1 then 0 else (o.row m).count + 1

theorem advanceCount_eq (c : Channel) : advanceCount c =
    ({ c with count := if c.set.period ≤ c.count + 1 then 0 else c.count + 1 }, decide (c.set.period ≤ c.count + 1)) := by
  unfold advanceCount
  split <;> rename_i past <;> simp [past]

/-- The advance of a timer: the counts of its channels, and its wrap where every one stands at its end. -/
theorem advanceTimer_reads (cs : Chans) (h : Fin 16) :
    (∀ m, (advanceTimer cs h).1.row m = if m ∈ members cs h then { cs.row m with count := cs.advanced h m } else cs.row m)
    ∧ ((advanceTimer cs h).2 = true ↔ ∀ m ∈ members cs h, cs.atEnd m) := by
  have ne := partner_ne h
  unfold advanceTimer Chans.advanced Chans.atEnd
  simp only [advanceCount_eq, mem_members]
  cases pair : paired cs h with
  | false =>
    refine ⟨fun m => ?_, by simp⟩
    simp only [Bool.false_eq_true, if_false, false_and, or_false]
    rw [Tbl.row_put]
    by_cases same : m = h
    · rw [if_pos same.symm, if_pos same, same]
    · rw [if_neg (Ne.symm same), if_neg same]
  | true =>
    simp only [if_true, true_and]
    by_cases low : (cs.row (partner h)).set.period ≤ (cs.row (partner h)).count + 1
    · rw [decide_eq_true low, if_pos rfl, if_pos low]
      refine ⟨fun m => ?_, ?_⟩
      · simp only [Tbl.row_put, if_neg ne]
        by_cases same : m = h
        · subst same
          simp [Nat.not_lt.mpr low]
        · by_cases other : m = partner h
          · subst other
            simp [ne.symm, ne, low]
          · simp [Ne.symm same, Ne.symm other, same, other]
      · simp [Tbl.row_put, ne, low]
    · rw [decide_eq_false low, if_neg Bool.false_ne_true, if_neg low]
      refine ⟨fun m => ?_, ?_⟩
      · rw [Tbl.row_put]
        by_cases same : m = h
        · subst same
          simp [ne, Nat.lt_of_not_le low]
        · by_cases other : m = partner h
          · subst other
            simp [ne, low]
          · simp [Ne.symm other, same, other]
      · simp [low]

/-! ## The timers advance one after the other -/

/-- The timers of `done` whose tick is due have advanced, and the others stand. -/
structure Advanced (o : Chans) (n : Nat) (done : Fin 16 → Prop) (st : TimerStep) : Prop where
  went : ∀ m, done (head o m) → o.ticks n (head o m) → st.cs.row m = { o.row m with count := o.advanced (head o m) m }
  stood : ∀ m, ¬ (done (head o m) ∧ o.ticks n (head o m)) → st.cs.row m = o.row m
  moved : ∀ h, h ∈ st.moved ↔ done h ∧ head o h = h ∧ o.ticks n h
  wrapped : ∀ h, h ∈ st.wrapped ↔ done h ∧ head o h = h ∧ o.ticks n h ∧ ∀ m ∈ members o h, o.atEnd m
  nodup : st.wrapped.Nodup
  started : st.started = []

variable {done : Fin 16 → Prop} {st : TimerStep}

theorem Advanced.sameTimers (a : Advanced o n done st) : Chans.sameTimers o st.cs := by
  have row (m : Fin 16) : (st.cs.row m).set = (o.row m).set ∧ (st.cs.row m).running = (o.row m).running := by
    by_cases is : done (head o m) ∧ o.ticks n (head o m)
    · rw [a.went m is.1 is.2]
      exact ⟨rfl, rfl⟩
    · rw [a.stood m is]
      exact ⟨rfl, rfl⟩
  exact ⟨fun m => (row m).1, fun m => (row m).2⟩

theorem advanceDue_iff (same : Chans.sameTimers o cs) :
    (head cs h == h && countingHead cs h && tickDue cs h n) = true ↔ head o h = h ∧ o.ticks n h := by
  rw [head_congr same.1, countingHead_congr same, tickDue_congr same.1, Bool.and_eq_true, Bool.and_eq_true, countingHead_able]
  unfold tickDue Chans.ticks
  rw [beq_iff_eq, beq_iff_eq, and_assoc, and_assoc]

theorem Advanced.next (a : Advanced o n done st) (fresh : ¬ done h) : Advanced o n (fun c => done c ∨ c = h) (advanceDue n st h) := by
  have same := a.sameTimers
  unfold advanceDue
  by_cases goes : head o h = h ∧ o.ticks n h
  · rw [if_pos ((advanceDue_iff same).mpr goes)]
    obtain ⟨own, ticks⟩ := goes
    obtain ⟨rows, past⟩ := advanceTimer_reads st.cs h
    have members_iff (m : Fin 16) : m ∈ members st.cs h ↔ head o m = h := by
      rw [members_congr same.1]
      exact mem_members_timer own
    have here (m : Fin 16) (of : head o m = h) : st.cs.row m = o.row m := a.stood m fun is => fresh (of ▸ is.1)
    have advanced (m : Fin 16) (of : head o m = h) : st.cs.advanced h m = o.advanced h m := by
      unfold Chans.advanced
      rw [paired_congr same.1, here m of]
      by_cases pair : paired o h = true
      · rw [here (partner h) ((mem_members_timer own).mp (mem_members.mpr (.inr ⟨pair, rfl⟩)))]
      · exact (if_neg fun is => pair is.1).trans (if_neg fun is => pair is.1).symm
    have wraps_iff : (advanceTimer st.cs h).2 = true ↔ ∀ m ∈ members o h, o.atEnd m := by
      rw [past]
      refine forall_congr' fun m => ?_
      rw [members_iff, mem_members_timer own]
      refine forall_congr' fun of => ?_
      unfold Chans.atEnd
      rw [here m of]
    refine ⟨fun m in_ ticks' => ?_, fun m not => ?_, fun c => ?_, fun c => ?_, ?_, a.started⟩
    · show (advanceTimer st.cs h).1.row m = _
      rw [rows m]
      by_cases of : head o m = h
      · rw [if_pos ((members_iff m).mpr of), here m of, advanced m of, of]
      · rw [if_neg fun mem => of ((members_iff m).mp mem)]
        exact a.went m (in_.resolve_right of) ticks'
    · show (advanceTimer st.cs h).1.row m = _
      rw [rows m, if_neg fun mem => not ⟨.inr ((members_iff m).mp mem), (members_iff m).mp mem ▸ ticks⟩]
      exact a.stood m fun is => not ⟨.inl is.1, is.2⟩
    · rw [List.mem_append, List.mem_singleton, a.moved]
      constructor
      · rintro (⟨in_, rest⟩ | rfl)
        · exact ⟨.inl in_, rest⟩
        · exact ⟨.inr rfl, own, ticks⟩
      · rintro ⟨in_ | is, rest⟩
        · exact .inl ⟨in_, rest⟩
        · exact .inr is
    · have grown : c ∈ (if (advanceTimer st.cs h).2 then st.wrapped ++ [h] else st.wrapped) ↔
          c ∈ st.wrapped ∨ (c = h ∧ ∀ m ∈ members o h, o.atEnd m) := by
        split
        · rename_i wraps
          rw [List.mem_append, List.mem_singleton]
          exact or_congr_right (and_iff_left (wraps_iff.mp wraps)).symm
        · rename_i not
          exact (or_iff_left fun is => not (wraps_iff.mpr is.2)).symm
      rw [grown, a.wrapped]
      constructor
      · rintro (⟨in_, rest⟩ | ⟨rfl, wraps⟩)
        · exact ⟨.inl in_, rest⟩
        · exact ⟨.inr rfl, own, ticks, wraps⟩
      · rintro ⟨in_ | rfl, rest⟩
        · exact .inl ⟨in_, rest⟩
        · exact .inr ⟨rfl, rest.2.2⟩
    · show (if (advanceTimer st.cs h).2 then st.wrapped ++ [h] else st.wrapped).Nodup
      split
      · exact List.nodup_append.mpr ⟨a.nodup, List.nodup_singleton _, fun c mem c' mem' is => by
          rw [List.mem_singleton.mp mem'] at is
          exact fresh ((a.wrapped h).mp (is ▸ mem)).1⟩
      · exact a.nodup
  · rw [if_neg (mt (advanceDue_iff same).mp goes)]
    have other (c : Fin 16) (own : head o c = c) (ticks : o.ticks n c) : (done c ∨ c = h) ↔ done c :=
      or_iff_left fun is => goes (is ▸ ⟨own, ticks⟩)
    refine ⟨fun m in_ ticks => a.went m ((other _ (head_head o m) ticks).mp in_) ticks,
      fun m not => a.stood m fun is => not ⟨.inl is.1, is.2⟩, fun c => (a.moved c).trans ?_,
      fun c => (a.wrapped c).trans ?_, a.nodup, a.started⟩
    · exact ⟨fun ⟨in_, rest⟩ => ⟨.inl in_, rest⟩, fun ⟨in_, own, ticks⟩ => ⟨(other c own ticks).mp in_, own, ticks⟩⟩
    · exact ⟨fun ⟨in_, rest⟩ => ⟨.inl in_, rest⟩, fun ⟨in_, own, ticks, wraps⟩ => ⟨(other c own ticks).mp in_, own, ticks, wraps⟩⟩

theorem Advanced.congr {done' : Fin 16 → Prop} (a : Advanced o n done st) (same : ∀ h, done' h ↔ done h) :
    Advanced o n done' st := by
  have : done' = done := funext fun h => propext (same h)
  rw [this]
  exact a

/-- The step before the wraps are followed. -/
def advancedStep (n : Nat) (o : Chans) : TimerStep :=
  (List.finRange 16).foldl (advanceDue n) { cs := o, moved := [], wrapped := [], started := [] }

theorem advancedStep_advanced (n : Nat) (o : Chans) : Advanced o n (fun _ => True) (advancedStep n o) := by
  have fold (l : List (Fin 16)) (nodup : l.Nodup) (st : TimerStep) (done : Fin 16 → Prop) (a : Advanced o n done st)
      (fresh : ∀ h ∈ l, ¬ done h) : Advanced o n (fun h => done h ∨ h ∈ l) (l.foldl (advanceDue n) st) := by
    induction l generalizing st done with
    | nil => exact a.congr fun h => by simp
    | cons x l ih =>
      obtain ⟨out, nodup⟩ := List.nodup_cons.mp nodup
      refine (ih nodup _ _ (a.next (fresh x List.mem_cons_self)) fun h mem => ?_).congr fun h => ?_
      · rintro (was | rfl)
        · exact fresh h (List.mem_cons_of_mem x mem) was
        · exact out mem
      · rw [List.mem_cons, or_assoc]
  refine (fold _ (List.nodup_finRange 16) _ (fun _ => False) ?_ fun _ _ => id).congr
    fun h => iff_of_true trivial (.inr (List.mem_finRange h))
  exact ⟨fun _ is => is.elim, fun _ _ => rfl, fun _ => by simp, fun _ => by simp, List.nodup_nil, rfl⟩

end Sys2Proof.Machine
end

section
/-! PROOFS. TIMER STEP: the wraps followed through the sync references, as a least fixed point (R106, R107, R109). -/

namespace Sys2Proof.Machine
variable {o cs : Chans} {h m c ch : Fin 16} {n : Nat} {st : TimerStep}

/-- The timers that wrap where the timers of `w` do (R99, R106, R107; log 20). -/
def Chans.calls (o : Chans) (n : Nat) (w : Fin 16 → Prop) (h : Fin 16) : Prop := head o h = h
  ∧ ((o.ticks n h ∧ ∀ m ∈ members o h, o.atEnd m)
    ∨ (∃ x, (o.row h).set.sync = .sync x ∧ o.able h ∧ w (head o x))
    ∨ ∃ x, (o.row h).set.sync = .trigger x ∧ o.able h ∧ o.isHeld h ∧ w (head o x))

theorem Chans.calls.mono {w w' : Fin 16 → Prop} (is : o.calls n w h) (le : ∀ h, w h → w' h) : o.calls n w' h := by
  obtain ⟨own, ends | ⟨x, sync, able, wraps⟩ | ⟨x, sync, able, held, wraps⟩⟩ := is
  · exact ⟨own, .inl ends⟩
  · exact ⟨own, .inr (.inl ⟨x, sync, able, le _ wraps⟩)⟩
  · exact ⟨own, .inr (.inr ⟨x, sync, able, held, le _ wraps⟩)⟩

/-- The count to which the tick alone brings a channel. -/
def Chans.ticksTo (o : Chans) (n : Nat) (m : Fin 16) (k : Nat) : Prop :=
  (o.ticks n (head o m) → k = o.advanced (head o m) m) ∧ (¬ o.ticks n (head o m) → k = (o.row m).count)

/-- The wraps of a step, followed so far from the advance at step `n`. -/
structure Followed (o : Chans) (n : Nat) (st : TimerStep) : Prop where
  rest : ∀ m, st.cs.row m = { o.row m with count := (st.cs.row m).count, running := (st.cs.row m).running }
  moved : ∀ h, h ∈ st.moved ↔ head o h = h ∧ o.ticks n h
  nodup : st.wrapped.Nodup
  least : ∀ w : Fin 16 → Prop, (∀ h, o.calls n w h → w h) → ∀ h ∈ st.wrapped, w h
  called : ∀ h ∈ st.wrapped, o.calls n (· ∈ st.wrapped) h
  ended : ∀ h, head o h = h → o.ticks n h → (∀ m ∈ members o h, o.atEnd m) → h ∈ st.wrapped
  zero : ∀ m, head o m ∈ st.wrapped → (st.cs.row m).count = 0
  count : ∀ m, head o m ∉ st.wrapped → o.able (head o m) ∨ (∀ x, (o.row (head o m)).set.sync ≠ .trigger x) →
    o.ticksTo n m (st.cs.row m).count
  ran : ∀ m, (o.row m).running = true → (st.cs.row m).running = true
  fired : ∀ h, (o.row h).running = false → (st.cs.row h).running = true → head o h = h
    ∧ ∃ x, (o.row h).set.sync = .trigger x ∧ head o x ∈ st.wrapped ∧ (o.able h → h ∈ st.wrapped)
  runs : ∀ h ∈ st.wrapped, ∀ x, (o.row h).set.sync = .trigger x → (st.cs.row h).running = true
  started : ∀ h, h ∈ st.started ↔ h ∈ st.wrapped ∧ o.isHeld h

theorem Advanced.followed (a : Advanced o n (fun _ => True) st) : Followed o n st := by
  have row (m : Fin 16) : o.ticksTo n m (st.cs.row m).count ∧ st.cs.row m = { o.row m with count := (st.cs.row m).count } := by
    by_cases ticks : o.ticks n (head o m)
    · rw [a.went m trivial ticks]
      exact ⟨⟨fun _ => rfl, fun no => absurd ticks no⟩, rfl⟩
    · rw [a.stood m fun is => ticks is.2]
      exact ⟨⟨fun is => absurd is ticks, fun _ => rfl⟩, rfl⟩
  have running (m : Fin 16) : (st.cs.row m).running = (o.row m).running := by rw [(row m).2]
  have ends {h : Fin 16} (mem : h ∈ st.wrapped) := ((a.wrapped h).mp mem).2
  refine ⟨fun m => ?_, fun h => (a.moved h).trans (and_iff_right trivial), a.nodup, fun w closed h mem => ?_, fun h mem => ?_,
    fun h own ticks wraps => (a.wrapped h).mpr ⟨trivial, own, ticks, wraps⟩, fun m mem => ?_, fun m _ _ => (row m).1,
    fun m is => (running m).trans is, fun h off on => ?_, fun h mem x trigger => ?_, fun h => ?_⟩
  · rw [running]
    exact (row m).2
  · obtain ⟨own, rest⟩ := ends mem
    exact closed h ⟨own, .inl rest⟩
  · obtain ⟨own, rest⟩ := ends mem
    exact ⟨own, .inl rest⟩
  · obtain ⟨own, ticks, wraps⟩ := ends mem
    rw [(row m).1.1 ticks]
    have mine : m ∈ members o (head o m) := mem_members_self o m
    unfold Chans.advanced
    have last : (o.row m).set.period ≤ (o.row m).count + 1 := wraps m mine
    rw [if_neg, if_pos last]
    rintro ⟨pair, -, less⟩
    have := wraps (partner (head o m)) (mem_members.mpr (.inr ⟨pair, rfl⟩))
    unfold Chans.atEnd at this
    omega
  · rw [running h, off] at on
    cases on
  · obtain ⟨-, ⟨-, free, -⟩, -⟩ := ends mem
    rw [running h]
    by_contra off
    exact free ⟨⟨x, trigger⟩, Bool.eq_false_iff.mpr off⟩
  · rw [a.started]
    refine iff_of_false List.not_mem_nil fun is => ?_
    exact (ends is.1).2.1.2.1 is.2

/-! ## What following one timer does -/

theorem Followed.sameSet (f : Followed o n st) : Chans.sameSet o st.cs := fun m => by rw [f.rest m]

/-- A timer has no sync reference that wraps, or has answered it. -/
def Resting (o : Chans) (st : TimerStep) (h : Fin 16) : Prop := head o h = h → h ∉ st.wrapped →
  (∀ c, (o.row h).set.sync = .sync c → head o c ∈ st.wrapped → ¬ o.able h)
  ∧ ∀ c, (o.row h).set.sync = .trigger c → head o c ∈ st.wrapped → (st.cs.row h).running = true

/-- What the return or the start of timer `h` does to the table: its counts are 0, and a TRIGGER timer runs. -/
structure Returns (o cs cs' : Chans) (h : Fin 16) : Prop where
  zeroed : ∀ m, head o m = h → cs'.row m = { cs.row m with count := 0, running := (cs'.row m).running }
  apart : ∀ m, head o m ≠ h → cs'.row m = cs.row m
  running : ∀ m, m ≠ h → (cs'.row m).running = (cs.row m).running
  starts : ∀ x, (o.row h).set.sync = .trigger x → (cs'.row h).running = true
  keeps : (∀ x, (o.row h).set.sync ≠ .trigger x) → (cs'.row h).running = (cs.row h).running

variable {cs' : Chans}

theorem Returns.rest (r : Returns o cs cs' h) (rest : ∀ m, cs.row m = { o.row m with count := (cs.row m).count, running := (cs.row m).running })
    (m : Fin 16) : cs'.row m = { o.row m with count := (cs'.row m).count, running := (cs'.row m).running } := by
  by_cases of : head o m = h
  · rw [r.zeroed m of, rest m]
  · rw [r.apart m of]
    exact rest m

theorem Returns.ran (r : Returns o cs cs' h) (is : (cs.row m).running = true) : (cs'.row m).running = true := by
  by_cases same : m = h
  · subst same
    by_cases trigger : ∃ x, (o.row m).set.sync = .trigger x
    · exact r.starts _ trigger.choose_spec
    · rw [r.keeps fun x is => trigger ⟨x, is⟩]
      exact is
  · rw [r.running m same]
    exact is

/-- A timer returns or starts, and wraps. -/
theorem Followed.wraps (f : Followed o n st) (out : h ∉ st.wrapped) (calls : o.calls n (· ∈ st.wrapped) h)
    (r : Returns o st.cs cs' h) {started : List (Fin 16)}
    (starts : ∀ c, c ∈ started ↔ c ∈ st.started ∨ (c = h ∧ o.isHeld h)) :
    Followed o n { st with cs := cs', wrapped := st.wrapped ++ [h], started := started } := by
  have mem_iff (c : Fin 16) : c ∈ st.wrapped ++ [h] ↔ c ∈ st.wrapped ∨ c = h := by
    rw [List.mem_append, List.mem_singleton]
  have early {c : Fin 16} (mem : c ∈ st.wrapped) : c ∈ st.wrapped ++ [h] := (mem_iff c).mpr (.inl mem)
  refine ⟨r.rest f.rest, f.moved, ?_, fun w closed c mem => ?_, fun c mem => ?_,
    fun c own ticks ends => early (f.ended c own ticks ends), fun m mem => ?_, fun m not able => ?_,
    fun m is => r.ran (f.ran m is), fun c off on => ?_, fun c mem x trigger => ?_, fun c => ?_⟩
  · exact List.nodup_append.mpr ⟨f.nodup, List.nodup_singleton _, fun c mem c' mem' is => by
      rw [List.mem_singleton.mp mem'] at is
      exact out (is ▸ mem)⟩
  · rcases (mem_iff c).mp mem with was | rfl
    · exact f.least w closed c was
    · exact closed c (calls.mono fun c was => f.least w closed c was)
  · rcases (mem_iff c).mp mem with was | rfl
    · exact (f.called c was).mono fun _ => early
    · exact calls.mono fun _ => early
  · show (cs'.row m).count = 0
    by_cases of : head o m = h
    · rw [r.zeroed m of]
    · rw [r.apart m of]
      exact f.zero m (((mem_iff _).mp mem).resolve_right of)
  · show o.ticksTo n m (cs'.row m).count
    rw [r.apart m fun of => not ((mem_iff _).mpr (.inr of))]
    exact f.count m (fun was => not (early was)) able
  · show head o c = c ∧ ∃ x, _ ∧ head o x ∈ st.wrapped ++ [h] ∧ (o.able c → c ∈ st.wrapped ++ [h])
    by_cases same : c = h
    · subst same
      refine ⟨calls.1, ?_⟩
      by_cases trigger : ∃ x, (o.row c).set.sync = .trigger x
      · obtain ⟨x, trigger⟩ := trigger
        refine ⟨x, trigger, ?_, fun _ => (mem_iff c).mpr (.inr rfl)⟩
        obtain ⟨-, ⟨⟨-, free, -⟩, -⟩ | ⟨y, sync, -⟩ | ⟨y, sync, -, -, wraps⟩⟩ := calls
        · exact absurd ⟨⟨x, trigger⟩, off⟩ free
        · rw [trigger] at sync; cases sync
        · rw [trigger] at sync
          injection sync with same
          exact early (same ▸ wraps)
      · have on' : (cs'.row c).running = true := on
        rw [r.keeps fun x is => trigger ⟨x, is⟩] at on'
        obtain ⟨-, x, is, -⟩ := f.fired c off on'
        exact absurd ⟨x, is⟩ trigger
    · have on' : (cs'.row c).running = true := on
      rw [r.running c same] at on'
      obtain ⟨own, x, trigger, wraps, able⟩ := f.fired c off on'
      exact ⟨own, x, trigger, early wraps, fun is => early (able is)⟩
  · rcases (mem_iff c).mp mem with was | rfl
    · exact r.ran (f.runs c was x trigger)
    · exact r.starts x trigger
  · show c ∈ started ↔ c ∈ st.wrapped ++ [h] ∧ o.isHeld c
    rw [starts, f.started, mem_iff]
    constructor
    · rintro (⟨was, held⟩ | ⟨rfl, held⟩)
      · exact ⟨.inl was, held⟩
      · exact ⟨.inr rfl, held⟩
    · rintro ⟨was | rfl, held⟩
      · exact .inl ⟨was, held⟩
      · exact .inr ⟨rfl, held⟩

/-- A TRIGGER timer that cannot count starts, and does not wrap (log 20). -/
theorem Followed.fires (f : Followed o n st) (own : head o h = h) {x : Fin 16} (trigger : (o.row h).set.sync = .trigger x)
    (wraps : head o x ∈ st.wrapped) (unable : ¬ o.able h) (out : h ∉ st.wrapped) (r : Returns o st.cs cs' h) :
    Followed o n { st with cs := cs' } := by
  refine ⟨r.rest f.rest, f.moved, f.nodup, f.least, f.called, f.ended, fun m mem => ?_, fun m not able => ?_,
    fun m is => r.ran (f.ran m is), fun c off on => ?_, fun c mem x trigger => r.ran (f.runs c mem x trigger), f.started⟩
  · show (cs'.row m).count = 0
    rw [r.apart m fun of => out (of ▸ mem)]
    exact f.zero m mem
  · show o.ticksTo n m (cs'.row m).count
    rw [r.apart m fun of => able.elim (fun able => unable (of ▸ able)) fun free => free x (of ▸ trigger)]
    exact f.count m not able
  · by_cases same : c = h
    · subst same
      exact ⟨own, x, trigger, wraps, fun able => absurd able unable⟩
    · have on' : (cs'.row c).running = true := on
      rw [r.running c same] at on'
      exact f.fired c off on'

/-! ## One timer followed -/

theorem zeroCount_returns (own : head o h = h) (same : Chans.sameSet o cs) (free : ∀ x, (o.row h).set.sync ≠ .trigger x) :
    Returns o cs (zeroCount cs h) h := by
  have row (m : Fin 16) : (zeroCount cs h).row m = if head o m = h then { cs.row m with count := 0 } else cs.row m := by
    unfold zeroCount
    rw [onMembers_row, members_congr same]
    exact if_congr (mem_members_timer own) rfl rfl
  refine ⟨fun m of => by rw [row, if_pos of], fun m not => by rw [row, if_neg not], fun m _ => ?_, fun x is => absurd is (free x),
    fun _ => ?_⟩ <;> rw [row] <;> split <;> rfl

theorem start_returns (own : head o h = h) (same : Chans.sameSet o cs) {x : Fin 16} (trigger : (o.row h).set.sync = .trigger x) :
    Returns o cs (zeroCount (cs.put h { cs.row h with running := true }) h) h := by
  have same' : Chans.sameSet o (cs.put h { cs.row h with running := true }) := fun m => by
    rw [Tbl.row_put]
    split
    · rename_i is; rw [← is]; exact same h
    · exact same m
  have row (m : Fin 16) : (zeroCount (cs.put h { cs.row h with running := true }) h).row m =
      if head o m = h then { cs.row m with count := 0, running := if m = h then true else (cs.row m).running } else cs.row m := by
    unfold zeroCount
    rw [onMembers_row, members_congr same']
    refine (if_congr (mem_members_timer own) rfl rfl).trans ?_
    rw [Tbl.row_put]
    by_cases is : h = m
    · subst is
      rw [if_pos own, if_pos own, if_pos rfl, if_pos rfl]
    · rw [if_neg is, if_neg (Ne.symm is)]
  refine ⟨fun m of => by rw [row, if_pos of], fun m not => by rw [row, if_neg not], fun m ne => ?_, fun _ _ => ?_,
    fun free => absurd trigger (free x)⟩
  · rw [row, if_neg ne]
    split <;> rfl
  · rw [row, if_pos own]
    exact if_pos rfl

/-- A timer at rest is passed by. -/
theorem Followed.followWrap_of_resting (f : Followed o n st) (rests : Resting o st h) : followWrap st h = st := by
  have same := f.sameSet
  unfold followWrap
  split
  · rfl
  · rename_i not
    rw [Bool.or_eq_true, not_or, bne_iff_ne, not_not, List.contains_iff_mem, head_congr same] at not
    obtain ⟨sync, trigger⟩ := rests not.1 not.2
    rw [same h]
    cases is : (o.row h).set.sync with
    | free => rfl
    | sync x =>
      refine if_neg fun both => ?_
      rw [Bool.and_eq_true, List.contains_iff_mem, head_congr same] at both
      exact sync x is both.1 ((able_congr same).mp (countingHead_able.mp both.2).1)
    | trigger x =>
      refine if_neg fun both => ?_
      rw [Bool.and_eq_true, List.contains_iff_mem, head_congr same, trigger x is both.1] at both
      exact Bool.false_ne_true both.2

theorem followWrap_sync (own : head st.cs h = h) (out : h ∉ st.wrapped) {x : Fin 16} (sync : (st.cs.row h).set.sync = .sync x)
    (wraps : head st.cs x ∈ st.wrapped) (counts : countingHead st.cs h = true) :
    followWrap st h = { st with cs := zeroCount st.cs h, wrapped := st.wrapped ++ [h] } := by
  unfold followWrap
  rw [if_neg, sync]
  · dsimp only
    rw [if_pos]
    rw [counts, Bool.and_true]
    exact List.contains_iff_mem.mpr wraps
  · rw [Bool.or_eq_true, not_or, bne_iff_ne, not_not, List.contains_iff_mem]
    exact ⟨own, out⟩

theorem followWrap_trigger (own : head st.cs h = h) (out : h ∉ st.wrapped) {x : Fin 16}
    (trigger : (st.cs.row h).set.sync = .trigger x) (wraps : head st.cs x ∈ st.wrapped) (off : (st.cs.row h).running = false) :
    let cs := zeroCount (st.cs.put h { st.cs.row h with running := true }) h
    followWrap st h = if countingHead cs h then { st with cs := cs, wrapped := st.wrapped ++ [h], started := st.started ++ [h] }
      else { st with cs := cs } := by
  dsimp only
  unfold followWrap
  rw [if_neg, trigger]
  · dsimp only
    rw [if_pos]
    rw [off, Bool.not_false, Bool.and_true]
    exact List.contains_iff_mem.mpr wraps
  · rw [Bool.or_eq_true, not_or, bne_iff_ne, not_not, List.contains_iff_mem]
    exact ⟨own, out⟩

theorem Returns.sameSet (r : Returns o cs cs' h) (same : Chans.sameSet o cs) : Chans.sameSet o cs' := fun m => by
  by_cases of : head o m = h
  · rw [r.zeroed m of]
    exact same m
  · rw [r.apart m of]
    exact same m

/-- A timer that is not at rest answers: it wraps, or it starts without a wrap and rests. -/
theorem Followed.followWrap_acts (f : Followed o n st) (acts : ¬ Resting o st h) :
    Followed o n (followWrap st h) ∧ (st.wrapped.length < (followWrap st h).wrapped.length
      ∨ ((followWrap st h).wrapped = st.wrapped ∧ Resting o (followWrap st h) h
        ∧ ∀ c, c ≠ h → ((followWrap st h).cs.row c).running = (st.cs.row c).running)) := by
  have same := f.sameSet
  unfold Resting at acts
  simp only [Classical.not_imp, not_and_or, not_forall, not_not] at acts
  obtain ⟨own, out, ⟨x, sync, wraps, able⟩ | ⟨x, trigger, wraps, off⟩⟩ := acts
  · have free : ∀ y, (o.row h).set.sync ≠ .trigger y := fun y is => by rw [sync] at is; cases is
    have counts : countingHead st.cs h = true := countingHead_able.mpr ⟨(able_congr same).mpr able, fun held => by
      obtain ⟨⟨y, is⟩, -⟩ := held
      rw [same h] at is
      exact free y is⟩
    rw [followWrap_sync (by rw [head_congr same, own]) out (by rw [same h]; exact sync) (by rw [head_congr same]; exact wraps) counts]
    refine ⟨f.wraps out ⟨own, .inr (.inl ⟨x, sync, able, wraps⟩)⟩ (zeroCount_returns own same free) fun c => ?_, .inl ?_⟩
    · refine (or_iff_left fun is => ?_).symm
      obtain ⟨rfl, ⟨y, is'⟩, -⟩ := is
      exact free y is'
    · simp
  · have off' : (st.cs.row h).running = false := Bool.eq_false_iff.mpr off
    have held : o.isHeld h := ⟨⟨x, trigger⟩, Bool.eq_false_iff.mpr fun on => off (f.ran h on)⟩
    have returns := start_returns own same trigger
    have is := followWrap_trigger (by rw [head_congr same, own]) out (by rw [same h]; exact trigger)
      (by rw [head_congr same]; exact wraps) off'
    dsimp only at is
    rw [is]
    generalize zeroCount (st.cs.put h { st.cs.row h with running := true }) h = cs at returns
    have same' := returns.sameSet same
    have runs := returns.starts x trigger
    split
    · rename_i counts
      have able : o.able h := (able_congr same').mp (countingHead_able.mp counts).1
      refine ⟨f.wraps out ⟨own, .inr (.inr ⟨x, trigger, able, held, wraps⟩)⟩ returns fun c => ?_, .inl (by simp)⟩
      rw [List.mem_append, List.mem_singleton]
      exact or_congr_right (and_iff_left_of_imp fun is => is ▸ held).symm
    · rename_i still
      have unable : ¬ o.able h := fun able => still (countingHead_able.mpr ⟨(able_congr same').mpr able, fun held => by
        rw [held.2] at runs; cases runs⟩)
      exact ⟨f.fires own trigger wraps unable out returns, .inr ⟨rfl, fun _ _ => ⟨fun _ _ _ => unable, fun _ _ _ => runs⟩,
        returns.running⟩⟩

/-! ## The rounds (R109) -/

/-- One round reaches a state at rest, or another timer wraps. -/
theorem Followed.round (f : Followed o n st) : Followed o n ((List.finRange 16).foldl followWrap st)
    ∧ ((∀ h, Resting o ((List.finRange 16).foldl followWrap st) h)
      ∨ st.wrapped.length < ((List.finRange 16).foldl followWrap st).wrapped.length) := by
  have fold (l done : List (Fin 16)) (u : TimerStep) (g : Followed o n u)
      (so : st.wrapped.length < u.wrapped.length ∨ (u.wrapped = st.wrapped ∧ ∀ h ∈ done, Resting o u h)) :
      Followed o n (l.foldl followWrap u) ∧ (st.wrapped.length < (l.foldl followWrap u).wrapped.length
        ∨ ((l.foldl followWrap u).wrapped = st.wrapped ∧ ∀ h, h ∈ done ∨ h ∈ l → Resting o (l.foldl followWrap u) h)) := by
    induction l generalizing done u with
    | nil => exact ⟨g, so.imp id fun ⟨same, rest⟩ => ⟨same, fun h mem => rest h (mem.resolve_right List.not_mem_nil)⟩⟩
    | cons x l ih =>
      have next : Followed o n (followWrap u x) ∧ (st.wrapped.length < (followWrap u x).wrapped.length
          ∨ ((followWrap u x).wrapped = st.wrapped ∧ ∀ h ∈ x :: done, Resting o (followWrap u x) h)) := by
        by_cases rests : Resting o u x
        · rw [g.followWrap_of_resting rests]
          refine ⟨g, so.imp id fun ⟨same, rest⟩ => ⟨same, fun h mem => ?_⟩⟩
          rcases List.mem_cons.mp mem with rfl | mem
          · exact rests
          · exact rest h mem
        · obtain ⟨g', grows | ⟨still, rest_x, running⟩⟩ := g.followWrap_acts rests
          · exact ⟨g', .inl (so.elim (fun less => less.trans grows) fun is => is.1 ▸ grows)⟩
          · refine ⟨g', so.imp (fun less => by rw [still]; exact less) fun ⟨same, rest⟩ => ⟨still.trans same, fun h mem => ?_⟩⟩
            by_cases here : h = x
            · rw [here]
              exact rest_x
            · have := rest h ((List.mem_cons.mp mem).resolve_left here)
              unfold Resting at this ⊢
              rw [still, running h here]
              exact this
      obtain ⟨g', so'⟩ := next
      obtain ⟨end_, last⟩ := ih (x :: done) _ g' so'
      refine ⟨end_, last.imp id fun ⟨same, rest⟩ => ⟨same, fun h mem => rest h ?_⟩⟩
      rcases mem with mem | mem
      · exact .inl (List.mem_cons_of_mem x mem)
      · rcases List.mem_cons.mp mem with rfl | mem
        · exact .inl List.mem_cons_self
        · exact .inr mem
  obtain ⟨end_, last⟩ := fold (List.finRange 16) [] st f (.inr ⟨rfl, fun _ mem => absurd mem List.not_mem_nil⟩)
  exact ⟨end_, last.symm.imp (fun is h => is.2 h (.inr (List.mem_finRange h))) id⟩

theorem Followed.followWraps_of_resting (f : Followed o n st) (rests : ∀ h, Resting o st h) (k : Nat) : followWraps k st = st := by
  have round : (List.finRange 16).foldl followWrap st = st :=
    List.foldl_fixed' (fun h => f.followWrap_of_resting (rests h)) _
  induction k with
  | zero => rfl
  | succ k ih => rw [followWraps, round, ih]

theorem Followed.followWraps (f : Followed o n st) (k : Nat) : Followed o n (followWraps k st)
    ∧ ((∀ h, Resting o (Machine.followWraps k st) h) ∨ k ≤ (Machine.followWraps k st).wrapped.length) := by
  have more (k : Nat) (u : TimerStep) (g : Followed o n u) : Followed o n (Machine.followWraps k u)
      ∧ ((∀ h, Resting o (Machine.followWraps k u) h) ∨ k + u.wrapped.length ≤ (Machine.followWraps k u).wrapped.length) := by
    induction k generalizing u with
    | zero => exact ⟨g, .inr (by rw [Nat.zero_add]; rfl)⟩
    | succ k ih =>
      obtain ⟨g', rests | grows⟩ := g.round
      · rw [Machine.followWraps, g'.followWraps_of_resting rests]
        exact ⟨g', .inl rests⟩
      · obtain ⟨end_, last⟩ := ih _ g'
        exact ⟨end_, last.imp id fun le => by rw [Machine.followWraps]; omega⟩
  obtain ⟨end_, last⟩ := more k st f
  exact ⟨end_, last.imp id fun le => by omega⟩

/-- The step with every wrap followed. -/
def followedStep (n : Nat) (o : Chans) : TimerStep := followWraps 16 (advancedStep n o)

/-- Sixteen rounds reach every timer (R109). -/
theorem followedStep_followed (n : Nat) (o : Chans) :
    Followed o n (followedStep n o) ∧ ∀ h, Resting o (followedStep n o) h := by
  obtain ⟨f, rests | all⟩ := (advancedStep_advanced n o).followed.followWraps 16
  · exact ⟨f, rests⟩
  · refine ⟨f, fun h _ out => absurd ?_ out⟩
    have whole : (followWraps 16 (advancedStep n o)).wrapped.toFinset = Finset.univ :=
      Finset.eq_univ_of_card _ (le_antisymm (Finset.card_le_univ _) (by
        rw [List.toFinset_card_of_nodup f.nodup, Fintype.card_fin]
        exact all))
    exact List.mem_toFinset.mp (whole ▸ Finset.mem_univ h)

/-- The wraps of the step are the least that answer one another. -/
theorem Followed.wraps_iff (f : Followed o n st) (rests : ∀ h, Resting o st h) (h : Fin 16) :
    h ∈ st.wrapped ↔ o.calls n (· ∈ st.wrapped) h := by
  refine ⟨f.called h, ?_⟩
  rintro ⟨own, ⟨ticks, ends⟩ | ⟨x, sync, able, wraps⟩ | ⟨x, trigger, able, held, wraps⟩⟩
  · exact f.ended h own ticks ends
  · by_contra out
    exact (rests h own out).1 x sync wraps able
  · by_contra out
    obtain ⟨-, y, -, -, into⟩ := f.fired h held.2 ((rests h own out).2 x trigger wraps)
    exact out (into able)

/-- A TRIGGER timer runs once its source wraps (R107). -/
theorem Followed.running_iff (f : Followed o n st) (rests : ∀ h, Resting o st h) (own : head o h = h) {x : Fin 16}
    (trigger : (o.row h).set.sync = .trigger x) :
    (st.cs.row h).running = true ↔ (o.row h).running = true ∨ ((o.row h).running = false ∧ head o x ∈ st.wrapped) := by
  constructor
  · intro on
    by_cases was : (o.row h).running = true
    · exact .inl was
    · have off := Bool.eq_false_iff.mpr was
      obtain ⟨-, y, trigger', wraps, -⟩ := f.fired h off on
      rw [trigger] at trigger'
      injection trigger' with same
      exact .inr ⟨off, same ▸ wraps⟩
  · rintro (on | ⟨off, wraps⟩)
    · exact f.ran h on
    · by_cases mem : h ∈ st.wrapped
      · exact f.runs h mem x trigger
      · exact (rests h own mem).2 x trigger wraps

end Sys2Proof.Machine
end

section
/-! PROOFS. TIMER STEP: the new A, the compare events and the outputs, timer by timer (R100 to R104, R107, R111). -/

namespace Sys2Proof.Machine
variable {o cs base : Chans} {h m : Fin 16} {n : Nat} {st : TimerStep}

/-! ## PWM takes its new A (R104) -/

theorem foldl_takeA_row (l : List (Fin 16)) (timers : ∀ h ∈ l, head o h = h) (same : Chans.sameSet o cs) (m : Fin 16) :
    (l.foldl takeA cs).row m = { cs.row m with
      aInForce := if head o m ∈ l ∧ (o.row (head o m)).set.mode = .pwm then (o.row m).set.cmpA else (cs.row m).aInForce } := by
  induction l generalizing cs with
  | nil => simp
  | cons x l ih =>
    have own := timers x List.mem_cons_self
    have row (m : Fin 16) : (takeA cs x).row m = { cs.row m with
        aInForce := if head o m = x ∧ (o.row x).set.mode = .pwm then (o.row m).set.cmpA else (cs.row m).aInForce } := by
      unfold takeA
      rw [same x]
      by_cases pwm : (o.row x).set.mode = .pwm
      · rw [if_pos (beq_iff_eq.mpr pwm), onMembers_row, members_congr same]
        by_cases of : head o m = x
        · rw [if_pos ((mem_members_timer own).mpr of), if_pos ⟨of, pwm⟩, ← same m]
        · rw [if_neg (mt (mem_members_timer own).mp of), if_neg fun is => of is.1]
      · rw [if_neg (mt beq_iff_eq.mp pwm), if_neg fun is => pwm is.2]
    rw [List.foldl_cons, ih (fun h mem => timers h (List.mem_cons_of_mem x mem)) fun m => by rw [row]; exact same m, row]
    by_cases rest : head o m ∈ l ∧ (o.row (head o m)).set.mode = .pwm
    · have rest' : head o m ∈ x :: l ∧ (o.row (head o m)).set.mode = .pwm := ⟨List.mem_cons_of_mem x rest.1, rest.2⟩
      simp only [if_pos rest, if_pos rest']
    · rw [if_neg rest]
      by_cases here : head o m = x ∧ (o.row x).set.mode = .pwm
      · rw [if_pos here, if_pos ⟨List.mem_cons.mpr (.inl here.1), by rw [here.1]; exact here.2⟩]
      · rw [if_neg here, if_neg]
        rintro ⟨mem, pwm⟩
        rcases List.mem_cons.mp mem with is | mem
        · exact here ⟨is, is ▸ pwm⟩
        · exact rest ⟨mem, pwm⟩

/-! ## Timer by timer -/

/-- Where each timer's turn moves and reads its own channels alone, a channel ends as its timer's turn leaves it. -/
theorem foldl_turns {f : Chans → Fin 16 → Chans} {R : Chans → Prop} (start : R base) (keeps : ∀ cs h, R cs → R (f cs h))
    (apart : ∀ cs h m, R cs → head o m ≠ h → (f cs h).row m = cs.row m)
    (own : ∀ cs h, R cs → (∀ m, head o m = h → cs.row m = base.row m) → ∀ m, head o m = h → (f cs h).row m = (f base h).row m)
    (m : Fin 16) : ((List.finRange 16).foldl f base).row m = (f base (head o m)).row m := by
  have fold (l : List (Fin 16)) (nodup : l.Nodup) (cs : Chans) (r : R cs) :
      (head o m ∈ l → (∀ i, head o i = head o m → cs.row i = base.row i) → (l.foldl f cs).row m = (f base (head o m)).row m)
      ∧ (head o m ∉ l → (l.foldl f cs).row m = cs.row m) := by
    induction l generalizing cs with
    | nil => exact ⟨(nomatch ·), fun _ => rfl⟩
    | cons x l ih =>
      obtain ⟨out, nodup⟩ := List.nodup_cons.mp nodup
      obtain ⟨in_, rest⟩ := ih nodup (f cs x) (keeps cs x r)
      rw [List.foldl_cons]
      refine ⟨fun mem fresh => ?_, fun mem => ?_⟩
      · by_cases here : head o m = x
        · rw [rest (here ▸ out), ← here]
          exact own cs _ r fresh m rfl
        · refine in_ ((List.mem_cons.mp mem).resolve_left here) fun i of => ?_
          rw [apart cs x i r (by rw [of]; exact here)]
          exact fresh i of
      · rw [rest fun in_ => mem (List.mem_cons_of_mem x in_)]
        exact apart cs x m r fun is => mem (List.mem_cons.mpr (.inl is))
  exact (fold _ (List.nodup_finRange 16) base start).1 (List.mem_finRange _) fun _ _ => rfl

/-! ## The compare events of a timer (R100 to R103, R107) -/

/-- The TRIGGER timer stops at B. -/
def stopsAtB (st : TimerStep) (cs : Chans) (h : Fin 16) : Prop :=
  (∃ x, (cs.row h).set.sync = .trigger x) ∧ (cs.row h).set.stopAtB = true
    ∧ arrivedAt cs h ChannelSettings.cmpB = true ∧ h ∉ st.started

/-- The output and phase that the compare events of a timer leave. -/
def eventsOf (cs : Chans) (h : Fin 16) : Bool × PulsePhase :=
  compareEvents (cs.row h).set.mode (cs.row h).phase (cs.row h).timerOut (arrivedAt cs h ChannelSettings.cmpA)
    (arrivedAt cs h ChannelSettings.cmpB)

theorem compareTimer_idle (idle : h ∉ st.moved ∧ h ∉ st.wrapped) : compareTimer st cs h = cs := by
  unfold compareTimer
  rw [if_neg]
  rw [Bool.or_eq_true, List.contains_iff_mem, List.contains_iff_mem]
  exact not_or.mpr idle

/-- What the compare events leave of the channels of a timer that acts. -/
structure Compared (st : TimerStep) (cs : Chans) (h : Fin 16) (cs' : Chans) : Prop where
  apart : ∀ m, m ∉ members cs h → cs'.row m = cs.row m
  rest : ∀ m ∈ members cs h, cs'.row m = { cs.row m with
    timerOut := (eventsOf cs h).1, phase := (cs'.row m).phase, running := (cs'.row m).running, count := (cs'.row m).count }
  phase : (cs'.row h).phase = (eventsOf cs h).2
  phases : ∀ m, m ≠ h → (cs'.row m).phase = (cs.row m).phase
  stopped : stopsAtB st cs h → (cs'.row h).running = false ∧ ∀ m ∈ members cs h, (cs'.row m).count = 0
  runs : ¬ stopsAtB st cs h → (cs'.row h).running = (cs.row h).running ∧ ∀ m, (cs'.row m).count = (cs.row m).count
  running : ∀ m, m ≠ h → (cs'.row m).running = (cs.row m).running

/-- The compare events of a timer that acts, before its stop at B. -/
def evented (cs : Chans) (h : Fin 16) : Chans :=
  setOut (cs.put h { cs.row h with phase := (eventsOf cs h).2 }) h (eventsOf cs h).1

theorem evented_row (cs : Chans) (h m : Fin 16) : (evented cs h).row m =
    if m ∈ members cs h then { cs.row m with
      timerOut := (eventsOf cs h).1, phase := if m = h then (eventsOf cs h).2 else (cs.row m).phase }
    else cs.row m := by
  have same : Chans.sameSet cs (cs.put h { cs.row h with phase := (eventsOf cs h).2 }) :=
    (Chans.sameTimers_put (ch := h) (c := { cs.row h with phase := (eventsOf cs h).2 }) rfl rfl).1
  unfold evented setOut
  rw [onMembers_row, members_congr same, Tbl.row_put]
  by_cases is : h = m
  · subst is
    rw [if_pos rfl, if_pos rfl, if_pos (head_mem_members cs h), if_pos (head_mem_members cs h)]
  · rw [if_neg is, if_neg (Ne.symm is)]

theorem evented_sameSet (cs : Chans) (h : Fin 16) : Chans.sameSet cs (evented cs h) := fun m => by
  rw [evented_row]
  split <;> rfl

theorem compareTimer_acts (acts : h ∈ st.moved ∨ h ∈ st.wrapped) :
    (stopsAtB st cs h → compareTimer st cs h =
      zeroCount ((evented cs h).put h { (evented cs h).row h with running := false }) h)
    ∧ (¬ stopsAtB st cs h → compareTimer st cs h = evented cs h) := by
  have here : (st.moved.contains h || st.wrapped.contains h) = true := by
    rw [Bool.or_eq_true, List.contains_iff_mem, List.contains_iff_mem]
    exact acts
  unfold compareTimer stopsAtB
  rw [if_pos here]
  dsimp only
  cases sync : (cs.row h).set.sync with
  | trigger x =>
    have stop_iff : ((cs.row h).set.stopAtB && arrivedAt cs h ChannelSettings.cmpB && !st.started.contains h) = true ↔
        (cs.row h).set.stopAtB = true ∧ arrivedAt cs h ChannelSettings.cmpB = true ∧ h ∉ st.started := by
      rw [Bool.and_eq_true, Bool.and_eq_true, Bool.not_eq_true', ← Bool.not_eq_true, List.contains_iff_mem, and_assoc]
    exact ⟨fun is => if_pos (stop_iff.mpr is.2), fun not => if_neg fun is => not ⟨⟨x, rfl⟩, stop_iff.mp is⟩⟩
  | _ => exact ⟨fun is => (by cases is.1.choose_spec), fun _ => rfl⟩

theorem compareTimer_compared (acts : h ∈ st.moved ∨ h ∈ st.wrapped) : Compared st cs h (compareTimer st cs h) := by
  obtain ⟨stops, goes⟩ := compareTimer_acts (cs := cs) acts
  have same := evented_sameSet cs h
  have mine := head_mem_members cs h
  by_cases is : stopsAtB st cs h
  · have row (m : Fin 16) : (compareTimer st cs h).row m = if m ∈ members cs h then { (evented cs h).row m with
        count := 0, running := if m = h then false else ((evented cs h).row m).running } else cs.row m := by
      have same' : Chans.sameSet cs ((evented cs h).put h { (evented cs h).row h with running := false }) := fun m => by
        rw [Tbl.row_put]
        split
        · rename_i is; rw [← is]; exact same h
        · exact same m
      rw [stops is, zeroCount, onMembers_row, members_congr same', Tbl.row_put]
      by_cases is : h = m
      · subst is
        rw [if_pos rfl, if_pos rfl, if_pos mine, if_pos mine]
      · rw [if_neg is, if_neg (Ne.symm is)]
        split
        · rfl
        · rename_i out; rw [evented_row, if_neg out]
    refine ⟨fun m out => by rw [row, if_neg out], fun m mem => by rw [row, if_pos mem, evented_row, if_pos mem], ?_,
      fun m ne => ?_, fun _ => ⟨by rw [row, if_pos mine, if_pos rfl], fun m mem => by rw [row, if_pos mem]⟩,
      fun no => absurd is no, fun m ne => ?_⟩
    · rw [row, if_pos mine, evented_row, if_pos mine, if_pos rfl]
    · rw [row, evented_row, if_neg ne]
      split <;> rfl
    · rw [row, if_neg ne, evented_row]
      split <;> rfl
  · rw [goes is]
    refine ⟨fun m out => by rw [evented_row, if_neg out], fun m mem => by rw [evented_row, if_pos mem], ?_,
      fun m ne => ?_, fun yes => absurd yes is, fun _ => ⟨?_, fun m => ?_⟩, fun m _ => ?_⟩
    · rw [evented_row, if_pos mine, if_pos rfl]
    · rw [evented_row, if_neg ne]
      split <;> rfl
    all_goals
      rw [evented_row]
      split <;> rfl

theorem Compared.sameSet {cs' : Chans} (c : Compared st cs h cs') : Chans.sameSet cs cs' := fun m => by
  by_cases mem : m ∈ members cs h
  · rw [c.rest m mem]
  · rw [c.apart m mem]

theorem compareTimer_sameSet (st : TimerStep) (cs : Chans) (h : Fin 16) : Chans.sameSet cs (compareTimer st cs h) := by
  by_cases acts : h ∈ st.moved ∨ h ∈ st.wrapped
  · exact (compareTimer_compared acts).sameSet
  · rw [compareTimer_idle (not_or.mp acts)]
    exact fun _ => rfl

theorem arrivedAt_iff {cmp : ChannelSettings → Nat} : arrivedAt cs h cmp = true ↔
    ∀ m ∈ members cs h, (cs.row m).count = cmp (cs.row m).set ∧ cmp (cs.row m).set < (cs.row m).set.period := by
  unfold arrivedAt
  rw [List.all_eq_true]
  simp only [Bool.and_eq_true, beq_iff_eq, decide_eq_true_iff]

/-- The compare events of a timer read its own channels alone. -/
theorem compareTimer_turn (own : head o h = h) (same : Chans.sameSet o cs) (same' : Chans.sameSet o base)
    (rows : ∀ m, head o m = h → cs.row m = base.row m) (of : head o m = h) :
    (compareTimer st cs h).row m = (compareTimer st base h).row m := by
  have members_eq : members cs h = members base h := by rw [members_congr same, members_congr same']
  have mem {m : Fin 16} : m ∈ members base h ↔ head o m = h := by rw [members_congr same', mem_members_timer own]
  by_cases acts : h ∈ st.moved ∨ h ∈ st.wrapped
  · have arrived (cmp : ChannelSettings → Nat) : arrivedAt cs h cmp = arrivedAt base h cmp := by
      rw [Bool.eq_iff_iff, arrivedAt_iff, arrivedAt_iff, members_eq]
      exact forall₂_congr fun m is => by rw [rows m (mem.mp is)]
    have events : eventsOf cs h = eventsOf base h := by
      unfold eventsOf
      rw [arrived, arrived, rows h own]
    have stops : stopsAtB st cs h ↔ stopsAtB st base h := by
      unfold stopsAtB
      rw [arrived, rows h own]
    have c := compareTimer_compared (cs := cs) acts
    have c' := compareTimer_compared (cs := base) acts
    have in_ : m ∈ members base h := mem.mpr of
    have phase : ((compareTimer st cs h).row m).phase = ((compareTimer st base h).row m).phase := by
      by_cases here : m = h
      · rw [here, c.phase, c'.phase, events]
      · rw [c.phases m here, c'.phases m here, rows m of]
    have rest : ((compareTimer st cs h).row m).running = ((compareTimer st base h).row m).running
        ∧ ((compareTimer st cs h).row m).count = ((compareTimer st base h).row m).count := by
      by_cases is : stopsAtB st base h
      · refine ⟨?_, ((c.stopped (stops.mpr is)).2 m (members_eq ▸ in_)).trans ((c'.stopped is).2 m in_).symm⟩
        by_cases here : m = h
        · rw [here, (c.stopped (stops.mpr is)).1, (c'.stopped is).1]
        · rw [c.running m here, c'.running m here, rows m of]
      · refine ⟨?_, by rw [(c.runs (mt stops.mp is)).2, (c'.runs is).2, rows m of]⟩
        by_cases here : m = h
        · rw [here, (c.runs (mt stops.mp is)).1, (c'.runs is).1, rows h own]
        · rw [c.running m here, c'.running m here, rows m of]
    rw [c.rest m (members_eq ▸ in_), c'.rest m in_, phase, rest.1, rest.2, events, rows m of]
  · rw [compareTimer_idle (not_or.mp acts), compareTimer_idle (not_or.mp acts)]
    exact rows m of

end Sys2Proof.Machine
end

section
/-! PROOFS. TIMER STEP: what the whole step leaves of a timer (R99 to R104, R107, R111). -/

namespace Sys2Proof.Machine
variable {o cs : Chans} {h m x : Fin 16} {n : Nat}

/-- A timer wraps in the step. -/
def Chans.wrapsAt (o : Chans) (n : Nat) (h : Fin 16) : Prop := h ∈ (followedStep n o).wrapped

/-- A channel's count once every wrap of the step is followed. -/
def Chans.countAt (o : Chans) (n : Nat) (m : Fin 16) : Nat := ((followedStep n o).cs.row m).count

/-- A timer that moves or wraps arrives at a compare value that lies within its periods. -/
def Chans.arrives (o : Chans) (n : Nat) (h : Fin 16) (at_ : Channel → Nat) : Prop := (o.wrapsAt n h ∨ o.ticks n h)
  ∧ ∀ m ∈ members o h, o.countAt n m = at_ (o.row m) ∧ at_ (o.row m) < (o.row m).set.period

/-- A RUNNING TRIGGER timer stops at B. -/
def Chans.stops (o : Chans) (n : Nat) (h : Fin 16) : Prop := (∃ x, (o.row h).set.sync = .trigger x)
  ∧ (o.row h).running = true ∧ (o.row h).set.stopAtB = true ∧ o.arrives n h fun c => c.set.cmpB

/-! ## The stages of the step -/

/-- The table once PWM has taken its new A. -/
def takenA (n : Nat) (o : Chans) : Chans := (followedStep n o).wrapped.foldl takeA (followedStep n o).cs

/-- The table once the compare events have acted. -/
def compared (n : Nat) (o : Chans) : Chans := (List.finRange 16).foldl (compareTimer (followedStep n o)) (takenA n o)

/-- The turn of a PWM timer at the end of a step. -/
def settlePwm (cs : Chans) (h : Fin 16) : Chans := if head cs h == h && (cs.row h).set.mode == .pwm then settle cs h else cs

theorem stepTimers_eq (n : Nat) (o : Chans) : stepTimers n o =
    ((List.finRange 16).foldl settlePwm (compared n o), (followedStep n o).wrapped) := rfl

theorem wrapped_timer (mem : o.wrapsAt n h) : head o h = h := ((followedStep_followed n o).1.called h mem).1

theorem takenA_row (n : Nat) (o : Chans) (m : Fin 16) : (takenA n o).row m = { o.row m with
    count := o.countAt n m
    running := ((followedStep n o).cs.row m).running
    aInForce := if head o m ∈ (followedStep n o).wrapped ∧ (o.row (head o m)).set.mode = .pwm then (o.row m).set.cmpA
      else (o.row m).aInForce } := by
  have f := (followedStep_followed n o).1
  rw [takenA, foldl_takeA_row _ (fun h mem => wrapped_timer mem) f.sameSet]
  have rest := f.rest m
  unfold Chans.countAt
  generalize (followedStep n o).cs.row m = c at rest ⊢
  rw [rest]

theorem takenA_count (n : Nat) (o : Chans) (m : Fin 16) : ((takenA n o).row m).count = o.countAt n m := by rw [takenA_row]

theorem takenA_running (n : Nat) (o : Chans) (m : Fin 16) :
    ((takenA n o).row m).running = ((followedStep n o).cs.row m).running := by rw [takenA_row]

theorem takenA_aInForce (n : Nat) (o : Chans) (m : Fin 16) : ((takenA n o).row m).aInForce =
    if head o m ∈ (followedStep n o).wrapped ∧ (o.row (head o m)).set.mode = .pwm then (o.row m).set.cmpA
    else (o.row m).aInForce := by rw [takenA_row]

theorem settled_count (cs : Chans) (h : Fin 16) (c : Channel) :
    (settled cs h c).count = if countingHead cs h then c.count else 0 := rfl

theorem settled_running (cs : Chans) (h : Fin 16) (c : Channel) : (settled cs h c).running = c.running := rfl

theorem settled_aInForce (cs : Chans) (h : Fin 16) (c : Channel) : (settled cs h c).aInForce =
    if (cs.row h).set.mode == .pwm && !hasPeriod cs h then c.set.cmpA else c.aInForce := rfl

theorem settled_timerOut (cs : Chans) (h : Fin 16) (c : Channel) : (settled cs h c).timerOut =
    if (cs.row h).set.mode == .steady then c.requested else if (cs.row h).set.mode == .pwm then pwmOut cs h else c.timerOut := rfl

theorem takenA_sameSet (n : Nat) (o : Chans) : Chans.sameSet o (takenA n o) := fun m => by rw [takenA_row]

theorem compareTimer_apart (n : Nat) (same : Chans.sameSet o cs) (other : head o m ≠ h) :
    (compareTimer (followedStep n o) cs h).row m = cs.row m := by
  by_cases acts : h ∈ (followedStep n o).moved ∨ h ∈ (followedStep n o).wrapped
  · have own : head o h = h :=
      acts.elim (fun mem => ((followedStep_followed n o).1.moved h |>.mp mem).1) fun mem => wrapped_timer mem
    refine (compareTimer_compared acts).apart m fun mem => other ?_
    rwa [members_congr same, mem_members_timer own] at mem
  · rw [compareTimer_idle (not_or.mp acts)]

theorem compared_row (n : Nat) (o : Chans) (m : Fin 16) :
    (compared n o).row m = (compareTimer (followedStep n o) (takenA n o) (head o m)).row m := by
  refine foldl_turns (o := o) (R := fun cs => Chans.sameSet o cs) (takenA_sameSet n o)
    (fun cs h same m => (compareTimer_sameSet _ cs h m).trans (same m)) (fun cs h m same other => compareTimer_apart n same other)
    (fun cs h same rows m of => compareTimer_turn (by rw [← of]; exact head_head o m) same (takenA_sameSet n o) rows of) m

theorem compared_sameSet (n : Nat) (o : Chans) : Chans.sameSet o (compared n o) :=
  foldl_holds (fun cs => Chans.sameSet o cs) _ (fun cs h same m => (compareTimer_sameSet _ cs h m).trans (same m)) _ _
    (takenA_sameSet n o)

theorem settlePwm_row (cs : Chans) (h m : Fin 16) : (settlePwm cs h).row m =
    if (head cs h = h ∧ (cs.row h).set.mode = .pwm) ∧ head cs m = h then settled cs h (cs.row m) else cs.row m := by
  unfold settlePwm
  by_cases is : head cs h = h ∧ (cs.row h).set.mode = .pwm
  · rw [if_pos (by rw [Bool.and_eq_true, beq_iff_eq, beq_iff_eq]; exact is), settle_row]
    exact if_congr ((mem_members_timer is.1).trans (and_iff_right is).symm) rfl rfl
  · rw [if_neg (by rw [Bool.and_eq_true, beq_iff_eq, beq_iff_eq]; exact is), if_neg fun both => is both.1]

/-- The table that the step leaves, by the acting mode of the channel. -/
theorem stepped_row (n : Nat) (o : Chans) (m : Fin 16) : (stepTimers n o).1.row m =
    if (o.row (head o m)).set.mode = .pwm then settled (compared n o) (head o m) ((compared n o).row m)
    else (compared n o).row m := by
  have same := compared_sameSet n o
  have turn := foldl_turns (o := o) (f := settlePwm) (base := compared n o) (R := fun cs => Chans.sameTimers (compared n o) cs)
    ⟨fun _ => rfl, fun _ => rfl⟩ (fun cs h r => ?_) (fun cs h m r other => ?_) (fun cs h r rows m of => ?_) m
  · rw [stepTimers_eq, turn, settlePwm_row, head_congr same, head_congr same, same (head o m)]
    exact if_congr ⟨fun is => is.1.2, fun is => ⟨⟨head_head o m, is⟩, rfl⟩⟩ rfl rfl
  · unfold settlePwm
    split
    · exact ⟨fun m => ((settle_sameTimers cs h).1 m).trans (r.1 m), fun m => ((settle_sameTimers cs h).2 m).trans (r.2 m)⟩
    · exact r
  · rw [settlePwm_row, if_neg fun is => other (by rw [← head_congr same, ← head_congr r.1]; exact is.2)]
  · have own : head o h = h := by rw [← of]; exact head_head o m
    have members_iff (i : Fin 16) : i ∈ members (compared n o) h ↔ head o i = h := by
      rw [members_congr same, mem_members_timer own]
    rw [settlePwm_row, settlePwm_row, head_congr r.1, head_congr r.1, r.1 h, rows m of]
    refine if_congr Iff.rfl ?_ rfl
    exact settled_congr r (fun _ _ i mem => by rw [rows i ((members_iff i).mp mem)]; exact ⟨rfl, rfl⟩) _

/-! ## What a timer's turn reads (R100, R107) -/

/-- A timer of the step that moves or wraps. -/
def Chans.acts (o : Chans) (n : Nat) (h : Fin 16) : Prop := o.wrapsAt n h ∨ o.ticks n h

theorem acts_iff (own : head o h = h) : o.acts n h ↔ h ∈ (followedStep n o).moved ∨ h ∈ (followedStep n o).wrapped := by
  rw [(followedStep_followed n o).1.moved, and_iff_right own, or_comm]
  rfl

theorem Chans.wrapsAt.able (wraps : o.wrapsAt n h) : o.able h := by
  obtain ⟨-, ⟨ticks, -⟩ | ⟨_, -, able, -⟩ | ⟨_, -, able, -⟩⟩ := (followedStep_followed n o).1.called h wraps
  · exact ticks.1
  · exact able
  · exact able

/-- A TRIGGER timer that acts runs. -/
theorem runs_of_acts (acts : o.acts n h) (trigger : (o.row h).set.sync = .trigger x) :
    ((followedStep n o).cs.row h).running = true := by
  have f := (followedStep_followed n o).1
  rcases acts with wraps | ⟨-, free, -⟩
  · exact f.runs h wraps x trigger
  · refine f.ran h ?_
    by_contra off
    exact free ⟨⟨x, trigger⟩, Bool.eq_false_iff.mpr off⟩

theorem arrivedAt_takenA {cmp : ChannelSettings → Nat} (acts : o.acts n h) :
    arrivedAt (takenA n o) h cmp = true ↔ o.arrives n h fun c => cmp c.set := by
  rw [arrivedAt_iff, members_congr (takenA_sameSet n o)]
  unfold Chans.arrives
  refine Iff.trans ?_ (and_iff_right acts).symm
  exact forall₂_congr fun m _ => by rw [takenA_row]

theorem stopsAtB_iff (own : head o h = h) (acts : o.acts n h) :
    stopsAtB (followedStep n o) (takenA n o) h ↔ o.stops n h := by
  have f := (followedStep_followed n o).1
  unfold stopsAtB Chans.stops
  rw [arrivedAt_takenA acts, takenA_sameSet n o h, f.started]
  refine and_congr_right fun ⟨x, trigger⟩ => ?_
  constructor
  · rintro ⟨stop, arrives, not⟩
    refine ⟨?_, stop, arrives⟩
    by_contra off
    have held : o.isHeld h := ⟨⟨x, trigger⟩, Bool.eq_false_iff.mpr off⟩
    exact not ⟨acts.resolve_right fun ticks => ticks.2.1 held, held⟩
  · rintro ⟨on, stop, arrives⟩
    refine ⟨stop, arrives, fun is => ?_⟩
    rw [is.2.2] at on
    cases on

theorem Chans.stops.acts (is : o.stops n h) : o.acts n h := is.2.2.2.1

/-! ## The channels of a timer after the step -/

section timer
variable (own : head o h = h)
include own

/-- What the compare events leave of a timer that acts. -/
theorem compared_of_acts (acts : o.acts n h) (of : head o m = h) :
    ((compared n o).row m).timerOut = (eventsOf (takenA n o) h).1
    ∧ (m = h → ((compared n o).row m).phase = (eventsOf (takenA n o) h).2)
    ∧ ((compared n o).row m).aInForce = ((takenA n o).row m).aInForce
    ∧ (o.stops n h → ((compared n o).row m).count = 0)
    ∧ (¬ o.stops n h → ((compared n o).row m).count = o.countAt n m) := by
  have c := compareTimer_compared (cs := takenA n o) ((acts_iff own).mp acts)
  have mem : m ∈ members (takenA n o) h := by rw [members_congr (takenA_sameSet n o), mem_members_timer own]; exact of
  have row := compared_row n o m
  rw [of] at row
  rw [row]
  refine ⟨by rw [c.rest m mem], fun is => by rw [is, c.phase], by rw [c.rest m mem],
    fun stops => (c.stopped ((stopsAtB_iff own acts).mpr stops)).2 m mem, fun goes => ?_⟩
  rw [(c.runs (mt (stopsAtB_iff own acts).mp goes)).2 m, takenA_count]

theorem compared_of_idle (idle : ¬ o.acts n h) (of : head o m = h) : (compared n o).row m = (takenA n o).row m := by
  rw [compared_row, of, compareTimer_idle (not_or.mp (mt (acts_iff own).mpr idle))]

theorem compared_running (n : Nat) : ((compared n o).row h).running = true ↔
    ((followedStep n o).cs.row h).running = true ∧ ¬ o.stops n h := by
  have row := compared_row n o h
  rw [own] at row
  by_cases acts : o.acts n h
  · have c := compareTimer_compared (cs := takenA n o) ((acts_iff own).mp acts)
    by_cases stops : o.stops n h
    · rw [row, (c.stopped ((stopsAtB_iff own acts).mpr stops)).1]
      exact iff_of_false Bool.false_ne_true fun is => is.2 stops
    · rw [row, (c.runs (mt (stopsAtB_iff own acts).mp stops)).1, takenA_running]
      exact (and_iff_left stops).symm
  · rw [compared_of_idle own acts own, takenA_running]
    exact (and_iff_left fun stops => acts stops.acts).symm

/-- Whether the timer runs after the step (R107). -/
theorem stepped_running (n : Nat) : ((stepTimers n o).1.row h).running = true ↔
    ((followedStep n o).cs.row h).running = true ∧ ¬ o.stops n h := by
  rw [stepped_row, own, ← compared_running own]
  split
  · rw [settled_running]
  · exact Iff.rfl

/-- A timer that can count, and stands not HELD, counts on unless it stops at B. -/
theorem compared_counts (able : o.able h) (free : ¬ o.isHeld h ∨ o.wrapsAt n h) :
    countingHead (compared n o) h = true ↔ ¬ o.stops n h := by
  have same := compared_sameSet n o
  rw [countingHead_able, able_congr same, and_iff_right able]
  unfold Chans.isHeld
  rw [same h]
  constructor
  · intro not stops
    refine not ⟨stops.1, ?_⟩
    by_contra on
    exact ((compared_running own n).mp (Bool.not_eq_false _ ▸ on)).2 stops
  · rintro goes ⟨⟨x, trigger⟩, off⟩
    have running : ((followedStep n o).cs.row h).running = true := by
      rcases free with free | wraps
      · refine (followedStep_followed n o).1.ran h ?_
        by_contra was
        exact free ⟨⟨x, trigger⟩, Bool.eq_false_iff.mpr was⟩
      · exact runs_of_acts (.inl wraps) trigger
    rw [(compared_running own n).mpr ⟨running, goes⟩] at off
    cases off

/-- The count of a channel after the step. -/
theorem stepped_count (able : o.able h) (free : ¬ o.isHeld h ∨ o.wrapsAt n h) (of : head o m = h) :
    (o.stops n h → ((stepTimers n o).1.row m).count = 0)
    ∧ (¬ o.stops n h → ((stepTimers n o).1.row m).count = o.countAt n m) := by
  have counts := compared_counts (n := n) own able free
  have before : (o.stops n h → ((compared n o).row m).count = 0)
      ∧ (¬ o.stops n h → ((compared n o).row m).count = o.countAt n m) := by
    by_cases acts : o.acts n h
    · exact (compared_of_acts own acts of).2.2.2
    · refine ⟨fun stops => absurd stops.acts acts, fun _ => ?_⟩
      rw [compared_of_idle own acts of, takenA_count]
  rw [stepped_row, of]
  split
  · rw [settled_count]
    refine ⟨fun stops => ?_, fun goes => ?_⟩
    · rw [if_neg fun is => counts.mp is stops]
    · rw [if_pos (counts.mpr goes)]
      exact before.2 goes
  · exact before

/-- The A in force of a PWM timer that can count, after the step (R104). -/
theorem stepped_aInForce (able : o.able h) (pwm : (o.row h).set.mode = .pwm) (of : head o m = h) :
    (o.wrapsAt n h → ((stepTimers n o).1.row m).aInForce = (o.row m).set.cmpA)
    ∧ (¬ o.wrapsAt n h → ((stepTimers n o).1.row m).aInForce = (o.row m).aInForce)
    ∧ ((stepTimers n o).1.row m).aInForce = ((compared n o).row m).aInForce := by
  have same := compared_sameSet n o
  have period : hasPeriod (compared n o) h = true := by
    rw [hasPeriod_congr same, hasPeriod_iff]
    exact able.2
  have settled_ : ((stepTimers n o).1.row m).aInForce = ((compared n o).row m).aInForce := by
    rw [stepped_row, of, if_pos pwm, settled_aInForce, period, Bool.not_true, Bool.and_false, if_neg Bool.false_ne_true]
  have taken : ((compared n o).row m).aInForce = ((takenA n o).row m).aInForce := by
    by_cases acts : o.acts n h
    · exact (compared_of_acts own acts of).2.2.1
    · rw [compared_of_idle own acts of]
  refine ⟨fun wraps => ?_, fun not => ?_, settled_⟩
  · rw [settled_, taken, takenA_aInForce, of, if_pos ⟨wraps, pwm⟩]
  · rw [settled_, taken, takenA_aInForce, of, if_neg fun is => not is.1]

/-- The output of a PWM timer after the step (R104, R111). -/
theorem stepped_pwm (able : o.able h) (pwm : (o.row h).set.mode = .pwm) (of : head o m = h) :
    ((stepTimers n o).1.row m).timerOut = true ↔
      ¬ ((∃ x, (o.row h).set.sync = .trigger x) ∧ ((stepTimers n o).1.row h).running = false)
      ∧ (∃ i ∈ members o h, ((stepTimers n o).1.row i).aInForce ≠ 0)
      ∧ ((o.row h).set.period ≤ ((stepTimers n o).1.row h).aInForce
        ∨ ((stepTimers n o).1.row h).count < ((stepTimers n o).1.row h).aInForce
        ∨ (paired o h = true ∧ ((stepTimers n o).1.row h).count = ((stepTimers n o).1.row h).aInForce
          ∧ ((stepTimers n o).1.row (partner h)).count < ((stepTimers n o).1.row (partner h)).aInForce)) := by
  have same := compared_sameSet n o
  have row (i : Fin 16) (of : head o i = h) : (stepTimers n o).1.row i = settled (compared n o) h ((compared n o).row i) := by
    rw [stepped_row, of, if_pos pwm]
  have a (i : Fin 16) (of : head o i = h) := (stepped_aInForce (n := n) own able pwm of).2.2
  have out : ((stepTimers n o).1.row m).timerOut = pwmOut (compared n o) h := by
    rw [row m of, settled_timerOut, same h, pwm]
    rfl
  have running : ((stepTimers n o).1.row h).running = ((compared n o).row h).running := by rw [row h own, settled_running]
  have count (going : ¬ ((∃ x, (o.row h).set.sync = .trigger x) ∧ ((compared n o).row h).running = false)) (i : Fin 16)
      (of : head o i = h) : ((stepTimers n o).1.row i).count = ((compared n o).row i).count := by
    rw [row i of, settled_count, if_pos]
    refine countingHead_able.mpr ⟨(able_congr same).mpr able, fun held => going ?_⟩
    unfold Chans.isHeld at held
    rwa [same h] at held
  have low (pair : paired o h = true) : head o (partner h) = h :=
    (mem_members_timer own).mp (mem_members.mpr (.inr ⟨pair, rfl⟩))
  have period : ∀ i ∈ members (compared n o) h, ((compared n o).row i).set.period ≠ 0 := by
    rw [members_congr same]
    intro i mem
    rw [same i]
    exact able.2 i mem
  rw [out, pwmOut_iff, and_iff_right period, members_congr same, paired_congr same, same h, running, a h own]
  refine and_congr_right fun going => and_congr ?_ (or_congr_right (or_congr ?_ (and_congr_right fun pair => ?_)))
  · exact exists_congr fun i => and_congr_right fun mem => by rw [a i ((mem_members_timer own).mp mem)]
  · rw [count going h own]
  · rw [count going h own, count going _ (low pair), a _ (low pair)]

/-- The compare events of a timer that acts, in a mode other than PWM (R101, R102, R103). -/
theorem stepped_events (acts : o.acts n h) (mode : (o.row h).set.mode ≠ .pwm) (of : head o m = h) :
    ((stepTimers n o).1.row m).timerOut = (eventsOf (takenA n o) h).1
    ∧ (m = h → ((stepTimers n o).1.row m).phase = (eventsOf (takenA n o) h).2) := by
  rw [stepped_row, of, if_neg mode]
  exact ⟨(compared_of_acts own acts of).1, (compared_of_acts own acts of).2.1⟩

end timer

end Sys2Proof.Machine
end

section
/-! PROOFS. TIMER STEP: counts, wraps, pairs, compare events and released forcings (R89, R99 to R111). -/

namespace Sys2Proof.Machine
variable {s t u : State} {o d : Chans} {h m ch x : Fin 16} {n : Nat}

/-! ## The forcings released at the wraps (R89) -/

/-- The forcing of a channel awaits the wrap of a timer that wraps. -/
def Chans.releasedBy (o : Chans) (wraps : Fin 16 → Prop) (m : Fin 16) : Prop :=
  (o.row m).status = .awaitingWrap ∧ (o.row m).cutOff = false ∧ wraps (head o m)

/-- The forcings of the channels of `done` are released where their timers wrap. -/
structure Released (o : Chans) (wraps : Fin 16 → Prop) (done : Fin 16 → Prop) (u : State) : Prop where
  unjudged : ∀ m, (u.chans.row m).unjudged = (o.row m).unjudged
  clear : ∀ m, done m → o.releasedBy wraps m → (u.chans.row m).status = .clear
  stands : ∀ m, ¬ (done m ∧ o.releasedBy wraps m) → (u.chans.row m).status = (o.row m).status

theorem State.conductAll_unjudged (s : State) (chs : List (Fin 16)) (m : Fin 16) :
    ((s.conductAll chs).chans.row m).unjudged = (s.chans.row m).unjudged :=
  foldl_holds (fun t : State => (t.chans.row m).unjudged = (s.chans.row m).unjudged) State.conduct
    (fun t c h => (t.conduct_unjudged c m).trans h) chs s rfl

theorem State.releaseAtWrap_row (s : State) (ch : Fin 16) :
    (∀ m, ((s.releaseAtWrap ch).chans.row m).unjudged = (s.chans.row m).unjudged)
    ∧ (∀ m, m ≠ ch → ((s.releaseAtWrap ch).chans.row m).status = (s.chans.row m).status)
    ∧ ((s.chans.row ch).status = .awaitingWrap ∧ (s.chans.row ch).cutOff = false →
        ((s.releaseAtWrap ch).chans.row ch).status = .clear)
    ∧ (¬ ((s.chans.row ch).status = .awaitingWrap ∧ (s.chans.row ch).cutOff = false) →
        ((s.releaseAtWrap ch).chans.row ch).status = (s.chans.row ch).status) := by
  unfold State.releaseAtWrap
  dsimp only
  split
  · rename_i awaits
    refine ⟨fun m => ?_, fun m ne => ?_, fun _ => ?_, fun no => absurd awaits no⟩
    · rw [State.conduct_unjudged, State.setStatus_unjudged]
    · rw [State.conduct_status, State.setChan_chans, Tbl.row_put_ne _ _ ne.symm]
    · rw [State.conduct_status, State.setChan_row]
  · rename_i not
    exact ⟨fun _ => rfl, fun _ _ => rfl, fun is => absurd is not, fun _ => rfl⟩

theorem Released.next {wraps done : Fin 16 → Prop} (r : Released o wraps done u) (fresh : ¬ done ch) {b : Bool}
    (b_iff : b = true ↔ wraps (head o ch)) :
    Released o wraps (fun m => done m ∨ m = ch) (if b then u.releaseAtWrap ch else u) := by
  obtain ⟨unjudged, others, clears, keeps⟩ := u.releaseAtWrap_row ch
  have status := r.stands ch fun is => fresh is.1
  have cut : (u.chans.row ch).cutOff = (o.row ch).cutOff := by
    unfold Channel.cutOff
    rw [Channel.restart_of_unjudged (r.unjudged ch)]
  rw [status, cut] at clears keeps
  by_cases yes : b = true
  · rw [if_pos yes]
    refine ⟨fun m => (unjudged m).trans (r.unjudged m), fun m in_ is => ?_, fun m not => ?_⟩
    · by_cases here : m = ch
      · rw [here] at is ⊢
        exact clears ⟨is.1, is.2.1⟩
      · rw [others m here]
        exact r.clear m (in_.resolve_right here) is
    · by_cases here : m = ch
      · rw [here] at not ⊢
        exact keeps fun is => not ⟨.inr rfl, is.1, is.2, b_iff.mp yes⟩
      · rw [others m here]
        exact r.stands m fun is => not ⟨.inl is.1, is.2⟩
  · rw [if_neg yes]
    have silent {m : Fin 16} (is : o.releasedBy wraps m) : m ≠ ch := fun here => yes (b_iff.mpr (here ▸ is.2.2))
    exact ⟨r.unjudged, fun m in_ is => r.clear m (in_.resolve_right (silent is)) is,
      fun m not => r.stands m fun is => not ⟨.inl is.1, is.2⟩⟩

theorem Released.congr {wraps done done' : Fin 16 → Prop} (r : Released o wraps done u) (same : ∀ m, done' m ↔ done m) :
    Released o wraps done' u := by
  have : done' = done := funext fun m => propext (same m)
  rw [this]
  exact r

theorem Channel.restart_of_untimed {c c' : Channel} (h : c'.untimed = c.untimed) : c'.restart = c.restart :=
  (congrArg Channel.restart h : c'.untimed.restart = c.untimed.restart)

theorem Channel.cutOffs_of_untimed {c c' : Channel} (h : c'.untimed = c.untimed) : c'.cutOffs = c.cutOffs :=
  (congrArg Channel.cutOffs h : c'.untimed.cutOffs = c.untimed.cutOffs)

theorem stepTimers_untimed (n : Nat) (o : Chans) (m : Fin 16) : ((stepTimers n o).1.row m).untimed = (o.row m).untimed := by
  rw [← Chans.row_untimed, ← Chans.row_untimed, Chans.untimed_stepTimers]

theorem stepTimers_sameSet (n : Nat) (o : Chans) : Chans.sameSet o (stepTimers n o).1 := by
  intro m
  have same := stepTimers_untimed n o m
  generalize (stepTimers n o).1 = d at same ⊢
  exact Channel.set_of_untimed same

theorem mem_stepTimers_wrapped : h ∈ (stepTimers n o).2 ↔ o.wrapsAt n h := by
  rw [stepTimers_eq, Chans.wrapsAt]

/-- The forcings are released in ascending channel order. -/
theorem released_all {wraps : Fin 16 → Prop} {l : List (Fin 16)} (mem_l : ∀ h, h ∈ l ↔ wraps h) (at_ : u.chans = o) :
    Released o wraps (fun _ => True)
      ((List.finRange 16).foldl (fun u ch => if l.contains (head u.chans ch) then u.releaseAtWrap ch else u) u) := by
  have fold (chs : List (Fin 16)) (nodup : chs.Nodup) (u : State) (done : Fin 16 → Prop) (r : Released o wraps done u)
      (fresh : ∀ m ∈ chs, ¬ done m) : Released o wraps (fun m => done m ∨ m ∈ chs)
        (chs.foldl (fun u ch => if l.contains (head u.chans ch) then u.releaseAtWrap ch else u) u) := by
    induction chs generalizing u done with
    | nil => exact r.congr fun m => by simp
    | cons a chs ih =>
      obtain ⟨out, nodup⟩ := List.nodup_cons.mp nodup
      have heads : head u.chans a = head o a := head_congr (fun m => Channel.set_of_unjudged (r.unjudged m)) a
      refine (ih nodup _ _ (r.next (fresh a List.mem_cons_self) ?_) fun m mem => ?_).congr fun m => ?_
      · rw [List.contains_iff_mem, heads, mem_l]
      · rintro (was | rfl)
        · exact fresh m (List.mem_cons_of_mem a mem) was
        · exact out mem
      · rw [List.mem_cons, or_assoc]
  exact (fold _ (List.nodup_finRange 16) u (fun _ => False)
    ⟨fun _ => by rw [at_], fun _ is => is.elim, fun _ _ => by rw [at_]⟩ fun _ _ => id).congr
    fun m => iff_of_true trivial (.inr (List.mem_finRange m))

theorem Released.conductAll {wraps done : Fin 16 → Prop} (r : Released o wraps done u) (chs : List (Fin 16)) :
    Released o wraps done (u.conductAll chs) := by
  have stands := u.conductAll_statusesStand chs
  have unjudged := u.conductAll_unjudged chs
  exact ⟨fun m => (unjudged m).trans (r.unjudged m), fun m in_ is => (stands m).trans (r.clear m in_ is),
    fun m not => (stands m).trans (r.stands m not)⟩

/-- A TIMER STEP of state `s`: the step's table but for switches, and the forcings released at its wraps. -/
theorem State.timersStepped_released (s : State) : Released (stepTimers (s.clock + 1) s.chans).1
    (Chans.wrapsAt s.chans (s.clock + 1)) (fun _ => True) s.timersStepped := by
  have mem (h : Fin 16) := mem_stepTimers_wrapped (n := s.clock + 1) (o := s.chans) (h := h)
  unfold State.timersStepped
  dsimp only
  generalize stepTimers (s.clock + 1) s.chans = r at mem ⊢
  refine Released.conductAll ?_ _
  exact released_all mem rfl

end Sys2Proof.Machine
end

section
/-! PROOFS. TIMER STEP: the positions, the compare events by mode, and the whole (R99 to R111). -/

namespace Sys2Proof.Machine
variable {s t : State} {o d : Chans} {h m ch x : Fin 16} {n : Nat}

/-! ## Positions (R99, R111) -/

open Classical in
/-- Where a channel's count stands when the compare events act. -/
noncomputable def Chans.position (o : Chans) (n : Nat) (m : Fin 16) : Nat :=
  if o.acts n (head o m) then o.countAt n m else (o.row m).count

theorem position_of_acts (acts : o.acts n h) (of : head o m = h) : o.position n m = o.countAt n m := by
  unfold Chans.position
  rw [of, if_pos acts]

theorem position_of_idle (idle : ¬ o.acts n h) (of : head o m = h) : o.position n m = (o.row m).count := by
  unfold Chans.position
  rw [of, if_neg idle]

theorem countAt_of_wraps (wraps : o.wrapsAt n h) (of : head o m = h) : o.countAt n m = 0 :=
  (followedStep_followed n o).1.zero m (by rw [of]; exact wraps)

theorem countAt_of_ticks (not : ¬ o.wrapsAt n h) (ticks : o.ticks n h) (of : head o m = h) :
    o.countAt n m = o.advanced h m := by
  have := (followedStep_followed n o).1.count m (by rw [of]; exact not) (.inl (by rw [of]; exact ticks.1))
  unfold Chans.ticksTo at this
  rw [of] at this
  exact this.1 ticks

theorem countAt_of_idle (idle : ¬ o.acts n h) (of : head o m = h)
    (some_ : o.able h ∨ ∀ x, (o.row h).set.sync ≠ .trigger x) : o.countAt n m = (o.row m).count := by
  have := (followedStep_followed n o).1.count m (by rw [of]; exact fun wraps => idle (.inl wraps)) (by rw [of]; exact some_)
  unfold Chans.ticksTo at this
  rw [of] at this
  exact this.2 fun ticks => idle (.inr ticks)

/-- A timer that moves without a wrap has a channel before the end of its period. -/
theorem not_ended (own : head o h = h) (not : ¬ o.wrapsAt n h) (ticks : o.ticks n h) : ¬ ∀ m ∈ members o h, o.atEnd m :=
  fun all => not ((followedStep_followed n o).1.ended h own ticks all)

theorem advanced_single (single : paired o h = false) (m : Fin 16) :
    o.advanced h m = if (o.row m).set.period ≤ (o.row m).count + 1 then 0 else (o.row m).count + 1 := by
  unfold Chans.advanced
  rw [if_neg fun is => Bool.false_ne_true (single.symm.trans is.1)]

/-- The positions of a timer that moves without a wrap. -/
theorem moved_positions (own : head o h = h) (not : ¬ o.wrapsAt n h) (ticks : o.ticks n h) :
    (paired o h = false → o.position n h = (o.row h).count + 1)
    ∧ (paired o h = true →
      (o.atEnd (partner h) → o.position n (partner h) = 0 ∧ o.position n h = (o.row h).count + 1)
      ∧ (¬ o.atEnd (partner h) → o.position n (partner h) = (o.row (partner h)).count + 1
        ∧ o.position n h = (o.row h).count)) := by
  have before := not_ended own not ticks
  have at_ {m : Fin 16} (of : head o m = h) : o.position n m = o.advanced h m :=
    (position_of_acts (.inr ticks) of).trans (countAt_of_ticks not ticks of)
  unfold Chans.atEnd at before ⊢
  refine ⟨fun single => ?_, fun pair => ?_⟩
  · rw [at_ own, advanced_single single, if_neg]
    intro ends
    refine before fun m mem => ?_
    rcases mem_members.mp mem with rfl | ⟨pair, -⟩
    · exact ends
    · rw [single] at pair; cases pair
  · have low : head o (partner h) = h := (mem_members_timer own).mp (mem_members.mpr (.inr ⟨pair, rfl⟩))
    have ne := partner_ne h
    rw [at_ own, at_ low]
    unfold Chans.advanced
    refine ⟨fun ends => ?_, fun more => ?_⟩
    · rw [if_neg fun is => ne is.2.1, if_pos ends, if_neg fun is => absurd is.2.2 (Nat.not_lt.mpr ends), if_neg]
      · exact ⟨rfl, rfl⟩
      · intro high
        refine before fun m mem => ?_
        rcases mem_members.mp mem with rfl | ⟨-, rfl⟩
        · exact high
        · exact ends
    · rw [if_neg fun is => ne is.2.1, if_neg more, if_pos ⟨pair, rfl, Nat.lt_of_not_le more⟩]
      exact ⟨rfl, rfl⟩

theorem arrives_iff (own : head o h = h) (at_ : Channel → Nat) : o.arrives n h at_ ↔ (o.wrapsAt n h ∨ o.ticks n h)
    ∧ ∀ m ∈ members o h, o.position n m = at_ (o.row m) ∧ at_ (o.row m) < (o.row m).set.period := by
  unfold Chans.arrives
  refine and_congr_right fun acts => forall₂_congr fun m mem => ?_
  rw [position_of_acts acts ((mem_members_timer own).mp mem)]

/-! ## The compare events by mode (R101 to R103) -/

/-- What the compare events of a timer read of the table before the step. -/
theorem eventsOf_takenA (acts : o.acts n h) {a b : Bool} (a_iff : a = true ↔ o.arrives n h fun c => c.set.cmpA)
    (b_iff : b = true ↔ o.arrives n h fun c => c.set.cmpB) :
    eventsOf (takenA n o) h = compareEvents (o.row h).set.mode (o.row h).phase (o.row h).timerOut a b := by
  have at_a : arrivedAt (takenA n o) h ChannelSettings.cmpA = a := Bool.eq_iff_iff.mpr ((arrivedAt_takenA acts).trans a_iff.symm)
  have at_b : arrivedAt (takenA n o) h ChannelSettings.cmpB = b := Bool.eq_iff_iff.mpr ((arrivedAt_takenA acts).trans b_iff.symm)
  unfold eventsOf
  rw [at_a, at_b, takenA_row]

/-- What the compare events make of an output and a phase, by the mode. -/
structure EventsRead (mode : TimerMode) (phase phase' : PulsePhase) (out out' : Bool) (a b : Prop) : Prop where
  setAtA : mode = .setAtA → (out' = true ↔ out = true ∨ a)
  clearAtA : mode = .clearAtA → (out' = true ↔ out = true ∧ ¬ a)
  toggleAtA : mode = .toggleAtA → (out' ≠ out ↔ a)
  pulse : mode = .pulseOnce ∨ mode = .pulseRepeat →
    (phase = .waitA → a → out' = true ∧ phase' = .waitB)
    ∧ (phase = .waitA → ¬ a → out' = out ∧ phase' = .waitA)
    ∧ (phase = .waitB → ¬ b → out' = out ∧ phase' = .waitB)
  once : mode = .pulseOnce → (phase = .waitB → b → out' = false ∧ phase' = .finished)
    ∧ (phase = .finished → out' = out ∧ phase' = .finished)
  repeats : mode = .pulseRepeat → phase = .waitB → b →
    (out' = true ↔ a) ∧ (phase' = .waitB ↔ a) ∧ (phase' = .waitA ↔ ¬ a)

theorem compareEvents_reads (mode : TimerMode) (phase : PulsePhase) (out a b : Bool) :
    EventsRead mode phase (compareEvents mode phase out a b).2 out (compareEvents mode phase out a b).1 (a = true) (b = true) := by
  constructor
  · rintro rfl; simp [compareEvents]
  · rintro rfl; simp [compareEvents]
  · rintro rfl; cases out <;> cases a <;> simp [compareEvents]
  · rintro (rfl | rfl)
    · refine ⟨?_, ?_, ?_⟩ <;> rintro rfl h <;> simp [compareEvents, h]
    · refine ⟨?_, ?_, ?_⟩ <;> rintro rfl h <;> simp [compareEvents, h]
  · rintro rfl
    refine ⟨?_, ?_⟩
    · rintro rfl h; simp [compareEvents, h]
    · rintro rfl; simp [compareEvents]
  · rintro rfl rfl h
    cases a <;> simp [compareEvents, h]

theorem EventsRead.congr {mode : TimerMode} {phase phase' : PulsePhase} {out out' : Bool} {a b a' b' : Prop}
    (e : EventsRead mode phase phase' out out' a b) (same : a ↔ a') (same' : b ↔ b') :
    EventsRead mode phase phase' out out' a' b' := by
  rwa [← propext same, ← propext same']

open Classical in
/-- The compare events of a timer that moves or wraps, in a mode other than PWM (R100 to R103, R111). -/
theorem stepped_reads (own : head o h = h) (acts : o.acts n h) (mode : (o.row h).set.mode ≠ .pwm) (of : head o m = h) :
    EventsRead (o.row h).set.mode (o.row h).phase ((stepTimers n o).1.row h).phase (o.row h).timerOut
      ((stepTimers n o).1.row m).timerOut (o.arrives n h fun c => c.set.cmpA) (o.arrives n h fun c => c.set.cmpB) := by
  have events := eventsOf_takenA (n := n) (h := h) (o := o) acts (a := decide (o.arrives n h fun c => c.set.cmpA))
    (b := decide (o.arrives n h fun c => c.set.cmpB)) decide_eq_true_iff decide_eq_true_iff
  rw [(stepped_events own acts mode own).2 rfl, (stepped_events own acts mode of).1, events]
  exact (compareEvents_reads _ _ _ _ _).congr decide_eq_true_iff decide_eq_true_iff

end Sys2Proof.Machine
end

section
/-! PROOFS. TIMER STEP: the step of the part, and timers of FREE sync (R99 to R104). -/

namespace Sys2Proof.Machine
variable {s t : State} {o d : Chans} {h m ch x : Fin 16} {n : Nat}

/-! ## The step of the part -/

/-- The fields of a channel that the timers move. -/
def Channel.timing (c : Channel) : Nat × Bool × Nat × PulsePhase × Bool := (c.count, c.timerOut, c.aInForce, c.phase, c.running)

theorem Channel.timing_of_unjudged {c c' : Channel} (h : c'.unjudged = c.unjudged) : c'.timing = c.timing :=
  (congrArg Channel.timing h : c'.unjudged.timing = c.unjudged.timing)

/-- What a TIMER STEP leaves of the part: `d` is the table of the timers' step. -/
structure State.TimersStep (s t : State) (d : Chans) : Prop where
  clock : t.clock = s.clock + 1
  frame : t = { s with
    clock := t.clock, chans := t.chans, handed := t.handed, scan := { s.scan with genA := t.scan.genA, genB := t.scan.genB } }
  count : ∀ m, (t.chans.row m).count = (d.row m).count
  out : ∀ m, (t.chans.row m).timerOut = (d.row m).timerOut
  aInForce : ∀ m, (t.chans.row m).aInForce = (d.row m).aInForce
  phase : ∀ m, (t.chans.row m).phase = (d.row m).phase
  running : ∀ m, (t.chans.row m).running = (d.row m).running
  kept : ∀ m, (t.chans.row m).set = (s.chans.row m).set ∧ (t.chans.row m).requested = (s.chans.row m).requested
    ∧ (t.chans.row m).restart = (s.chans.row m).restart ∧ (t.chans.row m).cutOffs = (s.chans.row m).cutOffs
  clear : ∀ m, Chans.releasedBy s.chans (Chans.wrapsAt s.chans (s.clock + 1)) m → (t.chans.row m).status = .clear
  stands : ∀ m, ¬ Chans.releasedBy s.chans (Chans.wrapsAt s.chans (s.clock + 1)) m →
    (t.chans.row m).status = (s.chans.row m).status

theorem Channel.kept_of_unjudged {c c' : Channel} (h : c'.unjudged = c.unjudged) : c'.set = c.set ∧ c'.requested = c.requested
    ∧ c'.restart = c.restart ∧ c'.cutOffs = c.cutOffs :=
  ⟨Channel.set_of_unjudged h, Channel.requestedOf_unjudged h, Channel.restart_of_unjudged h,
    (congrArg Channel.cutOffs h : c'.unjudged.cutOffs = c.unjudged.cutOffs)⟩

theorem releasedBy_stepTimers {wraps : Fin 16 → Prop} :
    (stepTimers n o).1.releasedBy wraps m ↔ o.releasedBy wraps m := by
  have untimed := stepTimers_untimed n o m
  have same := stepTimers_sameSet n o
  generalize (stepTimers n o).1 = d at untimed same ⊢
  unfold Chans.releasedBy Channel.cutOff
  rw [Channel.status_of_untimed untimed, Channel.restart_of_untimed untimed, head_congr same]

theorem exec_timerStep_steps (running : s.inReset = false) :
    ∃ t, exec .timerStep s = .next t ∧ s.TimersStep t (stepTimers (s.clock + 1) s.chans).1 := by
  have released := (s.take .timerStep).timersStepped_released
  have frame := (s.take .timerStep).timersStepped_frame
  have gens := (s.take .timerStep).timersStepped.tickGenerators_eq
  have untimed := stepTimers_untimed (s.clock + 1) s.chans
  have by_ (m : Fin 16) := releasedBy_stepTimers (n := s.clock + 1) (o := s.chans) (m := m)
    (wraps := Chans.wrapsAt s.chans (s.clock + 1))
  refine ⟨_, exec_timerStep running, ?_⟩
  change Released (stepTimers (s.clock + 1) s.chans).1 (Chans.wrapsAt s.chans (s.clock + 1)) _ _ at released
  generalize (s.take .timerStep).timersStepped = u at released frame gens
  have chans : u.tickGenerators.chans = u.chans := by rw [gens]
  generalize stepTimers (s.clock + 1) s.chans = r at released untimed by_ ⊢
  have timing (m : Fin 16) : (u.tickGenerators.chans.row m).timing = (r.1.row m).timing := by
    rw [chans]
    exact Channel.timing_of_unjudged (released.unjudged m)
  refine ⟨?_, ?_, fun m => congrArg Prod.fst (timing m), fun m => congrArg (·.2.1) (timing m),
    fun m => congrArg (·.2.2.1) (timing m), fun m => congrArg (·.2.2.2.1) (timing m), fun m => congrArg (·.2.2.2.2) (timing m),
    fun m => ?_, fun m is => ?_, fun m not => ?_⟩
  · rw [gens, frame]
    rfl
  · generalize u.tickGenerators = v at gens chans
    rw [gens, frame]
    rfl
  · rw [chans]
    obtain ⟨set, requested, restart, cutOffs⟩ := Channel.kept_of_unjudged (released.unjudged m)
    obtain ⟨requested', _, restart', cutOffs', _⟩ := Channel.kept_of_untimed (untimed m)
    have set' := Channel.set_of_untimed (untimed m)
    exact ⟨set.trans set', requested.trans requested', restart.trans restart', cutOffs.trans cutOffs'⟩
  · rw [chans]
    exact released.clear m trivial ((by_ m).mpr is)
  · rw [chans, released.stands m fun is => not ((by_ m).mp is.2)]
    exact Channel.status_of_untimed (untimed m)

/-! ## A single timer of FREE sync (R99, R104) -/

theorem mem_members_single (single : paired o h = false) : m ∈ members o h ↔ m = h := by
  rw [mem_members, single]
  simp

theorem able_single (single : paired o h = false) :
    o.able h ↔ (o.row h).set.mode ≠ .steady ∧ (o.row h).set.period ≠ 0 := by
  unfold Chans.able
  simp only [mem_members_single single, forall_eq]

theorem untriggered_of_free (free : (o.row h).set.sync = .free) (x : Fin 16) : (o.row h).set.sync ≠ .trigger x := by
  rw [free]
  exact (nomatch ·)

theorem not_isHeld_of_free (free : (o.row h).set.sync = .free) : ¬ o.isHeld h := fun held =>
  let ⟨x, trigger⟩ := held.1
  untriggered_of_free free x trigger

theorem not_stops_of_free (free : (o.row h).set.sync = .free) : ¬ o.stops n h := fun stops =>
  let ⟨x, trigger⟩ := stops.1
  untriggered_of_free free x trigger

theorem ticks_single (single : paired o h = false) (free : (o.row h).set.sync = .free) :
    o.ticks n h ↔ (o.row h).set.mode ≠ .steady ∧ (o.row h).set.period ≠ 0 ∧ n % (o.row h).set.tick.micros = 0 := by
  unfold Chans.ticks
  simp only [able_single single, not_isHeld_of_free free, not_false_eq_true, true_and, single, Bool.false_eq_true, if_false,
    and_assoc]

theorem wrapsAt_free (own : head o h = h) (single : paired o h = false) (free : (o.row h).set.sync = .free) :
    o.wrapsAt n h ↔ o.ticks n h ∧ o.atEnd h := by
  have followed := (followedStep_followed n o).1
  refine ⟨fun wraps => ?_, fun ⟨ticks, atEnd⟩ => followed.ended h own ticks fun m mem =>
    (mem_members_single single).mp mem ▸ atEnd⟩
  obtain ⟨_, ⟨ticks, atEnd⟩ | ⟨x, sync, _⟩ | ⟨x, trigger, _⟩⟩ := followed.called h wraps
  · exact ⟨ticks, atEnd h (head_mem_members o h)⟩
  · rw [free] at sync
    cases sync
  · rw [free] at trigger
    cases trigger

theorem acts_free (own : head o h = h) (single : paired o h = false) (free : (o.row h).set.sync = .free) :
    o.acts n h ↔ o.ticks n h := by
  unfold Chans.acts
  rw [wrapsAt_free own single free]
  exact or_iff_right_of_imp And.left

/-- The count of a timer of FREE sync at the step. -/
theorem countAt_free (own : head o h = h) (single : paired o h = false) (free : (o.row h).set.sync = .free) :
    (o.ticks n h → o.countAt n h = if (o.row h).set.period ≤ (o.row h).count + 1 then 0 else (o.row h).count + 1)
    ∧ (¬ o.ticks n h → o.countAt n h = (o.row h).count) := by
  refine ⟨fun ticks => ?_, fun idle => countAt_of_idle (mt (acts_free own single free).mp idle) own
    (.inr (untriggered_of_free free))⟩
  by_cases atEnd : o.atEnd h
  · rw [countAt_of_wraps ((wrapsAt_free own single free).mpr ⟨ticks, atEnd⟩) own]
    exact (if_pos atEnd).symm
  · rw [countAt_of_ticks (fun wraps => atEnd ((wrapsAt_free own single free).mp wraps).2) ticks own,
      advanced_single single]

theorem stepped_count_free (own : head o h = h) (free : (o.row h).set.sync = .free)
    (able : o.able h) : ((stepTimers n o).1.row h).count = o.countAt n h :=
  (stepped_count own able (.inl (not_isHeld_of_free free)) own).2 (not_stops_of_free free)

/-- A timer that stands at 0 and does not advance stays there. -/
theorem stepped_count_zero (own : head o h = h) (single : paired o h = false) (free : (o.row h).set.sync = .free)
    (idle : ¬ o.ticks n h) (zero : (o.row h).count = 0) : ((stepTimers n o).1.row h).count = 0 := by
  have at_ : ((compared n o).row h).count = 0 := by
    rw [compared_of_idle own (mt (acts_free own single free).mp idle) own, takenA_count,
      (countAt_free own single free).2 idle, zero]
  rw [stepped_row, own]
  split
  · rw [settled_count]
    split
    · exact at_
    · rfl
  · exact at_

/-- A and the output of a PWM timer of FREE sync. -/
theorem stepped_pwm_free (own : head o h = h) (single : paired o h = false) (free : (o.row h).set.sync = .free)
    (pwm : (o.row h).set.mode = .pwm) (period : (o.row h).set.period ≠ 0) :
    (o.ticks n h ∧ o.atEnd h → ((stepTimers n o).1.row h).aInForce = (o.row h).set.cmpA)
    ∧ (¬ (o.ticks n h ∧ o.atEnd h) → ((stepTimers n o).1.row h).aInForce = (o.row h).aInForce)
    ∧ (((stepTimers n o).1.row h).timerOut = true ↔ 0 < ((stepTimers n o).1.row h).aInForce
      ∧ ((o.row h).set.period ≤ ((stepTimers n o).1.row h).aInForce
        ∨ ((stepTimers n o).1.row h).count < ((stepTimers n o).1.row h).aInForce)) := by
  have able : o.able h := (able_single single).mpr ⟨by rw [pwm]; decide, period⟩
  obtain ⟨taken, stands, -⟩ := stepped_aInForce (n := n) own able pwm own
  have out := stepped_pwm (n := n) own able pwm own
  rw [← wrapsAt_free own single free]
  refine ⟨taken, stands, out.trans ?_⟩
  have untriggered : ¬ ∃ x, (o.row h).set.sync = .trigger x := fun ⟨x, trigger⟩ => untriggered_of_free free x trigger
  simp only [untriggered, false_and, not_false_eq_true, true_and, mem_members_single single, exists_eq_left, single,
    Bool.false_eq_true, or_false, Nat.pos_iff_ne_zero]

theorem countAt_lt (own : head o h = h) (single : paired o h = false) (free : (o.row h).set.sync = .free)
    (ticks : o.ticks n h) : o.countAt n h < (o.row h).set.period := by
  have period := ((ticks_single single free).mp ticks).2.1
  rw [(countAt_free own single free).1 ticks]
  split <;> omega

/-- What a timer of FREE sync that advances makes of its events. -/
theorem stepped_reads_free (own : head o h = h) (single : paired o h = false) (free : (o.row h).set.sync = .free)
    (ticks : o.ticks n h) (mode : (o.row h).set.mode ≠ .pwm) :
    EventsRead (o.row h).set.mode (o.row h).phase ((stepTimers n o).1.row h).phase (o.row h).timerOut
      ((stepTimers n o).1.row h).timerOut (((stepTimers n o).1.row h).count = (o.row h).set.cmpA)
      (((stepTimers n o).1.row h).count = (o.row h).set.cmpB) := by
  have lt := countAt_lt own single free ticks
  have arrives (at_ : Channel → Nat) : o.arrives n h at_ ↔ ((stepTimers n o).1.row h).count = at_ (o.row h) := by
    rw [stepped_count_free own free ticks.1]
    unfold Chans.arrives
    simp only [mem_members_single single, forall_eq, ticks, or_true, true_and]
    exact ⟨And.left, fun e => ⟨e, e ▸ lt⟩⟩
  exact (stepped_reads own ((acts_free own single free).mpr ticks) mode own).congr (arrives _) (arrives _)

end Sys2Proof.Machine
end

section
/-! PROOFS. TIMER STEP (R89, R99 to R111). -/

namespace Sys2Proof.Machine
variable {s t : State} {o d : Chans} {h m ch x : Fin 16} {n : Nat}

/-! ## Every timer (R100 to R111) -/

/-- Whether a TRIGGER timer is RUNNING after a step. -/
theorem stepped_running_trigger (own : head o h = h) (trigger : (o.row h).set.sync = .trigger x) :
    ((stepTimers n o).1.row h).running = true ↔
      ((o.row h).running = true ∧ ¬ o.stops n h) ∨ ((o.row h).running = false ∧ o.wrapsAt n (head o x)) := by
  obtain ⟨followed, rests⟩ := followedStep_followed n o
  rw [stepped_running own n, followed.running_iff rests own trigger]
  have of_stops (stops : o.stops n h) : (o.row h).running = true := stops.2.1
  constructor
  · rintro ⟨run | fired, not⟩
    · exact .inl ⟨run, not⟩
    · exact .inr fired
  · rintro (⟨run, not⟩ | ⟨off, wraps⟩)
    · exact ⟨.inl run, not⟩
    · exact ⟨.inr ⟨off, wraps⟩, fun stops => by rw [of_stops stops] at off; cases off⟩

theorem stepped_running_other (own : head o h = h) (untriggered : ∀ x, (o.row h).set.sync ≠ .trigger x) :
    ((stepTimers n o).1.row h).running = (o.row h).running := by
  have followed := (followedStep_followed n o).1
  have not_stops : ¬ o.stops n h := fun stops =>
    let ⟨x, trigger⟩ := stops.1
    untriggered x trigger
  rw [Bool.eq_iff_iff, stepped_running own n]
  refine ⟨fun ⟨run, _⟩ => ?_, fun run => ⟨followed.ran h run, not_stops⟩⟩
  by_contra off
  obtain ⟨_, x, trigger, _⟩ := followed.fired h (eq_false_of_ne_true off) run
  exact untriggered x trigger

theorem stops_iff (own : head o h = h) : o.stops n h ↔ (∃ x, (o.row h).set.sync = .trigger x) ∧ (o.row h).running = true
    ∧ (o.row h).set.stopAtB = true ∧ (o.wrapsAt n h ∨ o.ticks n h)
    ∧ ∀ m ∈ members o h, o.position n m = (o.row m).set.cmpB ∧ (o.row m).set.cmpB < (o.row m).set.period := by
  unfold Chans.stops
  rw [arrives_iff own]

theorem stepped_count_position (own : head o h = h) (free : o.able h ∧ ¬ o.isHeld h ∨ o.wrapsAt n h) (of : head o m = h) :
    (o.stops n h → ((stepTimers n o).1.row m).count = 0)
    ∧ (¬ o.stops n h → ((stepTimers n o).1.row m).count = o.position n m) := by
  have able : o.able h := free.elim And.left Chans.wrapsAt.able
  obtain ⟨stopped, runs⟩ := stepped_count (n := n) own able (free.imp And.right id) of
  refine ⟨stopped, fun not => (runs not).trans ?_⟩
  by_cases acts : o.acts n h
  · exact (position_of_acts acts of).symm
  · rw [position_of_idle acts of, countAt_of_idle acts of (.inl able)]

/-- What a timer in PULSE_ONCE makes of its events. -/
theorem EventsRead.of_pulseOnce {mode : TimerMode} {phase phase' : PulsePhase} {out out' : Bool} {a b : Prop}
    (e : EventsRead mode phase phase' out out' a b) (is : mode = .pulseOnce) :
    (phase = .waitA → a → out' = true ∧ phase' = .waitB)
    ∧ (phase = .waitB → b → out' = false ∧ phase' = .finished)
    ∧ (phase = .finished ∨ (phase = .waitA ∧ ¬ a) ∨ (phase = .waitB ∧ ¬ b) → out' = out ∧ phase' = phase) := by
  obtain ⟨rise, waits, waits'⟩ := e.pulse (.inl is)
  obtain ⟨falls, finished⟩ := e.once is
  refine ⟨rise, falls, ?_⟩
  rintro (rfl | ⟨rfl, not⟩ | ⟨rfl, not⟩)
  · exact finished rfl
  · exact waits rfl not
  · exact waits' rfl not

/-- What a timer in PULSE_REPEAT makes of its events. -/
theorem EventsRead.of_pulseRepeat {mode : TimerMode} {phase phase' : PulsePhase} {out out' : Bool} {a b : Prop}
    (e : EventsRead mode phase phase' out out' a b) (is : mode = .pulseRepeat) :
    (phase = .waitA → a → out' = true ∧ phase' = .waitB)
    ∧ (phase = .waitB → b → ¬ a → out' = false ∧ phase' = .waitA)
    ∧ (phase = .waitB → b → a → out' = true ∧ phase' = .waitB)
    ∧ ((phase = .waitA ∧ ¬ a) ∨ (phase = .waitB ∧ ¬ b) → out' = out ∧ phase' = phase) := by
  obtain ⟨rise, waits, waits'⟩ := e.pulse (.inr is)
  refine ⟨rise, fun at_ ends not => ?_, fun at_ ends arrives => ?_, ?_⟩
  · obtain ⟨rises, -, phase⟩ := e.repeats is at_ ends
    exact ⟨eq_false_of_ne_true (mt rises.mp not), phase.mpr not⟩
  · obtain ⟨rises, phase, -⟩ := e.repeats is at_ ends
    exact ⟨rises.mpr arrives, phase.mpr arrives⟩
  · rintro (⟨rfl, not⟩ | ⟨rfl, not⟩)
    · exact waits rfl not
    · exact waits' rfl not

/-- Settles O35: the timers' step is followed timer by timer; the wraps are the least set closed under the rule. -/
theorem timerStepCountsAndCompares : Obligations.TimerStepCountsAndCompares := by
  unfold Obligations.TimerStepCountsAndCompares
  refine ⟨fun s running => ?_, fun s ch running own single free period due => ?_, fun s running => ?_⟩
  · obtain ⟨t, runs, step⟩ := exec_timerStep_steps running
    refine ⟨t, runs, step.clock, fun ch own single free => ?_, step.kept, step.frame⟩
    simp only [step.count, step.aInForce, step.out, ← ticks_single (n := s.clock + 1) single free]
    refine ⟨fun ticks => ?_, fun idle zero => stepped_count_zero own single free idle zero, fun idle mode period => ?_,
      fun pwm period => ?_⟩
    · rw [stepped_count_free own free ticks.1, (countAt_free own single free).1 ticks]
    · rw [stepped_count_free own free ((able_single single).mpr ⟨mode, period⟩), (countAt_free own single free).2 idle]
    · obtain ⟨taken, stands, out⟩ := stepped_pwm_free (n := s.clock + 1) own single free pwm period
      have ends := and_congr_left' (c := Chans.atEnd s.chans ch) (ticks_single (n := s.clock + 1) single free)
      refine ⟨?_, out⟩
      by_cases is : Chans.ticks s.chans (s.clock + 1) ch ∧ Chans.atEnd s.chans ch
      · exact (taken is).trans (if_pos (ends.mp is)).symm
      · exact (stands is).trans (if_neg (mt ends.mpr is)).symm
  · obtain ⟨t, runs, step⟩ := exec_timerStep_steps running
    refine ⟨t, runs, ?_⟩
    simp only [step.count, step.out, step.phase]
    have reads (mode : (s.chans.row ch).set.mode ≠ .steady ∧ (s.chans.row ch).set.mode ≠ .pwm) :=
      stepped_reads_free own single free ((ticks_single (n := s.clock + 1) single free).mpr ⟨mode.1, period, due⟩) mode.2
    refine ⟨fun mode => (reads (by rw [mode]; decide)).setAtA mode, fun mode => (reads (by rw [mode]; decide)).clearAtA mode,
      fun mode => (reads (by rw [mode]; decide)).toggleAtA mode,
      fun mode => (reads (by rw [mode]; decide)).of_pulseOnce mode,
      fun mode => (reads (by rw [mode]; decide)).of_pulseRepeat mode⟩
  · obtain ⟨t, runs, step⟩ := exec_timerStep_steps running
    obtain ⟨followed, rests⟩ := followedStep_followed (s.clock + 1) s.chans
    refine ⟨t, Chans.wrapsAt s.chans (s.clock + 1), Chans.position s.chans (s.clock + 1), runs, followed.wraps_iff rests,
      followed.least, fun ch => ⟨step.clear ch, step.stands ch⟩, fun h own => ?_⟩
    change head s.chans h = h at own
    simp only [step.count, step.out, step.phase, step.running, step.aInForce]
    have of {m : Fin 16} : m ∈ members s.chans h → head s.chans m = h := (mem_members_timer own).mp
    have stops := stops_iff (n := s.clock + 1) own
    have arrives (at_ : Channel → Nat) := arrives_iff (n := s.clock + 1) own at_
    refine ⟨fun wraps m mem => ?_, fun not moves => moved_positions own not moves, fun not idle m mem => ?_,
      fun free m mem => ?_, fun x trigger => ?_, fun untriggered => stepped_running_other own untriggered,
      fun pwm able m mem => ?_, fun acts m mem => ?_⟩
    · exact (position_of_acts (.inl wraps) (of mem)).trans (countAt_of_wraps wraps (of mem))
    · exact position_of_idle (not_or.mpr ⟨not, idle⟩) (of mem)
    · obtain ⟨stopped, runs⟩ := stepped_count_position own free (of mem)
      exact ⟨fun is => stopped (stops.mpr is), fun not => runs (mt stops.mp not)⟩
    · exact (stepped_running_trigger own trigger).trans (or_congr_left (and_congr_right fun _ => not_congr stops))
    · obtain ⟨taken, stands, -⟩ := stepped_aInForce (n := s.clock + 1) own able pwm (of mem)
      exact ⟨taken, stands, stepped_pwm own able pwm (of mem)⟩
    · have reads (mode : (s.chans.row h).set.mode ≠ .pwm) :=
        (stepped_reads own acts mode (of mem)).congr (arrives _) (arrives _)
      refine ⟨fun mode => ?_, fun mode => ?_, fun mode => ?_, fun mode => ?_, fun mode => ?_, fun mode => ?_⟩
      · exact (reads (by rw [mode]; decide)).setAtA mode
      · exact (reads (by rw [mode]; decide)).clearAtA mode
      · exact (reads (by rw [mode]; decide)).toggleAtA mode
      · refine (reads ?_).pulse mode
        rcases mode with mode | mode <;> rw [mode] <;> decide
      · exact (reads (by rw [mode]; decide)).once mode
      · exact (reads (by rw [mode]; decide)).repeats mode

end Sys2Proof.Machine
end

section
/-! PROOFS. REQ: the fields of a written image read back as they were written (R182, R190, R193). -/

namespace Sys2Proof.Machine
variable {s t n : State} {w o : List Byte} {b : Byte}

/-! ## The fields of an image -/

theorem u8_of_fin? {k : Nat} {i : Fin k} (h : fin? k b = some i) : u8 i.val = b := by
  rw [← (fin?_eq_some_iff b i).mp h, u8, BitVec.ofNat_toNat, BitVec.setWidth_eq]

theorem u8_toNat (b : Byte) : BitVec.ofNat 8 b.toNat = b := by rw [BitVec.ofNat_toNat, BitVec.setWidth_eq]

theorem flagByte_of_flag? {v : Bool} (h : flag? b = some v) : flagByte v = b := by
  rw [← u8_toNat b, flag?_eq_some_iff.mp h]
  cases v <;> rfl

theorem refByte_of_ref? {k : Nat} {r : Option (Fin k)} (h : ref? k b = some r) : refByte r = b := by
  unfold ref? at h
  split at h
  · rename_i none_
    cases h
    exact none_.symm
  · obtain ⟨i, is, rfl⟩ := Option.map_eq_some_iff.mp h
    exact u8_of_fin? is

/-- A code reads back, where each value's byte is its place in the list of values. -/
theorem byte_of_code? {α : Type} {values : List α} {byte : α → Byte} {a : α} (h : code? values b = some a)
    (places : ∀ i (lt : i < values.length), byte values[i] = BitVec.ofNat 8 i) : byte a = b := by
  obtain ⟨lt, rfl⟩ := List.getElem?_eq_some_iff.mp h
  rw [places, u8_toNat]

/-- A quantity written as a code reads back clamped to the last code. -/
theorem byte_of_codeOrLast {α : Type} {values : List α} {last : α} {byte : α → Byte}
    (places : ∀ i (lt : i < values.length), byte values[i] = BitVec.ofNat 8 i)
    (ends : byte last = BitVec.ofNat 8 values.length) :
    byte (codeOrLast values last b) = BitVec.ofNat 8 (max 0 (min b.toNat values.length)) := by
  unfold codeOrLast
  by_cases lt : b.toNat < values.length
  · rw [List.getD_eq_getElem _ _ lt, places, Nat.min_eq_left (Nat.le_of_lt lt), Nat.zero_max]
  · rw [List.getD_eq_default _ _ (Nat.le_of_not_lt lt), ends, Nat.min_eq_right (Nat.le_of_not_lt lt), Nat.zero_max]

theorem imgNum_eq (w : List Byte) (k : Nat) :
    imgNum w k = (w.getD k 0).toNat * 256 + (w.getD (k + 1) 0).toNat := by
  unfold imgNum imgWord imgByte
  rw [BitVec.toNat_append, ← Nat.shiftLeft_add_eq_or_of_lt (w.getD (k + 1) 0).isLt, Nat.shiftLeft_eq]

theorem bytesOf16_imgWord (w : List Byte) (k : Nat) : bytesOf16 (imgWord w k) = [w.getD k 0, w.getD (k + 1) 0] :=
  bytesOf16_append _ _

theorem u16_imgNum (w : List Byte) (k : Nat) : u16 (imgNum w k) = [w.getD k 0, w.getD (k + 1) 0] := by
  unfold u16 imgNum
  rw [BitVec.ofNat_toNat, BitVec.setWidth_eq, bytesOf16_imgWord]

/-- A quantity clamped as it was written. -/
theorem u16_clamp (w : List Byte) (low high k : Nat) :
    u16 (clamp low high (imgNum w k)) =
      [BitVec.ofNat 8 (max low (min ((w.getD k 0).toNat * 256 + (w.getD (k + 1) 0).toNat) high) / 256),
        BitVec.ofNat 8 (max low (min ((w.getD k 0).toNat * 256 + (w.getD (k + 1) 0).toNat) high))] := by
  rw [u16_eq, imgNum_eq, clamp]

/-- A run of bytes, byte by byte. -/
theorem take_drop_eq {k m : Nat} (size : k + m ≤ w.length) :
    (w.drop k).take m = (List.range m).map fun i => w.getD (k + i) 0 := by
  refine List.ext_getElem (by simp; omega) fun i lt lt' => ?_
  rw [List.length_map, List.length_range] at lt'
  simp only [List.getElem_take, List.getElem_drop, List.getElem_map, List.getElem_range]
  rw [List.getD_eq_getElem _ _ (by omega)]

theorem take_eq {m : Nat} (size : m ≤ w.length) : w.take m = (List.range m).map fun i => w.getD i 0 := by
  have := take_drop_eq (w := w) (k := 0) (m := m) (by omega)
  simpa using this

theorem toNat_eq_iff {k : Nat} (small : k < 256) : b.toNat = k ↔ b = BitVec.ofNat 8 k := (byte_ne_iff k small).symm

theorem ownerBytes_of_readOwner {k m : Byte} {x : Owner} (h : readOwner k m = some x) :
    (ownerBytes x).1 = k ∧ (ownerBytes x).2 = if k = 0 then 0 else m := by
  unfold readOwner at h
  split at h
  case h_1 is =>
    cases h
    rw [(toNat_eq_iff (by decide)).mp is]
    exact ⟨rfl, rfl⟩
  case h_5 => cases h
  all_goals
    rename_i is
    obtain ⟨i, at_, rfl⟩ := Option.map_eq_some_iff.mp h
    rw [(toNat_eq_iff (by decide)).mp is]
    exact ⟨rfl, u8_of_fin? at_⟩

theorem forcingBytes_of_readForcing {k m : Byte} {x : Forcing} (h : readForcing k m = some x) :
    x.bytes.1 = k ∧ x.bytes.2 = if k = 3 then m else 0 := by
  unfold readForcing at h
  split at h
  case h_4 is =>
    obtain ⟨i, at_, rfl⟩ := Option.map_eq_some_iff.mp h
    rw [(toNat_eq_iff (by decide)).mp is]
    exact ⟨rfl, u8_of_fin? at_⟩
  case h_5 => cases h
  all_goals
    rename_i is
    cases h
    rw [(toNat_eq_iff (by decide)).mp is]
    exact ⟨rfl, rfl⟩

theorem syncBytes_of_readSync {k m : Byte} {x : Sync} (h : readSync k m = some x) :
    x.bytes.1 = k ∧ x.bytes.2 = if k = 0 then 0 else m := by
  unfold readSync at h
  split at h
  case h_1 is =>
    cases h
    rw [(toNat_eq_iff (by decide)).mp is]
    exact ⟨rfl, rfl⟩
  case h_4 => cases h
  all_goals
    rename_i is
    obtain ⟨i, at_, rfl⟩ := Option.map_eq_some_iff.mp h
    rw [(toNat_eq_iff (by decide)).mp is]
    exact ⟨rfl, u8_of_fin? at_⟩

theorem u8_of_assignable? {i : Fin 64} (h : assignable? b = some i) : u8 i.val = b := by
  unfold assignable? at h
  split at h
  · cases h
  · rename_i at_
    split at h
    · cases h
      exact u8_of_fin? at_
    · cases h

theorem refByte_of_readSwitch {r : Option (Fin 64)} (h : readSwitch b = some r) : refByte r = b := by
  unfold readSwitch at h
  split at h
  · rename_i none_
    cases h
    exact none_.symm
  · obtain ⟨i, is, rfl⟩ := Option.map_eq_some_iff.mp h
    exact u8_of_assignable? is

theorem source_of_readSource {x : Option Byte} (h : readSource b = some x) : x.getD 0 = b := by
  unfold readSource at h
  split at h
  · rename_i zero
    cases h
    exact zero.symm
  · split at h
    · cases h
      rfl
    · cases h

/-- The bytes of an action are those it is read from, where its code has such an operand. -/
theorem actionBytes_of_readAction {k a c : Byte} {v : BitVec 16} {x : Action} (h : readAction k a v c = some x) :
    x.bytes = (k, if k = 6 then 0 else a, if k = 0 ∨ (k = 5 ∧ c = 1) then v else 0,
      if k = 2 ∨ k = 3 ∨ k = 5 then c else 0) := by
  unfold readAction at h
  split at h
  case h_1 is =>
    obtain ⟨i, at_, rfl⟩ := Option.map_eq_some_iff.mp h
    rw [(toNat_eq_iff (by decide)).mp is, ← u8_of_assignable? at_, Action.bytes, BitVec.ofNat_toNat, BitVec.setWidth_eq]
    rfl
  case h_2 is =>
    obtain ⟨i, at_, rfl⟩ := Option.map_eq_some_iff.mp h
    rw [(toNat_eq_iff (by decide)).mp is, ← u8_of_assignable? at_]
    rfl
  case h_3 is =>
    simp only [Option.bind_eq_bind, Option.bind_eq_some_iff, Option.pure_def, Option.some.injEq] at h
    obtain ⟨i, at_, j, at', rfl⟩ := h
    rw [(toNat_eq_iff (by decide)).mp is, ← u8_of_fin? at_, ← u8_of_fin? at']
    rfl
  case h_4 is =>
    split at h
    · cases h
    · obtain ⟨on, at_, rfl⟩ := Option.map_eq_some_iff.mp h
      rw [(toNat_eq_iff (by decide)).mp is, ← flagByte_of_flag? at_]
      rfl
  case h_5 is =>
    split at h
    · cases h
    · cases h
      rw [(toNat_eq_iff (by decide)).mp is]
      rfl
  case h_6 is =>
    simp only [Option.bind_eq_bind, Option.bind_eq_some_iff, Option.pure_def] at h
    obtain ⟨i, at_, present, flag, h⟩ := h
    rw [(toNat_eq_iff (by decide)).mp is, ← u8_of_fin? at_, ← flagByte_of_flag? flag]
    cases present with
    | false =>
      cases h
      rfl
    | true =>
      simp only [if_true] at h
      split at h
      · cases h
      · cases h
        rfl
  case h_7 is =>
    cases h
    rw [(toNat_eq_iff (by decide)).mp is]
    rfl
  case h_8 is =>
    obtain ⟨i, at_, rfl⟩ := Option.map_eq_some_iff.mp h
    rw [(toNat_eq_iff (by decide)).mp is, ← u8_of_fin? at_]
    rfl
  case h_9 => cases h

/-- The bytes of a source are those it is read from, where its kind has such a reference. -/
theorem sourceBytes_of_readCond {e : Entry} (h : readCond w = some e) : ∃ x, e = .cond x ∧ x.bytes =
    (w.getD 1 0, if w.getD 1 0 = 0 ∨ w.getD 1 0 = 6 then 0 else w.getD 2 0, if w.getD 1 0 = 4 then w.getD 3 0 else 0)
    ∧ (w.getD 1 0 = 6 → x = .frame) ∧ x ≠ .fixed := by
  unfold readCond at h
  simp only [imgByte] at h
  split at h
  case h_1 is =>
    cases h
    rw [(toNat_eq_iff (by decide)).mp is]
    exact ⟨_, rfl, rfl, (nomatch ·), (nomatch ·)⟩
  case h_7 is =>
    cases h
    rw [(toNat_eq_iff (by decide)).mp is]
    exact ⟨_, rfl, rfl, fun _ => rfl, (nomatch ·)⟩
  case h_8 => cases h
  case h_5 is =>
    simp only [Option.bind_eq_bind, Option.bind_eq_some_iff, Option.pure_def, Option.some.injEq] at h
    obtain ⟨i, at_, j, at', rfl⟩ := h
    rw [(toNat_eq_iff (by decide)).mp is, ← u8_of_fin? at_, ← u8_of_fin? at']
    exact ⟨_, rfl, rfl, (nomatch ·), (nomatch ·)⟩
  all_goals
    rename_i is
    obtain ⟨i, at_, rfl⟩ := Option.map_eq_some_iff.mp h
    rw [(toNat_eq_iff (by decide)).mp is, ← u8_of_fin? at_]
    exact ⟨_, rfl, rfl, (nomatch ·), (nomatch ·)⟩

end Sys2Proof.Machine
end

section
/-! PROOFS. REQ: a stored entry reads back as its image was written (R182, R190, R193). -/

namespace Sys2Proof.Machine
variable {s n : State} {w o : List Byte} {b : Byte} {e : Entry}

/-! ## The image of a record -/

theorem State.image_entries (s : State) (k : Fin 64) : s.image .entries k.val = entryImage (s.table.row k) := dif_pos k.isLt

theorem State.image_conds (s : State) (k : Fin 64) : s.image .conds k.val = condImage (s.board.conds.row k) s.clock :=
  dif_pos k.isLt

theorem State.image_terms (s : State) (k : Fin 32) : s.image .terms k.val = termImage (s.board.terms.row k) := dif_pos k.isLt

theorem State.image_sensors (s : State) (k : Fin 24) : s.image .sensors k.val = sensorImage (s.scan.sensors.row k) :=
  dif_pos k.isLt

theorem State.image_thresholds (s : State) (k : Fin 48) : s.image .thresholds k.val = thresholdImage (s.scan.thresholds.row k) :=
  dif_pos k.isLt

theorem State.image_channels (s : State) (k : Fin 16) : s.image .channels k.val = channelImage (s.chans.row k) s.clock :=
  dif_pos k.isLt

theorem State.image_ramps (s : State) (k : Fin 4) : s.image .ramps k.val = rampImage (s.plan.ramps.row k) s.clock :=
  dif_pos k.isLt

theorem State.image_plans (s : State) (k : Fin 8) : s.image .plans k.val = planImage (s.plan.plans.row k) := dif_pos k.isLt

theorem State.image_stages (s : State) (k : Fin 64) : s.image .stages k.val = stageImage (s.plan.stages.row k) :=
  dif_pos k.isLt

theorem State.image_doors (s : State) (k : Fin 24) : s.image .doors k.val = doorImage (s.door.doors.row k) s.clock :=
  dif_pos k.isLt

theorem State.image_groups (s : State) (k : Fin 8) : s.image .groups k.val = groupImage (s.door.groups.row k) := dif_pos k.isLt

theorem State.image_templates (s : State) (k : Fin 32) : s.image .templates k.val = templateImage (s.call.templates.row k) :=
  dif_pos k.isLt

theorem State.image_zones (s : State) (k : Fin 16) : s.image .zones k.val = zoneImage (s.call.zones.row k) := dif_pos k.isLt

theorem State.image_sides (s : State) (k : Fin 126) : s.image .sides (k.val + 1) = sideImage (s.line.sides.row k) :=
  dif_pos (by have := k.isLt; omega)

/-- What a record holds where an entry is stored at its index. -/
theorem row_putAt_self {α : Type} {m : Nat} (t : Tbl α m) (k : Fin m) (f : α → α) :
    (putAt t k.val f).row k = f (t.row k) := by rw [row_putAt, if_pos rfl]

/-! ## Each table's entries (R182) -/

theorem line_back (i : Nat) (h : readLine w = some e) : TableId.line.readsBack w o ((n.store1 i e).image .line i) := by
  cases h
  change u16 (clamp 50 5000 (imgNum w 0)) = _
  rw [u16_clamp]

theorem sides_back (k : Fin 126) (h : readSide w = some e) :
    TableId.sides.readsBack w o ((n.store1 (k.val + 1) e).image .sides (k.val + 1)) := by
  simp only [readSide, Option.bind_eq_bind, Option.bind_eq_some_iff, Option.pure_def, Option.some.injEq] at h
  obtain ⟨side, side_is, pinned, pinned_is, rfl⟩ := h
  rw [State.image_sides]
  change sideImage ((putAt n.line.sides k.val _).row k) = _
  rw [row_putAt_self, sideImage, flagByte_of_flag? pinned_is, byte_of_code? (byte := Side.byte) side_is (by decide)]
  rfl

theorem entries_back (size : w.length = 18) (k : Fin 64) (h : readEntry w = some e) :
    TableId.entries.readsBack w o ((n.store1 k.val e).image .entries k.val) := by
  simp only [readEntry, Option.bind_eq_bind, Option.bind_eq_some_iff, Option.pure_def] at h
  obtain ⟨valid, valid_is, source, source_is, port, port_is, action, action_is, stop, stop_is, h⟩ := h
  split at h
  · cases h
  cases h
  rw [State.image_entries]
  change entryImage ((putAt n.table k.val _).row k) = _
  rw [row_putAt_self, entryImage]
  simp only [flagByte_of_flag? valid_is, flagByte_of_flag? stop_is, source_of_readSource source_is,
    actionBytes_of_readAction action_is, byte_of_code? (byte := PortMatch.byte) port_is (by decide)]
  have first : w.take 10 = (List.range 10).map fun i => w.getD i 0 := take_eq (by omega)
  rw [first]
  have operand : bytesOf16 (if imgByte w 9 = 0 ∨ imgByte w 9 = 5 ∧ imgByte w 13 = 1 then imgWord w 11 else 0)
      = if w.getD 9 0 = 0 ∨ (w.getD 9 0 = 5 ∧ w.getD 13 0 = 1) then [w.getD 11 0, w.getD 12 0] else [0, 0] := by
    unfold imgByte
    split
    · exact bytesOf16_imgWord w 11
    · rfl
  rw [operand]
  simp only [imgByte, List.range, List.range.loop, List.map_cons, List.map_nil, List.cons_append, List.nil_append,
    List.append_assoc]
  rfl

theorem sensors_back (k : Fin 24) (h : readSensor w = some e) :
    TableId.sensors.readsBack w (n.image .sensors k.val) ((n.store1 k.val e).image .sensors k.val) := by
  simp only [readSensor, Option.bind_eq_bind, Option.bind_eq_some_iff, Option.pure_def, Option.some.injEq] at h
  obtain ⟨kind, kind_is, wetting, wetting_is, logged, logged_is, rfl⟩ := h
  rw [State.image_sensors, State.image_sensors]
  change sensorImage ((putAt n.scan.sensors k.val _).row k) = _
  rw [row_putAt_self, sensorImage, sensorImage, u16_clamp, u16_clamp, flagByte_of_flag? wetting_is,
    flagByte_of_flag? logged_is, byte_of_code? (byte := SensorKind.byte) kind_is (by decide)]
  rfl

theorem settings_back (i : Nat) (h : readSettings w = some e) :
    TableId.settings.readsBack w (n.image .settings i) ((n.store1 i e).image .settings i) := by
  simp only [readSettings, Option.bind_eq_bind, Option.bind_eq_some_iff, Option.pure_def, Option.some.injEq] at h
  obtain ⟨trigger, trigger_is, input, input_is, test, test_is, rfl⟩ := h
  change settingsImage
    { trigger := trigger, nA := clamp 2 65535 (imgNum w 1), nB := clamp 2 65535 (imgNum w 3), bInput := input,
      wettingTest := test, bufferThreshold := clamp 1 511 (imgNum w 7) } n.scan.trimCode = _
  rw [settingsImage, u16_clamp, u16_clamp, u16_clamp, flagByte_of_flag? test_is,
    byte_of_code? (byte := TriggerSource.byte) trigger_is (by decide), byte_of_code? (byte := BInput.byte) input_is (by decide)]
  rfl

theorem thresholds_back (k : Fin 48) {old : Threshold} (tripped : old.tripped = (n.scan.thresholds.row k).tripped)
    (h : readThreshold old w = some e) :
    TableId.thresholds.readsBack w (n.image .thresholds k.val) ((n.store1 k.val e).image .thresholds k.val) := by
  simp only [readThreshold, Option.bind_eq_bind, Option.bind_eq_some_iff, Option.pure_def, Option.some.injEq] at h
  obtain ⟨channel, channel_is, direction, direction_is, rfl⟩ := h
  rw [State.image_thresholds, State.image_thresholds]
  change thresholdImage ((putAt n.scan.thresholds k.val _).row k) = _
  rw [row_putAt_self, thresholdImage, thresholdImage, u16_clamp, u16_clamp, u8_of_fin? channel_is, tripped,
    byte_of_code? (byte := Direction.byte) direction_is (by decide)]
  rfl

theorem ramps_back (size : w.length = 21) (k : Fin 4) (h : readRamp w = some e) :
    TableId.ramps.readsBack w (n.image .ramps k.val) ((n.store1 k.val e).image .ramps k.val) := by
  simp only [readRamp, Option.bind_eq_bind, Option.bind_eq_some_iff, Option.pure_def, Option.some.injEq] at h
  obtain ⟨position, position_is, extend, extend_is, retract, retract_is, rfl⟩ := h
  have first : w.take 3 = (List.range 3).map fun i => w.getD i 0 := take_eq (by omega)
  rw [State.image_ramps, State.image_ramps]
  change rampImage ((putAt n.plan.ramps k.val _).row k) n.clock = _
  rw [row_putAt_self, rampImage, rampImage, u16_clamp, refByte_of_ref? position_is, refByte_of_ref? extend_is,
    refByte_of_ref? retract_is, first]
  rfl

theorem plans_back (k : Fin 8) (h : readPlan w = some e) :
    TableId.plans.readsBack w o ((n.store1 k.val e).image .plans k.val) := by
  simp only [readPlan, Option.bind_eq_bind, Option.bind_eq_some_iff, Option.pure_def, Option.some.injEq] at h
  obtain ⟨ramp, ramp_is, first, first_is, rfl⟩ := h
  rw [State.image_plans]
  change planImage ((putAt n.plan.plans k.val _).row k) = _
  rw [row_putAt_self, planImage, u8_of_fin? ramp_is, u8_of_fin? first_is, ← (fin?_eq_some_iff _ _).mp first_is]
  rfl

theorem groups_back (size : w.length = 3) (k : Fin 8) (h : readGroup w = some e) :
    TableId.groups.readsBack w o ((n.store1 k.val e).image .groups k.val) := by
  simp only [readGroup, Option.bind_eq_bind, Option.bind_eq_some_iff, Option.pure_def, Option.some.injEq] at h
  obtain ⟨trigger, trigger_is, release, release_is, template, template_is, rfl⟩ := h
  have all : w = (List.range 3).map fun i => w.getD i 0 := by rw [← take_eq (by omega), ← size, List.take_length]
  rw [State.image_groups]
  change groupImage ((putAt n.door.groups k.val _).row k) = w
  rw [row_putAt_self, groupImage, refByte_of_ref? trigger_is, refByte_of_ref? release_is, refByte_of_ref? template_is]
  exact all.symm

theorem templates_back (k : Fin 32) (h : readTemplate w = some e) :
    TableId.templates.readsBack w o ((n.store1 k.val e).image .templates k.val) := by
  simp only [readTemplate, Option.bind_eq_bind, Option.bind_eq_some_iff, Option.pure_def] at h
  obtain ⟨allow, allow_is, h⟩ := h
  split at h
  · cases h
  cases h
  rw [State.image_templates]
  change templateImage ((putAt n.call.templates k.val _).row k) = _
  rw [row_putAt_self, templateImage, bytesOf16_imgWord, bytesOf16_imgWord, refByte_of_ref? allow_is]
  rfl

theorem zones_back (k : Fin 16) (h : readZone w = some e) :
    TableId.zones.readsBack w (n.image .zones k.val) ((n.store1 k.val e).image .zones k.val) := by
  obtain ⟨lamp, lamp_is, rfl⟩ := Option.map_eq_some_iff.mp h
  rw [State.image_zones, State.image_zones]
  change zoneImage ((putAt n.call.zones k.val _).row k) = _
  rw [row_putAt_self, zoneImage, zoneImage, refByte_of_ref? lamp_is]
  rfl

theorem pa_back (i : Nat) (h : readPa w = some e) : TableId.pa.readsBack w o ((n.store1 i e).image .pa i) := by
  unfold readPa at h
  split at h
  · cases h
    rfl
  · cases h

theorem doors_back (size : w.length = 23) (k : Fin 24) (h : readDoor w = some e) :
    TableId.doors.readsBack w o ((n.store1 k.val e).image .doors k.val) := by
  simp only [readDoor, Option.bind_eq_bind, Option.bind_eq_some_iff, Option.pure_def, Option.some.injEq] at h
  obtain ⟨group, group_is, lane, lane_is, closeCh, close_is, openCh, open_is, closedCond, closed_is, openCond, opened_is, rfl⟩ := h
  have first : w.take 18 = (List.range 18).map fun i => w.getD i 0 := take_eq (by omega)
  rw [State.image_doors]
  change (doorImage ((putAt n.door.doors k.val _).row k) n.clock).take 19 = _
  rw [row_putAt_self, doorImage]
  simp only [Door.store]
  rw [refByte_of_ref? group_is, refByte_of_ref? lane_is, refByte_of_ref? close_is, refByte_of_ref? open_is,
    refByte_of_readSwitch closed_is, refByte_of_readSwitch opened_is, bytesOf16_imgWord, u16_imgNum, u16_imgNum, u16_imgNum,
    u16_imgNum, u16_imgNum, first]
  rfl

theorem channels_back (size : w.length = 42) (k : Fin 16) (h : readChannel k w = some e) :
    TableId.channels.readsBack w o ((n.store1 k.val e).image .channels k.val) := by
  simp only [readChannel, Option.bind_eq_bind, Option.bind_eq_some_iff, Option.pure_def] at h
  obtain ⟨config, config_is, invert, invert_is, owner, owner_is, gate, gate_is, forcing, forcing_is, forced, forced_is,
    latched, latched_is, mode, mode_is, sync, sync_is, stop, stop_is, joined, joined_is, h⟩ := h
  split at h
  case isFalse => cases h
  cases h
  have middle : (w.drop 13).take 6 = (List.range 6).map fun i => w.getD (13 + i) 0 := take_drop_eq (by omega)
  rw [State.image_channels]
  change (channelImage ((putAt n.chans k.val _).row k) n.clock).take 24 = _
  rw [row_putAt_self, channelImage, channelSettingsImage, u16_imgNum, u16_imgNum, u16_imgNum]
  simp only [flagByte_of_flag? invert_is, flagByte_of_flag? latched_is, flagByte_of_flag? stop_is, flagByte_of_flag? joined_is,
    (ownerBytes_of_readOwner owner_is).1, (ownerBytes_of_readOwner owner_is).2, refByte_of_ref? gate_is,
    (forcingBytes_of_readForcing forcing_is).1, (forcingBytes_of_readForcing forcing_is).2,
    (syncBytes_of_readSync sync_is).1, (syncBytes_of_readSync sync_is).2,
    byte_of_code? (byte := Configuration.byte) config_is (by decide), byte_of_code? (byte := Level.byte) forced_is (by decide),
    byte_of_code? (byte := TimerMode.byte) mode_is (by decide),
    byte_of_codeOrLast (byte := LimitClass.byte) (values := [.a025, .a050, .a100]) (last := .a200) (by decide) rfl,
    byte_of_codeOrLast (byte := CutDelay.byte) (values := [.us100, .us500, .ms2]) (last := .ms10) (by decide) rfl,
    byte_of_codeOrLast (byte := RestartDelay.byte) (values := [.manual, .ms20, .ms100, .ms500]) (last := .ms2000) (by decide) rfl,
    byte_of_codeOrLast (byte := Tick.byte) (values := [.us1, .us10, .us100]) (last := .ms1) (by decide) rfl]
  rw [middle]
  rfl

/-- The literals of a term are its image's bytes. -/
theorem bytes_of_readLiterals {m k : Nat} {l : List (Fin 64 × Bool)} (h : readLiterals w m k = some l)
    (size : k + 2 * m ≤ w.length) :
    l.length = m ∧ l.flatMap (fun x => [u8 x.1.val, flagByte x.2]) = (w.drop k).take (2 * m) := by
  induction m generalizing k l with
  | zero =>
    cases h
    exact ⟨rfl, by simp⟩
  | succ m ih =>
    simp only [readLiterals, Option.bind_eq_bind, Option.bind_eq_some_iff, Option.pure_def, Option.some.injEq] at h
    obtain ⟨c, c_is, v, v_is, rest, rest_is, rfl⟩ := h
    obtain ⟨length, bytes⟩ := ih rest_is (by omega)
    refine ⟨by rw [List.length_cons, length], ?_⟩
    rw [List.flatMap_cons, bytes, u8_of_fin? c_is, flagByte_of_flag? v_is, Nat.mul_succ, Nat.add_comm (2 * m) 2,
      List.take_add, List.drop_drop, take_drop_eq (m := 2) (by omega)]
    rfl

theorem terms_back (size : w.length = 9) (k : Fin 32) (h : readTerm w = some e) :
    TableId.terms.readsBack w o ((n.store1 k.val e).image .terms k.val) := by
  obtain ⟨l, l_is, rfl⟩ := Option.map_eq_some_iff.mp h
  obtain ⟨length, bytes⟩ := bytes_of_readLiterals l_is (by omega)
  have count : ((w.drop 1).take (2 * min (imgByte w 0).toNat 4)).length = 2 * min (imgByte w 0).toNat 4 := by
    rw [List.length_take, List.length_drop]
    omega
  rw [State.image_terms]
  change termImage ((putAt n.board.terms k.val _).row k) = _
  rw [row_putAt_self, termImage]
  dsimp only
  rw [bytes, length, count]
  rfl

theorem bytes_of_mapM {l : List Byte} {cs : List (Fin 24)} (h : l.mapM (fin? 24) = some cs) :
    cs.map (fun c => u8 c.val) = l := by
  induction l generalizing cs with
  | nil =>
    cases h
    rfl
  | cons b l ih =>
    rw [List.mapM_cons] at h
    simp only [Option.bind_eq_bind, Option.bind_eq_some_iff, Option.pure_def, Option.some.injEq] at h
    obtain ⟨c, c_is, rest, rest_is, rfl⟩ := h
    rw [List.map_cons, ih rest_is, u8_of_fin? c_is]

theorem list_back (size : w.length = 33) (i : Nat) (h : readList w = some e) :
    TableId.list.readsBack w o ((n.store1 i e).image .list i) := by
  obtain ⟨l, l_is, rfl⟩ := Option.map_eq_some_iff.mp h
  have bytes := bytes_of_mapM l_is
  have count : l.length = min (imgByte w 0).toNat 32 := by
    rw [← List.length_map (fun c : Fin 24 => u8 c.val), bytes, List.length_take, List.length_tail]
    omega
  change listImage l = _
  rw [listImage, bytes, count, ← List.drop_one]
  rfl

theorem stages_back (size : w.length = 22) (k : Fin 64) (h : readStage w = some e) :
    TableId.stages.readsBack w o ((n.store1 k.val e).image .stages k.val) := by
  simp only [readStage, Option.bind_eq_bind, Option.bind_eq_some_iff, Option.pure_def, Option.some.injEq] at h
  obtain ⟨kind, kind_is, permit, permit_is, bridge, bridge_is, rfl⟩ := h
  have first : w.take 6 = imgByte w 0 :: (List.range 5).map fun i => w.getD (i + 1) 0 := take_eq (by omega)
  have four : (w.drop 6).take 4 = (List.range 4).map fun i => w.getD (6 + i) 0 := take_drop_eq (by omega)
  have two : (w.drop 6).take 2 = (List.range 2).map fun i => w.getD (6 + i) 0 := take_drop_eq (by omega)
  have of_code {m : Nat} (small : m < 256) (is : (w.getD 0 0).toNat = m) : imgByte w 0 = BitVec.ofNat 8 m :=
    (toNat_eq_iff small).mp is
  rw [State.image_stages]
  change stageImage ((putAt n.plan.stages k.val _).row k) = _
  rw [row_putAt_self, stageImage]
  dsimp only
  rw [u8_of_fin? permit_is, flagByte_of_flag? bridge_is, u16_imgNum, first]
  unfold readStageKind at kind_is
  split at kind_is
  case h_1 is =>
    change (w.getD 0 0).toNat = 0 at is
    cases kind_is
    simp only [StageKind.bytes, u16_clamp]
    rw [is, of_code (by decide) is]
    rfl
  case h_2 is =>
    change (w.getD 0 0).toNat = 1 at is
    simp only [Option.bind_eq_bind, Option.bind_eq_some_iff, Option.pure_def, Option.some.injEq, readRole] at kind_is
    obtain ⟨r1, r1_is, on1, on1_is, r2, r2_is, on2, on2_is, rfl⟩ := kind_is
    simp only [StageKind.bytes, byte_of_code? (byte := Role.byte) r1_is (by decide), flagByte_of_flag? on1_is,
      byte_of_code? (byte := Role.byte) r2_is (by decide), flagByte_of_flag? on2_is]
    rw [is, of_code (by decide) is, four]
    rfl
  case h_4 is =>
    change (w.getD 0 0).toNat = 3 at is
    cases kind_is
    simp only [StageKind.bytes, u16_imgNum]
    rw [is, of_code (by decide) is, two]
    rfl
  case h_6 => cases kind_is
  case h_3 is =>
    change (w.getD 0 0).toNat = 2 at is
    obtain ⟨i, i_is, rfl⟩ := Option.map_eq_some_iff.mp kind_is
    simp only [StageKind.bytes, u8_of_fin? i_is]
    rw [is, of_code (by decide) is]
    rfl
  case h_5 is =>
    change (w.getD 0 0).toNat = 4 at is
    obtain ⟨i, i_is, rfl⟩ := Option.map_eq_some_iff.mp kind_is
    simp only [StageKind.bytes, u8_of_fin? i_is]
    rw [is, of_code (by decide) is]
    rfl

theorem conds_back (k : Fin 64) (h : readCond w = some e) :
    (((n.store1 k.val e).image .conds k.val).drop 1).take 3 = [w.getD 1 0,
      if w.getD 1 0 = 0 ∨ w.getD 1 0 = 6 then 0 else w.getD 2 0, if w.getD 1 0 = 4 then w.getD 3 0 else 0] := by
  obtain ⟨x, rfl, bytes, -⟩ := sourceBytes_of_readCond h
  rw [State.image_conds]
  change ((condImage ((putAt n.board.conds k.val _).row k) n.clock).drop 1).take 3 = _
  rw [row_putAt_self, condImage]
  dsimp only
  rw [bytes]
  rfl

end Sys2Proof.Machine
end

section
/-! PROOFS. REQ: what storing the entries of a write leaves in every table (R182, R183). -/

namespace Sys2Proof.Machine
variable {s n : State} {w o : List Byte} {t : TableId} {e : Entry} {i k : Nat}

theorem TableId.inRange_iff : t.inRange i = true ↔ t.first ≤ i ∧ i < t.first + t.count := by
  unfold TableId.inRange
  rw [Bool.and_eq_true, decide_eq_true_iff, decide_eq_true_iff]

/-- An entry of the side map, by its place. -/
theorem TableId.index_side (there : TableId.sides.inRange i = true) : ∃ k : Fin 126, i = k.val + 1 := by
  obtain ⟨low, high⟩ := TableId.inRange_iff.mp there
  change 1 ≤ i at low
  change i < 127 at high
  exact ⟨⟨i - 1, by omega⟩, by simp; omega⟩

/-! ## One stored entry -/

/-- A stored entry reads back as it was written. -/
theorem State.store1_back (there : t.inRange i = true) (size : w.length = t.size) (cond : t ≠ .conds)
    (h : s.parseEntry t i w = some e) (same : n.image t i = s.image t i) :
    t.readsBack w (s.image t i) ((n.store1 i e).image t i) := by
  rw [← same]
  cases t with
  | directory | slots | notices => cases h
  | conds => exact absurd rfl cond
  | line => exact line_back i h
  | list => exact list_back size i h
  | settings => exact settings_back i h
  | pa => exact pa_back i h
  | sides =>
    obtain ⟨k, rfl⟩ := TableId.index_side there
    exact sides_back k h
  | entries => obtain ⟨k, rfl⟩ := index_fin (n := 64) there; exact entries_back size k h
  | terms => obtain ⟨k, rfl⟩ := index_fin (n := 32) there; exact terms_back size k h
  | sensors => obtain ⟨k, rfl⟩ := index_fin (n := 24) there; exact sensors_back k h
  | thresholds =>
    obtain ⟨k, rfl⟩ := index_fin (n := 48) there
    have read : readThreshold (s.scan.thresholds.row k) w = some e := (dif_pos k.isLt).symm.trans h
    refine thresholds_back k ?_ read
    have byte := congrArg (·.getD 7 0) same
    rw [State.image_thresholds, State.image_thresholds] at byte
    change (if (n.scan.thresholds.row k).tripped then (0 : Byte) else 1) = if (s.scan.thresholds.row k).tripped then 0 else 1 at byte
    cases a : (n.scan.thresholds.row k).tripped <;> cases b : (s.scan.thresholds.row k).tripped <;> simp [a, b] at byte ⊢
  | channels =>
    obtain ⟨k, rfl⟩ := index_fin (n := 16) there
    exact channels_back size k ((dif_pos k.isLt).symm.trans h)
  | ramps => obtain ⟨k, rfl⟩ := index_fin (n := 4) there; exact ramps_back size k h
  | plans => obtain ⟨k, rfl⟩ := index_fin (n := 8) there; exact plans_back k h
  | stages => obtain ⟨k, rfl⟩ := index_fin (n := 64) there; exact stages_back size k h
  | doors => obtain ⟨k, rfl⟩ := index_fin (n := 24) there; exact doors_back size k h
  | groups => obtain ⟨k, rfl⟩ := index_fin (n := 8) there; exact groups_back size k h
  | templates => obtain ⟨k, rfl⟩ := index_fin (n := 32) there; exact templates_back k h
  | zones => obtain ⟨k, rfl⟩ := index_fin (n := 16) there; exact zones_back k h

/-- An entry touches its own table alone. -/
theorem State.store1_image_apart (n : State) (other : e.table ≠ t) : (n.store1 i e).image t k = n.image t k := by
  cases e <;> cases t <;> first | rfl | exact absurd rfl other

theorem row_putAt_other {α : Type} {m : Nat} (tbl : Tbl α m) (j : Fin m) (f : α → α) (ne : i ≠ j.val) :
    (putAt tbl i f).row j = tbl.row j := by rw [row_putAt, if_neg ne]

/-- A table of one entry is written within its range, and so is the side map. -/
def TableId.reaches (t : TableId) (i : Nat) : Prop := t.count = 1 ∨ t = .sides → t.inRange i = true

theorem image_putAt {α : Type} {m : Nat} {a b : State} {tbl : Tbl α m} {f : α → List Byte} {g : α → α}
    (image : ∀ j : Fin m, a.image t j.val = f (tbl.row j)) (image' : ∀ j : Fin m, b.image t j.val = f ((putAt tbl i g).row j))
    (ne : i ≠ k) (there : t.inRange k = true) (size : t.first + t.count = m := by rfl) : b.image t k = a.image t k := by
  obtain ⟨j, rfl⟩ := index_fin there size
  rw [image, image', row_putAt_other _ _ _ ne]

/-- An entry touches its own record alone. -/
theorem State.store1_image_other (n : State) (of : e.table = t) (there : t.inRange k = true) (reaches : t.reaches i)
    (ne : i ≠ k) : (n.store1 i e).image t k = n.image t k := by
  have single (one : t.first = 0) (count : t.count = 1) : (n.store1 i e).image t k = n.image t k := by
    have inside := TableId.inRange_iff.mp (reaches (.inl count))
    have inside' := TableId.inRange_iff.mp there
    omega
  subst of
  cases e with
  | line | list | settings | pa => exact single rfl rfl
  | side x =>
    obtain ⟨j, rfl⟩ := TableId.index_side there
    obtain ⟨j', rfl⟩ := TableId.index_side (reaches (.inr rfl))
    rw [Entry.table, State.image_sides, State.image_sides]
    exact congrArg sideImage (row_putAt_other _ _ _ fun same => ne (congrArg (· + 1) same))
  | entry x => exact image_putAt n.image_entries (n.store1 i (.entry x)).image_entries ne there
  | cond x => exact image_putAt (f := (condImage · n.clock)) n.image_conds (n.store1 i (.cond x)).image_conds ne there
  | term x => exact image_putAt n.image_terms (n.store1 i (.term x)).image_terms ne there
  | sensor x => exact image_putAt n.image_sensors (n.store1 i (.sensor x)).image_sensors ne there
  | threshold x => exact image_putAt n.image_thresholds (n.store1 i (.threshold x)).image_thresholds ne there
  | channel x => exact image_putAt (f := (channelImage · n.clock)) n.image_channels (n.store1 i (.channel x)).image_channels ne there
  | ramp x => exact image_putAt (f := (rampImage · n.clock)) n.image_ramps (n.store1 i (.ramp x)).image_ramps ne there
  | plan x => exact image_putAt n.image_plans (n.store1 i (.plan x)).image_plans ne there
  | stage x => exact image_putAt n.image_stages (n.store1 i (.stage x)).image_stages ne there
  | door x => exact image_putAt (f := (doorImage · n.clock)) n.image_doors (n.store1 i (.door x)).image_doors ne there
  | group x => exact image_putAt n.image_groups (n.store1 i (.group x)).image_groups ne there
  | template x => exact image_putAt n.image_templates (n.store1 i (.template x)).image_templates ne there
  | zone x => exact image_putAt n.image_zones (n.store1 i (.zone x)).image_zones ne there

/-! ## The entries of a write -/

/-- The entries of a write are entries of its table, each at its own index. -/
theorem State.mem_written {ws : List Written} {p : Nat × Entry} (mem : p ∈ s.written t ws) :
    ∃ w ∈ ws, w.index = p.1 ∧ s.parseEntry t w.index w.image = some p.2 ∧ p.2.table = t := by
  obtain ⟨w, wmem, parsed⟩ := List.mem_filterMap.mp mem
  obtain ⟨e, read, rfl⟩ := Option.map_eq_some_iff.mp parsed
  exact ⟨w, wmem, rfl, read, (State.parseEntry_table read).1⟩

theorem State.written_mem {ws : List Written} {w : Written} (mem : w ∈ ws)
    (read : s.parseEntry t w.index w.image = some e) : (w.index, e) ∈ s.written t ws :=
  List.mem_filterMap.mpr ⟨w, mem, by rw [read]; rfl⟩

theorem State.written_nodup {ws : List Written} (nodup : (ws.map (fun w => w.index)).Nodup) :
    ((s.written t ws).map Prod.fst).Nodup := by
  refine nodup.sublist ?_
  unfold State.written
  induction ws with
  | nil => exact .slnil
  | cons w ws ih =>
    rw [List.map_cons, List.filterMap_cons]
    cases read : s.parseEntry t w.index w.image with
    | none => exact (ih (List.nodup_cons.mp nodup).2).cons _
    | some e => exact (ih (List.nodup_cons.mp nodup).2).cons_cons _

theorem State.stores_image_apart {l : List (Nat × Entry)} {t' : TableId} (of : ∀ p ∈ l, p.2.table = t) (other : t' ≠ t)
    (k : Nat) (n : State) : (l.foldl (fun n p => n.store1 p.1 p.2) n).image t' k = n.image t' k := by
  induction l generalizing n with
  | nil => rfl
  | cons p l ih =>
    rw [List.foldl_cons, ih fun q mem => of q (.tail _ mem)]
    exact n.store1_image_apart fun is => other (is.symm.trans (of p (.head _)))

theorem State.stores_image_other {l : List (Nat × Entry)} (there : t.inRange k = true)
    (of : ∀ p ∈ l, p.2.table = t ∧ t.reaches p.1 ∧ p.1 ≠ k) (n : State) :
    (l.foldl (fun n p => n.store1 p.1 p.2) n).image t k = n.image t k := by
  induction l generalizing n with
  | nil => rfl
  | cons p l ih =>
    rw [List.foldl_cons, ih fun q mem => of q (.tail _ mem)]
    obtain ⟨table, reaches, ne⟩ := of p (.head _)
    exact n.store1_image_other table there reaches ne

/-- Where the entries of a write have indices of their own, each is stored on its record as it stood. -/
theorem State.stores_image_at {l : List (Nat × Entry)} {p : Nat × Entry} (there : t.inRange p.1 = true)
    (of : ∀ q ∈ l, q.2.table = t ∧ t.reaches q.1) (nodup : (l.map Prod.fst).Nodup) (mem : p ∈ l) (s : State) :
    ∃ n : State, n.image t p.1 = s.image t p.1
      ∧ (l.foldl (fun n p => n.store1 p.1 p.2) s).image t p.1 = (n.store1 p.1 p.2).image t p.1 := by
  obtain ⟨before, after, rfl⟩ := List.append_of_mem mem
  rw [List.map_append, List.map_cons, List.nodup_append, List.nodup_cons] at nodup
  obtain ⟨-, ⟨notAfter, -⟩, apart⟩ := nodup
  refine ⟨before.foldl (fun n p => n.store1 p.1 p.2) s, State.stores_image_other there (fun q qmem => ?_) s, ?_⟩
  · obtain ⟨table, reaches⟩ := of q (List.mem_append_left _ qmem)
    exact ⟨table, reaches, apart _ (List.mem_map_of_mem qmem) _ (.head _)⟩
  · rw [List.foldl_append, List.foldl_cons]
    refine State.stores_image_other there (fun q qmem => ?_) _
    obtain ⟨table, reaches⟩ := of q (List.mem_append_right _ (.tail _ qmem))
    exact ⟨table, reaches, fun same => notAfter (same ▸ List.mem_map_of_mem qmem)⟩

/-! ## What a write stores (R182, R183) -/

section stored
variable {ws : List Written} (reaches : ∀ w ∈ ws, t.reaches w.index)
include reaches

theorem State.written_of {q : Nat × Entry} (mem : q ∈ s.written t ws) : q.2.table = t ∧ t.reaches q.1 := by
  obtain ⟨w, wmem, at_, -, table⟩ := State.mem_written mem
  exact ⟨table, at_ ▸ reaches w wmem⟩

/-- The record of an entry that is read is that entry stored on it as it stood. -/
theorem State.storeAll_image_at (nodup : (ws.map (fun w => w.index)).Nodup) {w : Written} (mem : w ∈ ws)
    (there : t.inRange w.index = true) (read : s.parseEntry t w.index w.image = some e) :
    ∃ n : State, n.image t w.index = s.image t w.index
      ∧ (s.storeAll t ws).image t w.index = (n.store1 w.index e).image t w.index := by
  rw [State.storeAll_eq]
  exact State.stores_image_at (p := (w.index, e)) there (fun q => State.written_of reaches) (State.written_nodup nodup)
    (State.written_mem mem read) s

theorem State.storeAll_back (nodup : (ws.map (fun w => w.index)).Nodup) (cond : t ≠ .conds) {w : Written} (mem : w ∈ ws)
    (there : t.inRange w.index = true) (size : w.image.length = t.size) (known : ¬ t.badCodes w.index w.image) :
    t.readsBack w.image (s.image t w.index) ((s.storeAll t ws).image t w.index) := by
  obtain ⟨e, read⟩ := (State.parseEntry_known there w.image).mpr known
  obtain ⟨n, same, is⟩ := State.storeAll_image_at reaches nodup mem there read
  rw [is]
  exact State.store1_back there size cond read same

/-- A record that no entry that can be read names stands. -/
theorem State.storeAll_image_other (there : t.inRange k = true)
    (unread : ∀ w ∈ ws, w.index = k → t.badCodes k w.image) : (s.storeAll t ws).image t k = s.image t k := by
  rw [State.storeAll_eq]
  refine State.stores_image_other there (fun q mem => ?_) s
  obtain ⟨w, wmem, at_, read, table⟩ := State.mem_written mem
  obtain ⟨table, reach⟩ := State.written_of reaches mem
  refine ⟨table, reach, fun same => ?_⟩
  have index : w.index = k := at_.trans same
  exact (State.parseEntry_known (index ▸ there) w.image).mp ⟨_, read⟩ (index ▸ unread w wmem index)

end stored

theorem State.storeAll_image_apart {t' : TableId} (other : t' ≠ t) (ws : List Written) (k : Nat) :
    (s.storeAll t ws).image t' k = s.image t' k := by
  rw [State.storeAll_eq]
  exact State.stores_image_apart (fun q mem => by obtain ⟨-, -, -, -, table⟩ := State.mem_written mem; exact table) other k s

theorem State.storeAll_cond {ws : List Written} (nodup : (ws.map (fun w => w.index)).Nodup) {w : Written} (mem : w ∈ ws)
    (there : TableId.conds.inRange w.index = true) (known : ¬ TableId.conds.badCodes w.index w.image) :
    (((s.storeAll .conds ws).image .conds w.index).drop 1).take 3 = [w.image.getD 1 0,
      if w.image.getD 1 0 = 0 ∨ w.image.getD 1 0 = 6 then 0 else w.image.getD 2 0,
      if w.image.getD 1 0 = 4 then w.image.getD 3 0 else 0] := by
  obtain ⟨e, read⟩ := (State.parseEntry_known there w.image).mpr known
  obtain ⟨n, -, is⟩ := State.storeAll_image_at (by intro _ _ h; rcases h with h | h <;> cases h) nodup mem there read
  rw [is]
  obtain ⟨j, at_⟩ := index_fin (n := 64) there
  rw [at_]
  exact conds_back j read

/-- What the entries of a write leave in the tables of the blocks that are judged against it (R183; log 73). -/
theorem State.storeAll_reads (s : State) (t : TableId) (ws : List Written) (nodup : (ws.map (fun w => w.index)).Nodup)
    (of : t = .conds ∨ t = .channels ∨ t = .ramps ∨ t = .plans ∨ t = .stages ∨ t = .doors ∨ t = .zones) :
    let after := s.storeAll t ws
    (∀ w ∈ ws, w.image.length = t.size → t.inRange w.index = true → ¬ t.badCodes w.index w.image →
      (t ≠ .conds → t.readsBack w.image (s.image t w.index) (after.image t w.index))
      ∧ (t = .conds → let b (k : Nat) : Byte := w.image.getD k 0
        ((after.image t w.index).drop 1).take 3 =
          [b 1, if b 1 = 0 ∨ b 1 = 6 then 0 else b 2, if b 1 = 4 then b 3 else 0]))
    ∧ (∀ k, t.inRange k = true → (∀ w ∈ ws, w.index = k → t.badCodes k w.image) → after.image t k = s.image t k)
    ∧ ∀ t' k, t' ≠ t → after.image t' k = s.image t' k := by
  have reaches : ∀ w ∈ ws, t.reaches w.index := by
    intro w _ single
    rcases of with rfl | rfl | rfl | rfl | rfl | rfl | rfl <;> rcases single with h | h <;> cases h
  refine ⟨fun w mem size there known => ⟨fun cond => ?_, fun cond => ?_⟩, fun k there unread => ?_, fun t' k other => ?_⟩
  · exact State.storeAll_back reaches nodup cond mem there size known
  · subst cond
    exact State.storeAll_cond nodup mem there known
  · exact State.storeAll_image_other reaches there unread
  · exact State.storeAll_image_apart other ws k

end Sys2Proof.Machine
end

section
/-! PROOFS. REQ: what the owner of a table does with stored entries, and what a taken write leaves alone (R182). -/

namespace Sys2Proof.Machine
variable {s u v : State} {t : TableId} {e : Entry} {i k : Nat}

/-! ## What a write leaves alone -/

theorem TableId.changesOnly_refl (t : TableId) (s : State) : t.changesOnly s s := by cases t <;> rfl

theorem TableId.changesOnly_trans (h : t.changesOnly s u) (g : t.changesOnly u v) : t.changesOnly s v := by
  cases t
  case directory | slots | notices => exact Eq.trans g h
  all_goals
    refine Eq.trans g ?_
    rw [h]

/-- A stored entry changes its own table alone. -/
theorem State.store1_changesOnly (n : State) (i : Nat) (e : Entry) : e.table.changesOnly n (n.store1 i e) := by
  cases e <;> rfl

/-- The fields of an image that a write of the entry sets: all of them, but for the state of a channel and of a door. -/
def TableId.kept (t : TableId) (img : List Byte) : List Byte :=
  match t with
  | .channels => img.take 24
  | .doors => img.take 19
  | _ => img

/-- What the owner of a table does with stored entries: the entries themselves stand. -/
structure TableId.Acts (t : TableId) (s u : State) : Prop where
  only : t.changesOnly s u
  image : t ≠ .conds → ∀ k, t.inRange k = true → t.kept (u.image t k) = t.kept (s.image t k)

theorem TableId.Acts.refl (t : TableId) (s : State) : t.Acts s s := ⟨t.changesOnly_refl s, fun _ _ _ => rfl⟩

theorem TableId.Acts.trans (h : t.Acts s u) (g : t.Acts u v) : t.Acts s v :=
  ⟨TableId.changesOnly_trans h.only g.only, fun cond k there => (g.image cond k there).trans (h.image cond k there)⟩

/-! ## A DOOR event (R142) -/

theorem channelImage_kept (c : Channel) (now : Nat) : (channelImage c now).take 24 = channelSettingsImage c.set := rfl

theorem doorImage_kept {x y : Door} (set : x.set = y.set) (now now' : Nat) :
    (doorImage x now).take 19 = (doorImage y now').take 19 := by
  unfold doorImage
  rw [set]
  rfl

theorem Acts_of_channels (frame : u = { s with chans := u.chans, handed := u.handed })
    (set : ∀ m, (u.chans.row m).set = (s.chans.row m).set) : TableId.channels.Acts s u := by
  refine ⟨frame, fun _ k there => ?_⟩
  obtain ⟨j, rfl⟩ := index_fin (n := 16) there
  rw [State.image_channels, State.image_channels]
  exact congrArg channelSettingsImage (set j)

theorem State.DoorsMove.acts (h : s.DoorsMove u) (of : t = .terms ∨ t = .doors ∨ t = .groups) : t.Acts s u := by
  rcases of with rfl | rfl | rfl
  · refine ⟨by rw [h.frame]; rfl, fun _ k _ => ?_⟩
    rw [h.frame]
    rfl
  · refine ⟨by rw [h.frame]; rfl, fun _ k there => ?_⟩
    obtain ⟨j, rfl⟩ := index_fin (n := 24) there
    rw [State.image_doors, State.image_doors]
    exact doorImage_kept (h.set j) _ _
  · refine ⟨by rw [h.frame]; rfl, fun _ k _ => ?_⟩
    rw [h.frame]
    rfl

theorem doorEvent_of_door {f : State → State} (door : (f s).door = s.door) :
    doorEvent f s = { f s with handed := (doorEvent f s).handed } := by
  simp [doorEvent, door]

theorem doorEvent_frame (f : State → State) (s : State) :
    doorEvent f s = { f s with chans := (doorEvent f s).chans, handed := (doorEvent f s).handed } := by
  rw [doorEvent_eq]

/-- The end of a DOOR event touches what its table's write may touch, and no entry. -/
theorem doorEvent_acts {f : State → State} (h : t.Acts s (f s)) : t.Acts s (doorEvent f s) := by
  refine h.trans ?_
  have only := h.only
  have quiet (door : (f s).door = s.door) (handed : (f s).handed = s.handed) : t.Acts (f s) (doorEvent f s) := by
    rw [doorEvent_of_same door handed]
    exact .refl t _
  cases t
  case terms | doors | groups =>
    have frame := doorEvent_frame f s
    generalize doorEvent f s = v at frame
    refine ⟨by rw [frame]; rfl, fun _ k _ => ?_⟩
    rw [frame]
    rfl
  case conds | list | channels =>
    have frame := doorEvent_of_door (by rw [only] : (f s).door = s.door)
    generalize doorEvent f s = v at frame
    refine ⟨by rw [frame]; rfl, fun _ k _ => ?_⟩
    rw [frame]
    rfl
  all_goals exact quiet (by rw [only]) (by rw [only])

/-! ## What the owner of each table does -/

theorem State.condWritten_acts (old : State) (c : Fin 64) : TableId.conds.Acts s (State.condWritten old c s) := by
  refine ⟨?_, fun cond => absurd rfl cond⟩
  unfold State.condWritten
  dsimp only
  split
  · rfl
  · exact State.setFrameCond_frame _ _ _ _ _

theorem State.termWritten_acts (m : Fin 32) : TableId.terms.Acts s (s.termWritten m) := by
  have forced : TableId.terms.Acts s (s.termForced m) := by
    have frame := (s.termForced_judged m).frame
    generalize s.termForced m = v at frame
    refine ⟨by rw [frame]; rfl, fun _ k _ => ?_⟩
    rw [frame]
    rfl
  have told (v : State) : TableId.terms.Acts v (v.termTold m) := by
    have frame := (v.termTold_moves m).frame
    generalize v.termTold m = w at frame
    refine ⟨by rw [frame]; rfl, fun _ k _ => ?_⟩
    rw [frame]
    rfl
  rw [State.termWritten_eq]
  exact (forced.trans (told _)).trans ((State.readTriggers_moves _ _).1.acts (.inl rfl))

/-- What a taken write of the scan list does (R55, R59, R60). -/
structure State.ListWritten (s u : State) : Prop where
  frame : u = { s with
    scan := { s.scan with scanner := u.scan.scanner, frontEnds := u.scan.frontEnds },
    board := { s.board with conds := u.board.conds }, handed := u.handed }
  starts : s.scan.list ≠ [] → s.scan.scanner = .stopped → u.scan.scanner = .idle
  runs : s.scan.list ≠ [] → s.scan.scanner ≠ .stopped → u.scan.scanner = s.scan.scanner
  trims : ∀ x, s.scan.scanner = .trimming x → u.scan.scanner = .trimming x
  stops : s.scan.list = [] → (∀ x, s.scan.scanner ≠ .trimming x) → u.scan.scanner = .stopped
    ∧ (s.scan.scanner ≠ .stopped → u.cond 1 = false)

/-- What the scanner does with the list as it stands (R55). -/
def State.scanListed (s : State) : State :=
  match s.scan.scanner with
  | .trimming _ => s
  | .stopped => if s.scan.list.isEmpty then s else s.setScan { s.scan with scanner := .idle }
  | .idle | .scanning _ =>
    if s.scan.list.isEmpty then (s.setScan { s.scan with scanner := .stopped }).setCond condScanValid false else s

theorem State.listWritten_eq (old : Scan) (s : State) :
    s.listWritten old = (s.setScan { s.scan with frontEnds := Vector.ofFn old.frontNow }).scanListed := rfl

theorem State.scanListed_trimming {x : TrimRun} (at_ : s.scan.scanner = .trimming x) : s.scanListed = s := by
  unfold State.scanListed
  rw [at_]

theorem State.scanListed_stopped (at_ : s.scan.scanner = .stopped) :
    s.scanListed = if s.scan.list = [] then s else s.setScan { s.scan with scanner := .idle } := by
  unfold State.scanListed
  rw [at_]
  simp only [List.isEmpty_iff]

theorem State.scanListed_running (stopped : s.scan.scanner ≠ .stopped) (trims : ∀ x, s.scan.scanner ≠ .trimming x) :
    s.scanListed =
      if s.scan.list = [] then (s.setScan { s.scan with scanner := .stopped }).setCond condScanValid false else s := by
  unfold State.scanListed
  cases at_ : s.scan.scanner with
  | trimming x => exact absurd at_ (trims x)
  | stopped => exact absurd at_ stopped
  | _ => simp only [List.isEmpty_iff]

theorem State.scanListed_written (s : State) : s.ListWritten s.scanListed := by
  by_cases trims : ∃ x, s.scan.scanner = .trimming x
  · obtain ⟨x, at_⟩ := trims
    rw [State.scanListed_trimming at_]
    exact ⟨rfl, fun _ h => (nomatch at_.symm.trans h), fun _ _ => rfl, fun _ h => h, fun _ h => absurd at_ (h x)⟩
  · have trims' : ∀ x, s.scan.scanner ≠ .trimming x := fun x at_ => trims ⟨x, at_⟩
    by_cases stopped : s.scan.scanner = .stopped
    · rw [State.scanListed_stopped stopped]
      split
      · rename_i none_
        exact ⟨rfl, fun some_ => absurd none_ some_, fun some_ => absurd none_ some_, fun x h => absurd h (trims' x),
          fun _ _ => ⟨stopped, fun h => absurd stopped h⟩⟩
      · rename_i some_
        exact ⟨rfl, fun _ _ => rfl, fun _ h => absurd stopped h, fun x h => absurd h (trims' x), fun none_ => absurd none_ some_⟩
    · rw [State.scanListed_running stopped trims']
      split
      · rename_i none_
        refine ⟨?_, fun some_ => absurd none_ some_, fun some_ => absurd none_ some_, fun x h => absurd h (trims' x),
          fun _ _ => ⟨?_, fun _ => State.setCond_cond_self _ _ _⟩⟩
        · rw [State.setCond_frame]
          rfl
        · rw [State.setCond_frame]
          rfl
      · rename_i some_
        exact ⟨rfl, fun _ h => absurd h stopped, fun _ _ => rfl, fun _ h => h, fun none_ => absurd none_ some_⟩

theorem State.listWritten_written (old : Scan) : s.ListWritten (s.listWritten old) := by
  rw [State.listWritten_eq]
  generalize Vector.ofFn old.frontNow = ends
  have written := (s.setScan { s.scan with frontEnds := ends }).scanListed_written
  generalize (s.setScan { s.scan with frontEnds := ends }).scanListed = u at written
  exact ⟨written.frame, written.starts, written.runs, written.trims, written.stops⟩

theorem State.ListWritten.acts (h : s.ListWritten u) : TableId.list.Acts s u := by
  have frame := h.frame
  refine ⟨by rw [frame]; rfl, fun _ k _ => ?_⟩
  rw [frame]
  rfl

theorem State.settingsWritten_acts (s : State) : TableId.settings.Acts s s.settingsWritten := by
  have frame := s.judgeBuffer_frame
  unfold State.settingsWritten
  generalize s.judgeBuffer = v at frame
  refine ⟨by rw [frame]; rfl, fun _ k _ => ?_⟩
  rw [frame]
  rfl

theorem State.channelWritten_acts (old : Chans) (ch : Fin 16) : TableId.channels.Acts s (s.channelWritten old ch) := by
  rw [State.channelWritten_eq]
  dsimp only
  generalize level : (if (old.row ch).set.owner = (s.chans.row ch).set.owner then s
    else s.setChan ch { s.chans.row ch with requested := false }) = w
  have levelled : TableId.channels.Acts s w := by
    rw [← level]
    split
    · exact .refl _ s
    · refine Acts_of_channels rfl fun m => ?_
      rw [State.setChan_chans, Tbl.row_put]
      split
      · rename_i same
        rw [same]
      · rfl
  refine levelled.trans ?_
  have acted := (w.setChans (timerWritten old w.chans ch)).acted_acts ch
    (!decide ((old.row ch).set.forcing = (s.chans.row ch).set.forcing ∧ (old.row ch).set.forced = (s.chans.row ch).set.forced
      ∧ (old.row ch).set.latched = (s.chans.row ch).set.latched))
    (!decide ((old.row ch).set.limit = (s.chans.row ch).set.limit))
  have set : Chans.sameSet w.chans (State.acted _ ch _ _).chans := timerWritten_sameSet (old := old) (ch := ch) fun m => by
    rw [acted.unjudged m, State.setChans_chans]
  refine Acts_of_channels ?_ set
  exact acted.frame

theorem State.doorActs_moves (s : State) (o n : DoorSettings) : s.DoorsMove (s.doorActs o n) := by
  have followed := (s.doorFollowed_followed o n).moves
  unfold State.doorActs
  split
  · exact followed
  · split
    · exact followed
    · exact followed.trans (State.readTrigger_moves _ _).1

theorem State.doorWritten_moves (old : State) (d : Fin 24) : s.DoorsMove (State.doorWritten old d s) := by
  rw [State.doorWritten_acts]
  split
  · refine State.DoorsMove.trans ?_ (State.doorActs_moves _ _ _)
    exact s.setDoor_doorsMove rfl
  · exact State.doorActs_moves _ _ _

theorem State.groupWritten_acts (old : State) (g : Fin 8) : TableId.groups.Acts s (State.groupWritten old g s) := by
  unfold State.groupWritten
  split
  · exact .refl _ s
  · exact (s.readTrigger_moves g).1.acts (.inr (.inr rfl))

theorem State.act1_acts (old s : State) (i : Nat) (e : Entry) : e.table.Acts s (State.act1 old s i e) := by
  cases e with
  | cond x =>
    rw [State.act1]
    split
    · exact State.condWritten_acts old _
    · exact .refl _ s
  | term x =>
    rw [State.act1]
    split
    · exact State.termWritten_acts _
    · exact .refl _ s
  | list x => exact (State.listWritten_written old.scan).acts
  | settings x => exact s.settingsWritten_acts
  | channel x =>
    rw [State.act1]
    split
    · exact State.channelWritten_acts old.chans _
    · exact .refl _ s
  | door x =>
    rw [State.act1]
    split
    · exact (State.doorWritten_moves old _).acts (.inr (.inl rfl))
    · exact .refl _ s
  | group x =>
    rw [State.act1]
    split
    · exact State.groupWritten_acts old _
    · exact .refl _ s
  | _ => exact .refl _ s

/-! ## A taken write (R182, R183) -/

theorem State.storeAll_changesOnly (s : State) (t : TableId) (ws : List Written) : t.changesOnly s (s.storeAll t ws) := by
  rw [State.storeAll_eq]
  have stores (l : List (Nat × Entry)) (of : ∀ p ∈ l, p.2.table = t) (n : State) :
      t.changesOnly n (l.foldl (fun n p => n.store1 p.1 p.2) n) := by
    induction l generalizing n with
    | nil => exact t.changesOnly_refl n
    | cons p l ih =>
      refine TableId.changesOnly_trans ?_ (ih (fun q mem => of q (.tail _ mem)) _)
      exact of p (.head _) ▸ n.store1_changesOnly p.1 p.2
  exact stores _ (fun q mem => by obtain ⟨-, -, -, -, table⟩ := State.mem_written mem; exact table) s

/-- What follows the storing of a write's entries leaves them as they are stored. -/
theorem State.takeWrite_acts (s : State) (t : TableId) (ws : List Written) : t.Acts (s.storeAll t ws) (s.takeWrite t ws) := by
  unfold State.takeWrite
  refine doorEvent_acts ?_
  rw [State.actAll_eq]
  have acts (l : List (Nat × Entry)) (of : ∀ p ∈ l, p.2.table = t) (n : State) :
      t.Acts n (l.foldl (fun n p => State.act1 s n p.1 p.2) n) := by
    induction l generalizing n with
    | nil => exact .refl t n
    | cons p l ih =>
      exact (of p (.head _) ▸ State.act1_acts s n p.1 p.2).trans (ih (fun q mem => of q (.tail _ mem)) _)
  exact acts _ (fun q mem => by obtain ⟨-, -, -, -, table⟩ := State.mem_written mem; exact table) _

theorem State.takeWrite_changesOnly (s : State) (t : TableId) (ws : List Written) : t.changesOnly s (s.takeWrite t ws) :=
  TableId.changesOnly_trans (s.storeAll_changesOnly t ws) (s.takeWrite_acts t ws).only

/-- An image reads back by the fields that a write sets. -/
theorem TableId.readsBack_kept (cond : t ≠ .conds) {w o img img' : List Byte} (kept : t.kept img' = t.kept img)
    (h : t.readsBack w o img) : t.readsBack w o img' := by
  cases t
  case conds => exact absurd rfl cond
  case channels | doors => exact Eq.trans kept h
  all_goals
    change img' = img at kept
    exact kept ▸ h

/-- The entries of a taken write read back as they were written. -/
theorem State.takeWrite_back {ws : List Written} (reaches : ∀ w ∈ ws, t.reaches w.index)
    (nodup : (ws.map (fun w => w.index)).Nodup) (cond : t ≠ .conds) {w : Written} (mem : w ∈ ws)
    (there : t.inRange w.index = true) (size : w.image.length = t.size) (known : ¬ t.badCodes w.index w.image) :
    t.readsBack w.image (s.image t w.index) ((s.takeWrite t ws).image t w.index) :=
  TableId.readsBack_kept cond ((s.takeWrite_acts t ws).image cond _ there)
    (State.storeAll_back reaches nodup cond mem there size known)

/-- The other entries of a table stand, but for the state of its channels and doors. -/
theorem State.takeWrite_other {ws : List Written} (reaches : ∀ w ∈ ws, t.reaches w.index) (cond : t ≠ .conds)
    (there : t.inRange k = true) (unwritten : ∀ w ∈ ws, w.index ≠ k) :
    t.kept ((s.takeWrite t ws).image t k) = t.kept (s.image t k) := by
  rw [(s.takeWrite_acts t ws).image cond k there,
    State.storeAll_image_other reaches there fun w mem is => absurd is (unwritten w mem)]

end Sys2Proof.Machine
end

section
/-! PROOFS. REQ: written condition records (R42, R182). -/

namespace Sys2Proof.Machine
variable {s u n : State} {t : TableId} {e : Entry} {c : Fin 64}

/-! ## The value of a source (R40) -/

theorem State.sourceValue_holds (s : State) (src : Source) : s.sourceValue src false = true ↔ s.sourceHolds src := by
  cases src with
  | none | frame | fixed => exact ⟨(nomatch ·), False.elim⟩
  | threshold k => exact Iff.rfl
  | groupClosed g | groupOpen g => exact State.groupAll_iff g _
  | rampAt r p =>
    simp only [State.sourceValue, State.sourceHolds, Bool.and_eq_true, beq_iff_eq, and_assoc]
    rfl
  | channelCut ch =>
    simp only [State.sourceValue, State.sourceHolds]
    rw [← Bool.not_eq_false, Channel.cutOff_eq_false]

/-- The records that a source reads are none of COND's. -/
theorem State.sourceValue_congr (only : TableId.conds.changesOnly s u) (src : Source) (held : Bool) :
    u.sourceValue src held = s.sourceValue src held := by
  rw [only]
  rfl

/-! ## A fold that takes each record in turn -/

/-- A record is moved by the entry at its index alone; `R` holds on the way. -/
theorem foldl_row_at {α β : Type} {f : State → Nat × β → State} {R : State → Prop} {P : Nat × β → Prop} {k : Nat}
    {row : State → α} (keeps : ∀ n p, P p → R n → R (f n p)) (apart : ∀ n p, P p → p.1 ≠ k → row (f n p) = row n) :
    ∀ (l : List (Nat × β)) (s : State), (∀ p ∈ l, P p) → (l.map Prod.fst).Nodup → R s →
      (∀ p ∈ l, p.1 = k → ∃ n, R n ∧ row n = row s ∧ row (l.foldl f s) = row (f n p))
      ∧ ((∀ p ∈ l, p.1 ≠ k) → row (l.foldl f s) = row s) ∧ R (l.foldl f s) := by
  intro l
  induction l with
  | nil => exact fun s _ _ start => ⟨fun p mem => absurd mem List.not_mem_nil, fun _ => rfl, start⟩
  | cons q l ih =>
    intro s of nodup start
    rw [List.map_cons, List.nodup_cons] at nodup
    have first := of q (.head _)
    obtain ⟨at_, other, holds⟩ := ih (f s q) (fun p mem => of p (.tail _ mem)) nodup.2 (keeps s q first start)
    refine ⟨fun p mem is => ?_, fun none_ => ?_, holds⟩
    · rcases List.mem_cons.mp mem with rfl | mem
      · refine ⟨s, start, rfl, other fun q qmem same => nodup.1 ?_⟩
        exact is.trans same.symm ▸ List.mem_map_of_mem qmem
      · obtain ⟨n, rn, rows, is'⟩ := at_ p mem is
        refine ⟨n, rn, rows.trans (apart s q first fun same => nodup.1 ?_), is'⟩
        exact same.trans is.symm ▸ List.mem_map_of_mem mem
    · exact (other fun p mem => none_ p (.tail _ mem)).trans (apart s q first (none_ q (.head _)))

/-! ## A block of condition records -/

/-- The record of a condition whose source is written: `v` is the value of a source. -/
def CondRecord.sourced (r : CondRecord) (x : Source) (v : Source → Bool) : CondRecord :=
  if r.source = x then r
  else { value := v x, source := x, holdTime := 0, hold := none, age := if r.value = v x then r.age else 0 }

theorem State.condWritten_row (old : State) (c : Fin 64) (s : State) (c' : Fin 64) (ne : c' ≠ c) :
    (State.condWritten old c s).board.conds.row c' = s.board.conds.row c' := by
  unfold State.condWritten
  dsimp only
  split
  · rfl
  · exact State.setFrameCond_record_ne _ _ _ _ ne

/-- A condition is recomputed from its written source. -/
theorem State.condWritten_self {old : State} {x : Source}
    (row : s.board.conds.row c = { old.board.conds.row c with source := x }) :
    (State.condWritten old c s).board.conds.row c = (old.board.conds.row c).sourced x (s.sourceValue · false) := by
  unfold State.condWritten CondRecord.sourced
  dsimp only
  rw [row]
  dsimp only
  split
  · rename_i same
    rw [row, ← same]
  · rw [State.setFrameCond_record_self, State.cond, row]

theorem State.store1_cond_row (n : State) (i : Nat) (x : Source) :
    (n.store1 i (.cond x)).board.conds.row c =
      if i = c.val then { n.board.conds.row c with source := x } else n.board.conds.row c := row_putAt _ _ _ _

theorem State.act1_cond (old s : State) (x : Source) : State.act1 old s c.val (.cond x) = State.condWritten old c s :=
  dif_pos c.isLt

theorem Entry.eq_cond (of : e.table = .conds) : ∃ x, e = .cond x := by
  cases e with
  | cond x => exact ⟨x, rfl⟩
  | _ => cases of

theorem State.act1_cond_row (old : State) {p : Nat × Entry} (of : p.2.table = .conds) (ne : p.1 ≠ c.val) (s : State) :
    (State.act1 old s p.1 p.2).board.conds.row c = s.board.conds.row c := by
  obtain ⟨i, e⟩ := p
  obtain ⟨x, rfl⟩ := Entry.eq_cond of
  rw [State.act1]
  split
  · rename_i lt
    exact State.condWritten_row old ⟨i, lt⟩ s c fun same => ne (congrArg Fin.val same).symm
  · rfl

/-- What a taken write of condition records leaves of one that it names. -/
theorem State.takeWrite_conds_row {ws : List Written} (nodup : (ws.map (fun w => w.index)).Nodup) {w : Written} (mem : w ∈ ws)
    (at_ : w.index = c.val) {x : Source} (read : readCond w.image = some (.cond x)) :
    (s.takeWrite .conds ws).board.conds.row c = (s.board.conds.row c).sourced x (s.sourceValue · false) := by
  have table : ∀ p ∈ s.written .conds ws, p.2.table = .conds := fun p pmem => by
    obtain ⟨-, -, -, -, table⟩ := State.mem_written pmem
    exact table
  have distinct := State.written_nodup (s := s) (t := .conds) nodup
  have entry : (c.val, Entry.cond x) ∈ s.written .conds ws := at_ ▸ State.written_mem mem read
  obtain ⟨stored, -, -⟩ := foldl_row_at (f := fun n p => n.store1 p.1 p.2) (R := fun _ => True) (k := c.val)
    (P := fun p => p.2.table = .conds) (row := fun n => n.board.conds.row c) (fun _ _ _ _ => trivial)
    (fun n p of ne => by
      obtain ⟨i, e⟩ := p
      obtain ⟨x, rfl⟩ := Entry.eq_cond of
      exact (n.store1_cond_row i x).trans (if_neg ne)) _ s table distinct trivial
  obtain ⟨n, -, same, is⟩ := stored _ entry rfl
  rw [← State.storeAll_eq] at is
  have row : (s.storeAll .conds ws).board.conds.row c = { s.board.conds.row c with source := x } := by
    rw [is, State.store1_cond_row, if_pos rfl, same]
  have only := s.storeAll_changesOnly .conds ws
  obtain ⟨acts, -, -⟩ := foldl_row_at (f := fun n p => State.act1 s n p.1 p.2) (R := fun n => TableId.conds.changesOnly s n)
    (k := c.val) (P := fun p => p.2.table = .conds) (row := fun n => n.board.conds.row c)
    (fun n p of h => TableId.changesOnly_trans h (of ▸ (State.act1_acts s n p.1 p.2).only))
    (fun n p of ne => State.act1_cond_row s of ne n) _ (s.storeAll .conds ws) table distinct only
  obtain ⟨m, mOnly, same', is'⟩ := acts _ entry rfl
  have event : (s.takeWrite .conds ws).board = (State.actAll s .conds ws (s.storeAll .conds ws)).board := by
    unfold State.takeWrite
    rw [doorEvent_frame]
  rw [event, State.actAll_eq, is', State.act1_cond, State.condWritten_self (x := x) (same'.trans row)]
  congr 1
  funext src
  exact State.sourceValue_congr mOnly src false

/-- A condition that a write of condition records does not name stands. -/
theorem State.takeWrite_conds_other {ws : List Written} (nodup : (ws.map (fun w => w.index)).Nodup)
    (unnamed : ∀ w ∈ ws, w.index ≠ c.val) : (s.takeWrite .conds ws).board.conds.row c = s.board.conds.row c := by
  have table : ∀ p ∈ s.written .conds ws, p.2.table = .conds := fun p pmem => by
    obtain ⟨-, -, -, -, table⟩ := State.mem_written pmem
    exact table
  have distinct := State.written_nodup (s := s) (t := .conds) nodup
  have apart : ∀ p ∈ s.written .conds ws, p.1 ≠ c.val := fun p pmem => by
    obtain ⟨w, wmem, is, -, -⟩ := State.mem_written pmem
    exact is ▸ unnamed w wmem
  obtain ⟨-, stored, -⟩ := foldl_row_at (f := fun n p => n.store1 p.1 p.2) (R := fun _ => True) (k := c.val)
    (P := fun p => p.2.table = .conds) (row := fun n => n.board.conds.row c) (fun _ _ _ _ => trivial)
    (fun n p of ne => by
      obtain ⟨i, e⟩ := p
      obtain ⟨x, rfl⟩ := Entry.eq_cond of
      exact (n.store1_cond_row i x).trans (if_neg ne)) _ s table distinct trivial
  obtain ⟨-, acts, -⟩ := foldl_row_at (f := fun n p => State.act1 s n p.1 p.2) (R := fun _ => True) (k := c.val)
    (P := fun p => p.2.table = .conds) (row := fun n => n.board.conds.row c) (fun _ _ _ _ => trivial)
    (fun n p of ne => State.act1_cond_row s of ne n) _ (s.storeAll .conds ws) table distinct trivial
  have event : (s.takeWrite .conds ws).board = (State.actAll s .conds ws (s.storeAll .conds ws)).board := by
    unfold State.takeWrite
    rw [doorEvent_frame]
  rw [event, State.actAll_eq, acts apart, State.storeAll_eq, stored apart]

/-! ## A condition record reads back (R37, R42) -/

/-- A source is known by its bytes. -/
theorem readCond_bytes {x : Source} (assigned : x ≠ .fixed) (b : Byte) :
    readCond [b, x.bytes.1, x.bytes.2.1, x.bytes.2.2] = some (.cond x) := by
  have small {n : Nat} (i : Fin n) (le : n ≤ 256) : fin? n (u8 i.val) = some i :=
    (fin?_eq_some_iff _ i).mpr (by
      have := i.isLt
      rw [u8, BitVec.toNat_ofNat]
      omega)
  cases x with
  | fixed => exact absurd rfl assigned
  | none | frame => rfl
  | threshold k | groupClosed k | groupOpen k | channelCut k =>
    change (fin? _ (u8 k.val)).map _ = _
    rw [small k (by decide)]
    rfl
  | rampAt r p =>
    change ((fin? 4 (u8 r.val)).bind fun r => (fin? 8 (u8 p.val)).bind fun p => some (Entry.cond (.rampAt r p))) = _
    rw [small r (by decide), small p (by decide)]
    rfl

theorem Source.bytes_inj {x y : Source} (assigned : x ≠ .fixed) (h : y.bytes = x.bytes) : y = x := by
  have same (assigned' : y ≠ .fixed) : y = x := by
    have read := readCond_bytes assigned' 0
    rw [h, readCond_bytes assigned 0] at read
    cases read
    rfl
  cases y with
  | fixed =>
    cases x with
    | fixed => rfl
    | _ => exact absurd (congrArg Prod.fst h) (by simp [Source.bytes])
  | _ => exact same (nomatch ·)

theorem CondRecord.sourced_same {r : CondRecord} {x : Source} {v : Source → Bool} (h : r.source = x) : r.sourced x v = r := if_pos h

theorem CondRecord.sourced_other {r : CondRecord} {x : Source} {v : Source → Bool} (h : r.source ≠ x) : r.sourced x v =
    { value := v x, source := x, holdTime := 0, hold := none, age := if r.value = v x then r.age else 0 } := if_neg h

theorem CondRecord.sourced_source (r : CondRecord) (x : Source) (v : Source → Bool) : (r.sourced x v).source = x := by
  unfold CondRecord.sourced
  split
  · assumption
  · rfl

theorem flagByte_inj : ∀ {a b : Bool}, flagByte a = flagByte b → a = b := by decide

theorem condImage_age (r : CondRecord) (now : Nat) : (condImage r now).drop 8 = u16 r.age := by
  unfold condImage
  cases r.hold <;> rfl

/-- The image of a written condition record. -/
theorem conds_readsBack {w : List Byte} {x : Source} {v : Source → Bool} {now : Nat} (r : CondRecord)
    (read : readCond w = some (.cond x)) (frame : v .frame = false) :
    TableId.conds.readsBack w (condImage r now) (condImage (r.sourced x v) now) := by
  obtain ⟨x', is, bytes, framed, assigned⟩ := sourceBytes_of_readCond read
  cases is
  have image (r : CondRecord) : ((condImage r now).drop 1).take 3 = [r.source.bytes.1, r.source.bytes.2.1, r.source.bytes.2.2] := rfl
  have written : [w.getD 1 0, if w.getD 1 0 = 0 ∨ w.getD 1 0 = 6 then 0 else w.getD 2 0,
      if w.getD 1 0 = 4 then w.getD 3 0 else 0] = [x.bytes.1, x.bytes.2.1, x.bytes.2.2] := by rw [bytes]
  have same_iff : [r.source.bytes.1, r.source.bytes.2.1, r.source.bytes.2.2] = [x.bytes.1, x.bytes.2.1, x.bytes.2.2]
      ↔ r.source = x := by
    refine ⟨fun h => Source.bytes_inj assigned ?_, fun h => by rw [h]⟩
    simp only [List.cons.injEq, and_true] at h
    exact Prod.ext h.1 (Prod.ext h.2.1 h.2.2)
  refine ⟨?_, fun same => ?_, fun other => ?_⟩
  · refine (image _).trans (Eq.trans ?_ written.symm)
    rw [CondRecord.sourced_source]
  · rw [CondRecord.sourced_same (same_iff.mp (same.trans written))]
  · rw [CondRecord.sourced_other fun same => other ((same_iff.mpr same).trans written.symm)]
    refine ⟨?_, fun at_ => ?_, ?_⟩
    · change u16 0 ++ u16 0 = [0, 0, 0, 0]
      decide
    · rw [framed at_]
      change flagByte (v .frame) = 0
      rw [frame]
      rfl
    · rw [condImage_age, condImage_age]
      change u16 (if r.value = v x then r.age else 0) = if flagByte (v x) = flagByte r.value then u16 r.age else [0, 0]
      by_cases same : r.value = v x
      · rw [if_pos same, if_pos (congrArg flagByte same.symm)]
      · rw [if_neg same, if_neg (mt flagByte_inj same ∘ Eq.symm), u16_eq]
        rfl

/-- The condition records of a taken write read back (R42). -/
theorem State.takeWrite_conds_back {ws : List Written} (nodup : (ws.map (fun w => w.index)).Nodup) {w : Written} (mem : w ∈ ws)
    (there : TableId.conds.inRange w.index = true) (known : ¬ TableId.conds.badCodes w.index w.image) :
    TableId.conds.readsBack w.image (s.image .conds w.index) ((s.takeWrite .conds ws).image .conds w.index) := by
  obtain ⟨c, at_⟩ := index_fin (n := 64) there
  obtain ⟨e, read⟩ := (State.parseEntry_known (s := s) there w.image).mpr known
  obtain ⟨x, rfl, -⟩ := sourceBytes_of_readCond read
  have clock : (s.takeWrite .conds ws).clock = s.clock := by
    have only := s.takeWrite_changesOnly .conds ws
    rw [only]
  rw [at_, State.image_conds, State.image_conds, State.takeWrite_conds_row nodup mem at_ read, clock]
  exact conds_readsBack _ read rfl

/-! ## A single write of a condition record (R42, R182) -/

theorem State.setFrameCond_quiet (s : State) (c : Fin 64) (v : Bool) (time : Nat) (hold : Option Nat) :
    s.handsOn noWarning (s.setFrameCond c v time hold) := by
  refine ⟨_, s.setFrameCond_handed_eq c v time hold, fun i mem => ?_⟩
  split at mem
  · cases mem
  · obtain ⟨u, -, rfl⟩ := List.mem_map.mp mem
    exact fun d => rfl

theorem State.setRecord_self (s : State) (c : Fin 64) : s.setRecord c (s.board.conds.row c) = s := by
  unfold State.setRecord
  rw [Tbl.put_row]

theorem State.setRecord_setRecord (s : State) (c : Fin 64) (r r' : CondRecord) :
    (s.setRecord c r).setRecord c r' = s.setRecord c r' :=
  congrArg (fun conds => { s with board := { s.board with conds := conds } }) (Vector.set_set ..)

theorem State.takeWrite_cond {w : Written} (at_ : w.index = c.val) {x : Source} (read : readCond w.image = some (.cond x)) :
    ((s.board.conds.row c).source = x → s.takeWrite .conds [w] = s)
    ∧ ((s.board.conds.row c).source ≠ x → s.takeWrite .conds [w] =
      (s.setRecord c { s.board.conds.row c with source := x, holdTime := 0, hold := none }).setCond c (s.sourceValue x false)) := by
  have stored : s.store1 c.val (.cond x) = s.setRecord c { s.board.conds.row c with source := x } :=
    congrArg (fun conds => { s with board := { s.board with conds := conds } }) (dif_pos c.isLt)
  have row : (s.setRecord c { s.board.conds.row c with source := x }).board.conds.row c =
      { s.board.conds.row c with source := x } := Tbl.row_put_self _ _ _
  rw [State.takeWrite_single (t := .conds) (e := .cond x) read, at_, stored]
  have acts (n : State) : State.act1 s n c.val (.cond x) = State.condWritten s c n := State.act1_cond s n x
  have written (u : State) (is : State.condWritten s c (s.setRecord c { s.board.conds.row c with source := x }) = u)
      (quiet : s.handsOn noWarning u) (door : u.door = s.door) :
      doorEvent (fun n => State.act1 s n c.val (.cond x)) (s.setRecord c { s.board.conds.row c with source := x }) = u :=
    doorEvent_of_is ((acts _).trans is) door quiet
  refine ⟨fun same => written s ?_ (.of_eq rfl) rfl, fun other => written _ ?_ ?_ ?_⟩
  · unfold State.condWritten
    dsimp only
    rw [row, if_pos same, ← same]
    exact s.setRecord_self c
  · unfold State.condWritten
    dsimp only
    rw [row, if_neg other, State.setFrameCond, row, State.setRecord_setRecord]
    rfl
  · obtain ⟨new, is, quiet⟩ := (s.setRecord c { s.board.conds.row c with source := x }).setFrameCond_quiet c
      (s.sourceValue x false) 0 none
    rw [State.setFrameCond, row, State.setRecord_setRecord] at is
    exact ⟨new, is, quiet⟩
  · rw [State.setCond_frame]
    rfl

end Sys2Proof.Machine
end

section
/-! PROOFS. REQ: the judging of a written entry (R182, R183). -/

namespace Sys2Proof.Machine
variable {s after : State} {t : TableId} {e : Entry} {i k : Nat}

/-! ## The records that a write is judged against (R183; log 73) -/

/-- The settings of a written record stand in a state, where the tests of other records read them. -/
def Entry.standsIn (after : State) (i : Nat) : Entry → Prop
  | .channel x => ∀ ch : Fin 16, ch.val = i → (after.chans.row ch).set = x
  | .cond x => ∀ c : Fin 64, c.val = i → (after.board.conds.row c).source = x
  | .ramp x => ∀ r : Fin 4, r.val = i → (after.ramp r).position = x.position ∧ (after.ramp r).extend = x.extend
      ∧ (after.ramp r).retract = x.retract
  | .door x => ∀ d : Fin 24, d.val = i → (after.door.doors.row d).set = x
  | .zone lamp => ∀ z : Fin 16, z.val = i → (after.call.zones.row z).lamp = lamp
  | _ => True

/-- A record of a write's table holds the entry that names it. -/
theorem State.storeAll_row {α : Type} {row : State → α} {ws : List Written} (nodup : (ws.map (fun w => w.index)).Nodup)
    {w : Written} (mem : w ∈ ws) (read : s.parseEntry t w.index w.image = some e)
    (apart : ∀ (n : State) (i : Nat) (e : Entry), e.table = t → i ≠ w.index → row (n.store1 i e) = row n) :
    ∃ n : State, row (s.storeAll t ws) = row (n.store1 w.index e) := by
  obtain ⟨stored, -, -⟩ := foldl_row_at (f := fun n p => n.store1 p.1 p.2) (R := fun _ => True) (k := w.index)
    (P := fun p : Nat × Entry => p.2.table = t) (row := row) (fun _ _ _ _ => trivial) (fun n p of ne => apart n p.1 p.2 of ne)
    (s.written t ws) s (fun p pmem => by obtain ⟨-, -, -, -, table⟩ := State.mem_written pmem; exact table)
    (State.written_nodup nodup) trivial
  obtain ⟨n, -, -, is⟩ := stored _ (State.written_mem mem read) rfl
  exact ⟨n, by rw [State.storeAll_eq]; exact is⟩

theorem State.storeAll_standsIn {ws : List Written} (nodup : (ws.map (fun w => w.index)).Nodup) {w : Written} (mem : w ∈ ws)
    (read : s.parseEntry t w.index w.image = some e) : e.standsIn (s.storeAll t ws) w.index := by
  have table := (State.parseEntry_table read).1
  have at_ {α : Type} {m : Nat} (tbl : Tbl α m) (j : Fin m) (f : α → α) (is : j.val = w.index) :
      (putAt tbl w.index f).row j = f (tbl.row j) := by rw [row_putAt, if_pos is.symm]
  have ne_of {m : Nat} {j : Fin m} (is : j.val = w.index) {i : Nat} (ne : i ≠ w.index) : i ≠ j.val := is ▸ ne
  subst table
  cases e with
  | channel x =>
    intro ch is
    obtain ⟨n, row⟩ := State.storeAll_row (row := fun n => n.chans.row ch) nodup mem read fun n i e of ne => by
      cases e <;> cases of
      exact row_putAt_other _ _ _ (ne_of is ne)
    rw [row]
    exact congrArg Channel.set (at_ n.chans ch _ is)
  | cond x =>
    intro c is
    obtain ⟨n, row⟩ := State.storeAll_row (row := fun n => n.board.conds.row c) nodup mem read fun n i e of ne => by
      cases e <;> cases of
      exact row_putAt_other _ _ _ (ne_of is ne)
    rw [row]
    exact congrArg CondRecord.source (at_ n.board.conds c _ is)
  | ramp x =>
    intro r is
    obtain ⟨n, row⟩ := State.storeAll_row (row := fun n => n.plan.ramps.row r) nodup mem read fun n i e of ne => by
      cases e <;> cases of
      exact row_putAt_other _ _ _ (ne_of is ne)
    have row' := row.trans (at_ n.plan.ramps r _ is)
    exact ⟨congrArg Ramp.position row', congrArg Ramp.extend row', congrArg Ramp.retract row'⟩
  | door x =>
    intro d is
    obtain ⟨n, row⟩ := State.storeAll_row (row := fun n => n.door.doors.row d) nodup mem read fun n i e of ne => by
      cases e <;> cases of
      exact row_putAt_other _ _ _ (ne_of is ne)
    rw [row]
    exact congrArg Door.set (at_ n.door.doors d _ is)
  | zone lamp =>
    intro z is
    obtain ⟨n, row⟩ := State.storeAll_row (row := fun n => n.call.zones.row z) nodup mem read fun n i e of ne => by
      cases e <;> cases of
      exact row_putAt_other _ _ _ (ne_of is ne)
    rw [row]
    exact congrArg Zone.lamp (at_ n.call.zones z _ is)
  | _ => trivial

/-! ## The tests that read other records (R42, R110, R114, R117, R140) -/

theorem byRampOrDoor_iff {o : Owner} : byRampOrDoor o = true ↔ (∃ r, o = .ramp r) ∨ ∃ d, o = .door d := by
  cases o <;> simp [byRampOrDoor]

/-- A pair of which channel `ch` is one is joined, and its odd channel is a ramp's or a door's (R110). -/
theorem pairAllowed_iff {x : ChannelSettings} {ch : Fin 16} (stands : (after.chans.row ch).set = x) :
    pairAllowed after.chans ch x = false ↔ ∃ e o, after.joins e o ∧ (e.val = ch.val ∨ o.val = ch.val)
      ∧ ((∃ r, (after.chans.row o).set.owner = .ramp r) ∨ ∃ d, (after.chans.row o).set.owner = .door d) := by
  simp only [State.joins_iff_odd, ← byRampOrDoor_iff, Fin.val_inj]
  unfold pairAllowed
  cases odd : isOdd ch with
  | true =>
    have even : isOdd (partner ch) = false := by rw [isOdd_partner, odd]; rfl
    simp only [if_true, Bool.not_eq_false', Bool.and_eq_true, ← stands]
    constructor
    · rintro ⟨owner, joined⟩
      exact ⟨partner ch, ch, ⟨odd, by rw [evenOf_odd odd]; exact joined, (evenOf_odd odd).symm⟩, .inr rfl, owner⟩
    · rintro ⟨e, o, ⟨odd', joined, rfl⟩, of, owner⟩
      rcases of with same | rfl
      · have isEven : isOdd (evenOf o) = false := by rw [evenOf_odd odd', isOdd_partner, odd']; rfl
        rw [same, odd] at isEven
        cases isEven
      · exact ⟨owner, by rw [← evenOf_odd odd]; exact joined⟩
  | false =>
    have odd' : isOdd (partner ch) = true := by rw [isOdd_partner, odd]; rfl
    have evenOf' : evenOf (partner ch) = ch := by rw [evenOf_odd odd', partner_partner]
    simp only [Bool.false_eq_true, if_false, Bool.not_eq_false', Bool.and_eq_true, ← stands]
    constructor
    · rintro ⟨joined, owner⟩
      exact ⟨ch, partner ch, ⟨odd', by rw [evenOf']; exact joined, evenOf'.symm⟩, .inl rfl, owner⟩
    · rintro ⟨e, o, ⟨isOdd', joined, rfl⟩, of, owner⟩
      rcases of with same | rfl
      · have is : o = partner ch := by rw [← same, evenOf_odd isOdd', partner_partner]
        rw [same] at joined
        exact ⟨joined, is ▸ owner⟩
      · rw [odd] at isOdd'
        cases isOdd'

theorem State.isSwitch_iff {c : Fin 64} : s.isSwitch c.val = true ↔ ∃ d, (s.door.doors.row d).set.group ≠ none
    ∧ ((s.door.doors.row d).set.closedCond = some c ∨ (s.door.doors.row d).set.openCond = some c) := by
  have names {o : Option (Fin 64)} : o.map Fin.val = some c.val ↔ o = some c := by
    cases o <;> simp [Fin.val_inj]
  simp only [State.isSwitch, List.any_eq_true, List.mem_finRange, true_and, Bool.and_eq_true, Bool.or_eq_true, beq_iff_eq,
    names, Option.isSome_iff_ne_none]

/-- A written entry meets a BAD_VALUE rule that reads other records. -/
theorem State.valueAllowed_iff (there : t.inRange i = true) (of : e.table = t) (stands : e.standsIn after i) :
    s.valueAllowed after i e = false ↔ s.badAgainst after t i := by
  subst of
  cases e with
  | channel x =>
    obtain ⟨ch, rfl⟩ := index_fin (n := 16) there
    rw [State.valueAllowed, dif_pos ch.isLt]
    exact pairAllowed_iff (stands ch rfl)
  | cond x =>
    obtain ⟨c, rfl⟩ := index_fin (n := 64) there
    have limit : after.limitSwitch c ↔ ∃ k, x = .threshold k := by
      unfold State.limitSwitch
      rw [stands c rfl]
    have bad : s.badAgainst after (Entry.cond x).table c.val ↔
        s.req.mode = .service ∧ (¬ ∃ k, x = .threshold k) ∧ s.isSwitch c.val = true := by
      simp only [State.badAgainst, Entry.table, Fin.val_inj, exists_eq_left, limit, State.isSwitch_iff]
    rw [bad]
    cases x <;> simp [State.valueAllowed]
  | ramp x =>
    obtain ⟨r, rfl⟩ := index_fin (n := 4) there
    obtain ⟨position, -, -⟩ := stands r rfl
    have drives : s.drivesOf r ≠ [] ↔ ∃ k, s.drivesFor r k := by
      rw [Ne, List.eq_nil_iff_forall_not_mem, not_forall_not]
      exact exists_congr fun k => State.mem_drivesOf
    rw [State.valueAllowed, dif_pos r.isLt]
    simp only [State.badAgainst, Entry.table, Fin.val_inj, exists_eq_left, position, ← drives]
    simp [and_assoc]
  | plan x | stage x =>
    have clean : after.planAgreement.isSome = true ↔ ¬ after.passClean 3 := by
      have passes := after.planAgreement_passes
      rw [Option.isSome_iff_ne_none]
      exact not_congr ⟨passes.clean, passes.of_clean⟩
    simp only [State.badAgainst, Entry.table, State.valueAllowed, ← clean]
    simp
  | door x =>
    obtain ⟨d, rfl⟩ := index_fin (n := 24) there
    have fitted : s.fitted d.val = (s.door.doors.row d).set.group.isSome := dif_pos d.isLt
    have switches : (∃ c, (x.closedCond = some c ∨ x.openCond = some c) ∧ ¬ s.limitSwitch c) ↔
        ¬ (s.fromThreshold x.closedCond = true ∧ s.fromThreshold x.openCond = true) := by
      simp only [State.fromThreshold_iff, ← forall_and, ← or_imp, not_forall, exists_prop]
    simp only [State.badAgainst, Entry.table, Fin.val_inj, exists_eq_left, stands d rfl, State.valueAllowed, fitted, switches]
    simp only [Bool.or_eq_false_iff, Bool.and_eq_false_iff, Bool.not_eq_false', Bool.and_eq_true, Bool.or_eq_true, beq_iff_eq,
      Option.isNone_iff_eq_none, Option.isSome_iff_ne_none, not_and_or, Bool.not_eq_true]
  | _ => exact ⟨(nomatch ·), False.elim⟩

/-! ## The forbidden jump and the BUSY rows (R78, R80, R114, R117, R140, R160, R161) -/

theorem Configuration.active_iff_ne (c : Configuration) : c.active = true ↔ c ≠ .off ∧ c ≠ .float := by
  cases c <;> simp [Configuration.active]

theorem State.jumps_iff (there : t.inRange i = true) (of : e.table = t) (stands : e.standsIn after i) :
    s.jumps i e = true ↔ s.leaps after t i := by
  subst of
  cases e with
  | channel x =>
    obtain ⟨ch, rfl⟩ := index_fin (n := 16) there
    rw [State.jumps, dif_pos ch.isLt]
    simp only [forbiddenJump, Bool.and_eq_true, bne_iff_ne, Configuration.active_iff_ne, State.leaps, State.drivesPin,
      Entry.table, Fin.val_inj, exists_eq_left, stands ch rfl, true_and, and_assoc]
  | _ => exact ⟨(nomatch ·), fun h => nomatch h.1⟩

theorem State.planInUse_iff {p : Fin 8} : s.planInUse p = true ↔ s.planRuns p := by
  simp only [State.planInUse, State.planRuns, List.any_eq_true, List.mem_finRange, true_and, Bool.and_eq_true, bne_iff_ne,
    beq_iff_eq]

theorem State.resting_iff {d : Fin 24} : (s.door.doors.row d).state.resting = false ↔ s.doorMoves d := by
  unfold State.doorMoves
  cases (s.door.doors.row d).state <;> simp [DoorState.resting]

theorem State.channelBusy_iff {ch : Fin 16} {x : ChannelSettings} (stands : (after.chans.row ch).set = x)
    (service : s.req.mode = .service) : s.channelBusy ch x = true ↔ s.inUse after .channels ch.val := by
  have partnerIs (odd : Fin 16) : (ch.val % 2 = 0 ∧ odd.val = ch.val + 1) ↔ isOdd ch = false ∧ odd = partner ch := by
    rw [isOdd_iff]
    refine and_congr_right fun even => ?_
    unfold partner
    rw [dif_neg (by omega), Fin.ext_iff]
  have pairs {Q : Fin 16 → Prop} : (∃ odd : Fin 16, ch.val % 2 = 0 ∧ odd.val = ch.val + 1 ∧ Q odd) ↔ isOdd ch = false ∧ Q (partner ch) := by
    simp only [← and_assoc, partnerIs]
    simp only [and_assoc, exists_and_left, exists_eq_left]
  have owned_iff {o : Owner} : owned o = true ↔ o ≠ .free := bne_iff_ne
  simp only [State.inUse, service, true_and, Fin.val_inj, exists_eq_left, stands, pairs]
  unfold State.channelBusy
  simp only [Bool.or_eq_true, Bool.and_eq_true, bne_iff_ne, Bool.not_eq_true', owned_iff, and_assoc]
  cases owner : (s.chans.row ch).set.owner with
  | ramp r =>
    simp [or_assoc, or_left_comm]
  | door d => simp [State.resting_iff, or_assoc]
  | free => simp
  | lamp z => simp [or_assoc]

/-- A written entry is in use. -/
theorem State.entryBusy_iff (there : t.inRange i = true) (of : e.table = t) (stands : e.standsIn after i) :
    s.entryBusy i e = true ↔ s.inUse after t i := by
  by_cases service : s.req.mode = .service
  case neg =>
    have idle : s.entryBusy i e = false := by
      unfold State.entryBusy
      rw [show (s.req.mode == Mode.service) = false from beq_eq_false_iff_ne.mpr service]
      rfl
    rw [idle]
    exact ⟨(nomatch ·), fun h => absurd h.1 service⟩
  have run : (s.req.mode == Mode.service) = true := beq_iff_eq.mpr service
  subst of
  cases e with
  | channel x =>
    obtain ⟨ch, rfl⟩ := index_fin (n := 16) there
    rw [State.entryBusy, run, dif_pos ch.isLt]
    exact State.channelBusy_iff (stands ch rfl) service
  | ramp x =>
    obtain ⟨r, rfl⟩ := index_fin (n := 4) there
    obtain ⟨-, extend, retract⟩ := stands r rfl
    rw [State.entryBusy, run, dif_pos r.isLt]
    simp only [State.inUse, Entry.table, service, Fin.val_inj, exists_eq_left, extend, retract, Bool.true_and, Bool.or_eq_true,
      bne_iff_ne, true_and, or_assoc]
  | plan x =>
    obtain ⟨p, rfl⟩ := index_fin (n := 8) there
    rw [State.entryBusy, run, dif_pos p.isLt]
    simp only [State.inUse, Entry.table, service, Fin.val_inj, exists_eq_left, Bool.true_and, true_and, State.planInUse_iff]
  | stage x =>
    obtain ⟨k, rfl⟩ := index_fin (n := 64) there
    rw [State.entryBusy, run]
    simp only [State.inUse, Entry.table, service, Fin.val_inj, Bool.true_and, true_and, List.any_eq_true, List.mem_finRange,
      Bool.and_eq_true, beq_iff_eq, State.planInUse_iff, State.mem_stagesOf, exists_eq_right, exists_and_left, exists_eq_left]
  | door x =>
    obtain ⟨d, rfl⟩ := index_fin (n := 24) there
    rw [State.entryBusy, run, dif_pos d.isLt]
    simp only [State.inUse, Entry.table, service, Fin.val_inj, exists_eq_left, stands d rfl, Bool.true_and, true_and,
      Bool.or_eq_true, bne_iff_ne, Bool.not_eq_true', State.resting_iff, or_assoc]
    have fitted {α : Type} {a b : Option α} : a.isSome ≠ b.isSome ↔ ¬ (a = none ↔ b = none) := by
      cases a <;> cases b <;> simp
    rw [fitted]
  | template x =>
    rw [State.entryBusy, run]
    simp only [State.inUse, Entry.table, service, Bool.true_and, true_and, State.templateInUse, List.any_eq_true,
      List.mem_finRange]
    refine exists_congr fun k => ?_
    cases s.call.slots.row k <;> simp
  | zone lamp =>
    obtain ⟨z, rfl⟩ := index_fin (n := 16) there
    rw [State.entryBusy, run, dif_pos z.isLt]
    simp only [State.inUse, Entry.table, service, Fin.val_inj, exists_eq_left, stands z rfl, Bool.true_and, true_and, bne_iff_ne]
  | _ =>
    change ((s.req.mode == Mode.service) && false) = true ↔ _
    rw [Bool.and_false]
    exact ⟨(nomatch ·), fun h => h.2.elim⟩

/-! ## The judging of an entry (R182) -/

theorem TableId.inWritable_iff : t.inWritable i = true ↔ t.first ≤ i ∧ i < t.first + t.count ∧ (t = .conds → 16 ≤ i) := by
  unfold TableId.inWritable
  rw [Bool.and_eq_true, TableId.inRange_iff, Bool.or_eq_true, bne_iff_ne, decide_eq_true_iff, and_assoc, imp_iff_not_or]

section judging
variable {w : Written}

theorem State.judgeEntry_unsound (unsound : w.check ≠ checkByte w.image) : s.judgeEntry after t w = some .badCheck := if_pos unsound

variable (sound : w.check = checkByte w.image)
include sound

theorem State.judgeEntry_outside (outside : t.inWritable w.index = false) : s.judgeEntry after t w = some .badIndex :=
  (if_neg (not_not.mpr sound)).trans (if_pos outside)

variable (inside : t.inWritable w.index = true)
include inside

theorem State.judgeEntry_unread (unread : s.parseEntry t w.index w.image = none) : s.judgeEntry after t w = some .badValue := by
  unfold State.judgeEntry
  rw [if_neg (not_not.mpr sound), if_neg (by rw [inside]; decide), unread]

theorem State.judgeEntry_read (read : s.parseEntry t w.index w.image = some e) : s.judgeEntry after t w =
    if s.valueAllowed after w.index e = false then some .badValue
    else if s.jumps w.index e then some .forbiddenJump
    else if s.entryBusy w.index e then some .busy
    else none := by
  unfold State.judgeEntry
  rw [if_neg (not_not.mpr sound), if_neg (by rw [inside]; decide), read]

end judging

/-- An entry of a write is judged by the first check that it fails. -/
theorem State.judgeEntry_finds {ws : List Written} (nodup : (ws.map (fun w => w.index)).Nodup) {w : Written} (mem : w ∈ ws) :
    s.finds (s.storeAll t ws) t w (s.judgeEntry (s.storeAll t ws) t w) := by
  have stands (e : Entry) (read : s.parseEntry t w.index w.image = some e) := State.storeAll_standsIn nodup mem read
  generalize s.storeAll t ws = after at stands
  unfold State.finds
  simp only [← TableId.inWritable_iff]
  by_cases sound : w.check = checkByte w.image
  case neg =>
    have judged := s.judgeEntry_unsound (after := after) (t := t) sound
    exact ⟨fun _ => judged, fun h => absurd h sound, fun h => absurd h sound, fun h => absurd h sound, fun h => absurd h sound,
      fun h => absurd h sound⟩
  by_cases inside : t.inWritable w.index = true
  case neg =>
    have judged := s.judgeEntry_outside (after := after) sound (eq_false_of_ne_true inside)
    exact ⟨fun h => absurd sound h, fun _ _ => judged, fun _ h => absurd h inside, fun _ h => absurd h inside,
      fun _ h => absurd h inside, fun _ h => absurd h inside⟩
  have there : t.inRange w.index = true := TableId.inRange_iff.mpr
    ⟨(TableId.inWritable_iff.mp inside).1, (TableId.inWritable_iff.mp inside).2.1⟩
  refine ⟨fun h => absurd sound h, fun _ h => absurd inside h, ?_⟩
  cases read : s.parseEntry t w.index w.image with
  | none =>
    have bad : t.badCodes w.index w.image := by
      by_contra known
      obtain ⟨e, is⟩ := (State.parseEntry_known there w.image).mpr known
      rw [read] at is
      cases is
    exact ⟨fun _ _ _ => State.judgeEntry_unread sound inside read, fun _ _ h => absurd (.inl bad) h,
      fun _ _ h => absurd (.inl bad) h, fun _ _ h => absurd (.inl bad) h⟩
  | some e =>
    have known : ¬ t.badCodes w.index w.image := (State.parseEntry_known there w.image).mp ⟨e, read⟩
    have table := (State.parseEntry_table read).1
    have value := s.valueAllowed_iff there table (stands e read)
    have jump := s.jumps_iff there table (stands e read)
    have busy := s.entryBusy_iff there table (stands e read)
    simp only [known, false_or, ← value, ← jump, ← busy, State.judgeEntry_read sound inside read]
    refine ⟨fun _ _ bad => if_pos bad, fun _ _ ok leaps => ?_, fun _ _ ok still uses => ?_, fun _ _ ok still free => ?_⟩
    · rw [if_neg ok, if_pos leaps]
    · rw [if_neg ok, if_neg still, if_pos uses]
    · rw [if_neg ok, if_neg still, if_neg free]

end Sys2Proof.Machine
end

section
/-! PROOFS. REQ: TABLE_READ, TABLE_WRITE and BLOCK_WRITE (R181 to R183). -/

namespace Sys2Proof.Machine
variable {s u after : State} {t : TableId} {e : Entry} {i k : Nat} {rq : Requester} {table index count check : Byte} {body : List Byte}

/-! ## Tables by their ids (R180) -/

theorem tableOf_id (h : tableOf table = some t) : t.id = table.toNat := by
  obtain ⟨lt, is⟩ := List.getElem?_eq_some_iff.mp h
  have ids : ∀ i (lt : i < tableIds.length), tableIds[i].id = i := by decide
  rw [← is, ids]

theorem tableOf_none (h : 20 < table.toNat) : tableOf table = none := List.getElem?_eq_none h

theorem writableTable_some (h : tableOf table = some t) (writable : t.writable = true) : writableTable table = some t := by
  unfold writableTable
  rw [h]
  exact if_pos writable

theorem writable_id (writable : t.writable = true) : 0 < t.id ∧ t.id < 19 := by
  cases t <;> simp [TableId.writable, TableId.id] at writable ⊢

theorem writableTable_none (h : table.toNat = 0 ∨ 19 ≤ table.toNat) : writableTable table = none := by
  unfold writableTable
  cases is : tableOf table with
  | none => rfl
  | some t =>
    have id := tableOf_id is
    refine if_neg fun writable => ?_
    have inside := writable_id writable
    omega

/-! ## The requests -/

theorem exec_tableRead (takes : s.takesRequests) : exec (.tableRead rq table index count) s =
    .next ((s.take (.tableRead rq table index count)).tableRead rq table index count) :=
  event_of_request s takes.1 takes.2

theorem exec_tableWrite (takes : s.takesRequests) : exec (.tableWrite rq table index body check) s =
    .next ((s.take (.tableWrite rq table index body check)).tableWrite rq table index body check) :=
  event_of_request s takes.1 takes.2

theorem exec_blockWrite (takes : s.takesRequests) : exec (.blockWrite rq table index count body check) s =
    .next ((s.take (.blockWrite rq table index count body check)).blockWrite rq table index count body check) :=
  event_of_request s takes.1 takes.2

/-! ## TABLE_READ (R181) -/

theorem State.tableRead_unknown (none_ : tableOf table = none) :
    s.tableRead rq table index count = s.reply rq 0x12 .badTable [table, index] := by
  unfold State.tableRead
  rw [none_]

theorem State.tableRead_outside (is : tableOf table = some t) (out : t.inRange index.toNat = false) :
    s.tableRead rq table index count = s.reply rq 0x12 .badIndex [table, index] := by
  unfold State.tableRead
  rw [is]
  exact if_pos out

theorem State.tableRead_inside (is : tableOf table = some t) (there : t.inRange index.toNat = true) :
    s.tableRead rq table index count = s.reply rq 0x12 .done
      ([table, index, u8 (readCount t index.toNat count.toNat)]
        ++ (List.range (readCount t index.toNat count.toNat)).flatMap fun j => s.image t (index.toNat + j)) := by
  unfold State.tableRead
  rw [is]
  exact if_neg (by rw [there]; decide)

/-! ## A part that has taken an event -/

theorem State.take_image (s : State) (c : Instr) (t : TableId) (k : Nat) : (s.take c).image t k = s.image t k := rfl

theorem State.take_parseEntry (s : State) (c : Instr) (t : TableId) (k : Nat) (img : List Byte) :
    (s.take c).parseEntry t k img = s.parseEntry t k img := rfl

theorem State.take_storeAll (s : State) (c : Instr) (t : TableId) (ws : List Written) :
    (s.take c).storeAll t ws = (s.storeAll t ws).take c := by
  rw [State.storeAll_eq, State.storeAll_eq]
  have written : (s.take c).written t ws = s.written t ws := rfl
  rw [written]
  generalize s.written t ws = l
  have stores (l : List (Nat × Entry)) (n : State) : l.foldl (fun n p => n.store1 p.1 p.2) (n.take c) =
      (l.foldl (fun n p => n.store1 p.1 p.2) n).take c := by
    induction l generalizing n with
    | nil => rfl
    | cons p l ih =>
      rw [List.foldl_cons, List.foldl_cons, ← ih]
      congr 1
      cases p.2 <;> rfl
  exact stores l s

theorem State.take_judgeEntry (s after : State) (c : Instr) (t : TableId) (w : Written) :
    (s.take c).judgeEntry (after.take c) t w = s.judgeEntry after t w := rfl

/-! ## Writes (R182, R183) -/

theorem State.writeReply_done (s : State) (op : Byte) (i : Nat) : s.writeReply rq op table (.done, i) = s.reply rq op .done [] := rfl

theorem State.writeReply_refused (s : State) (op : Byte) {code : Code} (i : Nat) (refused : code ≠ .done) :
    s.writeReply rq op table (code, i) = s.reply rq op code [table, BitVec.ofNat 8 i] := by
  unfold State.writeReply
  rw [if_neg refused]
  rfl

theorem State.writeReply_first (s : State) (op : Byte) {code : Code} (refused : code ≠ .done) :
    s.writeReply rq op table (code, index.toNat) = s.reply rq op code [table, index] := by
  rw [s.writeReply_refused op _ refused, u8_toNat]

theorem State.tableWrite_unknown (none_ : writableTable table = none) : s.tableWrite rq table index body check =
    s.reply rq 0x13 .badTable [table, index] := by
  unfold State.tableWrite
  rw [none_]
  exact s.writeReply_first _ (by decide)

theorem State.tableWrite_sized (is : writableTable table = some t) (size : body.length ≠ t.size) :
    s.tableWrite rq table index body check = s.reply rq 0x13 .badValue [table, index] := by
  unfold State.tableWrite
  rw [is]
  exact (if_pos size).trans (s.writeReply_first _ (by decide))

theorem State.tableWrite_eq (is : writableTable table = some t) (size : body.length = t.size) :
    s.tableWrite rq table index body check =
      (s.write t [⟨index.toNat, body, check⟩]).2.writeReply rq 0x13 table (s.write t [⟨index.toNat, body, check⟩]).1 := by
  unfold State.tableWrite
  rw [is]
  exact if_neg (not_not.mpr size)

theorem State.blockWrite_unknown (none_ : writableTable table = none) : s.blockWrite rq table index count body check =
    s.reply rq 0x14 .badTable [table, index] := by
  unfold State.blockWrite
  rw [none_]
  exact s.writeReply_first _ (by decide)

theorem State.blockWrite_sized (is : writableTable table = some t) (size : count = 0 ∨ body.length ≠ count.toNat * (t.size + 1)) :
    s.blockWrite rq table index count body check = s.reply rq 0x14 .badValue [table, index] := by
  unfold State.blockWrite
  rw [is]
  exact (if_pos size).trans (s.writeReply_first _ (by decide))

/-- The entries of a block. -/
def blockEntries (t : TableId) (index count : Byte) (body : List Byte) : List Written :=
  (List.range count.toNat).map fun j => blockEntry t.size index.toNat j body

theorem blockCheckOf_eq (ws : List Written) : blockCheckOf ws = (ws.map (fun w => w.check)).foldl (· ^^^ ·) 0 := by
  rw [blockCheckOf, List.foldl_map]

theorem State.blockWrite_checked (is : writableTable table = some t) (some_ : count ≠ 0)
    (size : body.length = count.toNat * (t.size + 1)) (wrong : check ≠ blockCheckOf (blockEntries t index count body)) :
    s.blockWrite rq table index count body check = s.reply rq 0x14 .badCheck [table, index] := by
  unfold State.blockWrite
  rw [is]
  dsimp only
  rw [if_neg (not_or.mpr ⟨some_, not_not.mpr size⟩)]
  exact (if_pos wrong).trans (s.writeReply_first _ (by decide))

theorem State.blockWrite_eq (is : writableTable table = some t) (some_ : count ≠ 0)
    (size : body.length = count.toNat * (t.size + 1)) (right : check = blockCheckOf (blockEntries t index count body)) :
    s.blockWrite rq table index count body check = (s.write t (blockEntries t index count body)).2.writeReply rq 0x14 table
      (s.write t (blockEntries t index count body)).1 := by
  unfold State.blockWrite
  rw [is]
  dsimp only
  rw [if_neg (not_or.mpr ⟨some_, not_not.mpr size⟩)]
  exact if_neg (not_not.mpr right)

/-! ## The first failing entry (R183) -/

theorem State.write_taken {ws : List Written} (passes : ∀ w ∈ ws, s.judgeEntry (s.storeAll t ws) t w = none) :
    s.write t ws = ((.done, 0), s.takeWrite t ws) := by
  have judged : s.judgeAll t ws = none := List.findSome?_eq_none_iff.mpr fun w mem => by rw [passes w mem]; rfl
  unfold State.write
  rw [judged]

theorem State.write_refused {before rest : List Written} {w : Written} {code : Code}
    (passes : ∀ w' ∈ before, s.judgeEntry (s.storeAll t (before ++ w :: rest)) t w' = none)
    (fails : s.judgeEntry (s.storeAll t (before ++ w :: rest)) t w = some code) :
    s.write t (before ++ w :: rest) = ((code, w.index), s) := by
  have judged : s.judgeAll t (before ++ w :: rest) = some (code, w.index) := by
    refine List.findSome?_eq_some_iff.mpr ⟨before, w, rest, rfl, by rw [fails]; rfl, fun w' mem => by rw [passes w' mem]; rfl⟩
  unfold State.write
  rw [judged]

/-- What an entry that passes every check promises. -/
theorem State.finds.passes {w : Written} (h : s.finds after t w none) :
    t.inWritable w.index = true ∧ ¬ t.badCodes w.index w.image := by
  obtain ⟨check, outside, bad, -⟩ := h
  have sound : w.check = ~~~ (w.image.foldl (· ^^^ ·) 0) := by
    by_contra unsound
    cases check unsound
  have inside : t.first ≤ w.index ∧ w.index < t.first + t.count ∧ (t = .conds → 16 ≤ w.index) := by
    by_contra out
    cases outside sound out
  refine ⟨TableId.inWritable_iff.mpr inside, fun codes => ?_⟩
  cases bad sound inside (.inl codes)

/-- No check answers DONE. -/
theorem State.finds.ne_done {w : Written} {r : Option Code} (h : s.finds after t w r) : r ≠ some .done := by
  obtain ⟨check, outside, bad, leaps, busy, passes⟩ := h
  rintro rfl
  by_cases sound : w.check = ~~~ (w.image.foldl (· ^^^ ·) 0)
  case neg => cases check sound
  by_cases inside : t.first ≤ w.index ∧ w.index < t.first + t.count ∧ (t = .conds → 16 ≤ w.index)
  case neg => cases outside sound inside
  by_cases value : t.badCodes w.index w.image ∨ s.badAgainst after t w.index
  case pos => cases bad sound inside value
  by_cases jump : s.leaps after t w.index
  case pos => cases leaps sound inside value jump
  by_cases uses : s.inUse after t w.index
  case pos => cases busy sound inside value jump uses
  case neg => cases passes sound inside value jump uses

/-- The judging of a write's entries, before and after the part has taken the request. -/
theorem State.judgeEntry_taken (c : Instr) {ws : List Written} (nodup : (ws.map (fun w => w.index)).Nodup) {w : Written}
    (mem : w ∈ ws) :
    s.finds (s.storeAll t ws) t w ((s.take c).judgeEntry ((s.take c).storeAll t ws) t w) := by
  rw [State.take_storeAll, State.take_judgeEntry]
  exact State.judgeEntry_finds nodup mem

end Sys2Proof.Machine
end

section
/-! PROOFS. REQ: TABLE_READ, TABLE_WRITE and BLOCK_WRITE act as their rules say (R180 to R183). -/

namespace Sys2Proof.Machine
variable {s u after : State} {t : TableId} {e : Entry} {i k : Nat} {rq : Requester} {table index count check : Byte} {body : List Byte}
  {w : Written}

/-! ## Single writes of some tables (R16, R55, R115) -/

theorem State.takeWrite_stored (read : s.parseEntry t w.index w.image = some e)
    (quiet : State.act1 s (s.store1 w.index e) w.index e = s.store1 w.index e) :
    s.takeWrite t [w] = s.store1 w.index e := by
  rw [State.takeWrite_single read, doorEvent_of_same (f := fun n => State.act1 s n w.index e)]
  · exact quiet
  · exact congrArg State.door quiet
  · exact congrArg State.handed quiet

theorem State.takeWrite_line : s.takeWrite .line [w] = { s with
    line := { s.line with
      silenceMs := max 50 (min ((w.image.getD 0 0).toNat * 256 + (w.image.getD 1 0).toNat) 5000) } } := by
  rw [s.takeWrite_stored (t := .line) (e := .line (clamp 50 5000 (imgNum w.image 0))) rfl rfl, imgNum_eq]
  rfl

theorem State.takeWrite_plan {p : Fin 8} (at_ : w.index = p.val) (known : ¬ TableId.plans.badCodes w.index w.image) :
    (s.takeWrite .plans [w]).plan.plans.row p =
      { ramp := BitVec.toFin ((w.image.getD 0 0).setWidth 2), first := BitVec.toFin ((w.image.getD 1 0).setWidth 6),
        count := min (max 1 (min (w.image.getD 2 0).toNat 16)) (64 - (w.image.getD 1 0).toNat) } := by
  have there : TableId.plans.inRange w.index = true := TableId.inRange_iff.mpr ⟨Nat.zero_le _, by
    have := p.isLt
    change w.index < 0 + 8
    omega⟩
  obtain ⟨e, read⟩ := (State.parseEntry_known (s := s) there w.image).mpr known
  have parsed : readPlan w.image = some e := read
  simp only [readPlan, Option.bind_eq_bind, Option.bind_eq_some_iff, Option.pure_def, Option.some.injEq] at parsed
  obtain ⟨ramp, ramp_is, first, first_is, rfl⟩ := parsed
  rw [s.takeWrite_stored read rfl]
  change (putAt s.plan.plans w.index _).row p = _
  rw [row_putAt, if_pos at_]
  have rampAt := (fin?_eq_some_iff _ _).mp ramp_is
  have firstAt := (fin?_eq_some_iff _ _).mp first_is
  have rampIs : ramp = BitVec.toFin ((w.image.getD 0 0).setWidth 2) := Fin.ext (by
    change ramp.val = ((w.image.getD 0 0).setWidth 2).toNat
    rw [BitVec.toNat_setWidth, ← rampAt]
    exact (Nat.mod_eq_of_lt (rampAt ▸ ramp.isLt)).symm)
  have firstIs : first = BitVec.toFin ((w.image.getD 1 0).setWidth 6) := Fin.ext (by
    change first.val = ((w.image.getD 1 0).setWidth 6).toNat
    rw [BitVec.toNat_setWidth, ← firstAt]
    exact (Nat.mod_eq_of_lt (firstAt ▸ first.isLt)).symm)
  rw [← rampIs, ← firstIs, ← firstAt]
  rfl

/-- What a taken write of the scan list does. -/
theorem State.takeWrite_list (size : w.image.length = 33) (known : ¬ TableId.list.badCodes w.index w.image)
    (there : TableId.list.inRange w.index = true) :
    let u := s.takeWrite .list [w]
    (w.image.getD 0 0 ≠ 0 → s.scan.scanner = .stopped → u.scan.scanner = .idle)
    ∧ (w.image.getD 0 0 ≠ 0 → s.scan.scanner ≠ .stopped → u.scan.scanner = s.scan.scanner)
    ∧ (w.image.getD 0 0 = 0 → ∀ x, s.scan.scanner = .trimming x → u.scan.scanner = .trimming x)
    ∧ (w.image.getD 0 0 = 0 → (∀ x, s.scan.scanner ≠ .trimming x) → u.scan.scanner = .stopped
      ∧ (s.scan.scanner ≠ .stopped → u.cond 1 = false)) := by
  obtain ⟨e, read⟩ := (State.parseEntry_known (s := s) there w.image).mpr known
  obtain ⟨l, l_is, rfl⟩ := Option.map_eq_some_iff.mp (show readList w.image = some e from read)
  have length : l.length = min (w.image.getD 0 0).toNat 32 := by
    rw [← List.length_map (fun c : Fin 24 => u8 c.val), bytes_of_mapM l_is, List.length_take, List.length_tail, imgByte]
    omega
  have zero : w.image.getD 0 0 = 0 ↔ l = [] := by
    rw [← List.length_eq_zero_iff, length]
    exact (byte_ne_iff 0 (by decide)).trans (by omega)
  have written := (s.store1 w.index (.list l)).listWritten_written s.scan
  have event := doorEvent_frame (fun n => State.act1 s n w.index (.list l)) (s.store1 w.index (.list l))
  rw [← State.takeWrite_single read] at event
  intro u
  have scan := congrArg State.scan event
  have board := congrArg State.board event
  change u.scan = ((s.store1 w.index (.list l)).listWritten s.scan).scan at scan
  change u.board = ((s.store1 w.index (.list l)).listWritten s.scan).board at board
  have cond : u.cond 1 = ((s.store1 w.index (.list l)).listWritten s.scan).cond 1 := by rw [State.cond, board]; rfl
  rw [scan, cond]
  exact ⟨fun h => written.starts (mt zero.mpr h), fun h => written.runs (mt zero.mpr h), fun _ => written.trims,
    fun h => written.stops (zero.mp h)⟩

/-! ## A taken write of one entry (R182) -/

theorem nodup_index (w : Written) : ([w].map (fun w => w.index)).Nodup := List.nodup_singleton _

section taken
variable (there : t.inRange w.index = true) (known : ¬ t.badCodes w.index w.image)
include there

theorem TableId.reaches_single : ∀ w' ∈ [w], t.reaches w'.index := fun _ mem _ => List.mem_singleton.mp mem ▸ there

include known

theorem State.takeWrite_single_back (size : w.image.length = t.size) :
    t.readsBack w.image (s.image t w.index) ((s.takeWrite t [w]).image t w.index) := by
  by_cases cond : t = .conds
  · subst cond
    exact State.takeWrite_conds_back (nodup_index w) (.head _) there known
  · exact State.takeWrite_back (TableId.reaches_single there) (nodup_index w) cond (.head _) there size known

omit known in
theorem State.takeWrite_single_other (channels : t ≠ .channels) (doors : t ≠ .doors) (ne : k ≠ w.index)
    (inside : t.inRange k = true) : (s.takeWrite t [w]).image t k = s.image t k := by
  have unnamed : ∀ w' ∈ [w], w'.index ≠ k := fun w' mem => List.mem_singleton.mp mem ▸ ne.symm
  by_cases cond : t = .conds
  · subst cond
    obtain ⟨c, rfl⟩ := index_fin (n := 64) inside
    have clock : (s.takeWrite .conds [w]).clock = s.clock := by rw [s.takeWrite_changesOnly .conds [w]]
    rw [State.image_conds, State.image_conds, State.takeWrite_conds_other (nodup_index w) unnamed, clock]
  · have kept := s.takeWrite_other (TableId.reaches_single there) cond inside unnamed
    cases t
    case channels => exact absurd rfl channels
    case doors => exact absurd rfl doors
    all_goals exact kept

end taken

/-- A condition that is given another source takes that source's value (R40, R42). -/
theorem State.takeWrite_cond_sourced {c : Fin 64} (at_ : w.index = c.val) (known : ¬ TableId.conds.badCodes w.index w.image) :
    let u := s.takeWrite .conds [w]
    let o := s.board.conds.row c
    let n := u.board.conds.row c
    (n.source = o.source → n = o)
    ∧ (n.source ≠ o.source → (n.value = true ↔ s.sourceHolds n.source)
      ∧ u = (s.setRecord c { o with source := n.source, holdTime := 0, hold := none }).setCond c n.value) := by
  have there : TableId.conds.inRange w.index = true := TableId.inRange_iff.mpr ⟨Nat.zero_le _, at_ ▸ c.isLt⟩
  obtain ⟨e, read⟩ := (State.parseEntry_known (s := s) there w.image).mpr known
  obtain ⟨x, rfl, -⟩ := sourceBytes_of_readCond read
  obtain ⟨-, moved⟩ := s.takeWrite_cond at_ read
  dsimp only
  rw [State.takeWrite_conds_row (nodup_index w) (.head _) at_ read, CondRecord.sourced_source]
  refine ⟨fun same => CondRecord.sourced_same same.symm, fun other => ?_⟩
  rw [CondRecord.sourced_other (Ne.symm other)]
  exact ⟨s.sourceValue_holds x, moved (Ne.symm other)⟩

/-! ## The entries of a block (R183) -/

theorem blockEntries_nodup (t : TableId) (index count : Byte) (body : List Byte) :
    ((blockEntries t index count body).map (fun w => w.index)).Nodup := by
  rw [blockEntries, List.map_map]
  exact List.nodup_range.map fun a b same => Nat.add_left_cancel same

theorem mem_blockEntries {w : Written} : w ∈ blockEntries t index count body ↔
    ∃ j, j < count.toNat ∧ blockEntry t.size index.toNat j body = w := by
  simp only [blockEntries, List.mem_map, List.mem_range]

theorem blockEntries_split {j : Nat} (lt : j < count.toNat) : ∃ rest, blockEntries t index count body =
    (List.range j).map (fun j => blockEntry t.size index.toNat j body) ++ blockEntry t.size index.toNat j body :: rest := by
  refine ⟨((List.range count.toNat).drop (j + 1)).map fun j => blockEntry t.size index.toNat j body, ?_⟩
  have split : List.range count.toNat = List.range j ++ j :: (List.range count.toNat).drop (j + 1) := by
    conv_lhs => rw [← List.take_append_drop j (List.range count.toNat)]
    rw [List.take_range, Nat.min_eq_left (Nat.le_of_lt lt), List.drop_eq_getElem_cons (by rw [List.length_range]; exact lt),
      List.getElem_range]
  exact (congrArg (List.map _) split).trans (by rw [List.map_append, List.map_cons])

theorem blockEntry_size {j : Nat} (lt : j < count.toNat) (size : body.length = count.toNat * (t.size + 1)) :
    (blockEntry t.size index.toNat j body).image.length = t.size := by
  have room : j * (t.size + 1) + (t.size + 1) ≤ count.toNat * (t.size + 1) := by
    rw [← Nat.succ_mul]
    exact Nat.mul_le_mul_right _ lt
  change ((body.drop (j * (t.size + 1))).take t.size).length = t.size
  rw [List.length_take, List.length_drop]
  omega

/-- The entries of a taken block read back. -/
theorem State.takeWrite_block_back (size : body.length = count.toNat * (t.size + 1))
    (passes : ∀ j, j < count.toNat → t.inWritable (blockEntry t.size index.toNat j body).index = true
      ∧ ¬ t.badCodes (blockEntry t.size index.toNat j body).index (blockEntry t.size index.toNat j body).image)
    {j : Nat} (lt : j < count.toNat) :
    t.readsBack (blockEntry t.size index.toNat j body).image (s.image t (index.toNat + j))
      ((s.takeWrite t (blockEntries t index count body)).image t (index.toNat + j)) := by
  have inside {j : Nat} (lt : j < count.toNat) : t.inRange (blockEntry t.size index.toNat j body).index = true :=
    (Bool.and_eq_true_iff.mp (passes j lt).1).1
  have mem : blockEntry t.size index.toNat j body ∈ blockEntries t index count body := mem_blockEntries.mpr ⟨j, lt, rfl⟩
  have nodup := blockEntries_nodup t index count body
  by_cases cond : t = .conds
  · subst cond
    exact State.takeWrite_conds_back nodup mem (inside lt) (passes j lt).2
  · refine State.takeWrite_back (fun w wmem _ => ?_) nodup cond mem (inside lt) (blockEntry_size lt size) (passes j lt).2
    obtain ⟨j', lt', rfl⟩ := mem_blockEntries.mp wmem
    exact inside lt'

end Sys2Proof.Machine
end

section
/-! PROOFS. REQ: the operations on tables (R180 to R183). -/

namespace Sys2Proof.Machine
variable {s u after : State} {t : TableId} {e : Entry} {i k : Nat} {rq : Requester} {table index count check : Byte} {body : List Byte}
  {w : Written}

/-- Settles O54: every table's images read back, and every check is a test of the written images and records. -/
theorem tablesAreReadAndWritten : Obligations.TablesAreReadAndWritten := by
  unfold Obligations.TablesAreReadAndWritten
  intro s rq table index count check body takes rd wr blk w number
  have read : exec rd s = .next ((s.take rd).tableRead rq table index count) := exec_tableRead takes
  have write : exec wr s = .next ((s.take wr).tableWrite rq table index body check) := exec_tableWrite takes
  have block : exec blk s = .next ((s.take blk).blockWrite rq table index count body check) := exec_blockWrite takes
  refine ⟨fun above => ?_, fun t is => ⟨tableOf_id is, fun out => ?_, fun low high n n_is => ?_⟩, fun unwritable => ⟨?_, ?_⟩,
    fun t is writable => ⟨?_, fun none_ => ?_, fun some_ size => ?_⟩, fun t ws nodup of => s.storeAll_reads t ws nodup of⟩
  · rw [read, State.tableRead_unknown (tableOf_none above)]
  · rw [read, State.tableRead_outside is (eq_false_of_ne_true fun there => ?_)]
    have inside := TableId.inRange_iff.mp there
    omega
  · rw [read, State.tableRead_inside is (TableId.inRange_iff.mpr ⟨low, high⟩), n_is]
    rfl
  · rw [write, State.tableWrite_unknown (writableTable_none unwritable)]
  · rw [block, State.blockWrite_unknown (writableTable_none unwritable)]
  · by_cases size : body.length = t.size
    case neg =>
      refine ⟨.badValue, s.take wr, ?_, fun _ => rfl, (nomatch ·), fun _ => rfl, fun h => absurd h size⟩
      rw [write, State.tableWrite_sized (writableTable_some is writable) size]
      rfl
    have judged := State.judgeEntry_taken (s := s) (t := t) wr (nodup_index w) (.head _)
    have result := State.tableWrite_eq (s := s.take wr) (rq := rq) (index := index) (check := check) (writableTable_some is writable) size
    change _ = ((s.take wr).write t [w]).2.writeReply rq 0x13 table ((s.take wr).write t [w]).1 at result
    cases found : (s.take wr).judgeEntry ((s.take wr).storeAll t [w]) t w with
    | some code =>
      rw [found] at judged
      have refused : code ≠ .done := fun done => judged.ne_done (congrArg some done)
      have refusal : (s.take wr).write t [w] = ((code, w.index), s.take wr) :=
        State.write_refused (before := []) (rest := []) (fun _ mem => absurd mem List.not_mem_nil) found
      rw [refusal] at result
      refine ⟨code, s.take wr, ?_, fun _ => rfl, fun h => absurd h refused, fun h => absurd size h, fun _ =>
        ⟨⟨some code, judged, rfl⟩, fun h => absurd h refused, fun _ h => absurd h refused, fun _ h => absurd h refused,
          fun _ h => absurd h refused, fun _ h => absurd h refused, fun _ h => absurd h refused⟩⟩
      rw [write, result, if_neg refused]
      exact congrArg Host.Outcome.next (State.writeReply_first _ _ refused)
    | none =>
      rw [found] at judged
      obtain ⟨inside, known⟩ := judged.passes
      have there : t.inRange w.index = true := (Bool.and_eq_true_iff.mp inside).1
      rw [State.write_taken fun w' mem => List.mem_singleton.mp mem ▸ found] at result
      have only := (s.take wr).takeWrite_changesOnly t [w]
      refine ⟨.done, (s.take wr).takeWrite t [w], ?_, fun h => absurd rfl h, fun _ => rfl, fun h => absurd size h, fun _ =>
        ⟨⟨none, judged, rfl⟩, fun _ => ⟨?_, only, fun channels doors k ne inRange => ?_⟩, fun conds _ c at_ => ?_,
          fun sensors _ => ?_, fun list _ => ?_, fun line _ => ?_, fun plans _ p at_ => ?_⟩⟩
      · rw [write, result]
        rfl
      · exact State.takeWrite_single_back there known size
      · exact State.takeWrite_single_other there channels doors ne inRange
      · subst conds
        exact State.takeWrite_cond_sourced at_ known
      · subst sensors
        exact congrArg State.scan only
      · subst list
        exact State.takeWrite_list (s := s.take wr) size known there
      · subst line
        exact State.takeWrite_line
      · subst plans
        exact State.takeWrite_plan at_ known
  · rw [block, State.blockWrite_sized (writableTable_some is writable) none_]
  · intro entry ws sum
    have sum_eq : sum = blockCheckOf ws := (blockCheckOf_eq ws).symm
    have writes := writableTable_some is writable
    refine ⟨fun wrong => ?_, fun right => ⟨fun j => (s.take blk).judgeEntry ((s.take blk).storeAll t ws) t (entry j),
      fun j lt => ?_, fun j lt code before fails => ?_, fun passes => ?_⟩⟩
    · rw [block, State.blockWrite_checked writes some_ size (sum_eq ▸ wrong)]
    · exact State.judgeEntry_taken blk (blockEntries_nodup t index count body) (mem_blockEntries.mpr ⟨j, lt, rfl⟩)
    · have judged : s.finds (s.storeAll t ws) t (entry j) (some code) := fails ▸ State.judgeEntry_taken blk
        (blockEntries_nodup t index count body) (mem_blockEntries.mpr ⟨j, lt, rfl⟩)
      have refused : code ≠ .done := fun done => judged.ne_done (congrArg some done)
      have split : ∃ rest, ws = (List.range j).map entry ++ entry j :: rest := blockEntries_split lt
      obtain ⟨rest, split⟩ := split
      have refusal : (s.take blk).write t ws = ((code, (entry j).index), s.take blk) := by
        rw [split] at before fails ⊢
        refine State.write_refused (fun w' mem => ?_) fails
        obtain ⟨j', lt', rfl⟩ := List.mem_map.mp mem
        exact before j' (List.mem_range.mp lt')
      have result := State.blockWrite_eq (s := s.take blk) (rq := rq) writes some_ size (right.trans sum_eq)
      change _ = ((s.take blk).write t ws).2.writeReply rq 0x14 table ((s.take blk).write t ws).1 at result
      rw [refusal] at result
      rw [block, result]
      exact congrArg Host.Outcome.next (State.writeReply_refused _ _ _ refused)
    · have taken : (s.take blk).write t ws = ((.done, 0), (s.take blk).takeWrite t ws) := State.write_taken fun w' mem => by
        obtain ⟨j, lt, rfl⟩ := mem_blockEntries.mp mem
        exact passes j lt
      have result := State.blockWrite_eq (s := s.take blk) (rq := rq) writes some_ size (right.trans sum_eq)
      change _ = ((s.take blk).write t ws).2.writeReply rq 0x14 table ((s.take blk).write t ws).1 at result
      rw [taken] at result
      refine ⟨?_, (s.take blk).takeWrite_changesOnly t ws, fun j lt => ?_⟩
      · rw [block, result]
        rfl
      · refine State.takeWrite_block_back (s := s.take blk) size (fun j lt => ?_) lt
        have judged : s.finds (s.storeAll t ws) t (entry j) none := passes j lt ▸ State.judgeEntry_taken blk
          (blockEntries_nodup t index count body) (mem_blockEntries.mpr ⟨j, lt, rfl⟩)
        exact judged.passes

end Sys2Proof.Machine
end
